-- ==== Sys2Proof/Word.lean ====
section
/-! DEFINITION. The word and byte types of the LTH-960 and nothing more: registers, SRAM words and SP words are 32 bits (00 R9). -/
namespace Sys2Proof

/-- A 32-bit word. -/
abbrev Word := BitVec 32

/-- A byte. -/
abbrev Byte := BitVec 8

end Sys2Proof
end

