-- ==== Sys2Proof/Syntax.lean ====
section
/-! DEFINITION. The commands of the LTH-960: one constructor for each row of the command table, with the row's operands.
The table gives no row any bits, so operands are typed here from the rules that name them. Times are absolute readings of the
device's own time base (TIME_NOW): t in nanoseconds, tp in picoseconds; a command with a time first lets TIME run up to it. -/
namespace Sys2Proof

/-- Who writes or reads a register: the PCIe endpoint, the management SPI, the tunnel port, or SP core c (03 R65, R91, 14 R340). -/
inductive Port where
  | pcie
  | mspi
  | tunnel
  | sp (c : Nat)
  deriving DecidableEq, Repr, Inhabited

/-- How a frame ended on the line (05 R128): EOF, EOF_BAD, an invalid code-group inside it, or its port left UP before its end. -/
inductive FrameEnd where
  | eof
  | eofBad
  | codeErr
  | cut
  deriving DecidableEq, Repr, Inhabited

/-- A frame as its symbols arrive or leave: two header words, payload words, CRC-32Q and ending (05 Table 5.3). -/
structure Frame where
  h0 : Word
  h1 : Word
  body : List Word
  crc : Word
  fin : FrameEnd
  deriving DecidableEq, Repr, Inhabited

/-- Samples of a line at the SYS clocks from clk on. -/
structure LineRun where
  lvls : List Bool
  clk : Nat
  deriving DecidableEq, Repr, Inhabited

/-- Bits that a lane receives, first first: LNK0 to LNK7 (0 to 7), REDL0 and REDL1 (8, 9). -/
structure LaneBits where
  lane : Fin 10
  bits : List Bool
  deriving DecidableEq, Repr, Inhabited

/-- An input's voltage in nV at TIME t ns. -/
structure VoltAt where
  nv : Int
  t : Nat
  deriving DecidableEq, Repr, Inhabited

/-- How the flash work of an update command ended (20 R461, R463): ok: no erase, program or read-back failed; fa, fb: that safety channel's
own check of a COMMIT failed. -/
structure WorkEnd where
  ok : Bool
  fa : Bool
  fb : Bool
  deriving DecidableEq, Repr, Inhabited

/-- What resets the PCIe endpoint (03 R67). -/
inductive PcieReset where
  | perst
  | hotReset
  | linkDown
  | flr
  deriving DecidableEq, Repr, Inhabited

/-- A change of the endpoint's configuration space (03 R67, R70, R71): MSI-X enable and function mask, the power state, or the maximum payload
size, 128 or 256 bytes. -/
inductive PcieCfg where
  | msix (enable mask : Bool)
  | power (d3hot : Bool)
  | payload (big : Bool)
  | other
  deriving DecidableEq, Repr, Inhabited

/-- The read mode the flash declares in its SFDP table (02 R41); none: no answer or neither quad mode. -/
inductive FlashMode where
  | none
  | ddr
  | sdr
  deriving DecidableEq, Repr, Inhabited

/-- How the SAFE clock fails (16 R377): it stops, it leaves ±5 % of 400 MHz (the SAFE PLL has lost lock, 19 R437), or a channel finds the other's
evaluations out of 225 µs to 275 µs apart. -/
inductive SafeClk where
  | stopped
  | offFreq
  | interval
  deriving DecidableEq, Repr, Inhabited

/-- The supplies of the AIO banks A0 to A4 when PGOOD rises, in mV (21 R471). -/
structure BankVolts where
  a0 : Nat
  a1 : Nat
  a2 : Nat
  a3 : Nat
  a4 : Nat
  deriving DecidableEq, Repr, Inhabited

/-- The ball at which a capture edge of event channel n arrives (04 R112; 21 Table 21.2): TRIGn, or an AIO pin. -/
structure TrigAt where
  n : Fin 8
  aio : Option (Fin 160)
  deriving DecidableEq, Repr, Inhabited

/-- What the PMIC makes of a read of STATUS_WORD (19 R449, R450), each transaction repeated at most twice: the word, none after a third
failure; STATUS_VOUT, which PWR reads after a word with its VOUT bit; and whether CLEAR_FAULTS, which PWR sends after a word that shows a
fault, goes through. -/
structure PmbRead where
  word : Option (BitVec 16)
  vout : Option (BitVec 8)
  cleared : Bool
  deriving DecidableEq, Repr, Inhabited

/-- A wake input (19 R445). -/
inductive WakeSrc where
  | perst
  | mspi
  | lnk (p : Fin 8)
  deriving DecidableEq, Repr, Inhabited

/-- How a DMA transfer ends (03 R70): every word moved or stopped by ABORT, an uncorrectable SRAM word, or a completion with a status
other than Successful. -/
inductive DmaEnd where
  | moved
  | sramErr
  | hostErr
  deriving DecidableEq, Repr, Inhabited

inductive Instr where
  /-- VBUS_RISE (R452): VBUS rising to 8.5 V or more begins a start of the device. -/
  | vbusRise
  /-- RESET_N_RISE (R452): RESET_N rising after at least 1 µs low begins a start of the device. -/
  | resetNRise
  /-- POWER_LOSS (R452): VBUS below 8.0 V or RESET_N low ends the start or run; stores in progress finish, PMIC_EN goes low and every domain except PD_AON resets. -/
  | powerLoss (reset store : Bool)
  /-- PGOOD_RISE (R453): PGOOD rising ends step 2 of the start-up sequence; the AIO bank supplies are checked and the PLLs start. -/
  | pgoodRise (v : BankVolts)
  /-- RAILS_TIMEOUT (R453): PGOOD not high within 100 ms drives PMIC_EN low for 1.0 s and retries step 2, at most three attempts. -/
  | railsTimeout
  /-- PLL_LOCK (R436): The root and SAFE PLLs lock, TIME_NOW starts on the node's own grid and the SRAM march test begins. -/
  | pllLock
  /-- PLL_LOCK_TIMEOUT (R436): No PLL lock within 200 µs stops the attempt as a RAILS or PLL failure and repeats step 2. -/
  | pllLockTimeout
  /-- BIST_DONE (R453): The SRAM march test completes; a failing word stops the start, otherwise the ROM loader begins the image load. -/
  | bistDone (ok : Bool)
  /-- IMAGE_LOAD (R57): CFG reads and validates the cell image in the order of Table 2.6, writes each section into its region and reports the load result. -/
  | imageLoad (mode : FlashMode) (fa fb : Bool) (ecc : Option (Fin 64)) (pm : PmbRead)
  /-- ISLAND_SELFTEST_DONE (R378): The island self-tests complete; with the SAFE section accepted the island moves to KEY_BLANK or TEST_WAIT, and a failure gives LOCKOUT. -/
  | islandSelftestDone (ok : Bool)
  /-- ENTER_RUN (R455): Entering RUN releases FAULT_N, starts enabled SP cores and task triggers, puts RED into LISTEN and writes a START log record. -/
  | enterRun (ms : Nat)
  /-- CYC_START (R96): TIME fires CYC_START: feedback latch, encoder requests, ADC reserved entries and sequences, phase counters advance, and plan and SSM events fall due. -/
  | cycStart (encLow : BitVec 16)
  /-- HALF (R110): TIME fires HALF at CYC_START + Tb/2, triggering ADC regular sequences and the second current stage. -/
  | halfTick
  /-- CURRENT_STAGE (R244): Once the named ADC sequence has written its last result, LOOP runs the current stage of every direct servo axis and writes the duty shadows. -/
  | currentStage
  /-- VBUS_LOW (R266): VBUS below VBUS_MIN for 16 consecutive current stages raises VBUS_LOW, class F2. -/
  | vbusLow
  /-- IN_CUT (R110): TIME fires IN_CUT; LOOP takes the latest feedback and runs the position and velocity stages. -/
  | inCut
  /-- LOOP_OVERRUN (R35): Stages not finished by OUT_SLOTS or a current stage not finished by its valley raise LOOP_OVERRUN, class F3. -/
  | loopOverrun (current : Bool)
  /-- ARB_TICK (R110): TIME fires ARB_TICK and TRAJ_START together at IN_CUT + 4.0 µs. -/
  | arbTick
  /-- PLAN_EXHAUSTED (R230): σ reaching the last knot without a take-over starts a path stop and raises PLAN_EXHAUSTED_EVT. -/
  | planExhausted (g : Fin 16)
  /-- TRAJ_END (R26): TRAJ finishes its step and the setpoints for the next CYC_START are ready. -/
  | trajEnd
  /-- TRAJ_LATE (R35): TRAJ not finished by Tb − 1.25 µs raises TRAJ_LATE, class F2, and extrapolates the setpoints. -/
  | trajLate (g : Fin 16)
  /-- SNAP (R424): RED takes the critical-state snapshot and streams the copy and a bulk chunk to the standby. -/
  | snap
  /-- US_TICK (R110): TIME fires the 1 µs tick for ARB reservation times and SCHED delay lists. -/
  | usTick
  /-- PLL_LOSS (R18): SYS frequency out of ±2 % for 10 µs or root PLL lock loss raises PLL_LOSS, class F3 until the next start. -/
  | pllLoss (lock : Bool)
  /-- SRAM_SCRUB_ERROR (R34): The scrubber finds an SRAM error; correctable ones are fixed, uncorrectable ones are F2 or mark a contrail entry corrupt. -/
  | sramScrubError (a : BitVec 25) (correctable : Bool)
  /-- EXT_FAULT (R38): The FAULT_N net read low while not driven raises EXT_FAULT with EXT_CLASS. -/
  | extFault
  /-- OVERTEMP (R482): Thirty-two consecutive readings above 112 °C raise OVERTEMP, class F2. -/
  | overtemp
  /-- REG_WRITE (R68): A write to a register field without behaviour of its own stores the value. -/
  | regWrite (p : Port) (off : BitVec 26) (be : BitVec 4) (w : Word)
  /-- BAR2_WRITE (R69): A host write to the BAR2 SRAM window is stored with ECC, or refused with a logged bus error. -/
  | bar2Write (off : BitVec 25) (be : BitVec 4) (w : Word)
  /-- EVENT_WRITE_BACK (R78): Writing back a sequence number clears the RC event bits when it equals SEQ. -/
  | eventWriteBack (p : Port) (off : BitVec 26) (v : BitVec 8)
  /-- COUNTER_LOAD (R82): LOAD presets the counter fields of the register named in SYS_CNT_SEL. -/
  | counterLoad (p : Port)
  /-- GUARD_VALUE_WRITE (R83): A write to a guarded value address holds the value in the port's guard slot. -/
  | guardValueWrite (p : Port) (off : BitVec 26) (w : Word)
  /-- GUARD_TIMEOUT (R84): No complement within 64 SYS clocks fails the guarded write with TIMEOUT. -/
  | guardTimeout (p : Port)
  /-- CSR_PARITY (R85): The scrubber finds a register parity mismatch and applies the class of Table 3.14. -/
  | csrParity (off : BitVec 26)
  /-- CLOCK_REGATE (R87): 64 SYS clocks after the last host access a block's clock gates again. -/
  | clockRegate (blk : Fin 16)
  /-- PCIE_RESET (R67): PERST_N low, hot reset, link-down or FLR resets the endpoint and ends running DMA with LINK_DOWN. -/
  | pcieReset (kind : PcieReset)
  /-- MSIX_UNMASK (R71): Unmasking a vector with its PBA bit set sends the pending message. -/
  | msixUnmask (v : Fin 64)
  /-- MSPI_WRITE_FRAME (R73): A complete MSPI write frame with good CRC-8 commits its words in order, otherwise counts an error. -/
  | mspiWriteFrame (bytes : List Byte)
  /-- MSPI_READ_FRAME (R74): An MSPI read frame issues its reads in ascending order and returns the words with CRC-8. -/
  | mspiReadFrame (bytes : List Byte)
  /-- DMA_START (R70): START checks the descriptor and starts the transfer or ends it with BAD_DESC. -/
  | dmaStart (n : Fin 8)
  /-- DMA_ABORT (R70): ABORT stops a transfer after the TLPs already issued. -/
  | dmaAbort (n : Fin 8)
  /-- DMA_END (R70): A transfer ends, RESULT is written and DONE_EVT is raised. -/
  | dmaEnd (n : Fin 8) (e : DmaEnd) (data : List Word)
  /-- DMA_HOST_TIMEOUT (R70): No completion within 10 ms ends the transfer with HOST_ERR. -/
  | dmaHostTimeout (n : Fin 8) (data : List Word)
  /-- TUNNEL_START (R92): START on the tunnel requester checks the route and sends a TUNNEL request or ends with NO_ROUTE. -/
  | tunnelStart
  /-- TUNNEL_REQUEST (R91): The tunnel port checks permission and form, executes the words and answers with a response. -/
  | tunnelRequest (p : Fin 8) (f : Frame) (stamp : Nat)
  /-- TUNNEL_RESPONSE (R92): A matching response writes the data and RESULT and raises DONE_EVT; a late one counts TUN_LATE. -/
  | tunnelResponse (p : Fin 8) (f : Frame) (stamp : Nat)
  /-- TUNNEL_TIMEOUT (R92): No response within 8·Tb or 1 ms ends the request with TIMEOUT. -/
  | tunnelTimeout
  /-- NOM_TRIM_WRITE (R97): An accepted NOM_TRIM enters the TIME increment within three ticks. -/
  | nomTrimWrite (p : Port) (w : Word)
  /-- SYNC_RECEIVE (R99): A received SYNC frame is classified by offset, adopted or accepted, updates LIVE and TOD, and drives the servo. -/
  | syncReceive (p : Fin 8) (f : Frame) (stamp : Nat)
  /-- PPS_IN_EDGE (R106): A PPS_IN edge is captured and, on the zenith node, aligns time of day or steps the PPS servo. -/
  | ppsInEdge (rising : Bool) (t : Nat)
  /-- TOD_ALIGN (R107): ALIGN arms time-of-day alignment at the next PPS_IN edge. -/
  | todAlign
  /-- PPS_LOSS (R108): No accepted PPS_IN edge for 1.5 s raises PPS_LOSS_EVT and holds the trim. -/
  | ppsLoss (t : Nat)
  /-- PPS_OUT_PULSE (R109): Time of day crossing a whole second starts a PPS_OUT pulse. -/
  | ppsOutPulse
  /-- EV_MODE_WRITE (R112): A MODE write to an event channel cancels a pending firing and may arm the new mode. -/
  | evModeWrite (n : Fin 8) (w : Word)
  /-- EV_ARM (R112): ARM arms a one-shot or cyclic channel, firing at once late when the target has passed. -/
  | evArm (n : Fin 8)
  /-- EV_TGT_WRITE (R114): Changing TGT while armed moves the pending firing. -/
  | evTgtWrite (n : Fin 8) (hi : Bool) (w : Word)
  /-- TEV_FIRE (R112): An event channel fires TEVn, drives TRIGn and triggers its consumers. -/
  | tevFire (n : Fin 8) (encLow : BitVec 16)
  /-- TRIG_CAPTURE (R115): A selected TRIGn edge stores a timestamp in CAP and may request an injected conversion. -/
  | trigCapture (p : TrigAt) (rising : Bool) (t : Nat)
  /-- PORT_MODE_WRITE (R123): A MODE write takes a port to DOWN unless traffic mode. -/
  | portModeWrite (p : Fin 8) (w : Word)
  /-- PORT_SIGNAL_DETECT (R123): Input signal for 1 µs takes a DOWN port in traffic mode to TRAIN. -/
  | portSignalDetect (p : Fin 8)
  /-- PORT_SIGNAL_LOSS (R123): No input signal for 1 µs takes a port to DOWN. -/
  | portSignalLoss (p : Fin 8)
  /-- PORT_ALIGN (R122): Three aligned commas take a port from TRAIN to ALIGNED. gs: the code-groups received, with the bit position of each. -/
  | portAlign (l : Fin 10) (gs : List (Fin 10 × BitVec 10))
  /-- ALIGN_LOSS (R122): ERRRUN reaching 4 returns the port to TRAIN. gs: the code-groups received outside frames, bit a first. -/
  | alignLoss (l : Fin 10) (gs : List (BitVec 10))
  /-- FRAME_RECEIVE (R127): A frame on an UP port is checked, routed, forwarded cut-through and delivered locally. -/
  | frameReceive (p : Fin 8) (f : Frame) (stamp : Nat)
  /-- EGRESS_SEND (R130): A frame waiting in an egress buffer goes out when the port becomes free. -/
  | egressSend (p : Fin 8)
  /-- DELAY_REQ_SEND (R132): At Tb − 2.25 µs each port sends DELAY_REQ, and every 256th cycle a HELLO. -/
  | delayReqSend
  /-- DELAY_REQ_RECEIVE (R132): A neighbour answers a DELAY_REQ with a DELAY_RSP carrying RESID. -/
  | delayReqReceive (p : Fin 8) (f : Frame) (stamp : Nat)
  /-- DELAY_RSP_RECEIVE (R133): A DELAY_RSP yields a link-delay sample that is filtered and sets DLY_VALID. -/
  | delayRspReceive (p : Fin 8) (f : Frame) (stamp : Nat)
  /-- DELAY_RSP_TIMEOUT (R133): No response within 1.5 µs marks the sample missing. -/
  | delayRspTimeout (p : Fin 8)
  /-- DLY_VALID_LOSS (R133): Eight cycles without an accepted sample clear DLY_VALID. -/
  | dlyValidLoss (p : Fin 8)
  /-- HELLO_RECEIVE (R123): A HELLO records the peer identity and may bring the port UP or signal PEER_CHANGE. -/
  | helloReceive (p : Fin 8) (f : Frame) (stamp : Nat)
  /-- DISCOVERY_START (R136): The root starts discovery from its own ports' HELLOs. -/
  | discoveryStart
  /-- PROBE_RECEIVE (R136): A node answers a PROBE with a REPORT; a root receiving one raises ROOT_CONFLICT. -/
  | probeReceive (p : Fin 8) (f : Frame) (stamp : Nat)
  /-- REPORT_RECEIVE (R136): The root adds the reported links to its graph and probes further nodes. -/
  | reportReceive (p : Fin 8) (f : Frame) (stamp : Nat)
  /-- TABLE_RECEIVE (R136): A node stores a TABLE frame of routing words and answers ACK or NACK. -/
  | tableReceive (p : Fin 8) (f : Frame) (stamp : Nat)
  /-- COMMIT_RECEIVE (R136): A node accepting COMMIT records peer identities, sets ID_VALID and enters LOAD. -/
  | commitReceive (p : Fin 8) (f : Frame) (stamp : Nat)
  /-- DISC_ACK_RECEIVE (R136): The root takes an ACK and continues distribution, ending discovery with a result. -/
  | discAckReceive (p : Fin 8) (f : Frame) (stamp : Nat)
  /-- DISC_NACK_RECEIVE (R137): A NACK to TABLE or COMMIT ends discovery with TABLE_NACK. -/
  | discNackReceive (p : Fin 8) (f : Frame) (stamp : Nat)
  /-- DISC_RETRY_TIMEOUT (R136): A PROBE, TABLE or COMMIT unanswered for 20 µs is repeated, and abandoned after the third. -/
  | discRetryTimeout
  /-- DISCOVERY_REPEAT (R137): After a failed discovery the root repeats discovery every 100 ms. -/
  | discoveryRepeat
  /-- PRBS_CHK_ENABLE (R141): CHK_EN from 0 to 1 clears ERR and BITS and starts the checker. -/
  | prbsChkEnable (n : Fin 10)
  /-- PRBS_INJ (R143): INJ inverts one transmitted PRBS bit. -/
  | prbsInj (n : Fin 10)
  /-- INJ_CODE (R143): INJ_CODE replaces the second symbol of the next idle set with an invalid code-group. -/
  | injCode (p : Fin 8)
  /-- INJ_CRC (R143): INJ_CRC sends the next locally originated frame with an inverted CRC. -/
  | injCrc (p : Fin 8)
  /-- PRBS_LOCK (R142): 64 matching bits set the checker's LOCK. r: the bits received. -/
  | prbsLock (r : LaneBits)
  /-- PRBS_LOCK_LOSS (R142): 32 errors in 1,024 bits clear LOCK and reseed the checker. The lane receives bits, then, from
  the first error on, errs. -/
  | prbsLockLoss (n : Fin 10) (bits errs : List Bool)
  /-- ENTER_LISTEN (R156): With ID_VALID and checked slot tables the node enters LISTEN and starts its listen timer. -/
  | enterListen
  /-- LISTEN_TIMER_EXPIRE (R156): A coldstart node hearing nothing sends DAWN and enters COLDSTART. -/
  | listenTimerExpire
  /-- DAWN_RECEIVE (R157): A DAWN restricts sync acceptance, and one from a lower ID makes a coldstart node abandon. -/
  | dawnReceive (p : Fin 8) (f : Frame) (stamp : Nat)
  /-- DAWN_WAIT_TIMEOUT (R156): No SYNC within 4·Tb after a DAWN restarts the listen timer. -/
  | dawnWaitTimeout
  /-- DAWN_WINDOW_END (R156): The dawn window ends with no lower DAWN and the node becomes ZENITH at the next CYC_START. -/
  | dawnWindowEnd
  /-- NO_SYNC_TIMEOUT (R156): 100 ms in LISTEN raises NO_SYNC_EVT once. -/
  | noSyncTimeout
  /-- INTEGRATION_TIMEOUT (R156): No full valid cycle within 16 cycles returns an integrating node to LISTEN. -/
  | integrationTimeout
  /-- HOLD_MAX_SILENCE (R156): HOLD_MAX cycles without an accepted SYNC silence a scheduled node. -/
  | holdMaxSilence
  /-- ZENITH_SUCCESSION (R160): A coldstart node missing 4 + 2·k SYNC frames becomes ZENITH at its next CYC_START. -/
  | zenithSuccession
  /-- SLOT_TX (R151): At an active tx entry's START the guardian lets out the scheduled frame, including SYNC and ECHO. -/
  | slotTx (i : Fin 512)
  /-- WINDOW_CLOSE (R162): At the closing edge of a DLV window with no good frame the stream ages and turns stale. -/
  | windowClose (i : Fin 512)
  /-- AGE_FAULT (R163): AGE exceeding AGE_LIMIT sets FAULT and the consumer applies Table 6.9. -/
  | ageFault (j : Fin 256)
  /-- ECHO_RECEIVE (R154): An accepted ECHO sets the node's LIVE bit and records acceptance of a proposal. -/
  | echoReceive (p : Fin 8) (f : Frame) (stamp : Nat)
  /-- MODE_PROPOSE (R165): PROPOSE on the zenith node submits a schedule mode change. -/
  | modePropose (p : Port) (w : Word)
  /-- QUAD_TRANSITION (R171): A filtered quadrature transition counts and is stamped. a, b: lines A and B at the SYS clocks from clk on. -/
  | quadTransition (n : Fin 32) (a b : List Bool) (clk : Nat)
  /-- QUAD_FAULT (R173): CYC_ERR of QERR_THR or more in a cycle sets FAULT with the classes of Table 7.1. -/
  | quadFault (n : Fin 32)
  /-- Z_EDGE (R175): A rising filtered Z edge copies COUNT to ZCAP. z: the channel and its line Z. -/
  | zEdge (z : Fin 32 × LineRun)
  /-- STEP_INPUT_EDGE (R180): An active step edge counts one step in the sampled direction. xs: step and direction line from clk on. -/
  | stepInputEdge (n : Fin 32) (xs : List (Bool × Bool)) (clk : Nat)
  /-- STANDSTILL_TIMEOUT (R178): STANDSTILL_T without a counted transition sets STANDSTILL and raises STILL_EVT. -/
  | standstillTimeout (n : Fin 32) (clk : Nat)
  /-- ENC_WORD_DONE (R185): A completed encoder word is checked, unwrapped, stamped and used for speed. -/
  | encWordDone (j : Fin 16) (raw : BitVec 40)
  /-- ENC_FAULT (R188): FAILRUN exceeding FAIL_LIMIT sets the port FAULT. -/
  | encFault (j : Fin 16)
  /-- ENC_STANDSTILL (R186): STANDSTILL_T without a change of POS sets the port's STANDSTILL. -/
  | encStandstill (j : Fin 16) (t : Nat)
  /-- DIV_OUTPUT_STEP (R190): A divider with backlog steps its quadrature output by one count. -/
  | divOutputStep (k : Fin 8) (clk : Nat)
  /-- DIV_CTL_WRITE (R191): A divider CTL write takes effect at the next CYC_START. -/
  | divCtlWrite (k : Fin 8) (w : Word)
  /-- DIV_RATIO_WRITE (R191): A new ratio resets acc at the next CYC_START and keeps BACKLOG. -/
  | divRatioWrite (k : Fin 8) (w : Word)
  /-- RSEQ_TRIGGER (R196): A trigger starts a regular sequence, or is dropped with SEQ_OVR. -/
  | rseqTrigger (c q : Fin 4)
  /-- CONVERSION_DONE (R194): A conversion result is corrected and written to its result register. -/
  | conversionDone (c : Fin 4) (v : Int)
  /-- CMP_EVENT (R199): A window comparator condition becoming true raises CMP_EVT and requests an injected conversion. -/
  | cmpEvent (n : Fin 64) (v : VoltAt)
  /-- ADC_CAL (R204): A CAL bit write requests a converter calibration or is refused. -/
  | adcCal (m : BitVec 4)
  /-- CAL_START (R205): With the injected queue empty the calibration starts at the next slot boundary. -/
  | calStart (c : Fin 4)
  /-- CAL_STEP_END (R205): At the end of a calibration step a waiting injected request aborts the calibration. -/
  | calStepEnd (c : Fin 4)
  /-- CAL_DONE (R203): Step 16 ends and the new trims load, or CAL_FAIL with RANGE; paused work resumes. -/
  | calDone (c : Fin 4) (ok : Bool)
  /-- CAL_WAIT_TIMEOUT (R205): A wait longer than 1 ms refuses the calibration with INJ_BUSY. -/
  | calWaitTimeout (c : Fin 4)
  /-- BG_WINDOW_END (R202): At the end of each 10 ms window BG_STARVED is set or cleared. idle of the window's total slots were idle. -/
  | bgWindowEnd (c : Fin 4) (idle total : Nat)
  /-- BG_TRIM_UPDATE (R202): After 256 reference conversions the slice offset and gain are updated. -/
  | bgTrimUpdate (k : Fin 16) (skew : Bool)
  /-- TRAJ_NOP (R216): NOP is decided with no action. -/
  | trajNop (n : Fin 128) (imm ramp : Bool)
  /-- MOVE_ABS (R218): MOVE_ABS plans a jerk-limited profile to TGT. -/
  | moveAbs (n : Fin 128) (imm ramp : Bool)
  /-- MOVE_REL (R216): MOVE_REL plans a profile to TGT plus a base. -/
  | moveRel (n : Fin 128) (imm ramp : Bool)
  /-- JOG_POS (R219): JOG_POS profiles to velocity +VEL. -/
  | jogPos (n : Fin 128) (imm ramp : Bool)
  /-- JOG_NEG (R219): JOG_NEG profiles to velocity −VEL. -/
  | jogNeg (n : Fin 128) (imm ramp : Bool)
  /-- STOP (R223): STOP brings a PROFILE or GEAR axis to a controlled stop. -/
  | axisStop (n : Fin 128) (imm ramp : Bool)
  /-- RESUME (R225): RESUME completes a stopped move to the kept target. -/
  | axisResume (n : Fin 128) (imm ramp : Bool)
  /-- LIMITS (R220): LIMITS replaces the limits of the move in progress. -/
  | axisLimits (n : Fin 128) (imm ramp : Bool)
  /-- GEAR_ENGAGE (R236): GEAR_ENGAGE arms a ratio change from 0 to NUM/DEN. -/
  | gearEngage (n : Fin 128) (imm ramp : Bool)
  /-- GEAR_CHANGE (R236): GEAR_CHANGE arms a ratio change to NUM/DEN. -/
  | gearChange (n : Fin 128) (imm ramp : Bool)
  /-- GEAR_OFF (R236): GEAR_OFF arms a ratio change to 0. -/
  | gearOff (n : Fin 128) (imm ramp : Bool)
  /-- SET_POS (R222): SET_POS redefines the present position as TGT. -/
  | setPos (n : Fin 128) (imm ramp : Bool)
  /-- PATH_ON (R232): PATH_ON puts a still group into PATH with s := 0. -/
  | pathOn (g : Fin 16)
  /-- PATH_OFF (R232): PATH_OFF performs a path stop and returns the group to INDEP. -/
  | pathOff (g : Fin 16)
  /-- GROUP_STOP (R232): Group STOP performs a path stop and holds s at 0. -/
  | groupStop (g : Fin 16)
  /-- GROUP_RESUME (R232): Group RESUME lets s rise again. -/
  | groupResume (g : Fin 16)
  /-- STEP_EMIT (R239): The step generator emits a pulse each time its line crosses the next step. -/
  | stepEmit (n : Fin 32) (t : Nat)
  /-- ENERGISE (R263): EN = 1 requests energising of an axis at the next IN_CUT. -/
  | energise (n : Fin 128)
  /-- DEENERGISE (R264): EN = 0 de-energises the axis at the next IN_CUT. -/
  | deenergise (n : Fin 128)
  /-- BOOT_END (R264): After BOOT base cycles the first current stage of a newly energised axis runs. -/
  | bootEnd (n : Fin 32)
  /-- COMP_TIMEOUT (R264): ENERGISED not reported within 4 cycles clears EN with COMP_TIMEOUT. -/
  | compTimeout (n : Fin 128)
  /-- ANG_OFS_WRITE (R252): A guarded ANG write sets ANG_OFS, failing while ENERGISED. -/
  | angOfsWrite (p : Port) (n : Fin 128) (w : Word)
  /-- TRIP_INPUT (R258): A filtered TRIP input forces the off pattern on its axes and latches TRIP. -/
  | tripInput (j : Fin 16) (x : LineRun)
  /-- TRIP_CLR (R258): CLR clears a latched trip while its input is inactive. -/
  | tripClr (m : BitVec 16)
  /-- FEEDBACK_RECEIVE (R259): A companion FEEDBACK frame delivers positions, speeds, masks and CLAIM. -/
  | feedbackReceive (p : Fin 8) (f : Frame) (stamp : Nat)
  /-- PUBLISH (R288): PUBLISH flips a context's input copy at the next PLAN event. -/
  | solvPublish (c : Fin 16)
  /-- COLD (R299): COLD makes the next solve start from zero. -/
  | solvCold (c : Fin 16)
  /-- SOLVE_START (R303): SOLV starts the next released context: settings, assembly and start iterate. -/
  | solveStart
  /-- FACTOR_DONE (R296): A factorisation completes and its buffer becomes current. -/
  | factorDone
  /-- ITERATION_DONE (R294): An ADMM iteration commits its iterate. -/
  | iterationDone
  /-- CHECK_DONE (R295): The residual check decides converged, MAXIT, INFEAS_SUSPECT, adaptation or continuation. -/
  | checkDone
  /-- OUTPUT_DONE (R294): Output and switch end, knots and warm start are written and DONE_EVT is raised. -/
  | outputDone
  /-- SOLV_DEADLINE (R304): A context's deadline ends its work with TIMEOUT_ITER, TIMEOUT_FACT or NO_RESULT. -/
  | solvDeadline (c : Fin 16)
  /-- SOLV_FRAME_RECEIVE (R309): A delivered SOLV stream is written to shared memory with its status word. -/
  | solvFrameReceive (p : Fin 8) (f : Frame) (stamp : Nat)
  /-- RESERVE (R320): RESERVE requests a window on an airspace block. -/
  | arbReserve (p : Port) (g : Fin 16)
  /-- EXTEND (R320): EXTEND requests a later end for a held reservation. -/
  | arbExtend (p : Port) (g : Fin 16)
  /-- RELEASE (R322): RELEASE cuts or deletes a held reservation. -/
  | arbRelease (p : Port) (g : Fin 16)
  /-- ARB_REVOKE (R323): A guarded revocation cuts a reservation at the next tick and notifies the holder. -/
  | arbRevoke (p : Port) (w : Word)
  /-- ARB_FRAME_RECEIVE (R324): An ARB frame delivers requests, results, reasserts and notices. -/
  | arbFrameReceive (p : Fin 8) (f : Frame) (stamp : Nat)
  /-- RESERVATION_EXPIRE (R316): At T_END a reservation clears VALID in home and holder tables. -/
  | reservationExpire
  /-- ARB_RETRY_TIMEOUT (R326): No result after 4·Tb resends the request or ends it with TIMEOUT. -/
  | arbRetryTimeout (g q : Fin 16)
  /-- RESTORE_END (R332): RESTORE ends after RESTORE_T cycles. -/
  | restoreEnd
  /-- NOP (R344): NOP does nothing. -/
  | spNop (c : Fin 16)
  /-- ADD (R344): ADD adds two registers. -/
  | spAdd (c rd rs rt : Fin 16)
  /-- SUB (R344): SUB subtracts two registers. -/
  | spSub (c rd rs rt : Fin 16)
  /-- AND (R344): AND forms the bitwise and. -/
  | spAnd (c rd rs rt : Fin 16)
  /-- OR (R344): OR forms the bitwise or. -/
  | spOr (c rd rs rt : Fin 16)
  /-- XOR (R344): XOR forms the bitwise exclusive or. -/
  | spXor (c rd rs rt : Fin 16)
  /-- ASH (R344): ASH shifts arithmetically by a register amount. -/
  | spAsh (c rd rs rt : Fin 16)
  /-- LSH (R344): LSH shifts logically by a register amount. -/
  | spLsh (c rd rs rt : Fin 16)
  /-- MUL (R344): MUL writes the low 32 bits of a product. -/
  | spMul (c rd rs rt : Fin 16)
  /-- MULH (R344): MULH writes the signed high 32 bits of a product. -/
  | spMulh (c rd rs rt : Fin 16)
  /-- MIN (R344): MIN writes the signed minimum. -/
  | spMin (c rd rs rt : Fin 16)
  /-- MAX (R344): MAX writes the signed maximum. -/
  | spMax (c rd rs rt : Fin 16)
  /-- ABS (R344): ABS writes the absolute value. -/
  | spAbs (c rd rs : Fin 16)
  /-- NEG (R344): NEG writes the negation. -/
  | spNeg (c rd rs : Fin 16)
  /-- CMP (R344): CMP sets flags from a subtraction. -/
  | spCmp (c rs rt : Fin 16)
  /-- MOV (R344): MOV copies a register. -/
  | spMov (c rd rs : Fin 16)
  /-- MFC (R344): MFC reads a control register. -/
  | spMfc (c rd : Fin 16) (idx : Fin 64)
  /-- MTC (R344): MTC writes a control register. -/
  | spMtc (c : Fin 16) (idx : Fin 64) (rs : Fin 16)
  /-- EXA (R344): EXA extracts a rounded, saturated word from an accumulator. -/
  | spExa (c rd : Fin 16) (k : Fin 2) (sh : Fin 64)
  /-- LDA (R344): LDA loads an accumulator from a shifted register. -/
  | spLda (c : Fin 16) (k : Fin 2) (rs : Fin 16) (sh : Fin 64)
  /-- CLRA (R344): CLRA clears an accumulator. -/
  | spClra (c : Fin 16) (k : Fin 2)
  /-- NORM (R344): NORM counts redundant sign bits. -/
  | spNorm (c rd rs : Fin 16)
  /-- ADDA (R344): ADDA adds one accumulator to the other. -/
  | spAdda (c : Fin 16) (k j : Fin 2)
  /-- ADDI (R344): ADDI adds a sign-extended immediate. -/
  | spAddi (c rd rs : Fin 16) (imm : BitVec 16)
  /-- ANDI (R344): ANDI ands with a zero-extended immediate. -/
  | spAndi (c rd rs : Fin 16) (imm : BitVec 16)
  /-- ORI (R344): ORI ors with a zero-extended immediate. -/
  | spOri (c rd rs : Fin 16) (imm : BitVec 16)
  /-- XORI (R344): XORI exclusive-ors with a zero-extended immediate. -/
  | spXori (c rd rs : Fin 16) (imm : BitVec 16)
  /-- MOVI (R344): MOVI loads a sign-extended immediate. -/
  | spMovi (c rd : Fin 16) (imm : BitVec 16)
  /-- MOVHI (R344): MOVHI loads the upper half from an immediate. -/
  | spMovhi (c rd : Fin 16) (imm : BitVec 16)
  /-- ASHI (R344): ASHI shifts arithmetically by an immediate. -/
  | spAshi (c rd rs : Fin 16) (k : Fin 64)
  /-- LSHI (R344): LSHI shifts logically by an immediate. -/
  | spLshi (c rd rs : Fin 16) (k : Fin 64)
  /-- LD (R341): LD loads a local X or Y word by the addressing mode. -/
  | spLd (c rd ar : Fin 16) (imm : BitVec 16)
  /-- ST (R341): ST stores a word to local X or Y memory. -/
  | spSt (c rd ar : Fin 16) (imm : BitVec 16)
  /-- LDG (R340): LDG loads a global word, stalling until the data arrives. -/
  | spLdg (c rd rs : Fin 16) (imm : BitVec 16)
  /-- STG (R340): STG posts a global store. -/
  | spStg (c rd rs : Fin 16) (imm : BitVec 16)
  /-- CMPI (R344): CMPI sets flags against an immediate. -/
  | spCmpi (c rs : Fin 16) (imm : BitVec 16)
  /-- MODA (R341): MODA modifies an address register without access. -/
  | spModa (c ar : Fin 16) (imm : BitVec 16)
  /-- J (R344): J jumps after a delay slot. -/
  | spJ (c : Fin 16) (t : BitVec 13)
  /-- JC (R344): JC jumps when its condition holds. -/
  | spJc (c k : Fin 16) (t : BitVec 13)
  /-- CALL (R344): CALL saves the return address and jumps. -/
  | spCall (c : Fin 16) (t : BitVec 13)
  /-- RET (R344): RET returns to lr. -/
  | spRet (c : Fin 16)
  /-- JR (R344): JR jumps to a register address. -/
  | spJr (c r : Fin 16)
  /-- LOOPI (R349): LOOPI starts a zero-overhead loop with an immediate count. -/
  | spLoopi (c : Fin 16) (n : BitVec 11) (t : BitVec 13)
  /-- LOOP (R349): LOOP starts a zero-overhead loop with a register count. -/
  | spLoop (c r : Fin 16) (t : BitVec 13)
  /-- ENDL (R350): ENDL ends the innermost active loop level. -/
  | spEndl (c : Fin 16)
  /-- GETTASK (R355): GETTASK requests a task and puts the core in WAIT. -/
  | spGettask (c : Fin 16) (t : Nat)
  /-- TDONE (R356): TDONE completes the held task with a status. -/
  | spTdone (c r : Fin 16) (t : Nat)
  /-- TPOST (R360): TPOST posts a task. -/
  | spTpost (c r : Fin 16) (t : Nat)
  /-- RFE (R353): RFE restores sr and returns to epc. -/
  | spRfe (c : Fin 16)
  /-- SYNC (R340): SYNC stalls until every store of the core has taken effect. -/
  | spSync (c : Fin 16)
  /-- BSET (R344): BSET sets sr bits. -/
  | spBset (c : Fin 16) (m : BitVec 11)
  /-- BCLR (R344): BCLR clears sr bits. -/
  | spBclr (c : Fin 16) (m : BitVec 11)
  /-- MPY (R344): MPY multiplies into an accumulator with parallel moves. -/
  | spMpy (c : Fin 16) (k : Fin 2) (s1 s2 : Fin 16) (xm ym : BitVec 8)
  /-- MAC (R344): MAC multiply-accumulates with parallel moves. -/
  | spMac (c : Fin 16) (k : Fin 2) (s1 s2 : Fin 16) (xm ym : BitVec 8)
  /-- MSU (R344): MSU multiply-subtracts with parallel moves. -/
  | spMsu (c : Fin 16) (k : Fin 2) (s1 s2 : Fin 16) (xm ym : BitVec 8)
  /-- MOVP (R344): MOVP performs parallel moves only. -/
  | spMovp (c : Fin 16) (xm ym : BitVec 8)
  /-- TAP (R348): TAP performs one tap of a shift-through delay line. -/
  | spTap (c : Fin 16) (k : Fin 2) (xm ym : BitVec 8)
  /-- MACM (R347): MACM multiply-accumulates two memory words. -/
  | spMacm (c : Fin 16) (k : Fin 2) (xm ym : BitVec 8)
  /-- CLRM (R344): CLRM clears an accumulator with parallel moves. -/
  | spClrm (c : Fin 16) (k : Fin 2) (xm ym : BitVec 8)
  /-- EVENT_TAKE (R352): A pending TASK or HOST event is taken at an allowed boundary. -/
  | eventTake (c : Fin 16)
  /-- TASK_HANDOVER (R355): A task is handed to a waiting core. -/
  | taskHandover (c : Fin 16) (t : Nat)
  /-- SP_HALT (R354): HALT stops a core at the next allowed boundary. -/
  | spHalt (c : Fin 16)
  /-- SP_RESUME (R354): RESUME takes a core out of HALTED. -/
  | spResume (c : Fin 16)
  /-- SP_STEP (R354): STEP runs a halted core to the next allowed boundary. -/
  | spStep (c : Fin 16)
  /-- DOOR_RING (R351): RING sets a core's HOST event latch. -/
  | doorRing (c : Fin 16)
  /-- SCHED_POST (R360): A write of a task ID to SCHED_POST posts the task. -/
  | schedPost (p : Port) (i : Fin 1024) (t : Nat)
  /-- SCHED_DPOST (R361): DPOST enters, replaces or cancels a task's delay-list entry. -/
  | schedDpost (i : Fin 1024) (t : Nat)
  /-- DELAY_DUE (R361): A delay-list entry falling due posts its task. -/
  | delayDue (i : Fin 1024)
  /-- PERIOD_DUE (R362): A PERIOD task's due time posts it and sets the next due time. -/
  | periodDue (i : Fin 1024)
  /-- AFFINITY_EXPIRE (R365): An affinity window expires unserved and the task becomes ready for every allowed core. -/
  | affinityExpire (i : Fin 1024)
  /-- MAILBOX_WRITE (R370): A write to a mailbox DATA stores the word and, from a core, raises MSG_EVT. -/
  | mailboxWrite (p : Port) (k : Fin 8) (w : Word)
  /-- CONTRAIL_RESET (R372): RESET sets WPTR and WRAPS to 0 and clears FULL. -/
  | contrailReset
  /-- SAFE_EVALUATION (R376): Each channel evaluates inputs, demands and outputs and exchanges results over the cross-link. -/
  | safeEvaluation
  /-- DISC_FAULT (R382): DCNT reaching DISC_T + 1 latches DISC_FAULT in both channels. -/
  | discFault (n : Fin 16)
  /-- STOP_T_EXPIRE (R385): STOP_T after a CAT 1 or CAT 2 demand switches the output off or starts the safe operating stop. -/
  | stopTExpire (src : Fin 48)
  /-- OFF_PULSE (R390): An energised output opens one switch for PULSE_W each PULSE_P. -/
  | offPulse (k : Fin 8)
  /-- XLINK (R376): No valid exchange for 2 evaluations puts the island into LOCKOUT. -/
  | xlink
  /-- CMD_MISMATCH (R376): Differing output commands for 3 evaluations put the island into LOCKOUT. -/
  | cmdMismatch
  /-- SUPPLY (R377): A safety rail outside ±6 % for 20 µs puts the island into LOCKOUT. -/
  | safeSupply
  /-- CLOCK (R377): A SAFE clock stopped or out of ±5 % for 20 µs opens every output and gives LOCKOUT. -/
  | safeClock (c : SafeClk)
  /-- PERIODIC_TEST (R393): A failing periodic self-test slice puts the island into LOCKOUT with SELFTEST. -/
  | periodicTest (ecc : Bool)
  /-- SAFE_BIND (R396): A guarded write to CFG_SAFE_BIND requests binding of SAFE_KEYH. -/
  | safeBind (p : Port) (w : Word)
  /-- SAFE_BIND_DONE (R396): The OTP write and read-back complete with BOUND or VERIFY. -/
  | safeBindDone (ok : Bool)
  /-- SSM_RESULT (R410): The channels decide d, s_lim and stops for every group and send SCALE_LIM to TRAJ. -/
  | ssmResult
  /-- PSTOP_END (R408): RESUME_N clear cycles end a protective stop. -/
  | pstopEnd (g : Fin 16)
  /-- SAFE_MSG_RECEIVE (R414): A receiving channel checks its plane's copy for CRC, plane, SAFE_ID and sequence. -/
  | safeMsgReceive (p : Fin 8) (f : Frame) (stamp : Nat)
  /-- SMSG_WD (R415): MISS_S reaching SAFE_WD puts the stream into its safe state. -/
  | smsgWd (j : Fin 32)
  /-- RED_LISTEN_END (R423): After listening a unit enters ACTIVE or SYNCING by claims and HELLO. -/
  | redListenEnd
  /-- STATE_FRAME_RECEIVE (R426): A standby collects STATE frames and applies a complete copy. -/
  | stateFrameReceive (ws : List Word) (t : Nat)
  /-- BULK_FRAME_RECEIVE (R425): A standby collects a BULK chunk and applies it after its copy. -/
  | bulkFrameReceive (ws : List Word) (t : Nat)
  /-- RED_HELLO_RECEIVE (R423): A HELLO on the private link shows the partner is present. -/
  | redHelloReceive (ws : List Word) (t : Nat)
  /-- RED_WATCHDOG (R428): 4·Tb without a watchdog restart silences every transmitter and relinquishes. -/
  | redWatchdog
  /-- RELINQUISH_RECEIVE (R429): A RELINQUISH frame triggers takeover at the next CYC_START. -/
  | relinquishReceive (ws : List Word) (t : Nat)
  /-- TAKEOVER (R430): A standby takes over with a raised claim from its last copy. -/
  | takeover
  /-- RED_RELEASE (R433): RELEASE moves a quarantined unit to SYNCING. -/
  | redRelease (p : Port)
  /-- DRILL (R434): DRILL schedules a planned role swap at cycle D. -/
  | redDrill (p : Port)
  /-- DRILL_FRAME_RECEIVE (R434): A DRILL frame makes the standby take over at D + 1. -/
  | drillFrameReceive (ws : List Word) (t : Nat)
  /-- PWR_REQ (R438): A guarded PWR_REQ write requests a target power state. -/
  | pwrReq (p : Port) (w : Word)
  /-- PWR_FAB_REQ (R438): PWR_FAB_REQ tunnels a power request to every LIVE node. -/
  | pwrFabReq (p : Port) (w : Word)
  /-- QUIESCE_END (R442): In-flight transfers end and the entry commits and runs its steps. -/
  | quiesceEnd
  /-- QUIESCE_TIMEOUT (R441): QUIESCE_TIMEOUT with a transfer in flight aborts the entry. -/
  | quiesceTimeout
  /-- ENTRY_DONE (R442): An entry completes, raises ENTERED_EVT and starts a pending wake. -/
  | entryDone
  /-- EXIT_DONE (R444): An exit's reloads complete and EXITED_EVT is raised. -/
  | exitDone
  /-- WAKE_INPUT (R445): An enabled wake input in SLEEP starts the exit. -/
  | wakeInput (w : WakeSrc)
  /-- PWR_PERF (R446): A guarded PWR_PERF write starts a performance level change. -/
  | pwrPerf (p : Port) (w : Word) (ok : Bool)
  /-- SOLV_DIVIDER_CHANGE (R446): The SOLV divider changes at the first SOLV idle. -/
  | solvDividerChange (ok : Bool)
  /-- STATUS_POLL (R446): During a change PWR polls STATUS_WORD every 100 µs. -/
  | statusPoll (r : PmbRead)
  /-- VOUT_TIMEOUT (R447): Polling beyond VOUT_T ends the change with PERF_FAIL_EVT. -/
  | voutTimeout
  /-- PGOOD_LOSS (R448): PGOOD falling while driven raises PGOOD_LOSS, class F3. -/
  | pgoodLoss
  /-- PMB_ALERT (R450): PMB_ALERT_N low makes PWR read STATUS_WORD and may raise PMIC_FAULT. -/
  | pmbAlert (r : PmbRead)
  /-- PMBUS_POLL (R449): Every 10 ms PWR reads STATUS_WORD, READ_VOUT and READ_IOUT. -/
  | pmbusPoll (r : PmbRead) (vout iout : Option (BitVec 16))
  /-- COMPANION_LOAD_START (R456): The root starts loading the companions one at a time in COMPLOAD frames. -/
  | companionLoadStart
  /-- COMPLOAD_ACK_RECEIVE (R457): An ACK after END moves the root to the next node. -/
  | comploadAckReceive (p : Fin 8) (f : Frame) (stamp : Nat)
  /-- COMPLOAD_NACK_RECEIVE (R457): A NACK fails the attempt and repeats the section. -/
  | comploadNackReceive (p : Fin 8) (f : Frame) (stamp : Nat)
  /-- COMPLOAD_READY_RECEIVE (R457): READY shows the companion can enter LISTEN. -/
  | comploadReadyReceive (p : Fin 8) (f : Frame) (stamp : Nat)
  /-- COMPLOAD_ACK_TIMEOUT (R457): No answer within 1 ms fails the attempt. -/
  | comploadAckTimeout
  /-- READY_TIMEOUT (R457): No READY within READY_T fails the node's load. -/
  | readyTimeout
  /-- UPD_WIN_WRITE (R460): A UPD_WIN write stores a word in the writer's staging buffer. -/
  | updWinWrite (p : Port) (node : Fin 32) (i : Fin 16384) (w : Word)
  /-- OPEN (R461): OPEN checks the staged sector 0 and takes the update lock. -/
  | updOpen (p : Port) (node : Fin 32)
  /-- PROGRAM (R461): PROGRAM erases, programs and reads back one image sector. -/
  | updProgram (p : Port) (node : Fin 32) (i : Fin 512)
  /-- COMMIT (R461): COMMIT verifies the new image, programs sector 0 and releases the lock. -/
  | updCommit (p : Port) (node : Fin 32)
  /-- UPD_ABORT (R463): ABORT releases the update lock. -/
  | updAbort (p : Port) (node : Fin 32)
  /-- RETAIN (R466): RETAIN stores a retained-state page to flash. -/
  | updRetain (p : Port) (node : Fin 32) (i : Fin 512)
  /-- UPD_WORK_DONE (R463): An update command's flash work completes with its result. -/
  | updWorkDone (r : WorkEnd)
  /-- UPD_IDLE_EXPIRE (R463): No command from the holder for IDLE_T releases the lock with EXPIRED. -/
  | updIdleExpire
  /-- PATCH_SEL_WRITE (R61): A CFG_PATCH_SEL write names the record and resets WPTR. -/
  | patchSelWrite (w : Word)
  /-- PATCH_IDX_WRITE (R61): A CFG_PATCH_IDX write names the record index and resets WPTR. -/
  | patchIdxWrite (w : Word)
  /-- PATCH_DATA_WRITE (R61): A guarded CFG_PATCH_DATA write stores one payload word at WPTR. -/
  | patchDataWrite (w : Word)
  /-- APPLY (R61): APPLY submits the staged record and sets PENDING. -/
  | patchApply
  /-- PATCH_ABORT (R64): ABORT cancels a pending patch with PATCH_ABORTED. -/
  | patchAbort
  /-- TAP_RESET (R483): TRST_N low resets the TAP. -/
  | tapReset
  /-- EXTEST (R484): EXTEST drives the boundary cells while RESET_N is low. -/
  | jtagExtest
  /-- SAMPLE_PRELOAD (R483): SAMPLE/PRELOAD samples and preloads the boundary register. -/
  | jtagSamplePreload
  /-- IDCODE (R483): IDCODE selects the identification register. -/
  | jtagIdcode
  /-- HIGHZ (R484): HIGHZ floats the outputs while RESET_N is low. -/
  | jtagHighz
  /-- CLAMP (R484): CLAMP holds the boundary values with bypass selected while RESET_N is low. -/
  | jtagClamp
  /-- EXTEST_PULSE (R484): EXTEST_PULSE runs the IEEE 1149.6 pulse test while RESET_N is low. -/
  | jtagExtestPulse
  /-- EXTEST_TRAIN (R484): EXTEST_TRAIN runs the IEEE 1149.6 train test while RESET_N is low. -/
  | jtagExtestTrain
  /-- BYPASS (R483): BYPASS selects the one-bit bypass register. -/
  | jtagBypass
  /-- PWM_VALLEY (R256): At each PWM valley the duty shadows written by a current stage load and apply to the following ramps. -/
  | pwmValley (n : Fin 32)
  /-- REG_READ (R77): A host read of a BAR0 register snapshots the paired higher register, ungates a gated block, or is logged as a bus error. -/
  | regRead (p : Port) (off : BitVec 26) (be : BitVec 4)
  /-- BAR2_READ (R32): A host read of the BAR2 window outside every region or in a powered-off region returns all ones and is logged. -/
  | bar2Read (off : BitVec 25)
  /-- PCIE_CONFIG_WRITE (R67): A PCIe configuration write changes endpoint state such as MSI-X enable or the D0 and D3hot power state. -/
  | pcieConfigWrite (c : PcieCfg)
  /-- ILLEGAL_OPCODE (R343): An instruction word with an unlisted opcode, a non-zero reserved field or the erased value 0xFFFF_FFFF raises ILLEGAL. -/
  | illegalOpcode (c : Fin 16)
  /-- GLOBAL_STORE_EFFECT (R340): A posted STG store takes effect at its target register or shared memory, setting GERR when it fails. -/
  | globalStoreEffect (c : Fin 16)
  /-- FAULT_N_NET_HIGH (R38): The shared FAULT_N net returns high, FAULTN_PIN clears and the cause of EXT_FAULT goes away. -/
  | faultNNetHigh
  /-- SAFE_CLOCK_RESTORED (R377): When the SAFE clock runs again after the AON monitor opened the outputs, the island enters LOCKOUT. -/
  | safeClockRestored
  /-- INPUT_SAMPLE (R380): Every 10 µs each channel samples its SIN balls and SRB0 to SRB7, advances the input filters and checks readback against Table 16.4. -/
  | inputSample (a b : BitVec 16) (rb : BitVec 8)
  /-- RAILS_RETRY (R453): After PMIC_EN has been held low for 1.0 s following a failed RAILS or PLL attempt, step 2 starts again. -/
  | railsRetry
  deriving DecidableEq, Repr

/-- The row of the command table a command belongs to, as the table spells it. -/
def Instr.mnemonic : Instr → String
  | .vbusRise => "VBUS_RISE"
  | .resetNRise => "RESET_N_RISE"
  | .powerLoss _ _ => "POWER_LOSS"
  | .pgoodRise _ => "PGOOD_RISE"
  | .railsTimeout => "RAILS_TIMEOUT"
  | .pllLock => "PLL_LOCK"
  | .pllLockTimeout => "PLL_LOCK_TIMEOUT"
  | .bistDone _ => "BIST_DONE"
  | .imageLoad _ _ _ _ _ => "IMAGE_LOAD"
  | .islandSelftestDone _ => "ISLAND_SELFTEST_DONE"
  | .enterRun _ => "ENTER_RUN"
  | .cycStart _ => "CYC_START"
  | .halfTick => "HALF"
  | .currentStage => "CURRENT_STAGE"
  | .vbusLow => "VBUS_LOW"
  | .inCut => "IN_CUT"
  | .loopOverrun _ => "LOOP_OVERRUN"
  | .arbTick => "ARB_TICK"
  | .planExhausted _ => "PLAN_EXHAUSTED"
  | .trajEnd => "TRAJ_END"
  | .trajLate _ => "TRAJ_LATE"
  | .snap => "SNAP"
  | .usTick => "US_TICK"
  | .pllLoss _ => "PLL_LOSS"
  | .sramScrubError _ _ => "SRAM_SCRUB_ERROR"
  | .extFault => "EXT_FAULT"
  | .overtemp => "OVERTEMP"
  | .regWrite _ _ _ _ => "REG_WRITE"
  | .bar2Write _ _ _ => "BAR2_WRITE"
  | .eventWriteBack _ _ _ => "EVENT_WRITE_BACK"
  | .counterLoad _ => "COUNTER_LOAD"
  | .guardValueWrite _ _ _ => "GUARD_VALUE_WRITE"
  | .guardTimeout _ => "GUARD_TIMEOUT"
  | .csrParity _ => "CSR_PARITY"
  | .clockRegate _ => "CLOCK_REGATE"
  | .pcieReset _ => "PCIE_RESET"
  | .msixUnmask _ => "MSIX_UNMASK"
  | .mspiWriteFrame _ => "MSPI_WRITE_FRAME"
  | .mspiReadFrame _ => "MSPI_READ_FRAME"
  | .dmaStart _ => "DMA_START"
  | .dmaAbort _ => "DMA_ABORT"
  | .dmaEnd _ _ _ => "DMA_END"
  | .dmaHostTimeout _ _ => "DMA_HOST_TIMEOUT"
  | .tunnelStart => "TUNNEL_START"
  | .tunnelRequest _ _ _ => "TUNNEL_REQUEST"
  | .tunnelResponse _ _ _ => "TUNNEL_RESPONSE"
  | .tunnelTimeout => "TUNNEL_TIMEOUT"
  | .nomTrimWrite _ _ => "NOM_TRIM_WRITE"
  | .syncReceive _ _ _ => "SYNC_RECEIVE"
  | .ppsInEdge _ _ => "PPS_IN_EDGE"
  | .todAlign => "TOD_ALIGN"
  | .ppsLoss _ => "PPS_LOSS"
  | .ppsOutPulse => "PPS_OUT_PULSE"
  | .evModeWrite _ _ => "EV_MODE_WRITE"
  | .evArm _ => "EV_ARM"
  | .evTgtWrite _ _ _ => "EV_TGT_WRITE"
  | .tevFire _ _ => "TEV_FIRE"
  | .trigCapture _ _ _ => "TRIG_CAPTURE"
  | .portModeWrite _ _ => "PORT_MODE_WRITE"
  | .portSignalDetect _ => "PORT_SIGNAL_DETECT"
  | .portSignalLoss _ => "PORT_SIGNAL_LOSS"
  | .portAlign _ _ => "PORT_ALIGN"
  | .alignLoss _ _ => "ALIGN_LOSS"
  | .frameReceive _ _ _ => "FRAME_RECEIVE"
  | .egressSend _ => "EGRESS_SEND"
  | .delayReqSend => "DELAY_REQ_SEND"
  | .delayReqReceive _ _ _ => "DELAY_REQ_RECEIVE"
  | .delayRspReceive _ _ _ => "DELAY_RSP_RECEIVE"
  | .delayRspTimeout _ => "DELAY_RSP_TIMEOUT"
  | .dlyValidLoss _ => "DLY_VALID_LOSS"
  | .helloReceive _ _ _ => "HELLO_RECEIVE"
  | .discoveryStart => "DISCOVERY_START"
  | .probeReceive _ _ _ => "PROBE_RECEIVE"
  | .reportReceive _ _ _ => "REPORT_RECEIVE"
  | .tableReceive _ _ _ => "TABLE_RECEIVE"
  | .commitReceive _ _ _ => "COMMIT_RECEIVE"
  | .discAckReceive _ _ _ => "DISC_ACK_RECEIVE"
  | .discNackReceive _ _ _ => "DISC_NACK_RECEIVE"
  | .discRetryTimeout => "DISC_RETRY_TIMEOUT"
  | .discoveryRepeat => "DISCOVERY_REPEAT"
  | .prbsChkEnable _ => "PRBS_CHK_ENABLE"
  | .prbsInj _ => "PRBS_INJ"
  | .injCode _ => "INJ_CODE"
  | .injCrc _ => "INJ_CRC"
  | .prbsLock _ => "PRBS_LOCK"
  | .prbsLockLoss _ _ _ => "PRBS_LOCK_LOSS"
  | .enterListen => "ENTER_LISTEN"
  | .listenTimerExpire => "LISTEN_TIMER_EXPIRE"
  | .dawnReceive _ _ _ => "DAWN_RECEIVE"
  | .dawnWaitTimeout => "DAWN_WAIT_TIMEOUT"
  | .dawnWindowEnd => "DAWN_WINDOW_END"
  | .noSyncTimeout => "NO_SYNC_TIMEOUT"
  | .integrationTimeout => "INTEGRATION_TIMEOUT"
  | .holdMaxSilence => "HOLD_MAX_SILENCE"
  | .zenithSuccession => "ZENITH_SUCCESSION"
  | .slotTx _ => "SLOT_TX"
  | .windowClose _ => "WINDOW_CLOSE"
  | .ageFault _ => "AGE_FAULT"
  | .echoReceive _ _ _ => "ECHO_RECEIVE"
  | .modePropose _ _ => "MODE_PROPOSE"
  | .quadTransition _ _ _ _ => "QUAD_TRANSITION"
  | .quadFault _ => "QUAD_FAULT"
  | .zEdge _ => "Z_EDGE"
  | .stepInputEdge _ _ _ => "STEP_INPUT_EDGE"
  | .standstillTimeout _ _ => "STANDSTILL_TIMEOUT"
  | .encWordDone _ _ => "ENC_WORD_DONE"
  | .encFault _ => "ENC_FAULT"
  | .encStandstill _ _ => "ENC_STANDSTILL"
  | .divOutputStep _ _ => "DIV_OUTPUT_STEP"
  | .divCtlWrite _ _ => "DIV_CTL_WRITE"
  | .divRatioWrite _ _ => "DIV_RATIO_WRITE"
  | .rseqTrigger _ _ => "RSEQ_TRIGGER"
  | .conversionDone _ _ => "CONVERSION_DONE"
  | .cmpEvent _ _ => "CMP_EVENT"
  | .adcCal _ => "ADC_CAL"
  | .calStart _ => "CAL_START"
  | .calStepEnd _ => "CAL_STEP_END"
  | .calDone _ _ => "CAL_DONE"
  | .calWaitTimeout _ => "CAL_WAIT_TIMEOUT"
  | .bgWindowEnd _ _ _ => "BG_WINDOW_END"
  | .bgTrimUpdate _ _ => "BG_TRIM_UPDATE"
  | .trajNop _ _ _ => "TRAJ_NOP"
  | .moveAbs _ _ _ => "MOVE_ABS"
  | .moveRel _ _ _ => "MOVE_REL"
  | .jogPos _ _ _ => "JOG_POS"
  | .jogNeg _ _ _ => "JOG_NEG"
  | .axisStop _ _ _ => "STOP"
  | .axisResume _ _ _ => "RESUME"
  | .axisLimits _ _ _ => "LIMITS"
  | .gearEngage _ _ _ => "GEAR_ENGAGE"
  | .gearChange _ _ _ => "GEAR_CHANGE"
  | .gearOff _ _ _ => "GEAR_OFF"
  | .setPos _ _ _ => "SET_POS"
  | .pathOn _ => "PATH_ON"
  | .pathOff _ => "PATH_OFF"
  | .groupStop _ => "GROUP_STOP"
  | .groupResume _ => "GROUP_RESUME"
  | .stepEmit _ _ => "STEP_EMIT"
  | .energise _ => "ENERGISE"
  | .deenergise _ => "DEENERGISE"
  | .bootEnd _ => "BOOT_END"
  | .compTimeout _ => "COMP_TIMEOUT"
  | .angOfsWrite _ _ _ => "ANG_OFS_WRITE"
  | .tripInput _ _ => "TRIP_INPUT"
  | .tripClr _ => "TRIP_CLR"
  | .feedbackReceive _ _ _ => "FEEDBACK_RECEIVE"
  | .solvPublish _ => "PUBLISH"
  | .solvCold _ => "COLD"
  | .solveStart => "SOLVE_START"
  | .factorDone => "FACTOR_DONE"
  | .iterationDone => "ITERATION_DONE"
  | .checkDone => "CHECK_DONE"
  | .outputDone => "OUTPUT_DONE"
  | .solvDeadline _ => "SOLV_DEADLINE"
  | .solvFrameReceive _ _ _ => "SOLV_FRAME_RECEIVE"
  | .arbReserve _ _ => "RESERVE"
  | .arbExtend _ _ => "EXTEND"
  | .arbRelease _ _ => "RELEASE"
  | .arbRevoke _ _ => "ARB_REVOKE"
  | .arbFrameReceive _ _ _ => "ARB_FRAME_RECEIVE"
  | .reservationExpire => "RESERVATION_EXPIRE"
  | .arbRetryTimeout _ _ => "ARB_RETRY_TIMEOUT"
  | .restoreEnd => "RESTORE_END"
  | .spNop _ => "NOP"
  | .spAdd _ _ _ _ => "ADD"
  | .spSub _ _ _ _ => "SUB"
  | .spAnd _ _ _ _ => "AND"
  | .spOr _ _ _ _ => "OR"
  | .spXor _ _ _ _ => "XOR"
  | .spAsh _ _ _ _ => "ASH"
  | .spLsh _ _ _ _ => "LSH"
  | .spMul _ _ _ _ => "MUL"
  | .spMulh _ _ _ _ => "MULH"
  | .spMin _ _ _ _ => "MIN"
  | .spMax _ _ _ _ => "MAX"
  | .spAbs _ _ _ => "ABS"
  | .spNeg _ _ _ => "NEG"
  | .spCmp _ _ _ => "CMP"
  | .spMov _ _ _ => "MOV"
  | .spMfc _ _ _ => "MFC"
  | .spMtc _ _ _ => "MTC"
  | .spExa _ _ _ _ => "EXA"
  | .spLda _ _ _ _ => "LDA"
  | .spClra _ _ => "CLRA"
  | .spNorm _ _ _ => "NORM"
  | .spAdda _ _ _ => "ADDA"
  | .spAddi _ _ _ _ => "ADDI"
  | .spAndi _ _ _ _ => "ANDI"
  | .spOri _ _ _ _ => "ORI"
  | .spXori _ _ _ _ => "XORI"
  | .spMovi _ _ _ => "MOVI"
  | .spMovhi _ _ _ => "MOVHI"
  | .spAshi _ _ _ _ => "ASHI"
  | .spLshi _ _ _ _ => "LSHI"
  | .spLd _ _ _ _ => "LD"
  | .spSt _ _ _ _ => "ST"
  | .spLdg _ _ _ _ => "LDG"
  | .spStg _ _ _ _ => "STG"
  | .spCmpi _ _ _ => "CMPI"
  | .spModa _ _ _ => "MODA"
  | .spJ _ _ => "J"
  | .spJc _ _ _ => "JC"
  | .spCall _ _ => "CALL"
  | .spRet _ => "RET"
  | .spJr _ _ => "JR"
  | .spLoopi _ _ _ => "LOOPI"
  | .spLoop _ _ _ => "LOOP"
  | .spEndl _ => "ENDL"
  | .spGettask _ _ => "GETTASK"
  | .spTdone _ _ _ => "TDONE"
  | .spTpost _ _ _ => "TPOST"
  | .spRfe _ => "RFE"
  | .spSync _ => "SYNC"
  | .spBset _ _ => "BSET"
  | .spBclr _ _ => "BCLR"
  | .spMpy _ _ _ _ _ _ => "MPY"
  | .spMac _ _ _ _ _ _ => "MAC"
  | .spMsu _ _ _ _ _ _ => "MSU"
  | .spMovp _ _ _ => "MOVP"
  | .spTap _ _ _ _ => "TAP"
  | .spMacm _ _ _ _ => "MACM"
  | .spClrm _ _ _ _ => "CLRM"
  | .eventTake _ => "EVENT_TAKE"
  | .taskHandover _ _ => "TASK_HANDOVER"
  | .spHalt _ => "SP_HALT"
  | .spResume _ => "SP_RESUME"
  | .spStep _ => "SP_STEP"
  | .doorRing _ => "DOOR_RING"
  | .schedPost _ _ _ => "SCHED_POST"
  | .schedDpost _ _ => "SCHED_DPOST"
  | .delayDue _ => "DELAY_DUE"
  | .periodDue _ => "PERIOD_DUE"
  | .affinityExpire _ => "AFFINITY_EXPIRE"
  | .mailboxWrite _ _ _ => "MAILBOX_WRITE"
  | .contrailReset => "CONTRAIL_RESET"
  | .safeEvaluation => "SAFE_EVALUATION"
  | .discFault _ => "DISC_FAULT"
  | .stopTExpire _ => "STOP_T_EXPIRE"
  | .offPulse _ => "OFF_PULSE"
  | .xlink => "XLINK"
  | .cmdMismatch => "CMD_MISMATCH"
  | .safeSupply => "SUPPLY"
  | .safeClock _ => "CLOCK"
  | .periodicTest _ => "PERIODIC_TEST"
  | .safeBind _ _ => "SAFE_BIND"
  | .safeBindDone _ => "SAFE_BIND_DONE"
  | .ssmResult => "SSM_RESULT"
  | .pstopEnd _ => "PSTOP_END"
  | .safeMsgReceive _ _ _ => "SAFE_MSG_RECEIVE"
  | .smsgWd _ => "SMSG_WD"
  | .redListenEnd => "RED_LISTEN_END"
  | .stateFrameReceive _ _ => "STATE_FRAME_RECEIVE"
  | .bulkFrameReceive _ _ => "BULK_FRAME_RECEIVE"
  | .redHelloReceive _ _ => "RED_HELLO_RECEIVE"
  | .redWatchdog => "RED_WATCHDOG"
  | .relinquishReceive _ _ => "RELINQUISH_RECEIVE"
  | .takeover => "TAKEOVER"
  | .redRelease _ => "RED_RELEASE"
  | .redDrill _ => "DRILL"
  | .drillFrameReceive _ _ => "DRILL_FRAME_RECEIVE"
  | .pwrReq _ _ => "PWR_REQ"
  | .pwrFabReq _ _ => "PWR_FAB_REQ"
  | .quiesceEnd => "QUIESCE_END"
  | .quiesceTimeout => "QUIESCE_TIMEOUT"
  | .entryDone => "ENTRY_DONE"
  | .exitDone => "EXIT_DONE"
  | .wakeInput _ => "WAKE_INPUT"
  | .pwrPerf _ _ _ => "PWR_PERF"
  | .solvDividerChange _ => "SOLV_DIVIDER_CHANGE"
  | .statusPoll _ => "STATUS_POLL"
  | .voutTimeout => "VOUT_TIMEOUT"
  | .pgoodLoss => "PGOOD_LOSS"
  | .pmbAlert _ => "PMB_ALERT"
  | .pmbusPoll _ _ _ => "PMBUS_POLL"
  | .companionLoadStart => "COMPANION_LOAD_START"
  | .comploadAckReceive _ _ _ => "COMPLOAD_ACK_RECEIVE"
  | .comploadNackReceive _ _ _ => "COMPLOAD_NACK_RECEIVE"
  | .comploadReadyReceive _ _ _ => "COMPLOAD_READY_RECEIVE"
  | .comploadAckTimeout => "COMPLOAD_ACK_TIMEOUT"
  | .readyTimeout => "READY_TIMEOUT"
  | .updWinWrite _ _ _ _ => "UPD_WIN_WRITE"
  | .updOpen _ _ => "OPEN"
  | .updProgram _ _ _ => "PROGRAM"
  | .updCommit _ _ => "COMMIT"
  | .updAbort _ _ => "UPD_ABORT"
  | .updRetain _ _ _ => "RETAIN"
  | .updWorkDone _ => "UPD_WORK_DONE"
  | .updIdleExpire => "UPD_IDLE_EXPIRE"
  | .patchSelWrite _ => "PATCH_SEL_WRITE"
  | .patchIdxWrite _ => "PATCH_IDX_WRITE"
  | .patchDataWrite _ => "PATCH_DATA_WRITE"
  | .patchApply => "APPLY"
  | .patchAbort => "PATCH_ABORT"
  | .tapReset => "TAP_RESET"
  | .jtagExtest => "EXTEST"
  | .jtagSamplePreload => "SAMPLE_PRELOAD"
  | .jtagIdcode => "IDCODE"
  | .jtagHighz => "HIGHZ"
  | .jtagClamp => "CLAMP"
  | .jtagExtestPulse => "EXTEST_PULSE"
  | .jtagExtestTrain => "EXTEST_TRAIN"
  | .jtagBypass => "BYPASS"
  | .pwmValley _ => "PWM_VALLEY"
  | .regRead _ _ _ => "REG_READ"
  | .bar2Read _ => "BAR2_READ"
  | .pcieConfigWrite _ => "PCIE_CONFIG_WRITE"
  | .illegalOpcode _ => "ILLEGAL_OPCODE"
  | .globalStoreEffect _ => "GLOBAL_STORE_EFFECT"
  | .faultNNetHigh => "FAULT_N_NET_HIGH"
  | .safeClockRestored => "SAFE_CLOCK_RESTORED"
  | .inputSample _ _ _ => "INPUT_SAMPLE"
  | .railsRetry => "RAILS_RETRY"

end Sys2Proof
end

