-- ==== Sys2Proof/Machine/RegMap.lean ====
section
/-! DEFINITION. The register map: one row for each register table of chapters 1 to 20 (block bases: 03 Table 3.10).
A row gives the BAR0 offset of the first copy, the copies as (count, stride) from the outermost dimension, the bits of each access kind (03 R76 to R83) and the reset value. -/
namespace Sys2Proof.Machine

/-- One register (or an array of like registers) of BAR0. Bits in none of the masks are RO or RL. -/
structure RegRow where
  name : String
  off : Nat
  dims : List (Nat × Nat)
  /-- RW bits -/
  rw : Nat
  /-- RWS bits: software sets, hardware clears -/
  rws : Nat
  /-- RG bits: written only through the guarded pair -/
  rg : Nat
  /-- WO bits: read 0 -/
  wo : Nat
  /-- RC bits: an event register is cleared by writing back SEQ -/
  rc : Nat
  /-- counter bits (03 R82) -/
  cnt : Nat
  /-- value after reset -/
  reset : Nat
  deriving DecidableEq, Repr

/-- Rows 0 of the register map. -/
def regRows0 : List RegRow := [
  ⟨"SYS_ID", 0x0, [], 0x0, 0x0, 0x0, 0x0, 0x0, 0x0, 0x9600000⟩,
  ⟨"SYS_ID_STEP", 0x4, [], 0x0, 0x0, 0x0, 0x0, 0x0, 0x0, 0x4201⟩,
  ⟨"SYS_BUSERR_LOG", 0x10, [], 0x0, 0x0, 0x0, 0x0, 0xFF000001, 0x0, 0x0⟩,
  ⟨"SYS_BUSERR_ADDR", 0x14, [], 0x0, 0x0, 0x0, 0x0, 0x0, 0x0, 0x0⟩,
  ⟨"SYS_BUSERR_CNT", 0x18, [], 0x0, 0x0, 0x0, 0x0, 0x0, 0xFFFFFFFF, 0x0⟩,
  ⟨"SYS_GUARD_LOG", 0x20, [], 0x0, 0x0, 0x0, 0x0, 0xFF000001, 0x0, 0x0⟩,
  ⟨"SYS_GUARD_ADDR", 0x24, [], 0x0, 0x0, 0x0, 0x0, 0x0, 0x0, 0x0⟩,
  ⟨"SYS_GUARD_CNT", 0x28, [], 0x0, 0x0, 0x0, 0x0, 0x0, 0xFFFFFFFF, 0x0⟩,
  ⟨"SYS_PARITY_LOG", 0x30, [], 0x0, 0x0, 0x0, 0x0, 0xFF000001, 0x0, 0x0⟩,
  ⟨"SYS_PARITY_ADDR", 0x34, [], 0x0, 0x0, 0x0, 0x0, 0x0, 0x0, 0x0⟩,
  ⟨"SYS_PARITY_CNT", 0x38, [], 0x0, 0x0, 0x0, 0x0, 0x0, 0xFFFFFFFF, 0x0⟩,
  ⟨"SYS_CNT_SEL", 0x40, [], 0x3FFFFFC, 0x0, 0x0, 0x0, 0x0, 0x0, 0x0⟩,
  ⟨"SYS_CNT_VAL", 0x44, [], 0xFFFFFFFF, 0x0, 0x0, 0x0, 0x0, 0x0, 0x0⟩,
  ⟨"SYS_CNT_CMD", 0x48, [], 0x0, 0x1, 0x0, 0x0, 0x0, 0x0, 0x0⟩,
  ⟨"SYS_MSPI_ERR", 0x50, [], 0x0, 0x0, 0x0, 0x0, 0x0, 0xFFFFFFFF, 0x0⟩,
  ⟨"SYS_FAULT_LVL", 0x100, [], 0x0, 0x0, 0x0, 0x0, 0x0, 0x0, 0x20⟩,
  ⟨"SYS_FAULT_EVT", 0x104, [], 0x0, 0x0, 0x0, 0x0, 0xFF00008F, 0x0, 0x0⟩,
  ⟨"SYS_FAULTN_CFG", 0x108, [], 0xF, 0x0, 0x0, 0x0, 0x0, 0x0, 0x0⟩,
  ⟨"SYS_DMA_HOST_LO", 0x400, [(8, 0x20)], 0xFFFFFFFF, 0x0, 0x0, 0x0, 0x0, 0x0, 0x0⟩,
  ⟨"SYS_DMA_HOST_HI", 0x404, [(8, 0x20)], 0xFFFFFFFF, 0x0, 0x0, 0x0, 0x0, 0x0, 0x0⟩,
  ⟨"SYS_DMA_SRAM", 0x408, [(8, 0x20)], 0xFFFFFFFF, 0x0, 0x0, 0x0, 0x0, 0x0, 0x0⟩,
  ⟨"SYS_DMA_LEN", 0x40C, [(8, 0x20)], 0xFFFFFFFF, 0x0, 0x0, 0x0, 0x0, 0x0, 0x0⟩,
  ⟨"SYS_DMA_CTL", 0x410, [(8, 0x20)], 0x4, 0x3, 0x0, 0x0, 0x0, 0x0, 0x0⟩,
  ⟨"SYS_DMA_STS", 0x414, [(8, 0x20)], 0x0, 0x0, 0x0, 0x0, 0xFF000001, 0x0, 0x0⟩,
  ⟨"SYS_TUN_CTL", 0x600, [], 0x1FFF, 0x0, 0x0, 0x0, 0x0, 0x0, 0x0⟩,
  ⟨"SYS_TUN_ADDR", 0x604, [], 0xFFFFFFFF, 0x0, 0x0, 0x0, 0x0, 0x0, 0x0⟩,
  ⟨"SYS_TUN_CMD", 0x608, [], 0x0, 0x1, 0x0, 0x0, 0x0, 0x0, 0x0⟩,
  ⟨"SYS_TUN_STS", 0x60C, [], 0x0, 0x0, 0x0, 0x0, 0xFF000001, 0x0, 0xFF00⟩,
  ⟨"SYS_TUN_WNODES", 0x610, [], 0x0, 0x0, 0x0, 0x0, 0x0, 0x0, 0x0⟩,
  ⟨"SYS_TUN_CNT", 0x614, [], 0x0, 0x0, 0x0, 0x0, 0x0, 0xFFFFFFFF, 0x0⟩]

/-- Rows 1 of the register map. -/
def regRows1 : List RegRow := [
  ⟨"SYS_TUN_WMASK", 0x618, [], 0x0, 0x0, 0x0, 0x0, 0x0, 0x0, 0x0⟩,
  ⟨"SYS_TUN_DATA", 0x700, [(60, 0x4)], 0xFFFFFFFF, 0x0, 0x0, 0x0, 0x0, 0x0, 0x0⟩,
  ⟨"PWR_REQ", 0x100000, [], 0x0, 0x0, 0xFFFFFFFF, 0x0, 0x0, 0x0, 0x0⟩,
  ⟨"PWR_PERF", 0x100008, [], 0x0, 0x0, 0xFFFFFFFF, 0x0, 0x0, 0x0, 0x0⟩,
  ⟨"PWR_FAB_REQ", 0x100010, [], 0x0, 0x0, 0xFFFFFFFF, 0x0, 0x0, 0x0, 0x0⟩,
  ⟨"PWR_WAKE", 0x100018, [], 0x300FF, 0x0, 0x0, 0x0, 0x0, 0x0, 0x30000⟩,
  ⟨"PWR_STS", 0x100020, [], 0x0, 0x0, 0x0, 0x0, 0x0, 0x0, 0x0⟩,
  ⟨"PWR_EVT", 0x100024, [], 0x0, 0x0, 0x0, 0x0, 0xFF0003FF, 0x0, 0x0⟩,
  ⟨"PWR_REFUSE_CNT", 0x100028, [], 0x0, 0x0, 0x0, 0x0, 0x0, 0xFFFFFFFF, 0x0⟩,
  ⟨"PWR_LAST_REFUSER", 0x10002C, [], 0x0, 0x0, 0x0, 0x0, 0x0, 0x0, 0x0⟩,
  ⟨"PWR_PMB_STS", 0x100030, [], 0x0, 0x0, 0x0, 0x0, 0x0, 0xFF, 0x0⟩,
  ⟨"PWR_PMB_MEAS", 0x100034, [], 0x0, 0x0, 0x0, 0x0, 0x0, 0x0, 0x0⟩,
  ⟨"PWR_HOLD", 0x100038, [], 0x0, 0x0, 0x0, 0x0, 0x0, 0x0, 0x0⟩,
  ⟨"PWR_NV_CNT", 0x10003C, [], 0x0, 0x0, 0x0, 0x0, 0x0, 0xFFFFFFFF, 0x0⟩,
  ⟨"PWR_QUIESCE", 0x100040, [], 0x0, 0x0, 0x0, 0x0, 0x0, 0x0, 0x3E8⟩,
  ⟨"PWR_HOLD_CFG", 0x100044, [], 0x0, 0x0, 0x0, 0x0, 0x0, 0x0, 0x384⟩,
  ⟨"PWR_ENEED0", 0x100048, [], 0x0, 0x0, 0x0, 0x0, 0x0, 0x0, 0xEA60⟩,
  ⟨"PWR_ENEED1", 0x10004C, [], 0x0, 0x0, 0x0, 0x0, 0x0, 0x0, 0x1F4⟩,
  ⟨"PWR_ENEED2", 0x100050, [], 0x0, 0x0, 0x0, 0x0, 0x0, 0x0, 0xFA0⟩,
  ⟨"PWR_ENEED3", 0x100054, [], 0x0, 0x0, 0x0, 0x0, 0x0, 0x0, 0x7D0⟩,
  ⟨"PWR_PMB_CFG", 0x100058, [], 0x0, 0x0, 0x0, 0x0, 0x0, 0x0, 0x141440⟩,
  ⟨"CLK_STS", 0x100100, [], 0x0, 0x0, 0x0, 0x0, 0x0, 0x0, 0x0⟩,
  ⟨"TIME_NOW_LO", 0x200000, [], 0x0, 0x0, 0x0, 0x0, 0x0, 0x0, 0x0⟩,
  ⟨"TIME_NOW_HI", 0x200004, [], 0x0, 0x0, 0x0, 0x0, 0x0, 0x0, 0x0⟩,
  ⟨"TIME_NOW_FRAC", 0x200008, [], 0x0, 0x0, 0x0, 0x0, 0x0, 0x0, 0x0⟩,
  ⟨"TIME_INC_NOM", 0x200010, [], 0x0, 0x0, 0xFFFFFFFF, 0x0, 0x0, 0x0, 0x0⟩,
  ⟨"TIME_INC_ACT_LO", 0x200018, [], 0x0, 0x0, 0x0, 0x0, 0x0, 0x0, 0x0⟩,
  ⟨"TIME_INC_ACT_HI", 0x20001C, [], 0x0, 0x0, 0x0, 0x0, 0x0, 0x0, 0x5⟩,
  ⟨"TIME_SERVO_GAIN", 0x200020, [], 0xFFFFFFFF, 0x0, 0x0, 0x0, 0x0, 0x0, 0xAC000B00⟩,
  ⟨"TIME_PPS_GAIN", 0x200024, [], 0xFFFFFFFF, 0x0, 0x0, 0x0, 0x0, 0x0, 0x1600016⟩]

/-- Rows 2 of the register map. -/
def regRows2 : List RegRow := [
  ⟨"TIME_TRIM_MAX", 0x200028, [], 0xFFFFFFF, 0x0, 0x0, 0x0, 0x0, 0x0, 0x8418937⟩,
  ⟨"TIME_OUTLIER_THR", 0x20002C, [], 0xFFFF, 0x0, 0x0, 0x0, 0x0, 0x0, 0x3E8⟩,
  ⟨"TIME_SERVO_STS", 0x200030, [], 0x0, 0x0, 0x0, 0x0, 0x0, 0x0, 0x0⟩,
  ⟨"TIME_OFFSET", 0x200034, [], 0x0, 0x0, 0x0, 0x0, 0x0, 0x0, 0x0⟩,
  ⟨"TIME_SERVO_EVT", 0x200038, [], 0x0, 0x0, 0x0, 0x0, 0xFF00007F, 0x0, 0x0⟩,
  ⟨"TIME_SERVO_CNT", 0x20003C, [], 0x0, 0x0, 0x0, 0x0, 0x0, 0xFFFFFFFF, 0x0⟩,
  ⟨"TIME_ASYM", 0x200040, [(8, 0x4)], 0xFFFFFFFF, 0x0, 0x0, 0x0, 0x0, 0x0, 0x0⟩,
  ⟨"TIME_TOD_SEC_LO", 0x200060, [], 0xFFFFFFFF, 0x0, 0x0, 0x0, 0x0, 0x0, 0x0⟩,
  ⟨"TIME_TOD_SEC_HI", 0x200064, [], 0xFFFFFFFF, 0x0, 0x0, 0x0, 0x0, 0x0, 0x0⟩,
  ⟨"TIME_TOD_OFFSET_LO", 0x200068, [], 0x0, 0x0, 0x0, 0x0, 0x0, 0x0, 0x0⟩,
  ⟨"TIME_TOD_OFFSET_HI", 0x20006C, [], 0x0, 0x0, 0x0, 0x0, 0x0, 0x0, 0x0⟩,
  ⟨"TIME_PPS_CTL", 0x200070, [], 0x3FFFF1D, 0x2, 0x0, 0x0, 0x0, 0x0, 0x6400⟩,
  ⟨"TIME_PPS_CAP_LO", 0x200074, [], 0x0, 0x0, 0x0, 0x0, 0x0, 0x0, 0x0⟩,
  ⟨"TIME_PPS_CAP_HI", 0x200078, [], 0x0, 0x0, 0x0, 0x0, 0x0, 0x0, 0x0⟩,
  ⟨"TIME_EV_TGT_LO", 0x200100, [(8, 0x20)], 0xFFFFFFFF, 0x0, 0x0, 0x0, 0x0, 0x0, 0x0⟩,
  ⟨"TIME_EV_TGT_HI", 0x200104, [(8, 0x20)], 0xFFFFFFFF, 0x0, 0x0, 0x0, 0x0, 0x0, 0x0⟩,
  ⟨"TIME_EV_CYC", 0x200108, [(8, 0x20)], 0xFFFFFF, 0x0, 0x0, 0x0, 0x0, 0x0, 0x10000⟩,
  ⟨"TIME_EV_CTL", 0x20010C, [(8, 0x20)], 0x3FF1B, 0x4, 0x0, 0x0, 0x0, 0x0, 0x10400⟩,
  ⟨"TIME_EV_STS", 0x200110, [(8, 0x20)], 0x0, 0x0, 0x0, 0x0, 0xFF00000F, 0x0, 0x0⟩,
  ⟨"TIME_EV_CAP_LO", 0x200114, [(8, 0x20)], 0x0, 0x0, 0x0, 0x0, 0x0, 0x0, 0x0⟩,
  ⟨"TIME_EV_CAP_HI", 0x200118, [(8, 0x20)], 0x0, 0x0, 0x0, 0x0, 0x0, 0x0, 0x0⟩,
  ⟨"LINK_STS", 0x300000, [], 0x0, 0x0, 0x0, 0x0, 0x0, 0x0, 0x0⟩,
  ⟨"LINK_DISC_EVT", 0x300004, [], 0x0, 0x0, 0x0, 0x0, 0xFF00000F, 0x0, 0x0⟩,
  ⟨"LINK_NODISJ", 0x300008, [], 0x0, 0x0, 0x0, 0x0, 0x0, 0x0, 0x0⟩,
  ⟨"LINK_RTA", 0x300100, [(32, 0x4)], 0x0, 0x0, 0x0, 0x0, 0x0, 0x0, 0xF⟩,
  ⟨"LINK_RTB", 0x300200, [(128, 0x4)], 0x0, 0x0, 0x0, 0x0, 0x0, 0x0, 0xFFFFFFFF⟩,
  ⟨"LINK_SCHED_STS", 0x300400, [], 0x0, 0x0, 0x0, 0x0, 0x0, 0x0, 0x0⟩,
  ⟨"LINK_LIVE", 0x300404, [], 0x0, 0x0, 0x0, 0x0, 0x0, 0x0, 0x0⟩,
  ⟨"LINK_SCHED_EVT", 0x300408, [], 0x0, 0x0, 0x0, 0x0, 0xFF0007FF, 0x0, 0x0⟩,
  ⟨"LINK_TABLE_ERR", 0x30040C, [], 0x0, 0x0, 0x0, 0x0, 0x0, 0x0, 0x0⟩]

/-- Rows 3 of the register map. -/
def regRows3 : List RegRow := [
  ⟨"LINK_MODE_REQ", 0x300410, [], 0x0, 0x0, 0xFFFFFFFF, 0x0, 0x0, 0x0, 0x0⟩,
  ⟨"LINK_MODE_CYC", 0x300418, [], 0xFFFFFFFF, 0x0, 0x0, 0x0, 0x0, 0x0, 0x0⟩,
  ⟨"LINK_MODE_STS", 0x30041C, [], 0x0, 0x0, 0x0, 0x0, 0x0, 0x0, 0x0⟩,
  ⟨"LINK_MODE_ACC", 0x300420, [], 0x0, 0x0, 0x0, 0x0, 0x0, 0x0, 0x0⟩,
  ⟨"LINK_MODE_EXP", 0x300424, [], 0x0, 0x0, 0x0, 0x0, 0x0, 0x0, 0x0⟩,
  ⟨"LINK_SCHED_CNT0", 0x300428, [], 0x0, 0x0, 0x0, 0x0, 0x0, 0xFFFFFFFF, 0x0⟩,
  ⟨"LINK_SCHED_CNT1", 0x30042C, [], 0x0, 0x0, 0x0, 0x0, 0x0, 0xFFFFFFFF, 0x0⟩,
  ⟨"LINK_SCHED_CNT2", 0x300430, [], 0x0, 0x0, 0x0, 0x0, 0x0, 0xFFFFFFFF, 0x0⟩,
  ⟨"LINK_PORT_CTL", 0x301000, [(8, 0x40)], 0xFE3, 0x18, 0x0, 0x0, 0x0, 0x0, 0x6C1⟩,
  ⟨"LINK_PORT_STS", 0x301004, [(8, 0x40)], 0x0, 0x0, 0x0, 0x0, 0x0, 0x0, 0xFF000000⟩,
  ⟨"LINK_PORT_EVT", 0x301008, [(8, 0x40)], 0x0, 0x0, 0x0, 0x0, 0xFF00007F, 0x0, 0x0⟩,
  ⟨"LINK_PORT_DLY", 0x30100C, [(8, 0x40)], 0x0, 0x0, 0x0, 0x0, 0x0, 0x0, 0x0⟩,
  ⟨"LINK_PORT_CNT0", 0x301010, [(8, 0x40)], 0x0, 0x0, 0x0, 0x0, 0x0, 0xFFFFFFFF, 0x0⟩,
  ⟨"LINK_PORT_CNT1", 0x301014, [(8, 0x40)], 0x0, 0x0, 0x0, 0x0, 0x0, 0xFFFFFFFF, 0x0⟩,
  ⟨"LINK_PORT_CNT2", 0x301018, [(8, 0x40)], 0x0, 0x0, 0x0, 0x0, 0x0, 0xFFFFFFFF, 0x0⟩,
  ⟨"LINK_PORT_CNT3", 0x30101C, [(8, 0x40)], 0x0, 0x0, 0x0, 0x0, 0x0, 0xFFFFFFFF, 0x0⟩,
  ⟨"LINK_PORT_CNT4", 0x301020, [(8, 0x40)], 0x0, 0x0, 0x0, 0x0, 0x0, 0xFFFF0000, 0x0⟩,
  ⟨"LINK_PRBS_CTL", 0x302000, [(10, 0x20)], 0x7C, 0x80, 0x0, 0x0, 0x0, 0x0, 0x20⟩,
  ⟨"LINK_PRBS_STS", 0x302004, [(10, 0x20)], 0x0, 0x0, 0x0, 0x0, 0xFF000003, 0x0, 0x0⟩,
  ⟨"LINK_PRBS_ERR", 0x302008, [(10, 0x20)], 0x0, 0x0, 0x0, 0x0, 0x0, 0xFFFFFFFF, 0x0⟩,
  ⟨"LINK_PRBS_BITS_LO", 0x30200C, [(10, 0x20)], 0x0, 0x0, 0x0, 0x0, 0x0, 0xFFFFFFFF, 0x0⟩,
  ⟨"LINK_PRBS_BITS_HI", 0x302010, [(10, 0x20)], 0x0, 0x0, 0x0, 0x0, 0x0, 0xFFFFFFFF, 0x0⟩,
  ⟨"LINK_STRM", 0x303000, [(256, 0x4)], 0x0, 0x0, 0x0, 0x0, 0x0, 0x0, 0x0⟩,
  ⟨"TRAJ_AX_TGT_LO", 0x400000, [(128, 0x40)], 0xFFFFFFFF, 0x0, 0x0, 0x0, 0x0, 0x0, 0x0⟩,
  ⟨"TRAJ_AX_TGT_HI", 0x400004, [(128, 0x40)], 0xFFFFFFFF, 0x0, 0x0, 0x0, 0x0, 0x0, 0x0⟩,
  ⟨"TRAJ_AX_VEL_LO", 0x400008, [(128, 0x40)], 0xFFFFFFFF, 0x0, 0x0, 0x0, 0x0, 0x0, 0x0⟩,
  ⟨"TRAJ_AX_VEL_HI", 0x40000C, [(128, 0x40)], 0xFFFFFFFF, 0x0, 0x0, 0x0, 0x0, 0x0, 0x0⟩,
  ⟨"TRAJ_AX_ACC_LO", 0x400010, [(128, 0x40)], 0xFFFFFFFF, 0x0, 0x0, 0x0, 0x0, 0x0, 0x0⟩,
  ⟨"TRAJ_AX_ACC_HI", 0x400014, [(128, 0x40)], 0xFFFFFFFF, 0x0, 0x0, 0x0, 0x0, 0x0, 0x0⟩,
  ⟨"TRAJ_AX_DEC_LO", 0x400018, [(128, 0x40)], 0xFFFFFFFF, 0x0, 0x0, 0x0, 0x0, 0x0, 0x0⟩]

/-- Rows 4 of the register map. -/
def regRows4 : List RegRow := [
  ⟨"TRAJ_AX_DEC_HI", 0x40001C, [(128, 0x40)], 0xFFFFFFFF, 0x0, 0x0, 0x0, 0x0, 0x0, 0x0⟩,
  ⟨"TRAJ_AX_JERK_LO", 0x400020, [(128, 0x40)], 0xFFFFFFFF, 0x0, 0x0, 0x0, 0x0, 0x0, 0x0⟩,
  ⟨"TRAJ_AX_JERK_HI", 0x400024, [(128, 0x40)], 0xFFFFFFFF, 0x0, 0x0, 0x0, 0x0, 0x0, 0x0⟩,
  ⟨"TRAJ_AX_CMD", 0x400028, [(128, 0x40)], 0x0, 0x0, 0xFFFFFFFF, 0x0, 0x0, 0x0, 0x0⟩,
  ⟨"TRAJ_AX_EVT", 0x400030, [(128, 0x40)], 0x0, 0x0, 0x0, 0x0, 0xFF0001FF, 0x0, 0x0⟩,
  ⟨"TRAJ_AX_STS", 0x400034, [(128, 0x40)], 0x0, 0x0, 0x0, 0x0, 0x0, 0x0, 0x0⟩,
  ⟨"TRAJ_AX_REMAIN_LO", 0x400038, [(128, 0x40)], 0x0, 0x0, 0x0, 0x0, 0x0, 0x0, 0x0⟩,
  ⟨"TRAJ_AX_REMAIN_HI", 0x40003C, [(128, 0x40)], 0x0, 0x0, 0x0, 0x0, 0x0, 0x0, 0x0⟩,
  ⟨"TRAJ_ST_POS_LO", 0x402000, [(128, 0x20)], 0x0, 0x0, 0x0, 0x0, 0x0, 0x0, 0x0⟩,
  ⟨"TRAJ_ST_POS_HI", 0x402004, [(128, 0x20)], 0x0, 0x0, 0x0, 0x0, 0x0, 0x0, 0x0⟩,
  ⟨"TRAJ_ST_VEL_LO", 0x402008, [(128, 0x20)], 0x0, 0x0, 0x0, 0x0, 0x0, 0x0, 0x0⟩,
  ⟨"TRAJ_ST_VEL_HI", 0x40200C, [(128, 0x20)], 0x0, 0x0, 0x0, 0x0, 0x0, 0x0, 0x0⟩,
  ⟨"TRAJ_ST_ACC_LO", 0x402010, [(128, 0x20)], 0x0, 0x0, 0x0, 0x0, 0x0, 0x0, 0x0⟩,
  ⟨"TRAJ_ST_ACC_HI", 0x402014, [(128, 0x20)], 0x0, 0x0, 0x0, 0x0, 0x0, 0x0, 0x0⟩,
  ⟨"TRAJ_ST_TLEFT", 0x402018, [(128, 0x20)], 0x0, 0x0, 0x0, 0x0, 0x0, 0x0, 0x0⟩,
  ⟨"TRAJ_GEAR_NUM", 0x403000, [(128, 0x20)], 0xFFFFFFFF, 0x0, 0x0, 0x0, 0x0, 0x0, 0x0⟩,
  ⟨"TRAJ_GEAR_DEN", 0x403004, [(128, 0x20)], 0xFFFFFFFF, 0x0, 0x0, 0x0, 0x0, 0x0, 0x1⟩,
  ⟨"TRAJ_GEAR_MPOS", 0x403008, [(128, 0x20)], 0xFFFFFFFF, 0x0, 0x0, 0x0, 0x0, 0x0, 0x0⟩,
  ⟨"TRAJ_GEAR_MDIST", 0x40300C, [(128, 0x20)], 0xFFFFFFFF, 0x0, 0x0, 0x0, 0x0, 0x0, 0x0⟩,
  ⟨"TRAJ_GEAR_CUR_NUM", 0x403010, [(128, 0x20)], 0x0, 0x0, 0x0, 0x0, 0x0, 0x0, 0x0⟩,
  ⟨"TRAJ_GEAR_CUR_DEN", 0x403014, [(128, 0x20)], 0x0, 0x0, 0x0, 0x0, 0x0, 0x0, 0x1⟩,
  ⟨"TRAJ_GEAR_GSRC", 0x403018, [(128, 0x20)], 0x0, 0x0, 0x0, 0x0, 0x0, 0x0, 0x0⟩,
  ⟨"TRAJ_LIM_VMAX_LO", 0x404000, [(128, 0x40)], 0x0, 0x0, 0x0, 0x0, 0x0, 0x0, 0x0⟩,
  ⟨"TRAJ_LIM_VMAX_HI", 0x404004, [(128, 0x40)], 0x0, 0x0, 0x0, 0x0, 0x0, 0x0, 0x0⟩,
  ⟨"TRAJ_LIM_AMAX_LO", 0x404008, [(128, 0x40)], 0x0, 0x0, 0x0, 0x0, 0x0, 0x0, 0x0⟩,
  ⟨"TRAJ_LIM_AMAX_HI", 0x40400C, [(128, 0x40)], 0x0, 0x0, 0x0, 0x0, 0x0, 0x0, 0x0⟩,
  ⟨"TRAJ_LIM_DMAX_LO", 0x404010, [(128, 0x40)], 0x0, 0x0, 0x0, 0x0, 0x0, 0x0, 0x0⟩,
  ⟨"TRAJ_LIM_DMAX_HI", 0x404014, [(128, 0x40)], 0x0, 0x0, 0x0, 0x0, 0x0, 0x0, 0x0⟩,
  ⟨"TRAJ_LIM_JMAX_LO", 0x404018, [(128, 0x40)], 0x0, 0x0, 0x0, 0x0, 0x0, 0x0, 0x0⟩,
  ⟨"TRAJ_LIM_JMAX_HI", 0x40401C, [(128, 0x40)], 0x0, 0x0, 0x0, 0x0, 0x0, 0x0, 0x0⟩]

/-- Rows 5 of the register map. -/
def regRows5 : List RegRow := [
  ⟨"TRAJ_LIM_DEC_STOP_LO", 0x404020, [(128, 0x40)], 0x0, 0x0, 0x0, 0x0, 0x0, 0x0, 0x0⟩,
  ⟨"TRAJ_LIM_DEC_STOP_HI", 0x404024, [(128, 0x40)], 0x0, 0x0, 0x0, 0x0, 0x0, 0x0, 0x0⟩,
  ⟨"TRAJ_LIM_JERK_STOP_LO", 0x404028, [(128, 0x40)], 0x0, 0x0, 0x0, 0x0, 0x0, 0x0, 0x0⟩,
  ⟨"TRAJ_LIM_JERK_STOP_HI", 0x40402C, [(128, 0x40)], 0x0, 0x0, 0x0, 0x0, 0x0, 0x0, 0x0⟩,
  ⟨"TRAJ_LIM_STOP_TMAX", 0x404030, [(128, 0x40)], 0x0, 0x0, 0x0, 0x0, 0x0, 0x0, 0x0⟩,
  ⟨"TRAJ_STEP_CFG", 0x406000, [(64, 0x40)], 0x0, 0x0, 0x0, 0x0, 0x0, 0x0, 0x14141400⟩,
  ⟨"TRAJ_STEP_POS", 0x406004, [(64, 0x40)], 0x0, 0x0, 0x0, 0x0, 0x0, 0x0, 0x0⟩,
  ⟨"TRAJ_STEP_STS", 0x406008, [(64, 0x40)], 0x0, 0x0, 0x0, 0x0, 0x0, 0x0, 0x0⟩,
  ⟨"TRAJ_STEP_ROW", 0x406010, [(64, 0x40), (8, 0x4)], 0x0, 0x0, 0x0, 0x0, 0x0, 0x0, 0x8⟩,
  ⟨"TRAJ_G_CMD", 0x407000, [(16, 0x40)], 0x0, 0x0, 0xFFFFFFFF, 0x0, 0x0, 0x0, 0x0⟩,
  ⟨"TRAJ_G_STS", 0x407008, [(16, 0x40)], 0x0, 0x0, 0x0, 0x0, 0x0, 0x0, 0x0⟩,
  ⟨"TRAJ_G_EVT", 0x40700C, [(16, 0x40)], 0x0, 0x0, 0x0, 0x0, 0xFF000007, 0x0, 0x0⟩,
  ⟨"TRAJ_G_SCALE", 0x407010, [(16, 0x40)], 0x0, 0x0, 0x0, 0x0, 0x0, 0x0, 0x80008000⟩,
  ⟨"TRAJ_G_PLAN", 0x407014, [(16, 0x40)], 0x0, 0x0, 0x0, 0x0, 0x0, 0x0, 0x8⟩,
  ⟨"TRAJ_G_SIGMA", 0x407018, [(16, 0x40)], 0x0, 0x0, 0x0, 0x0, 0x0, 0x0, 0x0⟩,
  ⟨"TRAJ_G_RATE", 0x40701C, [(16, 0x40)], 0x0, 0x0, 0x0, 0x0, 0x0, 0x0, 0x400040⟩,
  ⟨"TRAJ_G_STOPR", 0x407020, [(16, 0x40)], 0x0, 0x0, 0x0, 0x0, 0x0, 0x0, 0x100⟩,
  ⟨"TRAJ_G_TOL", 0x407024, [(16, 0x40)], 0x0, 0x0, 0x0, 0x0, 0x0, 0x0, 0x0⟩,
  ⟨"LOOP_CTL", 0x500000, [(128, 0x40)], 0x0, 0x0, 0xFFFFFFFF, 0x0, 0x0, 0x0, 0x0⟩,
  ⟨"LOOP_STS", 0x500008, [(128, 0x40)], 0x0, 0x0, 0x0, 0x0, 0x0, 0x0, 0x0⟩,
  ⟨"LOOP_EVT", 0x50000C, [(128, 0x40)], 0x0, 0x0, 0x0, 0x0, 0xFF00003F, 0x0, 0x0⟩,
  ⟨"LOOP_POS_OFS", 0x500010, [(128, 0x40)], 0x0, 0x0, 0x0, 0x0, 0x0, 0x0, 0x0⟩,
  ⟨"LOOP_EP", 0x500014, [(128, 0x40)], 0x0, 0x0, 0x0, 0x0, 0x0, 0x0, 0x0⟩,
  ⟨"LOOP_VREF", 0x500018, [(128, 0x40)], 0x0, 0x0, 0x0, 0x0, 0x0, 0x0, 0x0⟩,
  ⟨"LOOP_IQREF", 0x50001C, [(128, 0x40)], 0x0, 0x0, 0x0, 0x0, 0x0, 0x0, 0x0⟩,
  ⟨"LOOP_IQ", 0x500020, [(128, 0x40)], 0x0, 0x0, 0x0, 0x0, 0x0, 0x0, 0x0⟩,
  ⟨"LOOP_ID", 0x500024, [(128, 0x40)], 0x0, 0x0, 0x0, 0x0, 0x0, 0x0, 0x0⟩,
  ⟨"LOOP_VQ", 0x500028, [(128, 0x40)], 0x0, 0x0, 0x0, 0x0, 0x0, 0x0, 0x0⟩,
  ⟨"LOOP_VD", 0x50002C, [(128, 0x40)], 0x0, 0x0, 0x0, 0x0, 0x0, 0x0, 0x0⟩,
  ⟨"LOOP_ANG", 0x500030, [(128, 0x40)], 0x0, 0x0, 0xFFFFFFFF, 0x0, 0x0, 0x0, 0x0⟩]

/-- Rows 6 of the register map. -/
def regRows6 : List RegRow := [
  ⟨"LOOP_THETA", 0x500038, [(128, 0x40)], 0x0, 0x0, 0x0, 0x0, 0x0, 0x0, 0x0⟩,
  ⟨"LOOP_C", 0x504000, [(128, 0x100), (32, 0x8)], 0x0, 0x0, 0x0, 0x0, 0x0, 0x0, 0x0⟩,
  ⟨"LOOP_SH", 0x504004, [(128, 0x100), (32, 0x8)], 0x0, 0x0, 0x0, 0x0, 0x0, 0x0, 0x0⟩,
  ⟨"LOOP_CFG", 0x50C000, [(128, 0x40)], 0x0, 0x0, 0x0, 0x0, 0x0, 0x0, 0x10000⟩,
  ⟨"LOOP_ILIM", 0x50C004, [(128, 0x40)], 0x0, 0x0, 0x0, 0x0, 0x0, 0x0, 0x0⟩,
  ⟨"LOOP_IOC", 0x50C008, [(128, 0x40)], 0x0, 0x0, 0x0, 0x0, 0x0, 0x0, 0x0⟩,
  ⟨"LOOP_FE_MAX", 0x50C00C, [(128, 0x40)], 0x0, 0x0, 0x0, 0x0, 0x0, 0x0, 0x0⟩,
  ⟨"LOOP_ID_REF", 0x50C010, [(128, 0x40)], 0x0, 0x0, 0x0, 0x0, 0x0, 0x0, 0x0⟩,
  ⟨"LOOP_ELEC_CNT", 0x50C014, [(128, 0x40)], 0x0, 0x0, 0x0, 0x0, 0x0, 0x0, 0x0⟩,
  ⟨"LOOP_IFS", 0x50C018, [(128, 0x40)], 0x0, 0x0, 0x0, 0x0, 0x0, 0x0, 0x0⟩,
  ⟨"LOOP_LIMV", 0x50C01C, [(128, 0x40)], 0x0, 0x0, 0x0, 0x0, 0x0, 0x0, 0x73330000⟩,
  ⟨"LOOP_OFS01", 0x50C020, [(128, 0x40)], 0x0, 0x0, 0x0, 0x0, 0x0, 0x0, 0x0⟩,
  ⟨"LOOP_OFS2", 0x50C024, [(128, 0x40)], 0x0, 0x0, 0x0, 0x0, 0x0, 0x0, 0x0⟩,
  ⟨"LOOP_PCFG", 0x50E000, [(64, 0x20)], 0x0, 0x0, 0x0, 0x0, 0x0, 0x0, 0x0⟩,
  ⟨"LOOP_DUTY01", 0x50E004, [(64, 0x20)], 0x0, 0x0, 0x0, 0x0, 0x0, 0x0, 0x0⟩,
  ⟨"LOOP_DUTY23", 0x50E008, [(64, 0x20)], 0x0, 0x0, 0x0, 0x0, 0x0, 0x0, 0x0⟩,
  ⟨"LOOP_TCFG", 0x50E400, [(16, 0x10)], 0x0, 0x0, 0x0, 0x0, 0x0, 0x0, 0x0⟩,
  ⟨"LOOP_TAXES", 0x50E404, [(16, 0x10)], 0x0, 0x0, 0x0, 0x0, 0x0, 0x0, 0x0⟩,
  ⟨"LOOP_GCFG", 0x50E800, [], 0x0, 0x0, 0x0, 0x0, 0x0, 0x0, 0xFFFF0000⟩,
  ⟨"LOOP_TRIP_STS", 0x50E804, [], 0x0, 0x0, 0x0, 0x0, 0x0, 0x0, 0x0⟩,
  ⟨"LOOP_TRIP_CLR", 0x50E808, [], 0x0, 0xFFFF, 0x0, 0x0, 0x0, 0x0, 0x0⟩,
  ⟨"LOOP_GEVT", 0x50E80C, [], 0x0, 0x0, 0x0, 0x0, 0xFF000007, 0x0, 0x0⟩,
  ⟨"SOLV_SCH_ID_LO", 0x601000, [(16, 0x40)], 0x0, 0x0, 0x0, 0x0, 0x0, 0x0, 0x0⟩,
  ⟨"SOLV_SCH_ID_HI", 0x601004, [(16, 0x40)], 0x0, 0x0, 0x0, 0x0, 0x0, 0x0, 0x0⟩,
  ⟨"SOLV_SCH_DIM", 0x601008, [(16, 0x40)], 0x0, 0x0, 0x0, 0x0, 0x0, 0x0, 0xC0000000⟩,
  ⟨"SOLV_SCH_DIM2", 0x60100C, [(16, 0x40)], 0x0, 0x0, 0x0, 0x0, 0x0, 0x0, 0x0⟩,
  ⟨"SOLV_SCH_FACT", 0x601010, [(16, 0x40)], 0x0, 0x0, 0x0, 0x0, 0x0, 0x0, 0x0⟩,
  ⟨"SOLV_SCH_ITER", 0x601014, [(16, 0x40)], 0x0, 0x0, 0x0, 0x0, 0x0, 0x0, 0x0⟩,
  ⟨"SOLV_SCH_CHECK", 0x601018, [(16, 0x40)], 0x0, 0x0, 0x0, 0x0, 0x0, 0x0, 0x0⟩,
  ⟨"SOLV_SCH_ASM", 0x60101C, [(16, 0x40)], 0x0, 0x0, 0x0, 0x0, 0x0, 0x0, 0x0⟩]

/-- Rows 7 of the register map. -/
def regRows7 : List RegRow := [
  ⟨"SOLV_SCH_OUT", 0x601020, [(16, 0x40)], 0x0, 0x0, 0x0, 0x0, 0x0, 0x0, 0x0⟩,
  ⟨"SOLV_C_CFG", 0x602000, [(16, 0x40)], 0x0, 0x0, 0x0, 0x0, 0x0, 0x0, 0x0⟩,
  ⟨"SOLV_C_BASE", 0x602004, [(16, 0x40)], 0x0, 0x0, 0x0, 0x0, 0x0, 0x0, 0x0⟩,
  ⟨"SOLV_C_IN_ADDR", 0x602008, [(16, 0x40)], 0x0, 0x0, 0x0, 0x0, 0x0, 0x0, 0x0⟩,
  ⟨"SOLV_C_IN", 0x60200C, [(16, 0x40)], 0x0, 0x1, 0x0, 0x0, 0x0, 0x0, 0x0⟩,
  ⟨"SOLV_C_RG", 0x602010, [(16, 0x40)], 0x0, 0x0, 0x0, 0x0, 0x0, 0x0, 0xFF⟩,
  ⟨"SOLV_CTX_RUN", 0x603000, [(16, 0x40)], 0xFFFFFFC0, 0x0, 0x0, 0x0, 0x0, 0x0, 0x191021C0⟩,
  ⟨"SOLV_CTX_POL", 0x603004, [(16, 0x40)], 0xFFFFFFC0, 0x0, 0x0, 0x0, 0x0, 0x0, 0x450000⟩,
  ⟨"SOLV_CTX_CMD", 0x603008, [(16, 0x40)], 0x0, 0x1, 0x0, 0x0, 0x0, 0x0, 0x0⟩,
  ⟨"SOLV_CTX_STS", 0x60300C, [(16, 0x40)], 0x0, 0x0, 0x0, 0x0, 0x0, 0x0, 0x4000000⟩,
  ⟨"SOLV_CTX_EVT", 0x603010, [(16, 0x40)], 0x0, 0x0, 0x0, 0x0, 0xFF000007, 0x0, 0x0⟩,
  ⟨"SOLV_CTX_RESP", 0x603014, [(16, 0x40)], 0x0, 0x0, 0x0, 0x0, 0x0, 0x0, 0x0⟩,
  ⟨"SOLV_CTX_RESD", 0x603018, [(16, 0x40)], 0x0, 0x0, 0x0, 0x0, 0x0, 0x0, 0x0⟩,
  ⟨"SOLV_CTX_CNT", 0x60301C, [(16, 0x40)], 0x0, 0x0, 0x0, 0x0, 0x0, 0x1fffff, 0x0⟩,
  ⟨"SOLV_CTX_CLK", 0x603020, [(16, 0x40)], 0x0, 0x0, 0x0, 0x0, 0x0, 0x0, 0x0⟩,
  ⟨"SOLV_CTX_CYC", 0x603024, [(16, 0x40)], 0x0, 0x0, 0x0, 0x0, 0x0, 0x0, 0x0⟩,
  ⟨"SOLV_CTX_RHO", 0x603028, [(16, 0x40)], 0x0, 0x0, 0x0, 0x0, 0x0, 0x0, 0x0⟩,
  ⟨"ARB_G_BLK", 0x700000, [(16, 0x40)], 0x3FF, 0x0, 0x0, 0x0, 0x0, 0x0, 0x0⟩,
  ⟨"ARB_G_HDL", 0x700004, [(16, 0x40)], 0xFFFFFFFF, 0x0, 0x0, 0x0, 0x0, 0x0, 0x0⟩,
  ⟨"ARB_G_TA", 0x700008, [(16, 0x40)], 0xFFFFFFFF, 0x0, 0x0, 0x0, 0x0, 0x0, 0x0⟩,
  ⟨"ARB_G_TB", 0x70000C, [(16, 0x40)], 0xFFFFFFFF, 0x0, 0x0, 0x0, 0x0, 0x0, 0x0⟩,
  ⟨"ARB_G_CMD", 0x700010, [(16, 0x40)], 0x0, 0x0, 0xFFFFFFFF, 0x0, 0x0, 0x0, 0x0⟩,
  ⟨"ARB_G_STS", 0x700018, [(16, 0x40)], 0x0, 0x0, 0x0, 0x0, 0x0, 0x0, 0x0⟩,
  ⟨"ARB_G_EVT", 0x70001C, [(16, 0x40)], 0x0, 0x0, 0x0, 0x0, 0xFF000007, 0x0, 0x0⟩,
  ⟨"ARB_STS", 0x700800, [], 0x0, 0x0, 0x0, 0x0, 0x0, 0x0, 0x0⟩,
  ⟨"ARB_EVT", 0x700804, [], 0x0, 0x0, 0x0, 0x0, 0xFF00000F, 0x0, 0x0⟩,
  ⟨"ARB_REVOKE_T", 0x700808, [], 0xFFFFFFFF, 0x0, 0x0, 0x0, 0x0, 0x0, 0x0⟩,
  ⟨"ARB_REVOKE", 0x700810, [], 0x0, 0x0, 0xFFFFFFFF, 0x0, 0x0, 0x0, 0x0⟩,
  ⟨"ARB_CFG", 0x700820, [], 0x0, 0x0, 0x0, 0x0, 0x0, 0x0, 0x400002⟩,
  ⟨"ARB_CNT0", 0x700824, [], 0x0, 0x0, 0x0, 0x0, 0x0, 0xFFFFFFFF, 0x0⟩]

/-- Rows 8 of the register map. -/
def regRows8 : List RegRow := [
  ⟨"ARB_CNT1", 0x700828, [], 0x0, 0x0, 0x0, 0x0, 0x0, 0xFFFFFFFF, 0x0⟩,
  ⟨"ARB_PAR0", 0x700C00, [(16, 0x10)], 0x0, 0x0, 0x0, 0x0, 0x0, 0x0, 0x10080⟩,
  ⟨"ARB_WIN", 0x700C04, [(16, 0x10)], 0x0, 0x0, 0x0, 0x0, 0x0, 0x0, 0x186A0⟩,
  ⟨"ARB_LEAD", 0x700C08, [(16, 0x10)], 0x0, 0x0, 0x0, 0x0, 0x0, 0x0, 0xF4240⟩,
  ⟨"ARB_KEEP", 0x700C0C, [(16, 0x10)], 0x0, 0x0, 0x0, 0x0, 0x0, 0x0, 0x7D0⟩,
  ⟨"ARB_RS", 0x701000, [(16, 0x100), (8, 0x10)], 0x0, 0x0, 0x0, 0x0, 0x0, 0x0, 0x0⟩,
  ⟨"ARB_RS_HDL", 0x701004, [(16, 0x100), (8, 0x10)], 0x0, 0x0, 0x0, 0x0, 0x0, 0x0, 0x0⟩,
  ⟨"ARB_RS_TA", 0x701008, [(16, 0x100), (8, 0x10)], 0x0, 0x0, 0x0, 0x0, 0x0, 0x0, 0x0⟩,
  ⟨"ARB_RS_TB", 0x70100C, [(16, 0x100), (8, 0x10)], 0x0, 0x0, 0x0, 0x0, 0x0, 0x0, 0x0⟩,
  ⟨"SPC_CTL", 0x800000, [(16, 0x40)], 0x0, 0x7, 0x0, 0x0, 0x0, 0x0, 0x0⟩,
  ⟨"SPC_STS", 0x800004, [(16, 0x40)], 0x0, 0x0, 0x0, 0x0, 0x0, 0x0, 0x0⟩,
  ⟨"SPC_EVT", 0x800008, [(16, 0x40)], 0x0, 0x0, 0x0, 0x0, 0xFF000007, 0x0, 0x0⟩,
  ⟨"SPC_DOOR", 0x80000C, [(16, 0x40)], 0x0, 0x1, 0x0, 0x0, 0x0, 0x0, 0x0⟩,
  ⟨"SPC_CFG", 0x800010, [(16, 0x40)], 0x0, 0x0, 0x0, 0x0, 0x0, 0x0, 0x0⟩,
  ⟨"SPC_BUSY", 0x800014, [(16, 0x40)], 0x0, 0x0, 0x0, 0x0, 0x0, 0xFFFFFFFF, 0x0⟩,
  ⟨"SPC_WAIT", 0x800018, [(16, 0x40)], 0x0, 0x0, 0x0, 0x0, 0x0, 0xFFFFFFFF, 0x0⟩,
  ⟨"SPC_WIN", 0x801000, [(16, 0x100), (64, 0x4)], 0xFFFFFFFF, 0x0, 0x0, 0x0, 0x0, 0x0, 0x0⟩,
  ⟨"SCHED_STS", 0x880000, [], 0x0, 0x0, 0x0, 0x0, 0x0, 0x0, 0x0⟩,
  ⟨"SCHED_EVT", 0x880004, [], 0x0, 0x0, 0x0, 0x0, 0xFF000007, 0x0, 0x0⟩,
  ⟨"SCHED_CNT0", 0x880008, [], 0x0, 0x0, 0x0, 0x0, 0x0, 0xFFFFFFFF, 0x0⟩,
  ⟨"SCHED_CNT1", 0x88000C, [], 0x0, 0x0, 0x0, 0x0, 0x0, 0xFFFFFFFF, 0x0⟩,
  ⟨"SCHED_POST", 0x880010, [], 0x0, 0x0, 0x0, 0x3FF, 0x0, 0x0, 0x0⟩,
  ⟨"SCHED_DPOST_T", 0x880014, [], 0xFFFFFFFF, 0x0, 0x0, 0x0, 0x0, 0x0, 0x0⟩,
  ⟨"SCHED_DPOST", 0x880018, [], 0x0, 0x0, 0x0, 0x3FF, 0x0, 0x0, 0x0⟩,
  ⟨"SCHED_CFG", 0x88001C, [], 0x0, 0x0, 0x0, 0x0, 0x0, 0x0, 0x258⟩,
  ⟨"SCHED_CTR_CTL", 0x880020, [], 0xFFFF0003, 0x0, 0x0, 0x0, 0x0, 0x0, 0x80FE0001⟩,
  ⟨"SCHED_CTR_POS_LO", 0x880024, [], 0x0, 0x0, 0x0, 0x0, 0x0, 0x0, 0x0⟩,
  ⟨"SCHED_CTR_POS_HI", 0x880028, [], 0x0, 0x0, 0x0, 0x0, 0x0, 0xFFFFFFFF, 0x0⟩,
  ⟨"SCHED_CTR_CMD", 0x88002C, [], 0x0, 0x1, 0x0, 0x0, 0x0, 0x0, 0x0⟩,
  ⟨"SCHED_MB_DATA", 0x880100, [(8, 0x10)], 0xFFFFFFFF, 0x0, 0x0, 0x0, 0x0, 0x0, 0x0⟩]

/-- Rows 9 of the register map. -/
def regRows9 : List RegRow := [
  ⟨"SCHED_MB_EVT", 0x880104, [(8, 0x10)], 0x0, 0x0, 0x0, 0x0, 0xFF000003, 0x0, 0x0⟩,
  ⟨"SCHED_TSK", 0x881000, [(1024, 0x4)], 0x0, 0x0, 0x0, 0x0, 0x0, 0x0, 0x300⟩,
  ⟨"SCHED_DESC", 0x884000, [(1024, 0x10), (4, 0x4)], 0x0, 0x0, 0x0, 0x0, 0x0, 0x0, 0x0⟩,
  ⟨"FB_QCNT", 0x900000, [(32, 0x40)], 0x0, 0x0, 0x0, 0x0, 0x0, 0x0, 0x0⟩,
  ⟨"FB_QLAT", 0x900004, [(32, 0x40)], 0x0, 0x0, 0x0, 0x0, 0x0, 0x0, 0x0⟩,
  ⟨"FB_QSPD", 0x900008, [(32, 0x40)], 0x0, 0x0, 0x0, 0x0, 0x0, 0x0, 0x0⟩,
  ⟨"FB_QZCAP", 0x90000C, [(32, 0x40)], 0x0, 0x0, 0x0, 0x0, 0x0, 0x0, 0x0⟩,
  ⟨"FB_QSTS", 0x900010, [(32, 0x40)], 0x0, 0x0, 0x0, 0x0, 0x0, 0x0, 0x0⟩,
  ⟨"FB_QEVT", 0x900014, [(32, 0x40)], 0x0, 0x0, 0x0, 0x0, 0xFF00000F, 0x0, 0x0⟩,
  ⟨"FB_QERR", 0x900018, [(32, 0x40)], 0x0, 0x0, 0x0, 0x0, 0x0, 0xFFFF00FF, 0x0⟩,
  ⟨"FB_QCFG", 0x90001C, [(32, 0x40)], 0x0, 0x0, 0x0, 0x0, 0x0, 0x0, 0x0⟩,
  ⟨"FB_QCFG2", 0x900020, [(32, 0x40)], 0x0, 0x0, 0x0, 0x0, 0x0, 0x0, 0x100008⟩,
  ⟨"FB_QCFG3", 0x900024, [(32, 0x40)], 0x0, 0x0, 0x0, 0x0, 0x0, 0x0, 0x3E8⟩,
  ⟨"FB_ENCPOS", 0x900800, [(16, 0x40)], 0x0, 0x0, 0x0, 0x0, 0x0, 0x0, 0x0⟩,
  ⟨"FB_ENCLAT", 0x900804, [(16, 0x40)], 0x0, 0x0, 0x0, 0x0, 0x0, 0x0, 0x0⟩,
  ⟨"FB_ENCSPD", 0x900808, [(16, 0x40)], 0x0, 0x0, 0x0, 0x0, 0x0, 0x0, 0x0⟩,
  ⟨"FB_ENCTS", 0x90080C, [(16, 0x40)], 0x0, 0x0, 0x0, 0x0, 0x0, 0x0, 0x0⟩,
  ⟨"FB_ENCRAW_LO", 0x900810, [(16, 0x40)], 0x0, 0x0, 0x0, 0x0, 0x0, 0x0, 0x0⟩,
  ⟨"FB_ENCRAW_HI", 0x900814, [(16, 0x40)], 0x0, 0x0, 0x0, 0x0, 0x0, 0x0, 0x0⟩,
  ⟨"FB_ENCSTS", 0x900818, [(16, 0x40)], 0x0, 0x0, 0x0, 0x0, 0x0, 0x0, 0x0⟩,
  ⟨"FB_ENCEVT", 0x90081C, [(16, 0x40)], 0x0, 0x0, 0x0, 0x0, 0xFF00003F, 0x0, 0x0⟩,
  ⟨"FB_ENCCNT0", 0x900820, [(16, 0x40)], 0x0, 0x0, 0x0, 0x0, 0x0, 0xFFFFFFFF, 0x0⟩,
  ⟨"FB_ENCCNT1", 0x900824, [(16, 0x40)], 0x0, 0x0, 0x0, 0x0, 0x0, 0xFFFFFFFF, 0x0⟩,
  ⟨"FB_ENCCFG", 0x900828, [(16, 0x40)], 0x0, 0x0, 0x0, 0x0, 0x0, 0x0, 0xD340000⟩,
  ⟨"FB_ENCCFG2", 0x90082C, [(16, 0x40)], 0x0, 0x0, 0x0, 0x0, 0x0, 0x0, 0x3⟩,
  ⟨"FB_ENCCFG3", 0x900830, [(16, 0x40)], 0x0, 0x0, 0x0, 0x0, 0x0, 0x0, 0x14⟩,
  ⟨"FB_DIV_CTL", 0x901000, [(8, 0x20)], 0x1FFFF, 0x0, 0x0, 0x0, 0x0, 0x0, 0xA00⟩,
  ⟨"FB_DIV_RATIO", 0x901004, [(8, 0x20)], 0xFFFFFFFF, 0x0, 0x0, 0x0, 0x0, 0x0, 0x10001⟩,
  ⟨"FB_DIV_STS", 0x901008, [(8, 0x20)], 0x0, 0x0, 0x0, 0x0, 0xFF000001, 0x0, 0x0⟩,
  ⟨"ADC_CTL", 0xA00000, [], 0x0, 0xF, 0x0, 0x0, 0x0, 0x0, 0x0⟩]

/-- Rows 10 of the register map. -/
def regRows10 : List RegRow := [
  ⟨"ADC_STS", 0xA00004, [], 0x0, 0x0, 0x0, 0x0, 0x0, 0x0, 0x0⟩,
  ⟨"ADC_EVT", 0xA00008, [], 0x0, 0x0, 0x0, 0x0, 0xFF0001FF, 0x0, 0x0⟩,
  ⟨"ADC_CNT0", 0xA00010, [], 0x0, 0x0, 0x0, 0x0, 0x0, 0xFFFFFFFF, 0x0⟩,
  ⟨"ADC_CNT1", 0xA00014, [], 0x0, 0x0, 0x0, 0x0, 0x0, 0xFFFFFFFF, 0x0⟩,
  ⟨"ADC_RES", 0xA01000, [(4, 0x100), (4, 0x40), (16, 0x4)], 0x0, 0x0, 0x0, 0x0, 0x0, 0x0, 0x0⟩,
  ⟨"ADC_INJ", 0xA02000, [(64, 0x4)], 0x0, 0x0, 0x0, 0x0, 0x0, 0x0, 0x0⟩,
  ⟨"ADC_INCFG", 0xA03000, [(64, 0x4)], 0x0, 0x0, 0x0, 0x0, 0x0, 0x0, 0xFF004000⟩,
  ⟨"ADC_TRIG", 0xA03100, [(8, 0x4)], 0x0, 0x0, 0x0, 0x0, 0x0, 0x0, 0x0⟩,
  ⟨"ADC_VBUS", 0xA03200, [], 0x0, 0x0, 0x0, 0x0, 0x0, 0x0, 0x0⟩,
  ⟨"ADC_VHOLD", 0xA03204, [], 0x0, 0x0, 0x0, 0x0, 0x0, 0x0, 0x0⟩,
  ⟨"ADC_TEMP", 0xA03208, [(4, 0x4)], 0x0, 0x0, 0x0, 0x0, 0x0, 0x0, 0x0⟩,
  ⟨"ADC_SLICE", 0xA03300, [(16, 0x4)], 0x0, 0x0, 0x0, 0x0, 0x0, 0x0, 0x800000⟩,
  ⟨"SAFE_STS", 0xB00000, [], 0x0, 0x0, 0x0, 0x0, 0x0, 0x0, 0x0⟩,
  ⟨"SAFE_EVT", 0xB00004, [], 0x0, 0x0, 0x0, 0x0, 0x0, 0x0, 0x0⟩,
  ⟨"SAFE_IN", 0xB00008, [], 0x0, 0x0, 0x0, 0x0, 0x0, 0x0, 0xFFFFFFFF⟩,
  ⟨"SAFE_INV", 0xB0000C, [], 0x0, 0x0, 0x0, 0x0, 0x0, 0x0, 0x0⟩,
  ⟨"SAFE_OUT", 0xB00010, [], 0x0, 0x0, 0x0, 0x0, 0x0, 0x0, 0x0⟩,
  ⟨"SAFE_PERMIT", 0xB00020, [(4, 0x4)], 0x0, 0x0, 0x0, 0x0, 0x0, 0x0, 0x0⟩,
  ⟨"SAFE_CNT0", 0xB00030, [], 0x0, 0x0, 0x0, 0x0, 0x0, 0x0, 0x0⟩,
  ⟨"SAFE_CNT1", 0xB00034, [], 0x0, 0x0, 0x0, 0x0, 0x0, 0x0, 0x0⟩,
  ⟨"SAFE_LOG0", 0xB00100, [(16, 0x8)], 0x0, 0x0, 0x0, 0x0, 0x0, 0x0, 0x0⟩,
  ⟨"SAFE_LOG1", 0xB00104, [(16, 0x8)], 0x0, 0x0, 0x0, 0x0, 0x0, 0x0, 0x0⟩,
  ⟨"SAFE_SSM_DMIN", 0xB00200, [(16, 0x10)], 0x0, 0x0, 0x0, 0x0, 0x0, 0x0, 0x0⟩,
  ⟨"SAFE_SSM_STS", 0xB00204, [(16, 0x10)], 0x0, 0x0, 0x0, 0x0, 0x0, 0x0, 0xFF00⟩,
  ⟨"SAFE_SSM_VM", 0xB00208, [(16, 0x10)], 0x0, 0x0, 0x0, 0x0, 0x0, 0x0, 0x0⟩,
  ⟨"SAFE_SMSG_STS", 0xB00400, [(32, 0x10)], 0x0, 0x0, 0x0, 0x0, 0x0, 0x0, 0x0⟩,
  ⟨"SAFE_SMSG_LATCH", 0xB00404, [(32, 0x10)], 0x0, 0x0, 0x0, 0x0, 0x0, 0x0, 0x0⟩,
  ⟨"SAFE_SMSG_CNT0", 0xB00408, [(32, 0x10)], 0x0, 0x0, 0x0, 0x0, 0x0, 0x0, 0x0⟩,
  ⟨"SAFE_SMSG_CNT1", 0xB0040C, [(32, 0x10)], 0x0, 0x0, 0x0, 0x0, 0x0, 0x0, 0x0⟩,
  ⟨"RED_STS", 0xC00000, [], 0x0, 0x0, 0x0, 0x0, 0x0, 0x0, 0xFF000000⟩]

/-- Rows 11 of the register map. -/
def regRows11 : List RegRow := [
  ⟨"RED_CLAIM", 0xC00004, [], 0x0, 0x0, 0x0, 0x0, 0x0, 0x0, 0x0⟩,
  ⟨"RED_SEEN", 0xC00008, [], 0x0, 0x0, 0x0, 0x0, 0x0, 0x0, 0x0⟩,
  ⟨"RED_EVT", 0xC0000C, [], 0x0, 0x0, 0x0, 0x0, 0xFF00007F, 0x0, 0x0⟩,
  ⟨"RED_DRILL_CYC", 0xC00010, [], 0xFFFFFFFF, 0x0, 0x0, 0x0, 0x0, 0x0, 0x0⟩,
  ⟨"RED_CMD", 0xC00018, [], 0x0, 0x0, 0xFFFFFFFF, 0x0, 0x0, 0x0, 0x0⟩,
  ⟨"RED_CNT0", 0xC00020, [], 0x0, 0x0, 0x0, 0x0, 0x0, 0xFFFFFFFF, 0x0⟩,
  ⟨"RED_CNT1", 0xC00024, [], 0x0, 0x0, 0x0, 0x0, 0x0, 0xFFFFFFFF, 0x0⟩,
  ⟨"CFG_LOAD_STS", 0xD00000, [], 0x0, 0x0, 0x0, 0x0, 0x0, 0x0, 0xFF00⟩,
  ⟨"CFG_STRUCT_ID_LO", 0xD00008, [], 0x0, 0x0, 0x0, 0x0, 0x0, 0x0, 0x0⟩,
  ⟨"CFG_STRUCT_ID_HI", 0xD0000C, [], 0x0, 0x0, 0x0, 0x0, 0x0, 0x0, 0x0⟩,
  ⟨"CFG_IMG_VER", 0xD00010, [], 0x0, 0x0, 0x0, 0x0, 0x0, 0x0, 0x0⟩,
  ⟨"CFG_BUILD_LO", 0xD00014, [], 0x0, 0x0, 0x0, 0x0, 0x0, 0x0, 0x0⟩,
  ⟨"CFG_BUILD_HI", 0xD00018, [], 0x0, 0x0, 0x0, 0x0, 0x0, 0x0, 0x0⟩,
  ⟨"CFG_PATCH_SEL", 0xD00040, [], 0xFFFFFF03, 0x0, 0x0, 0x0, 0x0, 0x0, 0x0⟩,
  ⟨"CFG_PATCH_IDX", 0xD00044, [], 0x7F, 0x0, 0x0, 0x0, 0x0, 0x0, 0x0⟩,
  ⟨"CFG_PATCH_DATA", 0xD00048, [], 0x0, 0x0, 0xFFFFFFFF, 0x0, 0x0, 0x0, 0x0⟩,
  ⟨"CFG_PATCH_CMD", 0xD00050, [], 0x0, 0x0, 0xFFFFFFFF, 0x0, 0x0, 0x0, 0x0⟩,
  ⟨"CFG_PATCH_LVL", 0xD00058, [], 0x0, 0x0, 0x0, 0x0, 0x0, 0x0, 0x0⟩,
  ⟨"CFG_PATCH_EVT", 0xD0005C, [], 0x0, 0x0, 0x0, 0x0, 0xFF000007, 0x0, 0x0⟩,
  ⟨"CFG_PATCH_CNT", 0xD00060, [], 0x0, 0x0, 0x0, 0x0, 0x0, 0xFFFFFFFF, 0x0⟩,
  ⟨"CFG_SAFE_BIND", 0xD00080, [], 0x0, 0x0, 0xFFFFFFFF, 0x0, 0x0, 0x0, 0x0⟩,
  ⟨"CFG_SAFE_BIND_STS", 0xD00088, [], 0x0, 0x0, 0x0, 0x0, 0xFF000002, 0x0, 0x0⟩,
  ⟨"CFG_BOOT_STS", 0xD000C0, [], 0x0, 0x0, 0x0, 0x0, 0x0, 0x0, 0x10000000⟩,
  ⟨"CFG_BOOT_CNT", 0xD000C4, [], 0x0, 0x0, 0x0, 0x0, 0x0, 0x0, 0x0⟩,
  ⟨"CFG_BOOT_TIME", 0xD000C8, [], 0x0, 0x0, 0x0, 0x0, 0x0, 0x0, 0x0⟩,
  ⟨"CFG_RET_BAD", 0xD000CC, [], 0x0, 0x0, 0x0, 0x0, 0x0, 0x0, 0x0⟩,
  ⟨"UPD_CMD", 0xD00100, [], 0x0, 0x0, 0xFFFFFFFF, 0x0, 0x0, 0x0, 0x0⟩,
  ⟨"UPD_CRC", 0xD00108, [], 0xFFFFFFFF, 0x0, 0x0, 0x0, 0x0, 0x0, 0x0⟩,
  ⟨"UPD_STS", 0xD0010C, [], 0x0, 0x0, 0x0, 0x0, 0x0, 0x0, 0x0⟩,
  ⟨"UPD_EVT", 0xD00110, [], 0x0, 0x0, 0x0, 0x0, 0xFF000007, 0x0, 0x0⟩]

/-- Rows 12 of the register map. -/
def regRows12 : List RegRow := [
  ⟨"UPD_CNT", 0xD00114, [], 0x0, 0x0, 0x0, 0x0, 0x0, 0xFFFFFFFF, 0x0⟩,
  ⟨"UPD_CFG", 0xD00118, [], 0x0, 0x0, 0x0, 0x0, 0x0, 0x0, 0x7086464⟩,
  ⟨"UPD_WIN", 0xD80000, [(16384, 0x4)], 0x0, 0x0, 0x0, 0xFFFFFFFF, 0x0, 0x0, 0x0⟩]

/-- The whole register map, by rising offset of the first copy. Which of its RO and RL count fields are counters in the sense of R82, and so
loadable with CTR_LOAD, is the model's reading: those that the text says count and saturate, but neither COUNT of FB_QCNT, which is a
position, nor BOOTS of CFG_BOOT_CNT, which is retained (log entry 90). -/
def regRows : List RegRow :=
  regRows0 ++ regRows1 ++ regRows2 ++ regRows3 ++ regRows4 ++ regRows5 ++ regRows6 ++ regRows7 ++ regRows8 ++ regRows9 ++ regRows10 ++ regRows11 ++ regRows12

/-- Does offset x (from the first copy) fall on a copy of the register? -/
def dimsHit : List (Nat × Nat) → Nat → Bool
  | [], x => x == 0
  | (n, s) :: ds, x => decide (x / s < n) && dimsHit ds (x % s)

/-- The register a word offset of BAR0 belongs to, if any. -/
def regAt (off : Nat) : Option RegRow :=
  regRows.find? (fun r => decide (r.off ≤ off) && dimsHit r.dims (off - r.off))

/-- The value a register word holds after reset: the value its table gives; 0 where no register is defined. -/
def regReset (off : Nat) : Word :=
  match regAt off with
  | some r => BitVec.ofNat 32 r.reset
  | none => 0

end Sys2Proof.Machine
end

