-- ==== Sys2Proof/Config.lean ====
section
/-! DEFINITION. What an image or an implementation fixes: the typed parameters that the sections of a cell image give, and the
opaque (free) values. The manual gives most payload layouts no bits; the functions below stand for that unstated reading (log entry 6). -/
namespace Sys2Proof.Config

/-- A free value: what the manual leaves open, by the number of the draw (the state counts the draws). Nothing can evaluate it. -/
opaque freeNat : Nat → Nat

/-- What an AIO pin does (21 Table 21.2): PWM of half-bridge b of direct axis d, trip j, STEP, DIR or bit b of the resolution code of
direct axis d, line 0 A, 1 B, 2 Z of count channel n, its step (0) or direction (1) input, output A (0) or B (1) of divider k, TIMER n. -/
inductive AioUse where
  | pwm (d b : Nat) (high : Bool)
  | trip (j : Nat)
  | step (d : Nat)
  | dir (d : Nat)
  | res (d b : Nat)
  | quad (n line : Nat)
  | stepIn (n line : Nat)
  | divider (k line : Nat)
  | timer (n : Nat)
  deriving DecidableEq, Repr, Inhabited

/-- A function given to an AIO pin by a section. -/
structure AioFn where
  pin : Nat
  use : AioUse
  sect : Nat
  deriving DecidableEq, Repr, Inhabited

/-- A record of a section (02 Table 2.5). -/
structure Rec where
  sect : Nat
  recId : Nat
  kind : Nat
  scope : Nat
  index : Nat
  words : List Word
  deriving DecidableEq, Repr, Inhabited

/-- One slot-table entry (06 Table 6.2). -/
structure Slot where
  start : Nat
  ports : Nat
  tx : Bool
  kind : Nat
  dlv : Bool
  stream : Nat
  src : Nat
  dst : Nat
  rclass : Nat
  len : Nat
  deriving DecidableEq, Repr, Inhabited

/-- One entry of the root's node table (05 R134). -/
structure NodeEntry where
  id : Nat
  member : Nat
  required : Bool
  path : List Nat
  deriving DecidableEq, Repr, Inhabited

/-- A delivered stream: its ID, frame TYPE, AGE_LIMIT, what it carries (an axis mask or a sender) and its place (06 Table 6.1, 6.9). -/
structure RxStream where
  stream : Nat
  typ : Nat
  ageLimit : Nat
  axes : Nat
  arg : Nat
  deriving DecidableEq, Repr, Inhabited

/-- A stream this node originates: its ID, frame TYPE and what it carries. -/
structure TxStream where
  stream : Nat
  typ : Nat
  arg : Nat
  deriving DecidableEq, Repr, Inhabited

/-- The LINK section; timing: it holds the record of Tb, m and IN_CUT (01 R21, 05 R134, 06 Table 6.1, 03 R91, 04 R102). Times in ns. -/
structure LinkCfg where
  timing : Bool
  root : Bool
  nodeId : Option Nat
  tb : Nat
  m : Nat
  inCut : Nat
  guardNs : Nat
  coldstart : List Nat
  holdMax : Nat
  nodes : List NodeEntry
  /-- modes whose slot table the section holds, and the tables by mode -/
  held : List Nat
  modes : List (List Slot)
  rx : List RxStream
  tx : List TxStream
  deriving DecidableEq, Repr, Inhabited

/-- Where an axis takes its position from (07 R168, 10 R249). -/
inductive PosSrc where
  | none
  | chan (n : Nat)
  | enc (j : Nat)
  | linked (strm slot : Nat)
  deriving DecidableEq, Repr, Inhabited

/-- One AXIS record (02 Table 2.4, 09 R214, 10 R259): the axis, its group and slot in it, and its position source. -/
structure AxisCfg where
  axis : Nat
  group : Nat
  slot : Nat
  src : PosSrc
  deriving DecidableEq, Repr, Inhabited

/-- An entry of a regular sequence (08 R195, R196, R198): input code, burst exponent (0: none) and capture buffer. -/
structure AdcEntry where
  input : Nat
  burst : Nat
  buffer : Nat
  simul : Bool
  acqx : Nat
  deriving DecidableEq, Repr, Inhabited

/-- A regular sequence: converter, number, trigger (0 CYC_START, 1 HALF, 8 to 15 TEV0 to TEV7), entries. -/
structure AdcSeq where
  conv : Nat
  seq : Nat
  trigger : Nat
  delay : Nat
  entries : List AdcEntry
  deriving DecidableEq, Repr, Inhabited

/-- The ADC section's sequences and the class and axes of an open wire by input (08 Table 8.3). -/
structure AdcCfg where
  seqs : List AdcSeq
  openClass : List (Nat × Nat × Nat)
  deriving DecidableEq, Repr, Inhabited

/-- What LOOP needs of an axis beyond its register mirrors (08 R197, 10 R251): the sequence that starts its current stage
and the result words (converter, sequence, entry) of its sensed phases. -/
structure LoopCfg where
  axis : Nat
  seqConv : Nat
  seqNum : Nat
  phases : List (Nat × Nat × Nat)
  deriving DecidableEq, Repr, Inhabited

/-- The error of LOOP's sine and cosine at an angle (10 R252: exact to 2^-24), in 2^-40; the low bits bound it. -/
opaque trigError : Nat → Nat

/-- Where ITER and CHECK begin and CHECK ends in a lane program, in 64-bit words from its start, by SCHED_ID (11 R281 gives the
order of the three parts and no boundary). -/
opaque laneParts : Nat → Nat × Nat × Nat

/-- Which of the blocks of the right kind a word of the context region belongs to, by SCHED_ID and word offset (11 R285 says that
there is exactly one, and not which). -/
opaque blockPick : Nat → Nat → Nat

/-- One safety input's record (16 Table 16.2, 0x0100 + n): TYPE, CAT, MANUAL, OUTS, FILT, DISC_T and STOP_T in ms. -/
structure SafeIn where
  typ : Nat
  cat : Nat
  manual : Bool
  outs : Nat
  filt : Nat
  discT : Nat
  stopT : Nat
  deriving DecidableEq, Repr, Inhabited

/-- One safety output's record (16 Table 16.2, 0x0200 + k): times in µs. -/
structure SafeOutCfg where
  used : Bool
  rbDly : Nat
  pulseW : Nat
  pulseP : Nat
  deriving DecidableEq, Repr, Inhabited

/-- One axis record of the SAFE section (16 Table 16.2, 0x0300). -/
structure SafeAxis where
  axis : Nat
  out : Nat
  stillTol : Nat
  sosTol : Nat
  deriving DecidableEq, Repr, Inhabited

/-- The SAFE section's records of chapter 16. -/
structure SafeCfg where
  testIn : Nat
  ackIn : Nat
  ackMin : Nat
  ackMax : Nat
  ins : List (Nat × SafeIn)
  outs : List (Nat × SafeOutCfg)
  axes : List SafeAxis
  deriving DecidableEq, Repr, Inhabited

/-- One coordinate of a capsule's end point (17 R401): C0 in µm, and K by axis slot, signed Q8.24 µm per count. -/
structure SsmCoord where
  c0 : Int
  k : List Int
  deriving DecidableEq, Repr, Inhabited

/-- A capsule (17 R401): the coordinates of P and of Q, and the radius in µm. -/
structure Capsule where
  p : List SsmCoord
  q : List SsmCoord
  r : Nat
  deriving DecidableEq, Repr, Inhabited

/-- A monitored group's terms and capsules (17 Table 17.5, 0x0400 and 0x0401): mm/s, mm/s², µs and µm. -/
structure SsmGroup where
  g : Nat
  vRef : Nat
  aG : Nat
  dS : Nat
  tJ : Nat
  tRG : Nat
  zR : Nat
  mW : Nat
  vTol : Nat
  ramp : Nat
  cat : Nat
  manual : Bool
  resumeN : Nat
  zones : Nat
  caps : List Capsule
  deriving DecidableEq, Repr, Inhabited

/-- A remote model (17 Table 17.5, 0x0410 + r): the group's terms, and the rx stream and position slot of each axis slot. -/
structure SsmModel where
  terms : SsmGroup
  src : List (Nat × Nat)
  deriving DecidableEq, Repr, Inhabited

/-- A human zone (17 R403, Table 17.5, 0x0500 + z): its box in µm, and what makes it active. -/
structure SsmZone where
  z : Nat
  lo : List Int
  hi : List Int
  vH : Nat
  c : Nat
  zD : Nat
  tZ : Nat
  always : Bool
  input : Option Nat
  strm : Option (Nat × Nat)
  deriving DecidableEq, Repr, Inhabited

/-- A pair of groups that share workspace (17 R405). -/
structure SsmPair where
  p : Nat
  g1 : Nat
  g2 : Nat
  c : Nat
  deriving DecidableEq, Repr, Inhabited

/-- A safe stream received (17 Table 17.5, 0x0700 + j) or sent (0x0780 + t); axes by position slot. -/
structure SafeStream where
  idx : Nat
  stream : Nat
  node : Nat
  safeId : Nat
  wd : Nat
  axes : List Nat
  deriving DecidableEq, Repr, Inhabited

/-- The separation records of the SAFE section (17 Table 17.5). -/
structure SsmCfg where
  dTol : Nat
  sTol : Nat
  groups : List SsmGroup
  models : List SsmModel
  zones : List SsmZone
  pairs : List SsmPair
  rx : List SafeStream
  tx : List SafeStream
  deriving DecidableEq, Repr, Inhabited

/-- The separation records that a SAFE section's records spell (17 Table 17.5 gives ranges and no bits; log entry 6). -/
opaque ssmCfg : List Rec → SsmCfg

end Sys2Proof.Config
end

