-- ==== Sys2Proof/Machine/Bits.lean ====
section
/-! DEFINITION. Bit fields, signed reading, rounding and byte order: the plain helpers every block uses. -/
namespace Sys2Proof.Machine

/-- Bits hi down to lo of a natural number. -/
def bitsOf (v hi lo : Nat) : Nat := (v / 2 ^ lo) % 2 ^ (hi + 1 - lo)

/-- Bit i of a natural number. -/
def bitOf (v i : Nat) : Bool := (v / 2 ^ i) % 2 == 1

/-- v with bit i set to b. -/
def setBit (v i : Nat) (b : Bool) : Nat :=
  if bitOf v i then (if b then v else v - 2 ^ i) else (if b then v + 2 ^ i else v)

/-- v with bits hi down to lo replaced by x (x taken modulo the field's width). -/
def putBits (v hi lo x : Nat) : Nat :=
  v - bitsOf v hi lo * 2 ^ lo + (x % 2 ^ (hi + 1 - lo)) * 2 ^ lo

/-- The signed reading of the low w bits of v. -/
def sInt (w v : Nat) : Int :=
  if v % 2 ^ w < 2 ^ (w - 1) then (v % 2 ^ w : Nat) else ((v % 2 ^ w : Nat) : Int) - (2 ^ w : Nat)

/-- The w-bit two's complement pattern of an integer. -/
def uNat (w : Nat) (i : Int) : Nat := (i % ((2 ^ w : Nat) : Int)).toNat

/-- An integer limited to lo..hi. -/
def clampI (lo hi i : Int) : Int := if i < lo then lo else if hi < i then hi else i

/-- The signed w-bit range limit. -/
def satI (w : Nat) (i : Int) : Int := clampI (-(2 ^ (w - 1) : Nat)) ((2 ^ (w - 1) : Nat) - 1) i

/-- Division by 2^n rounding toward minus infinity. -/
def shrI (i : Int) (n : Nat) : Int := i.fdiv ((2 ^ n : Nat) : Int)

/-- Division by 2^n rounding to nearest, halves upward (00 R10 family of rounded shifts). -/
def rshrI (i : Int) (n : Nat) : Int :=
  if n = 0 then i else shrI (i + ((2 ^ (n - 1) : Nat) : Int)) n

/-- A saturating counter of w bits after one more event. -/
def satInc (w v : Nat) : Nat := if v + 1 < 2 ^ w then v + 1 else 2 ^ w - 1

/-- A Bool as a bit. -/
def b2n (b : Bool) : Nat := if b then 1 else 0

/-- Little-endian bytes of a number, n of them. -/
def leBytes : Nat → Nat → List Byte
  | 0, _ => []
  | n + 1, v => BitVec.ofNat 8 v :: leBytes n (v / 256)

/-- The number a little-endian byte list spells. -/
def leNat : List Byte → Nat
  | [] => 0
  | b :: bs => b.toNat + 256 * leNat bs

/-- Big-endian bytes of a number, n of them. -/
def beBytes (n v : Nat) : List Byte := (leBytes n v).reverse

/-- The number a big-endian byte list spells. -/
def beNat (l : List Byte) : Nat := leNat l.reverse

/-- How many bits of the low w are 1. -/
def popCount : Nat → Nat → Nat
  | 0, _ => 0
  | w + 1, v => v % 2 + popCount w (v / 2)

/-- The positions of the 1 bits below w, rising. -/
def onesBelow (w v : Nat) : List Nat := (List.range w).filter (bitOf v)

/-- Is a number in a closed range? -/
def within (lo hi v : Nat) : Bool := decide (lo ≤ v) && decide (v ≤ hi)

/-! Tables keyed by a number, in one canonical form: keys strictly rising, and no entry equal to the value of an
unlisted key. -/

/-- The value at k; d k where nothing is listed. -/
def tblGet {α : Type} (d : Nat → α) : List (Nat × α) → Nat → α
  | [], k => d k
  | (j, v) :: t, k => if j = k then v else tblGet d t k

/-- A table without k. -/
def tblDrop {α : Type} (l : List (Nat × α)) (k : Nat) : List (Nat × α) := l.filter (fun x => x.1 != k)

/-- Put an entry in its place. -/
def tblIns {α : Type} (k : Nat) (v : α) : List (Nat × α) → List (Nat × α)
  | [] => [(k, v)]
  | (j, w) :: t => if k < j then (k, v) :: (j, w) :: t else (j, w) :: tblIns k v t

/-- Put v at k (an entry equal to the unlisted value is dropped). -/
def tblSet {α : Type} [DecidableEq α] (d : Nat → α) (l : List (Nat × α)) (k : Nat) (v : α) : List (Nat × α) :=
  if v = d k then tblDrop l k else tblIns k v (tblDrop l k)

/-- Change the value at k. -/
def tblMod {α : Type} [DecidableEq α] (d : Nat → α) (m : List (Nat × α)) (k : Nat) (f : α → α) : List (Nat × α) :=
  tblSet d m k (f (tblGet d m k))

/-- The canonical form: keys strictly rising from lo on, no entry equal to its unlisted value. -/
def tblWf {α : Type} [DecidableEq α] (d : Nat → α) : Nat → List (Nat × α) → Bool
  | _, [] => true
  | lo, (k, v) :: t => decide (lo ≤ k) && !decide (v = d k) && tblWf d (k + 1) t

/-- The CRC of a bit list: width w, polynomial poly, register value c, most significant bit first. -/
def crcBits (w poly : Nat) : Nat → List Bool → Nat
  | c, [] => c
  | c, b :: bs =>
    let fb := (bitOf c (w - 1)) != b
    let c' := (2 * c) % 2 ^ w
    crcBits w poly (if fb then Nat.xor c' poly else c') bs

/-- The bits of a byte, most significant first. -/
def byteBits (b : Byte) : List Bool := (List.range 8).map (fun i => b.toNat.testBit (7 - i))

/-- The bits of a byte, least significant first (reflected input). -/
def byteBitsR (b : Byte) : List Bool := (List.range 8).map (fun i => b.toNat.testBit i)

/-- The low w bits of v in reverse order. -/
def reflect : Nat → Nat → Nat
  | 0, _ => 0
  | w + 1, v => (v % 2) * 2 ^ w + reflect w (v / 2)

/-- CRC-8 of the management SPI (03 R73). -/
def crc8 (bs : List Byte) : Nat := crcBits 8 0x07 0 (bs.flatMap byteBits)

/-- CRC-32C (02 R49's frame and section check): reflected, initial and final all ones. -/
def crc32c (bs : List Byte) : Nat :=
  Nat.xor (reflect 32 (crcBits 32 0x1EDC6F41 0xFFFFFFFF (bs.flatMap byteBitsR))) 0xFFFFFFFF

end Sys2Proof.Machine
end

