-- ==== Sys2Proof/Machine/Fields.lean ====
section
/-! DEFINITION. The names of registers (R) and of their fields (F) as the chapters spell them: the offset in BAR0 and the bit range. -/
namespace Sys2Proof.Machine

/-- A field of a BAR0 register: the offset of its word and its highest and lowest bit. -/
structure Fld where
  reg : Nat
  hi : Nat
  lo : Nat
  deriving DecidableEq, Repr

def F.SYS_FAULT_LVL_FAULTN_DRIVE : Fld := ⟨0x100, 5, 5⟩
def F.SYS_FAULT_LVL_FAULTN_PIN : Fld := ⟨0x100, 4, 4⟩
def F.SYS_FAULT_LVL_F3_ACT : Fld := ⟨0x100, 3, 3⟩
def F.SYS_FAULT_LVL_F2_ACT : Fld := ⟨0x100, 2, 2⟩
def F.SYS_FAULT_LVL_F1_ACT : Fld := ⟨0x100, 1, 1⟩
def F.SYS_FAULT_LVL_F0_ACT : Fld := ⟨0x100, 0, 0⟩
/-- BAR0 offset of SYS_FAULT_LVL (01 Table 1.10). -/
def R.SYS_FAULT_LVL : Nat := 0x100
def F.SYS_FAULT_EVT_SEQ : Fld := ⟨0x104, 31, 24⟩
def F.SYS_FAULT_EVT_EXT_FAULT : Fld := ⟨0x104, 7, 7⟩
def F.SYS_FAULT_EVT_F3_EVT : Fld := ⟨0x104, 3, 3⟩
def F.SYS_FAULT_EVT_F2_EVT : Fld := ⟨0x104, 2, 2⟩
def F.SYS_FAULT_EVT_F1_EVT : Fld := ⟨0x104, 1, 1⟩
def F.SYS_FAULT_EVT_F0_EVT : Fld := ⟨0x104, 0, 0⟩
/-- BAR0 offset of SYS_FAULT_EVT (01 Table 1.11). -/
def R.SYS_FAULT_EVT : Nat := 0x104
def F.SYS_FAULTN_CFG_EXT_EN : Fld := ⟨0x108, 3, 3⟩
def F.SYS_FAULTN_CFG_EXT_CLASS : Fld := ⟨0x108, 2, 1⟩
def F.SYS_FAULTN_CFG_F1_ASSERT : Fld := ⟨0x108, 0, 0⟩
/-- BAR0 offset of SYS_FAULTN_CFG (01 Table 1.12). -/
def R.SYS_FAULTN_CFG : Nat := 0x108
def F.CFG_LOAD_STS_OWNER_BOUND : Fld := ⟨0xD00000, 25, 25⟩
def F.CFG_LOAD_STS_SAFE_BOUND : Fld := ⟨0xD00000, 24, 24⟩
def F.CFG_LOAD_STS_SUBCODE : Fld := ⟨0xD00000, 23, 16⟩
def F.CFG_LOAD_STS_SECT_IDX : Fld := ⟨0xD00000, 15, 8⟩
def F.CFG_LOAD_STS_CODE : Fld := ⟨0xD00000, 7, 0⟩
/-- BAR0 offset of CFG_LOAD_STS (02 Table 2.8). -/
def R.CFG_LOAD_STS : Nat := 0xD00000
def F.CFG_STRUCT_ID_LO_STRUCT_ID : Fld := ⟨0xD00008, 31, 0⟩
/-- BAR0 offset of CFG_STRUCT_ID_LO (02 Table 2.9). -/
def R.CFG_STRUCT_ID_LO : Nat := 0xD00008
def F.CFG_STRUCT_ID_HI_STRUCT_ID : Fld := ⟨0xD0000C, 31, 0⟩
/-- BAR0 offset of CFG_STRUCT_ID_HI (02 Table 2.9). -/
def R.CFG_STRUCT_ID_HI : Nat := 0xD0000C
def F.CFG_IMG_VER_IMG_VER : Fld := ⟨0xD00010, 31, 0⟩
/-- BAR0 offset of CFG_IMG_VER (02 Table 2.10). -/
def R.CFG_IMG_VER : Nat := 0xD00010
def F.CFG_PATCH_SEL_SECT : Fld := ⟨0xD00040, 31, 24⟩
def F.CFG_PATCH_SEL_REC_ID : Fld := ⟨0xD00040, 23, 8⟩
def F.CFG_PATCH_SEL_SCOPE : Fld := ⟨0xD00040, 1, 0⟩
/-- BAR0 offset of CFG_PATCH_SEL (02 Table 2.13). -/
def R.CFG_PATCH_SEL : Nat := 0xD00040
def F.CFG_PATCH_IDX_INDEX : Fld := ⟨0xD00044, 6, 0⟩
/-- BAR0 offset of CFG_PATCH_IDX (02 Table 2.14). -/
def R.CFG_PATCH_IDX : Nat := 0xD00044
def F.CFG_PATCH_DATA_WORD : Fld := ⟨0xD00048, 31, 0⟩
/-- BAR0 offset of CFG_PATCH_DATA (02 Table 2.15). -/
def R.CFG_PATCH_DATA : Nat := 0xD00048
def F.CFG_PATCH_CMD_ABORT : Fld := ⟨0xD00050, 1, 1⟩
def F.CFG_PATCH_CMD_APPLY : Fld := ⟨0xD00050, 0, 0⟩
/-- BAR0 offset of CFG_PATCH_CMD (02 Table 2.16). -/
def R.CFG_PATCH_CMD : Nat := 0xD00050
def F.CFG_PATCH_LVL_PENDING : Fld := ⟨0xD00058, 16, 16⟩
def F.CFG_PATCH_LVL_WPTR : Fld := ⟨0xD00058, 12, 0⟩
/-- BAR0 offset of CFG_PATCH_LVL (02 Table 2.17). -/
def R.CFG_PATCH_LVL : Nat := 0xD00058
def F.CFG_PATCH_EVT_SEQ : Fld := ⟨0xD0005C, 31, 24⟩
def F.CFG_PATCH_EVT_RESULT : Fld := ⟨0xD0005C, 23, 16⟩
def F.CFG_PATCH_EVT_BUSY_EVT : Fld := ⟨0xD0005C, 2, 2⟩
def F.CFG_PATCH_EVT_REFUSED_EVT : Fld := ⟨0xD0005C, 1, 1⟩
def F.CFG_PATCH_EVT_APPLIED_EVT : Fld := ⟨0xD0005C, 0, 0⟩
/-- BAR0 offset of CFG_PATCH_EVT (02 Table 2.18). -/
def R.CFG_PATCH_EVT : Nat := 0xD0005C
def F.CFG_PATCH_CNT_REFUSED : Fld := ⟨0xD00060, 31, 16⟩
def F.CFG_PATCH_CNT_APPLIED : Fld := ⟨0xD00060, 15, 0⟩
/-- BAR0 offset of CFG_PATCH_CNT (02 Table 2.19). -/
def R.CFG_PATCH_CNT : Nat := 0xD00060
def F.SYS_DMA_HOST_LO_VALUE (n : Nat) : Fld := ⟨0x400 + 0x20 * n, 31, 0⟩
/-- BAR0 offset of SYS_DMA_HOST_LO (03 Table 3.3). -/
def R.SYS_DMA_HOST_LO (n : Nat) : Nat := 0x400 + 0x20 * n
def F.SYS_DMA_HOST_HI_VALUE (n : Nat) : Fld := ⟨0x404 + 0x20 * n, 31, 0⟩
/-- BAR0 offset of SYS_DMA_HOST_HI (03 Table 3.3). -/
def R.SYS_DMA_HOST_HI (n : Nat) : Nat := 0x404 + 0x20 * n
def F.SYS_DMA_SRAM_VALUE (n : Nat) : Fld := ⟨0x408 + 0x20 * n, 31, 0⟩
/-- BAR0 offset of SYS_DMA_SRAM (03 Table 3.3). -/
def R.SYS_DMA_SRAM (n : Nat) : Nat := 0x408 + 0x20 * n
def F.SYS_DMA_LEN_VALUE (n : Nat) : Fld := ⟨0x40C + 0x20 * n, 31, 0⟩
/-- BAR0 offset of SYS_DMA_LEN (03 Table 3.3). -/
def R.SYS_DMA_LEN (n : Nat) : Nat := 0x40C + 0x20 * n
def F.SYS_DMA_CTL_DIR (n : Nat) : Fld := ⟨0x410 + 0x20 * n, 2, 2⟩
def F.SYS_DMA_CTL_ABORT (n : Nat) : Fld := ⟨0x410 + 0x20 * n, 1, 1⟩
def F.SYS_DMA_CTL_START (n : Nat) : Fld := ⟨0x410 + 0x20 * n, 0, 0⟩
/-- BAR0 offset of SYS_DMA_CTL (03 Table 3.4). -/
def R.SYS_DMA_CTL (n : Nat) : Nat := 0x410 + 0x20 * n
def F.SYS_DMA_STS_SEQ (n : Nat) : Fld := ⟨0x414 + 0x20 * n, 31, 24⟩
def F.SYS_DMA_STS_RESULT (n : Nat) : Fld := ⟨0x414 + 0x20 * n, 15, 8⟩
def F.SYS_DMA_STS_BUSY (n : Nat) : Fld := ⟨0x414 + 0x20 * n, 1, 1⟩
def F.SYS_DMA_STS_DONE_EVT (n : Nat) : Fld := ⟨0x414 + 0x20 * n, 0, 0⟩
/-- BAR0 offset of SYS_DMA_STS (03 Table 3.5). -/
def R.SYS_DMA_STS (n : Nat) : Nat := 0x414 + 0x20 * n
def F.SYS_CNT_SEL_OFFSET : Fld := ⟨0x40, 25, 2⟩
/-- BAR0 offset of SYS_CNT_SEL (03 Table 3.12). -/
def R.SYS_CNT_SEL : Nat := 0x40
def F.SYS_CNT_VAL_VALUE : Fld := ⟨0x44, 31, 0⟩
/-- BAR0 offset of SYS_CNT_VAL (03 Table 3.12). -/
def R.SYS_CNT_VAL : Nat := 0x44
def F.SYS_CNT_CMD_LOAD : Fld := ⟨0x48, 0, 0⟩
/-- BAR0 offset of SYS_CNT_CMD (03 Table 3.12). -/
def R.SYS_CNT_CMD : Nat := 0x48
def F.SYS_BUSERR_LOG_SEQ : Fld := ⟨0x10, 31, 24⟩
def F.SYS_BUSERR_LOG_BAR : Fld := ⟨0x10, 23, 23⟩
def F.SYS_BUSERR_LOG_BLOCK : Fld := ⟨0x10, 22, 16⟩
def F.SYS_BUSERR_LOG_CAUSE : Fld := ⟨0x10, 15, 12⟩
def F.SYS_BUSERR_LOG_SRC : Fld := ⟨0x10, 11, 9⟩
def F.SYS_BUSERR_LOG_WRITE : Fld := ⟨0x10, 8, 8⟩
def F.SYS_BUSERR_LOG_EVT : Fld := ⟨0x10, 0, 0⟩
/-- BAR0 offset of SYS_BUSERR_LOG (03 Table 3.15). -/
def R.SYS_BUSERR_LOG : Nat := 0x10
def F.SYS_GUARD_LOG_SEQ : Fld := ⟨0x20, 31, 24⟩
def F.SYS_GUARD_LOG_BAR : Fld := ⟨0x20, 23, 23⟩
def F.SYS_GUARD_LOG_BLOCK : Fld := ⟨0x20, 22, 16⟩
def F.SYS_GUARD_LOG_CAUSE : Fld := ⟨0x20, 15, 12⟩
def F.SYS_GUARD_LOG_SRC : Fld := ⟨0x20, 11, 9⟩
def F.SYS_GUARD_LOG_WRITE : Fld := ⟨0x20, 8, 8⟩
def F.SYS_GUARD_LOG_EVT : Fld := ⟨0x20, 0, 0⟩
/-- BAR0 offset of SYS_GUARD_LOG (03 Table 3.15). -/
def R.SYS_GUARD_LOG : Nat := 0x20
def F.SYS_PARITY_LOG_SEQ : Fld := ⟨0x30, 31, 24⟩
def F.SYS_PARITY_LOG_BAR : Fld := ⟨0x30, 23, 23⟩
def F.SYS_PARITY_LOG_BLOCK : Fld := ⟨0x30, 22, 16⟩
def F.SYS_PARITY_LOG_CAUSE : Fld := ⟨0x30, 15, 12⟩
def F.SYS_PARITY_LOG_SRC : Fld := ⟨0x30, 11, 9⟩
def F.SYS_PARITY_LOG_WRITE : Fld := ⟨0x30, 8, 8⟩
def F.SYS_PARITY_LOG_EVT : Fld := ⟨0x30, 0, 0⟩
/-- BAR0 offset of SYS_PARITY_LOG (03 Table 3.15). -/
def R.SYS_PARITY_LOG : Nat := 0x30
def F.SYS_BUSERR_ADDR_OFFSET : Fld := ⟨0x14, 25, 0⟩
/-- BAR0 offset of SYS_BUSERR_ADDR (03 Table 3.16). -/
def R.SYS_BUSERR_ADDR : Nat := 0x14
def F.SYS_GUARD_ADDR_OFFSET : Fld := ⟨0x24, 25, 0⟩
/-- BAR0 offset of SYS_GUARD_ADDR (03 Table 3.16). -/
def R.SYS_GUARD_ADDR : Nat := 0x24
def F.SYS_PARITY_ADDR_OFFSET : Fld := ⟨0x34, 25, 0⟩
/-- BAR0 offset of SYS_PARITY_ADDR (03 Table 3.16). -/
def R.SYS_PARITY_ADDR : Nat := 0x34
def F.SYS_BUSERR_CNT_COUNT : Fld := ⟨0x18, 31, 0⟩
/-- BAR0 offset of SYS_BUSERR_CNT (03 Table 3.17). -/
def R.SYS_BUSERR_CNT : Nat := 0x18
def F.SYS_GUARD_CNT_COUNT : Fld := ⟨0x28, 31, 0⟩
/-- BAR0 offset of SYS_GUARD_CNT (03 Table 3.17). -/
def R.SYS_GUARD_CNT : Nat := 0x28
def F.SYS_PARITY_CNT_COUNT : Fld := ⟨0x38, 31, 0⟩
/-- BAR0 offset of SYS_PARITY_CNT (03 Table 3.17). -/
def R.SYS_PARITY_CNT : Nat := 0x38
def F.SYS_MSPI_ERR_CRC_ERR : Fld := ⟨0x50, 31, 16⟩
def F.SYS_MSPI_ERR_FRAME_ERR : Fld := ⟨0x50, 15, 0⟩
/-- BAR0 offset of SYS_MSPI_ERR (03 Table 3.17). -/
def R.SYS_MSPI_ERR : Nat := 0x50
def F.SYS_ID_MEMBER : Fld := ⟨0x0, 31, 16⟩
/-- BAR0 offset of SYS_ID (03 Table 3.18). -/
def R.SYS_ID : Nat := 0x0
def F.SYS_ID_STEP_LETTER : Fld := ⟨0x4, 15, 8⟩
def F.SYS_ID_STEP_DIGIT : Fld := ⟨0x4, 7, 0⟩
/-- BAR0 offset of SYS_ID_STEP (03 Table 3.18). -/
def R.SYS_ID_STEP : Nat := 0x4
def F.SYS_TUN_CTL_DST : Fld := ⟨0x600, 12, 8⟩
def F.SYS_TUN_CTL_OP : Fld := ⟨0x600, 7, 6⟩
def F.SYS_TUN_CTL_LM1 : Fld := ⟨0x600, 5, 0⟩
/-- BAR0 offset of SYS_TUN_CTL (03 Table 3.22). -/
def R.SYS_TUN_CTL : Nat := 0x600
def F.SYS_TUN_ADDR_OFFSET : Fld := ⟨0x604, 31, 0⟩
/-- BAR0 offset of SYS_TUN_ADDR (03 Table 3.22). -/
def R.SYS_TUN_ADDR : Nat := 0x604
def F.SYS_TUN_CMD_START : Fld := ⟨0x608, 0, 0⟩
/-- BAR0 offset of SYS_TUN_CMD (03 Table 3.22). -/
def R.SYS_TUN_CMD : Nat := 0x608
def F.SYS_TUN_STS_SEQ : Fld := ⟨0x60C, 31, 24⟩
def F.SYS_TUN_STS_RESULT : Fld := ⟨0x60C, 23, 16⟩
def F.SYS_TUN_STS_FAIL : Fld := ⟨0x60C, 15, 8⟩
def F.SYS_TUN_STS_BUSY : Fld := ⟨0x60C, 1, 1⟩
def F.SYS_TUN_STS_DONE_EVT : Fld := ⟨0x60C, 0, 0⟩
/-- BAR0 offset of SYS_TUN_STS (03 Table 3.22). -/
def R.SYS_TUN_STS : Nat := 0x60C
def F.SYS_TUN_WNODES_TUN_WNODES : Fld := ⟨0x610, 31, 0⟩
/-- BAR0 offset of SYS_TUN_WNODES (03 Table 3.22). -/
def R.SYS_TUN_WNODES : Nat := 0x610
def F.SYS_TUN_CNT_TUN_DROP : Fld := ⟨0x614, 31, 24⟩
def F.SYS_TUN_CNT_TUN_LATE : Fld := ⟨0x614, 23, 16⟩
def F.SYS_TUN_CNT_SERVED : Fld := ⟨0x614, 15, 0⟩
/-- BAR0 offset of SYS_TUN_CNT (03 Table 3.22). -/
def R.SYS_TUN_CNT : Nat := 0x614
def F.SYS_TUN_WMASK_TUN_WMASK : Fld := ⟨0x618, 15, 0⟩
/-- BAR0 offset of SYS_TUN_WMASK (03 Table 3.22). -/
def R.SYS_TUN_WMASK : Nat := 0x618
def F.SYS_TUN_DATA_DATA (n : Nat) : Fld := ⟨0x700 + 0x4 * n, 31, 0⟩
/-- BAR0 offset of SYS_TUN_DATA (03 Table 3.22). -/
def R.SYS_TUN_DATA (n : Nat) : Nat := 0x700 + 0x4 * n
def F.TIME_NOW_LO_NS_LO : Fld := ⟨0x200000, 31, 0⟩
/-- BAR0 offset of TIME_NOW_LO (04 Table 4.1). -/
def R.TIME_NOW_LO : Nat := 0x200000
def F.TIME_NOW_HI_NS_HI : Fld := ⟨0x200004, 31, 0⟩
/-- BAR0 offset of TIME_NOW_HI (04 Table 4.1). -/
def R.TIME_NOW_HI : Nat := 0x200004
def F.TIME_NOW_FRAC_FRAC : Fld := ⟨0x200008, 31, 0⟩
/-- BAR0 offset of TIME_NOW_FRAC (04 Table 4.1). -/
def R.TIME_NOW_FRAC : Nat := 0x200008
def F.TIME_INC_NOM_NOM_TRIM : Fld := ⟨0x200010, 31, 0⟩
/-- BAR0 offset of TIME_INC_NOM (04 Table 4.1). -/
def R.TIME_INC_NOM : Nat := 0x200010
def F.TIME_INC_ACT_LO_INC_FRAC : Fld := ⟨0x200018, 31, 0⟩
/-- BAR0 offset of TIME_INC_ACT_LO (04 Table 4.1). -/
def R.TIME_INC_ACT_LO : Nat := 0x200018
def F.TIME_INC_ACT_HI_INC_INT : Fld := ⟨0x20001C, 3, 0⟩
/-- BAR0 offset of TIME_INC_ACT_HI (04 Table 4.1). -/
def R.TIME_INC_ACT_HI : Nat := 0x20001C
def F.TIME_ASYM_TX_ASYM (n : Nat) : Fld := ⟨0x200040 + 0x4 * n, 31, 16⟩
def F.TIME_ASYM_RX_ASYM (n : Nat) : Fld := ⟨0x200040 + 0x4 * n, 15, 0⟩
/-- BAR0 offset of TIME_ASYM (04 Table 4.2). -/
def R.TIME_ASYM (n : Nat) : Nat := 0x200040 + 0x4 * n
def F.TIME_SERVO_GAIN_KP : Fld := ⟨0x200020, 31, 16⟩
def F.TIME_SERVO_GAIN_KI : Fld := ⟨0x200020, 15, 0⟩
/-- BAR0 offset of TIME_SERVO_GAIN (04 Table 4.3). -/
def R.TIME_SERVO_GAIN : Nat := 0x200020
def F.TIME_PPS_GAIN_KP_PPS : Fld := ⟨0x200024, 31, 16⟩
def F.TIME_PPS_GAIN_KI_PPS : Fld := ⟨0x200024, 15, 0⟩
/-- BAR0 offset of TIME_PPS_GAIN (04 Table 4.3). -/
def R.TIME_PPS_GAIN : Nat := 0x200024
def F.TIME_TRIM_MAX_SHIFT : Fld := ⟨0x200028, 27, 24⟩
def F.TIME_TRIM_MAX_TRIM_MAX : Fld := ⟨0x200028, 23, 0⟩
/-- BAR0 offset of TIME_TRIM_MAX (04 Table 4.3). -/
def R.TIME_TRIM_MAX : Nat := 0x200028
def F.TIME_OUTLIER_THR_OUTLIER_THR : Fld := ⟨0x20002C, 15, 0⟩
/-- BAR0 offset of TIME_OUTLIER_THR (04 Table 4.3). -/
def R.TIME_OUTLIER_THR : Nat := 0x20002C
def F.TIME_SERVO_STS_TOD_VALID : Fld := ⟨0x200030, 3, 3⟩
def F.TIME_SERVO_STS_LOCKED : Fld := ⟨0x200030, 2, 2⟩
def F.TIME_SERVO_STS_ROLE : Fld := ⟨0x200030, 1, 0⟩
/-- BAR0 offset of TIME_SERVO_STS (04 Table 4.4). -/
def R.TIME_SERVO_STS : Nat := 0x200030
def F.TIME_OFFSET_OFFSET : Fld := ⟨0x200034, 31, 0⟩
/-- BAR0 offset of TIME_OFFSET (04 Table 4.4). -/
def R.TIME_OFFSET : Nat := 0x200034
def F.TIME_SERVO_EVT_SEQ : Fld := ⟨0x200038, 31, 24⟩
def F.TIME_SERVO_EVT_PPS_LOSS_EVT : Fld := ⟨0x200038, 6, 6⟩
def F.TIME_SERVO_EVT_PPS_JUMP_EVT : Fld := ⟨0x200038, 5, 5⟩
def F.TIME_SERVO_EVT_OUTLIER_EVT : Fld := ⟨0x200038, 4, 4⟩
def F.TIME_SERVO_EVT_SYNC_MISS_EVT : Fld := ⟨0x200038, 3, 3⟩
def F.TIME_SERVO_EVT_STEP_EVT : Fld := ⟨0x200038, 2, 2⟩
def F.TIME_SERVO_EVT_UNLOCK_EVT : Fld := ⟨0x200038, 1, 1⟩
def F.TIME_SERVO_EVT_LOCK_EVT : Fld := ⟨0x200038, 0, 0⟩
/-- BAR0 offset of TIME_SERVO_EVT (04 Table 4.5). -/
def R.TIME_SERVO_EVT : Nat := 0x200038
def F.TIME_SERVO_CNT_SYNC_MISS : Fld := ⟨0x20003C, 31, 16⟩
def F.TIME_SERVO_CNT_OUTLIER : Fld := ⟨0x20003C, 15, 0⟩
/-- BAR0 offset of TIME_SERVO_CNT (04 Table 4.5). -/
def R.TIME_SERVO_CNT : Nat := 0x20003C
def F.TIME_TOD_SEC_LO_TOD_SEC : Fld := ⟨0x200060, 31, 0⟩
/-- BAR0 offset of TIME_TOD_SEC_LO (04 Table 4.6). -/
def R.TIME_TOD_SEC_LO : Nat := 0x200060
def F.TIME_TOD_SEC_HI_TOD_SEC : Fld := ⟨0x200064, 31, 0⟩
/-- BAR0 offset of TIME_TOD_SEC_HI (04 Table 4.6). -/
def R.TIME_TOD_SEC_HI : Nat := 0x200064
def F.TIME_TOD_OFFSET_LO_TOD_OFFSET : Fld := ⟨0x200068, 31, 0⟩
/-- BAR0 offset of TIME_TOD_OFFSET_LO (04 Table 4.6). -/
def R.TIME_TOD_OFFSET_LO : Nat := 0x200068
def F.TIME_TOD_OFFSET_HI_TOD_OFFSET : Fld := ⟨0x20006C, 31, 0⟩
/-- BAR0 offset of TIME_TOD_OFFSET_HI (04 Table 4.6). -/
def R.TIME_TOD_OFFSET_HI : Nat := 0x20006C
def F.TIME_PPS_CTL_OUT_WIDTH : Fld := ⟨0x200070, 25, 8⟩
def F.TIME_PPS_CTL_PPS_OUT_POL : Fld := ⟨0x200070, 4, 4⟩
def F.TIME_PPS_CTL_PPS_IN_POL : Fld := ⟨0x200070, 3, 3⟩
def F.TIME_PPS_CTL_PPS_OUT_EN : Fld := ⟨0x200070, 2, 2⟩
def F.TIME_PPS_CTL_ALIGN : Fld := ⟨0x200070, 1, 1⟩
def F.TIME_PPS_CTL_PPS_EN : Fld := ⟨0x200070, 0, 0⟩
/-- BAR0 offset of TIME_PPS_CTL (04 Table 4.6). -/
def R.TIME_PPS_CTL : Nat := 0x200070
def F.TIME_PPS_CAP_LO_CAP : Fld := ⟨0x200074, 31, 0⟩
/-- BAR0 offset of TIME_PPS_CAP_LO (04 Table 4.6). -/
def R.TIME_PPS_CAP_LO : Nat := 0x200074
def F.TIME_PPS_CAP_HI_CAP : Fld := ⟨0x200078, 31, 0⟩
/-- BAR0 offset of TIME_PPS_CAP_HI (04 Table 4.6). -/
def R.TIME_PPS_CAP_HI : Nat := 0x200078
def F.TIME_EV_TGT_LO_TGT (n : Nat) : Fld := ⟨0x200100 + 0x20 * n, 31, 0⟩
/-- BAR0 offset of TIME_EV_TGT_LO (04 Table 4.8). -/
def R.TIME_EV_TGT_LO (n : Nat) : Nat := 0x200100 + 0x20 * n
def F.TIME_EV_TGT_HI_TGT (n : Nat) : Fld := ⟨0x200104 + 0x20 * n, 31, 0⟩
/-- BAR0 offset of TIME_EV_TGT_HI (04 Table 4.8). -/
def R.TIME_EV_TGT_HI (n : Nat) : Nat := 0x200104 + 0x20 * n
def F.TIME_EV_CYC_DIV (n : Nat) : Fld := ⟨0x200108 + 0x20 * n, 23, 16⟩
def F.TIME_EV_CYC_PHASE (n : Nat) : Fld := ⟨0x200108 + 0x20 * n, 15, 0⟩
/-- BAR0 offset of TIME_EV_CYC (04 Table 4.8). -/
def R.TIME_EV_CYC (n : Nat) : Nat := 0x200108 + 0x20 * n
def F.TIME_EV_CTL_EDGE (n : Nat) : Fld := ⟨0x20010C + 0x20 * n, 17, 16⟩
def F.TIME_EV_CTL_WIDTH (n : Nat) : Fld := ⟨0x20010C + 0x20 * n, 15, 8⟩
def F.TIME_EV_CTL_POL (n : Nat) : Fld := ⟨0x20010C + 0x20 * n, 4, 4⟩
def F.TIME_EV_CTL_PIN_EN (n : Nat) : Fld := ⟨0x20010C + 0x20 * n, 3, 3⟩
def F.TIME_EV_CTL_ARM (n : Nat) : Fld := ⟨0x20010C + 0x20 * n, 2, 2⟩
def F.TIME_EV_CTL_MODE (n : Nat) : Fld := ⟨0x20010C + 0x20 * n, 1, 0⟩
/-- BAR0 offset of TIME_EV_CTL (04 Table 4.8). -/
def R.TIME_EV_CTL (n : Nat) : Nat := 0x20010C + 0x20 * n
def F.TIME_EV_STS_SEQ (n : Nat) : Fld := ⟨0x200110 + 0x20 * n, 31, 24⟩
def F.TIME_EV_STS_CFG_ERR (n : Nat) : Fld := ⟨0x200110 + 0x20 * n, 8, 8⟩
def F.TIME_EV_STS_OVR_EVT (n : Nat) : Fld := ⟨0x200110 + 0x20 * n, 3, 3⟩
def F.TIME_EV_STS_CAP_EVT (n : Nat) : Fld := ⟨0x200110 + 0x20 * n, 2, 2⟩
def F.TIME_EV_STS_LATE_EVT (n : Nat) : Fld := ⟨0x200110 + 0x20 * n, 1, 1⟩
def F.TIME_EV_STS_FIRE_EVT (n : Nat) : Fld := ⟨0x200110 + 0x20 * n, 0, 0⟩
/-- BAR0 offset of TIME_EV_STS (04 Table 4.9). -/
def R.TIME_EV_STS (n : Nat) : Nat := 0x200110 + 0x20 * n
def F.TIME_EV_CAP_LO_CAP (n : Nat) : Fld := ⟨0x200114 + 0x20 * n, 31, 0⟩
/-- BAR0 offset of TIME_EV_CAP_LO (04 Table 4.9). -/
def R.TIME_EV_CAP_LO (n : Nat) : Nat := 0x200114 + 0x20 * n
def F.TIME_EV_CAP_HI_CAP (n : Nat) : Fld := ⟨0x200118 + 0x20 * n, 31, 0⟩
/-- BAR0 offset of TIME_EV_CAP_HI (04 Table 4.9). -/
def R.TIME_EV_CAP_HI (n : Nat) : Nat := 0x200118 + 0x20 * n
def F.LINK_STS_NODES : Fld := ⟨0x300000, 23, 16⟩
def F.LINK_STS_ROOT : Fld := ⟨0x300000, 15, 15⟩
def F.LINK_STS_ID_VALID : Fld := ⟨0x300000, 14, 14⟩
def F.LINK_STS_PHASE : Fld := ⟨0x300000, 13, 12⟩
def F.LINK_STS_NODE_ID : Fld := ⟨0x300000, 4, 0⟩
/-- BAR0 offset of LINK_STS (05 Table 5.11). -/
def R.LINK_STS : Nat := 0x300000
def F.LINK_DISC_EVT_SEQ : Fld := ⟨0x300004, 31, 24⟩
def F.LINK_DISC_EVT_DISC_RESULT : Fld := ⟨0x300004, 23, 16⟩
def F.LINK_DISC_EVT_DISC_DETAIL : Fld := ⟨0x300004, 15, 8⟩
def F.LINK_DISC_EVT_UNEXPECTED_EVT : Fld := ⟨0x300004, 3, 3⟩
def F.LINK_DISC_EVT_ROOT_CONFLICT_EVT : Fld := ⟨0x300004, 2, 2⟩
def F.LINK_DISC_EVT_DISC_FAIL_EVT : Fld := ⟨0x300004, 1, 1⟩
def F.LINK_DISC_EVT_DISC_DONE_EVT : Fld := ⟨0x300004, 0, 0⟩
/-- BAR0 offset of LINK_DISC_EVT (05 Table 5.12). -/
def R.LINK_DISC_EVT : Nat := 0x300004
def F.LINK_NODISJ_NODISJ : Fld := ⟨0x300008, 31, 0⟩
/-- BAR0 offset of LINK_NODISJ (05 Table 5.12). -/
def R.LINK_NODISJ : Nat := 0x300008
def F.LINK_RTA_BMASK (n : Nat) : Fld := ⟨0x300100 + 0x4 * n, 23, 16⟩
def F.LINK_RTA_EGR_A (n : Nat) : Fld := ⟨0x300100 + 0x4 * n, 3, 0⟩
/-- BAR0 offset of LINK_RTA (05 Table 5.13). -/
def R.LINK_RTA (n : Nat) : Nat := 0x300100 + 0x4 * n
def F.LINK_RTB_EGR_B (n : Nat) : Fld := ⟨0x300200 + 0x4 * n, 31, 0⟩
/-- BAR0 offset of LINK_RTB (05 Table 5.14). -/
def R.LINK_RTB (n : Nat) : Nat := 0x300200 + 0x4 * n
def F.LINK_PORT_CTL_RX_EQ (n : Nat) : Fld := ⟨0x301000 + 0x40 * n, 11, 9⟩
def F.LINK_PORT_CTL_TX_DEEMPH (n : Nat) : Fld := ⟨0x301000 + 0x40 * n, 8, 7⟩
def F.LINK_PORT_CTL_TX_AMP (n : Nat) : Fld := ⟨0x301000 + 0x40 * n, 6, 5⟩
def F.LINK_PORT_CTL_INJ_CRC (n : Nat) : Fld := ⟨0x301000 + 0x40 * n, 4, 4⟩
def F.LINK_PORT_CTL_INJ_CODE (n : Nat) : Fld := ⟨0x301000 + 0x40 * n, 3, 3⟩
def F.LINK_PORT_CTL_MODE (n : Nat) : Fld := ⟨0x301000 + 0x40 * n, 1, 0⟩
/-- BAR0 offset of LINK_PORT_CTL (05 Table 5.15). -/
def R.LINK_PORT_CTL (n : Nat) : Nat := 0x301000 + 0x40 * n
def F.LINK_PORT_STS_PEER_NODE (n : Nat) : Fld := ⟨0x301004 + 0x40 * n, 31, 24⟩
def F.LINK_PORT_STS_PEER_PORT (n : Nat) : Fld := ⟨0x301004 + 0x40 * n, 18, 16⟩
def F.LINK_PORT_STS_RX_INV (n : Nat) : Fld := ⟨0x301004 + 0x40 * n, 3, 3⟩
def F.LINK_PORT_STS_DLY_VALID (n : Nat) : Fld := ⟨0x301004 + 0x40 * n, 2, 2⟩
def F.LINK_PORT_STS_STATE (n : Nat) : Fld := ⟨0x301004 + 0x40 * n, 1, 0⟩
/-- BAR0 offset of LINK_PORT_STS (05 Table 5.16). -/
def R.LINK_PORT_STS (n : Nat) : Nat := 0x301004 + 0x40 * n
def F.LINK_PORT_DLY_DELAY (n : Nat) : Fld := ⟨0x30100C + 0x40 * n, 31, 0⟩
/-- BAR0 offset of LINK_PORT_DLY (05 Table 5.16). -/
def R.LINK_PORT_DLY (n : Nat) : Nat := 0x30100C + 0x40 * n
def F.LINK_PORT_EVT_SEQ (n : Nat) : Fld := ⟨0x301008 + 0x40 * n, 31, 24⟩
def F.LINK_PORT_EVT_PEER_CHANGE_EVT (n : Nat) : Fld := ⟨0x301008 + 0x40 * n, 6, 6⟩
def F.LINK_PORT_EVT_DROP_EVT (n : Nat) : Fld := ⟨0x301008 + 0x40 * n, 5, 5⟩
def F.LINK_PORT_EVT_CRC_EVT (n : Nat) : Fld := ⟨0x301008 + 0x40 * n, 4, 4⟩
def F.LINK_PORT_EVT_DLY_RANGE_EVT (n : Nat) : Fld := ⟨0x301008 + 0x40 * n, 3, 3⟩
def F.LINK_PORT_EVT_ALIGN_LOSS_EVT (n : Nat) : Fld := ⟨0x301008 + 0x40 * n, 2, 2⟩
def F.LINK_PORT_EVT_DOWN_EVT (n : Nat) : Fld := ⟨0x301008 + 0x40 * n, 1, 1⟩
def F.LINK_PORT_EVT_UP_EVT (n : Nat) : Fld := ⟨0x301008 + 0x40 * n, 0, 0⟩
/-- BAR0 offset of LINK_PORT_EVT (05 Table 5.17). -/
def R.LINK_PORT_EVT (n : Nat) : Nat := 0x301008 + 0x40 * n
def F.LINK_PORT_CNT0_CODE_ERR (n : Nat) : Fld := ⟨0x301010 + 0x40 * n, 31, 16⟩
def F.LINK_PORT_CNT0_ALIGN_LOSS (n : Nat) : Fld := ⟨0x301010 + 0x40 * n, 15, 0⟩
/-- BAR0 offset of LINK_PORT_CNT0 (05 Table 5.18). -/
def R.LINK_PORT_CNT0 (n : Nat) : Nat := 0x301010 + 0x40 * n
def F.LINK_PORT_CNT1_HCRC_ERR (n : Nat) : Fld := ⟨0x301014 + 0x40 * n, 31, 16⟩
def F.LINK_PORT_CNT1_CRC_ERR (n : Nat) : Fld := ⟨0x301014 + 0x40 * n, 15, 0⟩
/-- BAR0 offset of LINK_PORT_CNT1 (05 Table 5.18). -/
def R.LINK_PORT_CNT1 (n : Nat) : Nat := 0x301014 + 0x40 * n
def F.LINK_PORT_CNT2_STOMPED (n : Nat) : Fld := ⟨0x301018 + 0x40 * n, 31, 16⟩
def F.LINK_PORT_CNT2_EGR_DROP (n : Nat) : Fld := ⟨0x301018 + 0x40 * n, 15, 0⟩
/-- BAR0 offset of LINK_PORT_CNT2 (05 Table 5.18). -/
def R.LINK_PORT_CNT2 (n : Nat) : Nat := 0x301018 + 0x40 * n
def F.LINK_PORT_CNT3_TTL_EXP (n : Nat) : Fld := ⟨0x30101C + 0x40 * n, 31, 24⟩
def F.LINK_PORT_CNT3_UNROUTABLE (n : Nat) : Fld := ⟨0x30101C + 0x40 * n, 23, 16⟩
def F.LINK_PORT_CNT3_LEN_ERR (n : Nat) : Fld := ⟨0x30101C + 0x40 * n, 15, 8⟩
def F.LINK_PORT_CNT3_DLY_OUTLIER (n : Nat) : Fld := ⟨0x30101C + 0x40 * n, 7, 0⟩
/-- BAR0 offset of LINK_PORT_CNT3 (05 Table 5.18). -/
def R.LINK_PORT_CNT3 (n : Nat) : Nat := 0x30101C + 0x40 * n
def F.LINK_PORT_CNT4_DLY_CONFLICT (n : Nat) : Fld := ⟨0x301020 + 0x40 * n, 31, 16⟩
/-- BAR0 offset of LINK_PORT_CNT4 (05 Table 5.18). -/
def R.LINK_PORT_CNT4 (n : Nat) : Nat := 0x301020 + 0x40 * n
def F.LINK_PRBS_CTL_INJ (n : Nat) : Fld := ⟨0x302000 + 0x20 * n, 7, 7⟩
def F.LINK_PRBS_CTL_INV (n : Nat) : Fld := ⟨0x302000 + 0x20 * n, 6, 6⟩
def F.LINK_PRBS_CTL_PATTERN (n : Nat) : Fld := ⟨0x302000 + 0x20 * n, 5, 4⟩
def F.LINK_PRBS_CTL_CHK_EN (n : Nat) : Fld := ⟨0x302000 + 0x20 * n, 3, 3⟩
def F.LINK_PRBS_CTL_GEN_EN (n : Nat) : Fld := ⟨0x302000 + 0x20 * n, 2, 2⟩
/-- BAR0 offset of LINK_PRBS_CTL (05 Table 5.19). -/
def R.LINK_PRBS_CTL (n : Nat) : Nat := 0x302000 + 0x20 * n
def F.LINK_PRBS_STS_SEQ (n : Nat) : Fld := ⟨0x302004 + 0x20 * n, 31, 24⟩
def F.LINK_PRBS_STS_LOCK (n : Nat) : Fld := ⟨0x302004 + 0x20 * n, 2, 2⟩
def F.LINK_PRBS_STS_LOCK_LOSS_EVT (n : Nat) : Fld := ⟨0x302004 + 0x20 * n, 1, 1⟩
def F.LINK_PRBS_STS_LOCK_EVT (n : Nat) : Fld := ⟨0x302004 + 0x20 * n, 0, 0⟩
/-- BAR0 offset of LINK_PRBS_STS (05 Table 5.19). -/
def R.LINK_PRBS_STS (n : Nat) : Nat := 0x302004 + 0x20 * n
def F.LINK_PRBS_ERR_ERR (n : Nat) : Fld := ⟨0x302008 + 0x20 * n, 31, 0⟩
/-- BAR0 offset of LINK_PRBS_ERR (05 Table 5.19). -/
def R.LINK_PRBS_ERR (n : Nat) : Nat := 0x302008 + 0x20 * n
def F.LINK_PRBS_BITS_LO_BITS (n : Nat) : Fld := ⟨0x30200C + 0x20 * n, 31, 0⟩
/-- BAR0 offset of LINK_PRBS_BITS_LO (05 Table 5.19). -/
def R.LINK_PRBS_BITS_LO (n : Nat) : Nat := 0x30200C + 0x20 * n
def F.LINK_PRBS_BITS_HI_BITS (n : Nat) : Fld := ⟨0x302010 + 0x20 * n, 31, 0⟩
/-- BAR0 offset of LINK_PRBS_BITS_HI (05 Table 5.19). -/
def R.LINK_PRBS_BITS_HI (n : Nat) : Nat := 0x302010 + 0x20 * n
def F.LINK_SCHED_STS_ZENITH_ID : Fld := ⟨0x300400, 31, 27⟩
def F.LINK_SCHED_STS_MISS_RUN : Fld := ⟨0x300400, 15, 8⟩
def F.LINK_SCHED_STS_DRIFT_WARN : Fld := ⟨0x300400, 7, 7⟩
def F.LINK_SCHED_STS_CUR_MODE : Fld := ⟨0x300400, 5, 4⟩
def F.LINK_SCHED_STS_SSTATE : Fld := ⟨0x300400, 2, 0⟩
/-- BAR0 offset of LINK_SCHED_STS (06 Table 6.11). -/
def R.LINK_SCHED_STS : Nat := 0x300400
def F.LINK_LIVE_LIVE : Fld := ⟨0x300404, 31, 0⟩
/-- BAR0 offset of LINK_LIVE (06 Table 6.11). -/
def R.LINK_LIVE : Nat := 0x300404
def F.LINK_SCHED_EVT_SEQ : Fld := ⟨0x300408, 31, 24⟩
def F.LINK_SCHED_EVT_AGE_FAULT_EVT : Fld := ⟨0x300408, 10, 10⟩
def F.LINK_SCHED_EVT_TABLE_ERR_EVT : Fld := ⟨0x300408, 9, 9⟩
def F.LINK_SCHED_EVT_NO_SYNC_EVT : Fld := ⟨0x300408, 8, 8⟩
def F.LINK_SCHED_EVT_ZEN_CONFLICT_EVT : Fld := ⟨0x300408, 7, 7⟩
def F.LINK_SCHED_EVT_ZENITH_EVT : Fld := ⟨0x300408, 6, 6⟩
def F.LINK_SCHED_EVT_DAWN_ABANDON_EVT : Fld := ⟨0x300408, 5, 5⟩
def F.LINK_SCHED_EVT_MODE_VOID_EVT : Fld := ⟨0x300408, 4, 4⟩
def F.LINK_SCHED_EVT_MODE_SWITCH_EVT : Fld := ⟨0x300408, 3, 3⟩
def F.LINK_SCHED_EVT_DRIFT_EVT : Fld := ⟨0x300408, 2, 2⟩
def F.LINK_SCHED_EVT_SILENCE_EVT : Fld := ⟨0x300408, 1, 1⟩
def F.LINK_SCHED_EVT_INTEG_EVT : Fld := ⟨0x300408, 0, 0⟩
/-- BAR0 offset of LINK_SCHED_EVT (06 Table 6.12). -/
def R.LINK_SCHED_EVT : Nat := 0x300408
def F.LINK_TABLE_ERR_MODE : Fld := ⟨0x30040C, 25, 24⟩
def F.LINK_TABLE_ERR_REASON : Fld := ⟨0x30040C, 23, 16⟩
def F.LINK_TABLE_ERR_ENTRY : Fld := ⟨0x30040C, 9, 0⟩
/-- BAR0 offset of LINK_TABLE_ERR (06 Table 6.13). -/
def R.LINK_TABLE_ERR : Nat := 0x30040C
def F.LINK_MODE_REQ_MODE : Fld := ⟨0x300410, 2, 1⟩
def F.LINK_MODE_REQ_PROPOSE : Fld := ⟨0x300410, 0, 0⟩
/-- BAR0 offset of LINK_MODE_REQ (06 Table 6.14). -/
def R.LINK_MODE_REQ : Nat := 0x300410
def F.LINK_MODE_CYC_PROP_CYC : Fld := ⟨0x300418, 31, 0⟩
/-- BAR0 offset of LINK_MODE_CYC (06 Table 6.14). -/
def R.LINK_MODE_CYC : Nat := 0x300418
def F.LINK_MODE_STS_VOID_REASON : Fld := ⟨0x30041C, 15, 8⟩
def F.LINK_MODE_STS_PROP_STATE : Fld := ⟨0x30041C, 7, 6⟩
def F.LINK_MODE_STS_PROP_MODE : Fld := ⟨0x30041C, 5, 4⟩
/-- BAR0 offset of LINK_MODE_STS (06 Table 6.14). -/
def R.LINK_MODE_STS : Nat := 0x30041C
def F.LINK_MODE_ACC_ACC : Fld := ⟨0x300420, 31, 0⟩
/-- BAR0 offset of LINK_MODE_ACC (06 Table 6.14). -/
def R.LINK_MODE_ACC : Nat := 0x300420
def F.LINK_MODE_EXP_EXPECT : Fld := ⟨0x300424, 31, 0⟩
/-- BAR0 offset of LINK_MODE_EXP (06 Table 6.14). -/
def R.LINK_MODE_EXP : Nat := 0x300424
def F.LINK_SCHED_CNT0_SLOT_EARLY : Fld := ⟨0x300428, 31, 16⟩
def F.LINK_SCHED_CNT0_SLOT_LATE : Fld := ⟨0x300428, 15, 0⟩
/-- BAR0 offset of LINK_SCHED_CNT0 (06 Table 6.15). -/
def R.LINK_SCHED_CNT0 : Nat := 0x300428
def F.LINK_SCHED_CNT1_SLOT_STREAM : Fld := ⟨0x30042C, 31, 16⟩
def F.LINK_SCHED_CNT1_SLOT_NONE : Fld := ⟨0x30042C, 15, 0⟩
/-- BAR0 offset of LINK_SCHED_CNT1 (06 Table 6.15). -/
def R.LINK_SCHED_CNT1 : Nat := 0x30042C
def F.LINK_SCHED_CNT2_SLOT_DUP : Fld := ⟨0x300430, 31, 16⟩
def F.LINK_SCHED_CNT2_SILENCE : Fld := ⟨0x300430, 15, 8⟩
def F.LINK_SCHED_CNT2_MODE_VOID : Fld := ⟨0x300430, 7, 0⟩
/-- BAR0 offset of LINK_SCHED_CNT2 (06 Table 6.15). -/
def R.LINK_SCHED_CNT2 : Nat := 0x300430
def F.LINK_STRM_STREAM (n : Nat) : Fld := ⟨0x303000 + 0x4 * n, 31, 16⟩
def F.LINK_STRM_AGE (n : Nat) : Fld := ⟨0x303000 + 0x4 * n, 15, 8⟩
def F.LINK_STRM_FAULT (n : Nat) : Fld := ⟨0x303000 + 0x4 * n, 2, 2⟩
def F.LINK_STRM_VALID (n : Nat) : Fld := ⟨0x303000 + 0x4 * n, 1, 1⟩
def F.LINK_STRM_STALE (n : Nat) : Fld := ⟨0x303000 + 0x4 * n, 0, 0⟩
/-- BAR0 offset of LINK_STRM (06 Table 6.16). -/
def R.LINK_STRM (n : Nat) : Nat := 0x303000 + 0x4 * n
def F.FB_QCNT_COUNT (n : Nat) : Fld := ⟨0x900000 + 0x40 * n, 31, 0⟩
/-- BAR0 offset of FB_QCNT (07 Table 7.3). -/
def R.FB_QCNT (n : Nat) : Nat := 0x900000 + 0x40 * n
def F.FB_QLAT_LAT (n : Nat) : Fld := ⟨0x900004 + 0x40 * n, 31, 0⟩
/-- BAR0 offset of FB_QLAT (07 Table 7.3). -/
def R.FB_QLAT (n : Nat) : Nat := 0x900004 + 0x40 * n
def F.FB_QSPD_SPEED (n : Nat) : Fld := ⟨0x900008 + 0x40 * n, 31, 0⟩
/-- BAR0 offset of FB_QSPD (07 Table 7.3). -/
def R.FB_QSPD (n : Nat) : Nat := 0x900008 + 0x40 * n
def F.FB_QZCAP_ZCAP (n : Nat) : Fld := ⟨0x90000C + 0x40 * n, 31, 0⟩
/-- BAR0 offset of FB_QZCAP (07 Table 7.3). -/
def R.FB_QZCAP (n : Nat) : Nat := 0x90000C + 0x40 * n
def F.FB_QSTS_FAULT (n : Nat) : Fld := ⟨0x900010 + 0x40 * n, 7, 7⟩
def F.FB_QSTS_DIR_KNOWN (n : Nat) : Fld := ⟨0x900010 + 0x40 * n, 6, 6⟩
def F.FB_QSTS_DIR (n : Nat) : Fld := ⟨0x900010 + 0x40 * n, 5, 5⟩
def F.FB_QSTS_STANDSTILL (n : Nat) : Fld := ⟨0x900010 + 0x40 * n, 4, 4⟩
def F.FB_QSTS_METHOD (n : Nat) : Fld := ⟨0x900010 + 0x40 * n, 3, 3⟩
def F.FB_QSTS_PER_VALID (n : Nat) : Fld := ⟨0x900010 + 0x40 * n, 2, 2⟩
def F.FB_QSTS_MODE (n : Nat) : Fld := ⟨0x900010 + 0x40 * n, 1, 0⟩
/-- BAR0 offset of FB_QSTS (07 Table 7.4). -/
def R.FB_QSTS (n : Nat) : Nat := 0x900010 + 0x40 * n
def F.FB_QEVT_SEQ (n : Nat) : Fld := ⟨0x900014 + 0x40 * n, 31, 24⟩
def F.FB_QEVT_FAULT_EVT (n : Nat) : Fld := ⟨0x900014 + 0x40 * n, 3, 3⟩
def F.FB_QEVT_Z_EVT (n : Nat) : Fld := ⟨0x900014 + 0x40 * n, 2, 2⟩
def F.FB_QEVT_QERR_EVT (n : Nat) : Fld := ⟨0x900014 + 0x40 * n, 1, 1⟩
def F.FB_QEVT_STILL_EVT (n : Nat) : Fld := ⟨0x900014 + 0x40 * n, 0, 0⟩
/-- BAR0 offset of FB_QEVT (07 Table 7.4). -/
def R.FB_QEVT (n : Nat) : Nat := 0x900014 + 0x40 * n
def F.FB_QERR_QUAD_ERR (n : Nat) : Fld := ⟨0x900018 + 0x40 * n, 31, 16⟩
def F.FB_QERR_CYC_ERR (n : Nat) : Fld := ⟨0x900018 + 0x40 * n, 7, 0⟩
/-- BAR0 offset of FB_QERR (07 Table 7.4). -/
def R.FB_QERR (n : Nat) : Nat := 0x900018 + 0x40 * n
def F.FB_QCFG_QERR_THR (n : Nat) : Fld := ⟨0x90001C + 0x40 * n, 31, 24⟩
def F.FB_QCFG_FILT (n : Nat) : Fld := ⟨0x90001C + 0x40 * n, 23, 20⟩
def F.FB_QCFG_IPOL (n : Nat) : Fld := ⟨0x90001C + 0x40 * n, 19, 16⟩
def F.FB_QCFG_DIR_SU (n : Nat) : Fld := ⟨0x90001C + 0x40 * n, 15, 8⟩
def F.FB_QCFG_CATCHUP (n : Nat) : Fld := ⟨0x90001C + 0x40 * n, 7, 7⟩
def F.FB_QCFG_STEP_EDGE (n : Nat) : Fld := ⟨0x90001C + 0x40 * n, 6, 6⟩
def F.FB_QCFG_INV_DIR (n : Nat) : Fld := ⟨0x90001C + 0x40 * n, 5, 5⟩
def F.FB_QCFG_MODE (n : Nat) : Fld := ⟨0x90001C + 0x40 * n, 1, 0⟩
/-- BAR0 offset of FB_QCFG (07 Table 7.5). -/
def R.FB_QCFG (n : Nat) : Nat := 0x90001C + 0x40 * n
def F.FB_QCFG2_SW_HI (n : Nat) : Fld := ⟨0x900020 + 0x40 * n, 31, 16⟩
def F.FB_QCFG2_SW_LO (n : Nat) : Fld := ⟨0x900020 + 0x40 * n, 15, 0⟩
/-- BAR0 offset of FB_QCFG2 (07 Table 7.5). -/
def R.FB_QCFG2 (n : Nat) : Nat := 0x900020 + 0x40 * n
def F.FB_QCFG3_STANDSTILL_T (n : Nat) : Fld := ⟨0x900024 + 0x40 * n, 15, 0⟩
/-- BAR0 offset of FB_QCFG3 (07 Table 7.5). -/
def R.FB_QCFG3 (n : Nat) : Nat := 0x900024 + 0x40 * n
def F.FB_ENCPOS_POS (n : Nat) : Fld := ⟨0x900800 + 0x40 * n, 31, 0⟩
/-- BAR0 offset of FB_ENCPOS (07 Table 7.6). -/
def R.FB_ENCPOS (n : Nat) : Nat := 0x900800 + 0x40 * n
def F.FB_ENCLAT_LAT (n : Nat) : Fld := ⟨0x900804 + 0x40 * n, 31, 0⟩
/-- BAR0 offset of FB_ENCLAT (07 Table 7.6). -/
def R.FB_ENCLAT (n : Nat) : Nat := 0x900804 + 0x40 * n
def F.FB_ENCSPD_SPEED (n : Nat) : Fld := ⟨0x900808 + 0x40 * n, 31, 0⟩
/-- BAR0 offset of FB_ENCSPD (07 Table 7.6). -/
def R.FB_ENCSPD (n : Nat) : Nat := 0x900808 + 0x40 * n
def F.FB_ENCTS_TS (n : Nat) : Fld := ⟨0x90080C + 0x40 * n, 31, 0⟩
/-- BAR0 offset of FB_ENCTS (07 Table 7.6). -/
def R.FB_ENCTS (n : Nat) : Nat := 0x90080C + 0x40 * n
def F.FB_ENCRAW_LO_RAW (n : Nat) : Fld := ⟨0x900810 + 0x40 * n, 31, 0⟩
/-- BAR0 offset of FB_ENCRAW_LO (07 Table 7.6). -/
def R.FB_ENCRAW_LO (n : Nat) : Nat := 0x900810 + 0x40 * n
def F.FB_ENCRAW_HI_RAW (n : Nat) : Fld := ⟨0x900814 + 0x40 * n, 7, 0⟩
/-- BAR0 offset of FB_ENCRAW_HI (07 Table 7.6). -/
def R.FB_ENCRAW_HI (n : Nat) : Nat := 0x900814 + 0x40 * n
def F.FB_ENCSTS_FAILRUN (n : Nat) : Fld := ⟨0x900818 + 0x40 * n, 15, 8⟩
def F.FB_ENCSTS_FAULT (n : Nat) : Fld := ⟨0x900818 + 0x40 * n, 4, 4⟩
def F.FB_ENCSTS_STANDSTILL (n : Nat) : Fld := ⟨0x900818 + 0x40 * n, 3, 3⟩
def F.FB_ENCSTS_BUSY (n : Nat) : Fld := ⟨0x900818 + 0x40 * n, 2, 2⟩
def F.FB_ENCSTS_VALID (n : Nat) : Fld := ⟨0x900818 + 0x40 * n, 1, 1⟩
def F.FB_ENCSTS_WARN (n : Nat) : Fld := ⟨0x900818 + 0x40 * n, 0, 0⟩
/-- BAR0 offset of FB_ENCSTS (07 Table 7.7). -/
def R.FB_ENCSTS (n : Nat) : Nat := 0x900818 + 0x40 * n
def F.FB_ENCEVT_SEQ (n : Nat) : Fld := ⟨0x90081C + 0x40 * n, 31, 24⟩
def F.FB_ENCEVT_FAULT_EVT (n : Nat) : Fld := ⟨0x90081C + 0x40 * n, 5, 5⟩
def F.FB_ENCEVT_JUMP_EVT (n : Nat) : Fld := ⟨0x90081C + 0x40 * n, 4, 4⟩
def F.FB_ENCEVT_ALARM_EVT (n : Nat) : Fld := ⟨0x90081C + 0x40 * n, 3, 3⟩
def F.FB_ENCEVT_FRAME_EVT (n : Nat) : Fld := ⟨0x90081C + 0x40 * n, 2, 2⟩
def F.FB_ENCEVT_LATE_EVT (n : Nat) : Fld := ⟨0x90081C + 0x40 * n, 1, 1⟩
def F.FB_ENCEVT_OVERLAP_EVT (n : Nat) : Fld := ⟨0x90081C + 0x40 * n, 0, 0⟩
/-- BAR0 offset of FB_ENCEVT (07 Table 7.7). -/
def R.FB_ENCEVT (n : Nat) : Nat := 0x90081C + 0x40 * n
def F.FB_ENCCNT0_LATE (n : Nat) : Fld := ⟨0x900820 + 0x40 * n, 31, 16⟩
def F.FB_ENCCNT0_CRC_ERR (n : Nat) : Fld := ⟨0x900820 + 0x40 * n, 15, 0⟩
/-- BAR0 offset of FB_ENCCNT0 (07 Table 7.7). -/
def R.FB_ENCCNT0 (n : Nat) : Nat := 0x900820 + 0x40 * n
def F.FB_ENCCNT1_START_ERR (n : Nat) : Fld := ⟨0x900824 + 0x40 * n, 31, 16⟩
def F.FB_ENCCNT1_ALARM (n : Nat) : Fld := ⟨0x900824 + 0x40 * n, 15, 8⟩
def F.FB_ENCCNT1_JUMP (n : Nat) : Fld := ⟨0x900824 + 0x40 * n, 7, 0⟩
/-- BAR0 offset of FB_ENCCNT1 (07 Table 7.7). -/
def R.FB_ENCCNT1 (n : Nat) : Nat := 0x900824 + 0x40 * n
def F.FB_ENCCFG_FRAME (n : Nat) : Fld := ⟨0x900828 + 0x40 * n, 31, 30⟩
def F.FB_ENCCFG_WLEN (n : Nat) : Fld := ⟨0x900828 + 0x40 * n, 29, 24⟩
def F.FB_ENCCFG_POSLEN (n : Nat) : Fld := ⟨0x900828 + 0x40 * n, 23, 18⟩
def F.FB_ENCCFG_ERRBIT (n : Nat) : Fld := ⟨0x900828 + 0x40 * n, 17, 12⟩
def F.FB_ENCCFG_ERRPOL (n : Nat) : Fld := ⟨0x900828 + 0x40 * n, 11, 11⟩
def F.FB_ENCCFG_EXTRAP (n : Nat) : Fld := ⟨0x900828 + 0x40 * n, 10, 10⟩
def F.FB_ENCCFG_REQ_SRC (n : Nat) : Fld := ⟨0x900828 + 0x40 * n, 3, 0⟩
/-- BAR0 offset of FB_ENCCFG (07 Table 7.8). -/
def R.FB_ENCCFG (n : Nat) : Nat := 0x900828 + 0x40 * n
def F.FB_ENCCFG2_ENC_DLY (n : Nat) : Fld := ⟨0x90082C + 0x40 * n, 31, 16⟩
def F.FB_ENCCFG2_DAT_DLY (n : Nat) : Fld := ⟨0x90082C + 0x40 * n, 15, 8⟩
def F.FB_ENCCFG2_FAIL_LIMIT (n : Nat) : Fld := ⟨0x90082C + 0x40 * n, 7, 0⟩
/-- BAR0 offset of FB_ENCCFG2 (07 Table 7.8). -/
def R.FB_ENCCFG2 (n : Nat) : Nat := 0x90082C + 0x40 * n
def F.FB_ENCCFG3_JUMP_MAX (n : Nat) : Fld := ⟨0x900830 + 0x40 * n, 31, 16⟩
def F.FB_ENCCFG3_CLKDIV (n : Nat) : Fld := ⟨0x900830 + 0x40 * n, 8, 0⟩
/-- BAR0 offset of FB_ENCCFG3 (07 Table 7.8). -/
def R.FB_ENCCFG3 (n : Nat) : Nat := 0x900830 + 0x40 * n
def F.FB_DIV_CTL_EN (n : Nat) : Fld := ⟨0x901000 + 0x20 * n, 16, 16⟩
def F.FB_DIV_CTL_OUT_MIN (n : Nat) : Fld := ⟨0x901000 + 0x20 * n, 15, 8⟩
def F.FB_DIV_CTL_INV (n : Nat) : Fld := ⟨0x901000 + 0x20 * n, 7, 7⟩
def F.FB_DIV_CTL_SRC_TYPE (n : Nat) : Fld := ⟨0x901000 + 0x20 * n, 6, 5⟩
def F.FB_DIV_CTL_SRC_IDX (n : Nat) : Fld := ⟨0x901000 + 0x20 * n, 4, 0⟩
/-- BAR0 offset of FB_DIV_CTL (07 Table 7.9). -/
def R.FB_DIV_CTL (n : Nat) : Nat := 0x901000 + 0x20 * n
def F.FB_DIV_RATIO_N (n : Nat) : Fld := ⟨0x901004 + 0x20 * n, 31, 16⟩
def F.FB_DIV_RATIO_M (n : Nat) : Fld := ⟨0x901004 + 0x20 * n, 15, 0⟩
/-- BAR0 offset of FB_DIV_RATIO (07 Table 7.9). -/
def R.FB_DIV_RATIO (n : Nat) : Nat := 0x901004 + 0x20 * n
def F.FB_DIV_STS_SEQ (n : Nat) : Fld := ⟨0x901008 + 0x20 * n, 31, 24⟩
def F.FB_DIV_STS_BACKLOG (n : Nat) : Fld := ⟨0x901008 + 0x20 * n, 23, 8⟩
def F.FB_DIV_STS_OVF_EVT (n : Nat) : Fld := ⟨0x901008 + 0x20 * n, 0, 0⟩
/-- BAR0 offset of FB_DIV_STS (07 Table 7.9). -/
def R.FB_DIV_STS (n : Nat) : Nat := 0x901008 + 0x20 * n
def F.ADC_CTL_CAL : Fld := ⟨0xA00000, 3, 0⟩
/-- BAR0 offset of ADC_CTL (08 Table 8.4). -/
def R.ADC_CTL : Nat := 0xA00000
def F.ADC_STS_BG_STARVED : Fld := ⟨0xA00004, 11, 8⟩
def F.ADC_STS_CAL_RUN : Fld := ⟨0xA00004, 7, 4⟩
def F.ADC_STS_CAL_WAIT : Fld := ⟨0xA00004, 3, 0⟩
/-- BAR0 offset of ADC_STS (08 Table 8.4). -/
def R.ADC_STS : Nat := 0xA00004
def F.ADC_EVT_SEQ : Fld := ⟨0xA00008, 31, 24⟩
def F.ADC_EVT_REASON : Fld := ⟨0xA00008, 22, 20⟩
def F.ADC_EVT_CAL_CONV : Fld := ⟨0xA00008, 19, 18⟩
def F.ADC_EVT_OPEN_EVT : Fld := ⟨0xA00008, 8, 8⟩
def F.ADC_EVT_OVR_EVT : Fld := ⟨0xA00008, 7, 7⟩
def F.ADC_EVT_INJ_EVT : Fld := ⟨0xA00008, 6, 6⟩
def F.ADC_EVT_INJ_OVF_EVT : Fld := ⟨0xA00008, 5, 5⟩
def F.ADC_EVT_SEQ_OVR_EVT : Fld := ⟨0xA00008, 4, 4⟩
def F.ADC_EVT_CAL_FAIL_EVT : Fld := ⟨0xA00008, 3, 3⟩
def F.ADC_EVT_CAL_ABORT_EVT : Fld := ⟨0xA00008, 2, 2⟩
def F.ADC_EVT_CAL_REFUSED_EVT : Fld := ⟨0xA00008, 1, 1⟩
def F.ADC_EVT_CAL_DONE_EVT : Fld := ⟨0xA00008, 0, 0⟩
/-- BAR0 offset of ADC_EVT (08 Table 8.5). -/
def R.ADC_EVT : Nat := 0xA00008
def F.ADC_CNT0_INJ_OVF : Fld := ⟨0xA00010, 31, 16⟩
def F.ADC_CNT0_SEQ_OVR : Fld := ⟨0xA00010, 15, 0⟩
/-- BAR0 offset of ADC_CNT0 (08 Table 8.6). -/
def R.ADC_CNT0 : Nat := 0xA00010
def F.ADC_CNT1_CAL_ABORT : Fld := ⟨0xA00014, 31, 24⟩
def F.ADC_CNT1_INJ_MERGE : Fld := ⟨0xA00014, 23, 16⟩
def F.ADC_CNT1_OVR_CNT : Fld := ⟨0xA00014, 15, 0⟩
/-- BAR0 offset of ADC_CNT1 (08 Table 8.6). -/
def R.ADC_CNT1 : Nat := 0xA00014
def F.ADC_RES_INJ (n : Nat) (i : Nat) (j : Nat) : Fld := ⟨0xA01000 + 0x100 * n + 0x40 * i + 0x4 * j, 31, 31⟩
def F.ADC_RES_SRC (n : Nat) (i : Nat) (j : Nat) : Fld := ⟨0xA01000 + 0x100 * n + 0x40 * i + 0x4 * j, 30, 24⟩
def F.ADC_RES_LATE (n : Nat) (i : Nat) (j : Nat) : Fld := ⟨0xA01000 + 0x100 * n + 0x40 * i + 0x4 * j, 18, 18⟩
def F.ADC_RES_PULL (n : Nat) (i : Nat) (j : Nat) : Fld := ⟨0xA01000 + 0x100 * n + 0x40 * i + 0x4 * j, 17, 17⟩
def F.ADC_RES_OVR (n : Nat) (i : Nat) (j : Nat) : Fld := ⟨0xA01000 + 0x100 * n + 0x40 * i + 0x4 * j, 16, 16⟩
def F.ADC_RES_CODE (n : Nat) (i : Nat) (j : Nat) : Fld := ⟨0xA01000 + 0x100 * n + 0x40 * i + 0x4 * j, 15, 0⟩
/-- BAR0 offset of ADC_RES (08 Table 8.7). -/
def R.ADC_RES (n : Nat) (i : Nat) (j : Nat) : Nat := 0xA01000 + 0x100 * n + 0x40 * i + 0x4 * j
def F.ADC_INJ_INJ (n : Nat) : Fld := ⟨0xA02000 + 0x4 * n, 31, 31⟩
def F.ADC_INJ_SRC (n : Nat) : Fld := ⟨0xA02000 + 0x4 * n, 30, 24⟩
def F.ADC_INJ_LATE (n : Nat) : Fld := ⟨0xA02000 + 0x4 * n, 18, 18⟩
def F.ADC_INJ_PULL (n : Nat) : Fld := ⟨0xA02000 + 0x4 * n, 17, 17⟩
def F.ADC_INJ_OVR (n : Nat) : Fld := ⟨0xA02000 + 0x4 * n, 16, 16⟩
def F.ADC_INJ_CODE (n : Nat) : Fld := ⟨0xA02000 + 0x4 * n, 15, 0⟩
/-- BAR0 offset of ADC_INJ (08 Table 8.7). -/
def R.ADC_INJ (n : Nat) : Nat := 0xA02000 + 0x4 * n
def F.ADC_INCFG_HI (n : Nat) : Fld := ⟨0xA03000 + 0x4 * n, 31, 24⟩
def F.ADC_INCFG_LO (n : Nat) : Fld := ⟨0xA03000 + 0x4 * n, 23, 16⟩
def F.ADC_INCFG_OW_MARGIN (n : Nat) : Fld := ⟨0xA03000 + 0x4 * n, 15, 8⟩
def F.ADC_INCFG_OVR_EVT_EN (n : Nat) : Fld := ⟨0xA03000 + 0x4 * n, 7, 7⟩
def F.ADC_INCFG_PULL_I (n : Nat) : Fld := ⟨0xA03000 + 0x4 * n, 6, 6⟩
def F.ADC_INCFG_PULL (n : Nat) : Fld := ⟨0xA03000 + 0x4 * n, 5, 4⟩
def F.ADC_INCFG_CMP_MODE (n : Nat) : Fld := ⟨0xA03000 + 0x4 * n, 3, 2⟩
def F.ADC_INCFG_DIFF (n : Nat) : Fld := ⟨0xA03000 + 0x4 * n, 1, 1⟩
def F.ADC_INCFG_OPEN (n : Nat) : Fld := ⟨0xA03000 + 0x4 * n, 0, 0⟩
/-- BAR0 offset of ADC_INCFG (08 Table 8.8). -/
def R.ADC_INCFG (n : Nat) : Nat := 0xA03000 + 0x4 * n
def F.ADC_TRIG_EN (n : Nat) : Fld := ⟨0xA03100 + 0x4 * n, 7, 7⟩
def F.ADC_TRIG_INPUT (n : Nat) : Fld := ⟨0xA03100 + 0x4 * n, 5, 0⟩
/-- BAR0 offset of ADC_TRIG (08 Table 8.9). -/
def R.ADC_TRIG (n : Nat) : Nat := 0xA03100 + 0x4 * n
def F.ADC_VBUS_VOLT : Fld := ⟨0xA03200, 15, 0⟩
/-- BAR0 offset of ADC_VBUS (08 Table 8.9). -/
def R.ADC_VBUS : Nat := 0xA03200
def F.ADC_VHOLD_VOLT : Fld := ⟨0xA03204, 15, 0⟩
/-- BAR0 offset of ADC_VHOLD (08 Table 8.9). -/
def R.ADC_VHOLD : Nat := 0xA03204
def F.ADC_TEMP_TEMP (n : Nat) : Fld := ⟨0xA03208 + 0x4 * n, 15, 0⟩
/-- BAR0 offset of ADC_TEMP (08 Table 8.9). -/
def R.ADC_TEMP (n : Nat) : Nat := 0xA03208 + 0x4 * n
def F.ADC_SLICE_SKEW (n : Nat) : Fld := ⟨0xA03300 + 0x4 * n, 31, 24⟩
def F.ADC_SLICE_GAIN (n : Nat) : Fld := ⟨0xA03300 + 0x4 * n, 23, 12⟩
def F.ADC_SLICE_OFFSET (n : Nat) : Fld := ⟨0xA03300 + 0x4 * n, 11, 0⟩
/-- BAR0 offset of ADC_SLICE (08 Table 8.10). -/
def R.ADC_SLICE (n : Nat) : Nat := 0xA03300 + 0x4 * n
def F.TRAJ_AX_TGT_LO_TGT (n : Nat) : Fld := ⟨0x400000 + 0x40 * n, 31, 0⟩
/-- BAR0 offset of TRAJ_AX_TGT_LO (09 Table 9.8). -/
def R.TRAJ_AX_TGT_LO (n : Nat) : Nat := 0x400000 + 0x40 * n
def F.TRAJ_AX_TGT_HI_TGT (n : Nat) : Fld := ⟨0x400004 + 0x40 * n, 31, 0⟩
/-- BAR0 offset of TRAJ_AX_TGT_HI (09 Table 9.8). -/
def R.TRAJ_AX_TGT_HI (n : Nat) : Nat := 0x400004 + 0x40 * n
def F.TRAJ_AX_VEL_LO_VEL (n : Nat) : Fld := ⟨0x400008 + 0x40 * n, 31, 0⟩
/-- BAR0 offset of TRAJ_AX_VEL_LO (09 Table 9.8). -/
def R.TRAJ_AX_VEL_LO (n : Nat) : Nat := 0x400008 + 0x40 * n
def F.TRAJ_AX_VEL_HI_VEL (n : Nat) : Fld := ⟨0x40000C + 0x40 * n, 31, 0⟩
/-- BAR0 offset of TRAJ_AX_VEL_HI (09 Table 9.8). -/
def R.TRAJ_AX_VEL_HI (n : Nat) : Nat := 0x40000C + 0x40 * n
def F.TRAJ_AX_ACC_LO_ACC (n : Nat) : Fld := ⟨0x400010 + 0x40 * n, 31, 0⟩
/-- BAR0 offset of TRAJ_AX_ACC_LO (09 Table 9.8). -/
def R.TRAJ_AX_ACC_LO (n : Nat) : Nat := 0x400010 + 0x40 * n
def F.TRAJ_AX_ACC_HI_ACC (n : Nat) : Fld := ⟨0x400014 + 0x40 * n, 31, 0⟩
/-- BAR0 offset of TRAJ_AX_ACC_HI (09 Table 9.8). -/
def R.TRAJ_AX_ACC_HI (n : Nat) : Nat := 0x400014 + 0x40 * n
def F.TRAJ_AX_DEC_LO_DEC (n : Nat) : Fld := ⟨0x400018 + 0x40 * n, 31, 0⟩
/-- BAR0 offset of TRAJ_AX_DEC_LO (09 Table 9.8). -/
def R.TRAJ_AX_DEC_LO (n : Nat) : Nat := 0x400018 + 0x40 * n
def F.TRAJ_AX_DEC_HI_DEC (n : Nat) : Fld := ⟨0x40001C + 0x40 * n, 31, 0⟩
/-- BAR0 offset of TRAJ_AX_DEC_HI (09 Table 9.8). -/
def R.TRAJ_AX_DEC_HI (n : Nat) : Nat := 0x40001C + 0x40 * n
def F.TRAJ_AX_JERK_LO_JERK (n : Nat) : Fld := ⟨0x400020 + 0x40 * n, 31, 0⟩
/-- BAR0 offset of TRAJ_AX_JERK_LO (09 Table 9.8). -/
def R.TRAJ_AX_JERK_LO (n : Nat) : Nat := 0x400020 + 0x40 * n
def F.TRAJ_AX_JERK_HI_JERK (n : Nat) : Fld := ⟨0x400024 + 0x40 * n, 31, 0⟩
/-- BAR0 offset of TRAJ_AX_JERK_HI (09 Table 9.8). -/
def R.TRAJ_AX_JERK_HI (n : Nat) : Nat := 0x400024 + 0x40 * n
def F.TRAJ_AX_CMD_RAMP (n : Nat) : Fld := ⟨0x400028 + 0x40 * n, 5, 5⟩
def F.TRAJ_AX_CMD_IMM (n : Nat) : Fld := ⟨0x400028 + 0x40 * n, 4, 4⟩
def F.TRAJ_AX_CMD_OP (n : Nat) : Fld := ⟨0x400028 + 0x40 * n, 3, 0⟩
/-- BAR0 offset of TRAJ_AX_CMD (09 Table 9.8). -/
def R.TRAJ_AX_CMD (n : Nat) : Nat := 0x400028 + 0x40 * n
def F.TRAJ_AX_EVT_SEQ (n : Nat) : Fld := ⟨0x400030 + 0x40 * n, 31, 24⟩
def F.TRAJ_AX_EVT_RESULT (n : Nat) : Fld := ⟨0x400030 + 0x40 * n, 23, 16⟩
def F.TRAJ_AX_EVT_GEAR_SCALE_STOP_EVT (n : Nat) : Fld := ⟨0x400030 + 0x40 * n, 8, 8⟩
def F.TRAJ_AX_EVT_STEP_LAG_EVT (n : Nat) : Fld := ⟨0x400030 + 0x40 * n, 7, 7⟩
def F.TRAJ_AX_EVT_OVERSPEED_EVT (n : Nat) : Fld := ⟨0x400030 + 0x40 * n, 6, 6⟩
def F.TRAJ_AX_EVT_GEAR_EVT (n : Nat) : Fld := ⟨0x400030 + 0x40 * n, 5, 5⟩
def F.TRAJ_AX_EVT_LIMIT_CLIP_EVT (n : Nat) : Fld := ⟨0x400030 + 0x40 * n, 4, 4⟩
def F.TRAJ_AX_EVT_REVERSAL_EVT (n : Nat) : Fld := ⟨0x400030 + 0x40 * n, 3, 3⟩
def F.TRAJ_AX_EVT_CLAMP_EVT (n : Nat) : Fld := ⟨0x400030 + 0x40 * n, 2, 2⟩
def F.TRAJ_AX_EVT_DONE_EVT (n : Nat) : Fld := ⟨0x400030 + 0x40 * n, 1, 1⟩
def F.TRAJ_AX_EVT_CMD_EVT (n : Nat) : Fld := ⟨0x400030 + 0x40 * n, 0, 0⟩
/-- BAR0 offset of TRAJ_AX_EVT (09 Table 9.9). -/
def R.TRAJ_AX_EVT (n : Nat) : Nat := 0x400030 + 0x40 * n
def F.TRAJ_AX_STS_REMAIN_VALID (n : Nat) : Fld := ⟨0x400034 + 0x40 * n, 15, 15⟩
def F.TRAJ_AX_STS_ACCEL_CLAMPED (n : Nat) : Fld := ⟨0x400034 + 0x40 * n, 14, 14⟩
def F.TRAJ_AX_STS_REVERSAL_PLANNED (n : Nat) : Fld := ⟨0x400034 + 0x40 * n, 13, 13⟩
def F.TRAJ_AX_STS_GEAR_ARMED (n : Nat) : Fld := ⟨0x400034 + 0x40 * n, 12, 12⟩
def F.TRAJ_AX_STS_GEAR_RAMP (n : Nat) : Fld := ⟨0x400034 + 0x40 * n, 11, 11⟩
def F.TRAJ_AX_STS_STEP_LAG (n : Nat) : Fld := ⟨0x400034 + 0x40 * n, 10, 10⟩
def F.TRAJ_AX_STS_STILL (n : Nat) : Fld := ⟨0x400034 + 0x40 * n, 9, 9⟩
def F.TRAJ_AX_STS_PENDING (n : Nat) : Fld := ⟨0x400034 + 0x40 * n, 8, 8⟩
def F.TRAJ_AX_STS_STATE (n : Nat) : Fld := ⟨0x400034 + 0x40 * n, 2, 0⟩
/-- BAR0 offset of TRAJ_AX_STS (09 Table 9.9). -/
def R.TRAJ_AX_STS (n : Nat) : Nat := 0x400034 + 0x40 * n
def F.TRAJ_AX_REMAIN_LO_REMAIN (n : Nat) : Fld := ⟨0x400038 + 0x40 * n, 31, 0⟩
/-- BAR0 offset of TRAJ_AX_REMAIN_LO (09 Table 9.9). -/
def R.TRAJ_AX_REMAIN_LO (n : Nat) : Nat := 0x400038 + 0x40 * n
def F.TRAJ_AX_REMAIN_HI_REMAIN (n : Nat) : Fld := ⟨0x40003C + 0x40 * n, 31, 0⟩
/-- BAR0 offset of TRAJ_AX_REMAIN_HI (09 Table 9.9). -/
def R.TRAJ_AX_REMAIN_HI (n : Nat) : Nat := 0x40003C + 0x40 * n
def F.TRAJ_ST_POS_LO_POS (n : Nat) : Fld := ⟨0x402000 + 0x20 * n, 31, 0⟩
/-- BAR0 offset of TRAJ_ST_POS_LO (09 Table 9.10). -/
def R.TRAJ_ST_POS_LO (n : Nat) : Nat := 0x402000 + 0x20 * n
def F.TRAJ_ST_POS_HI_POS (n : Nat) : Fld := ⟨0x402004 + 0x20 * n, 31, 0⟩
/-- BAR0 offset of TRAJ_ST_POS_HI (09 Table 9.10). -/
def R.TRAJ_ST_POS_HI (n : Nat) : Nat := 0x402004 + 0x20 * n
def F.TRAJ_ST_VEL_LO_VEL (n : Nat) : Fld := ⟨0x402008 + 0x20 * n, 31, 0⟩
/-- BAR0 offset of TRAJ_ST_VEL_LO (09 Table 9.10). -/
def R.TRAJ_ST_VEL_LO (n : Nat) : Nat := 0x402008 + 0x20 * n
def F.TRAJ_ST_VEL_HI_VEL (n : Nat) : Fld := ⟨0x40200C + 0x20 * n, 31, 0⟩
/-- BAR0 offset of TRAJ_ST_VEL_HI (09 Table 9.10). -/
def R.TRAJ_ST_VEL_HI (n : Nat) : Nat := 0x40200C + 0x20 * n
def F.TRAJ_ST_ACC_LO_ACC (n : Nat) : Fld := ⟨0x402010 + 0x20 * n, 31, 0⟩
/-- BAR0 offset of TRAJ_ST_ACC_LO (09 Table 9.10). -/
def R.TRAJ_ST_ACC_LO (n : Nat) : Nat := 0x402010 + 0x20 * n
def F.TRAJ_ST_ACC_HI_ACC (n : Nat) : Fld := ⟨0x402014 + 0x20 * n, 31, 0⟩
/-- BAR0 offset of TRAJ_ST_ACC_HI (09 Table 9.10). -/
def R.TRAJ_ST_ACC_HI (n : Nat) : Nat := 0x402014 + 0x20 * n
def F.TRAJ_ST_TLEFT_TLEFT (n : Nat) : Fld := ⟨0x402018 + 0x20 * n, 31, 0⟩
/-- BAR0 offset of TRAJ_ST_TLEFT (09 Table 9.10). -/
def R.TRAJ_ST_TLEFT (n : Nat) : Nat := 0x402018 + 0x20 * n
def F.TRAJ_GEAR_NUM_NUM (n : Nat) : Fld := ⟨0x403000 + 0x20 * n, 31, 0⟩
/-- BAR0 offset of TRAJ_GEAR_NUM (09 Table 9.10). -/
def R.TRAJ_GEAR_NUM (n : Nat) : Nat := 0x403000 + 0x20 * n
def F.TRAJ_GEAR_DEN_DEN (n : Nat) : Fld := ⟨0x403004 + 0x20 * n, 31, 0⟩
/-- BAR0 offset of TRAJ_GEAR_DEN (09 Table 9.10). -/
def R.TRAJ_GEAR_DEN (n : Nat) : Nat := 0x403004 + 0x20 * n
def F.TRAJ_GEAR_MPOS_MPOS (n : Nat) : Fld := ⟨0x403008 + 0x20 * n, 31, 0⟩
/-- BAR0 offset of TRAJ_GEAR_MPOS (09 Table 9.10). -/
def R.TRAJ_GEAR_MPOS (n : Nat) : Nat := 0x403008 + 0x20 * n
def F.TRAJ_GEAR_MDIST_MDIST (n : Nat) : Fld := ⟨0x40300C + 0x20 * n, 31, 0⟩
/-- BAR0 offset of TRAJ_GEAR_MDIST (09 Table 9.10). -/
def R.TRAJ_GEAR_MDIST (n : Nat) : Nat := 0x40300C + 0x20 * n
def F.TRAJ_GEAR_CUR_NUM_CUR_NUM (n : Nat) : Fld := ⟨0x403010 + 0x20 * n, 31, 0⟩
/-- BAR0 offset of TRAJ_GEAR_CUR_NUM (09 Table 9.10). -/
def R.TRAJ_GEAR_CUR_NUM (n : Nat) : Nat := 0x403010 + 0x20 * n
def F.TRAJ_GEAR_CUR_DEN_CUR_DEN (n : Nat) : Fld := ⟨0x403014 + 0x20 * n, 31, 0⟩
/-- BAR0 offset of TRAJ_GEAR_CUR_DEN (09 Table 9.10). -/
def R.TRAJ_GEAR_CUR_DEN (n : Nat) : Nat := 0x403014 + 0x20 * n
def F.TRAJ_GEAR_GSRC_SRC_TYPE (n : Nat) : Fld := ⟨0x403018 + 0x20 * n, 9, 8⟩
def F.TRAJ_GEAR_GSRC_SRC_EN (n : Nat) : Fld := ⟨0x403018 + 0x20 * n, 7, 7⟩
def F.TRAJ_GEAR_GSRC_SRC_IDX (n : Nat) : Fld := ⟨0x403018 + 0x20 * n, 6, 0⟩
/-- BAR0 offset of TRAJ_GEAR_GSRC (09 Table 9.10). -/
def R.TRAJ_GEAR_GSRC (n : Nat) : Nat := 0x403018 + 0x20 * n
def F.TRAJ_LIM_VMAX_LO_VMAX (n : Nat) : Fld := ⟨0x404000 + 0x40 * n, 31, 0⟩
/-- BAR0 offset of TRAJ_LIM_VMAX_LO (09 Table 9.11). -/
def R.TRAJ_LIM_VMAX_LO (n : Nat) : Nat := 0x404000 + 0x40 * n
def F.TRAJ_LIM_VMAX_HI_VMAX (n : Nat) : Fld := ⟨0x404004 + 0x40 * n, 31, 0⟩
/-- BAR0 offset of TRAJ_LIM_VMAX_HI (09 Table 9.11). -/
def R.TRAJ_LIM_VMAX_HI (n : Nat) : Nat := 0x404004 + 0x40 * n
def F.TRAJ_LIM_AMAX_LO_AMAX (n : Nat) : Fld := ⟨0x404008 + 0x40 * n, 31, 0⟩
/-- BAR0 offset of TRAJ_LIM_AMAX_LO (09 Table 9.11). -/
def R.TRAJ_LIM_AMAX_LO (n : Nat) : Nat := 0x404008 + 0x40 * n
def F.TRAJ_LIM_AMAX_HI_AMAX (n : Nat) : Fld := ⟨0x40400C + 0x40 * n, 31, 0⟩
/-- BAR0 offset of TRAJ_LIM_AMAX_HI (09 Table 9.11). -/
def R.TRAJ_LIM_AMAX_HI (n : Nat) : Nat := 0x40400C + 0x40 * n
def F.TRAJ_LIM_DMAX_LO_DMAX (n : Nat) : Fld := ⟨0x404010 + 0x40 * n, 31, 0⟩
/-- BAR0 offset of TRAJ_LIM_DMAX_LO (09 Table 9.11). -/
def R.TRAJ_LIM_DMAX_LO (n : Nat) : Nat := 0x404010 + 0x40 * n
def F.TRAJ_LIM_DMAX_HI_DMAX (n : Nat) : Fld := ⟨0x404014 + 0x40 * n, 31, 0⟩
/-- BAR0 offset of TRAJ_LIM_DMAX_HI (09 Table 9.11). -/
def R.TRAJ_LIM_DMAX_HI (n : Nat) : Nat := 0x404014 + 0x40 * n
def F.TRAJ_LIM_JMAX_LO_JMAX (n : Nat) : Fld := ⟨0x404018 + 0x40 * n, 31, 0⟩
/-- BAR0 offset of TRAJ_LIM_JMAX_LO (09 Table 9.11). -/
def R.TRAJ_LIM_JMAX_LO (n : Nat) : Nat := 0x404018 + 0x40 * n
def F.TRAJ_LIM_JMAX_HI_JMAX (n : Nat) : Fld := ⟨0x40401C + 0x40 * n, 31, 0⟩
/-- BAR0 offset of TRAJ_LIM_JMAX_HI (09 Table 9.11). -/
def R.TRAJ_LIM_JMAX_HI (n : Nat) : Nat := 0x40401C + 0x40 * n
def F.TRAJ_LIM_DEC_STOP_LO_DEC_STOP (n : Nat) : Fld := ⟨0x404020 + 0x40 * n, 31, 0⟩
/-- BAR0 offset of TRAJ_LIM_DEC_STOP_LO (09 Table 9.11). -/
def R.TRAJ_LIM_DEC_STOP_LO (n : Nat) : Nat := 0x404020 + 0x40 * n
def F.TRAJ_LIM_DEC_STOP_HI_DEC_STOP (n : Nat) : Fld := ⟨0x404024 + 0x40 * n, 31, 0⟩
/-- BAR0 offset of TRAJ_LIM_DEC_STOP_HI (09 Table 9.11). -/
def R.TRAJ_LIM_DEC_STOP_HI (n : Nat) : Nat := 0x404024 + 0x40 * n
def F.TRAJ_LIM_JERK_STOP_LO_JERK_STOP (n : Nat) : Fld := ⟨0x404028 + 0x40 * n, 31, 0⟩
/-- BAR0 offset of TRAJ_LIM_JERK_STOP_LO (09 Table 9.11). -/
def R.TRAJ_LIM_JERK_STOP_LO (n : Nat) : Nat := 0x404028 + 0x40 * n
def F.TRAJ_LIM_JERK_STOP_HI_JERK_STOP (n : Nat) : Fld := ⟨0x40402C + 0x40 * n, 31, 0⟩
/-- BAR0 offset of TRAJ_LIM_JERK_STOP_HI (09 Table 9.11). -/
def R.TRAJ_LIM_JERK_STOP_HI (n : Nat) : Nat := 0x40402C + 0x40 * n
def F.TRAJ_LIM_STOP_TMAX_STOP_TMAX (n : Nat) : Fld := ⟨0x404030 + 0x40 * n, 15, 0⟩
/-- BAR0 offset of TRAJ_LIM_STOP_TMAX (09 Table 9.11). -/
def R.TRAJ_LIM_STOP_TMAX (n : Nat) : Nat := 0x404030 + 0x40 * n
def F.TRAJ_STEP_CFG_STEP_W (n : Nat) : Fld := ⟨0x406000 + 0x40 * n, 31, 24⟩
def F.TRAJ_STEP_CFG_DIR_SU (n : Nat) : Fld := ⟨0x406000 + 0x40 * n, 23, 16⟩
def F.TRAJ_STEP_CFG_RES_SU (n : Nat) : Fld := ⟨0x406000 + 0x40 * n, 15, 8⟩
def F.TRAJ_STEP_CFG_HYST (n : Nat) : Fld := ⟨0x406000 + 0x40 * n, 7, 4⟩
def F.TRAJ_STEP_CFG_ROWS (n : Nat) : Fld := ⟨0x406000 + 0x40 * n, 3, 1⟩
def F.TRAJ_STEP_CFG_EN (n : Nat) : Fld := ⟨0x406000 + 0x40 * n, 0, 0⟩
/-- BAR0 offset of TRAJ_STEP_CFG (09 Table 9.12). -/
def R.TRAJ_STEP_CFG (n : Nat) : Nat := 0x406000 + 0x40 * n
def F.TRAJ_STEP_POS_STEP_POS (n : Nat) : Fld := ⟨0x406004 + 0x40 * n, 31, 0⟩
/-- BAR0 offset of TRAJ_STEP_POS (09 Table 9.12). -/
def R.TRAJ_STEP_POS (n : Nat) : Nat := 0x406004 + 0x40 * n
def F.TRAJ_STEP_STS_MS_CODE (n : Nat) : Fld := ⟨0x406008 + 0x40 * n, 11, 8⟩
def F.TRAJ_STEP_STS_ROW (n : Nat) : Fld := ⟨0x406008 + 0x40 * n, 7, 4⟩
def F.TRAJ_STEP_STS_ROW_PEND (n : Nat) : Fld := ⟨0x406008 + 0x40 * n, 3, 3⟩
/-- BAR0 offset of TRAJ_STEP_STS (09 Table 9.12). -/
def R.TRAJ_STEP_STS (n : Nat) : Nat := 0x406008 + 0x40 * n
def F.TRAJ_STEP_ROW_VTH (n : Nat) (i : Nat) : Fld := ⟨0x406010 + 0x40 * n + 0x4 * i, 31, 8⟩
def F.TRAJ_STEP_ROW_MS_CODE (n : Nat) (i : Nat) : Fld := ⟨0x406010 + 0x40 * n + 0x4 * i, 7, 4⟩
def F.TRAJ_STEP_ROW_RES_LOG (n : Nat) (i : Nat) : Fld := ⟨0x406010 + 0x40 * n + 0x4 * i, 3, 0⟩
/-- BAR0 offset of TRAJ_STEP_ROW (09 Table 9.12). -/
def R.TRAJ_STEP_ROW (n : Nat) (i : Nat) : Nat := 0x406010 + 0x40 * n + 0x4 * i
def F.TRAJ_G_CMD_OP (n : Nat) : Fld := ⟨0x407000 + 0x40 * n, 2, 0⟩
/-- BAR0 offset of TRAJ_G_CMD (09 Table 9.13). -/
def R.TRAJ_G_CMD (n : Nat) : Nat := 0x407000 + 0x40 * n
def F.TRAJ_G_STS_HELD (n : Nat) : Fld := ⟨0x407008 + 0x40 * n, 2, 2⟩
def F.TRAJ_G_STS_MODE (n : Nat) : Fld := ⟨0x407008 + 0x40 * n, 1, 0⟩
/-- BAR0 offset of TRAJ_G_STS (09 Table 9.13). -/
def R.TRAJ_G_STS (n : Nat) : Nat := 0x407008 + 0x40 * n
def F.TRAJ_G_EVT_SEQ (n : Nat) : Fld := ⟨0x40700C + 0x40 * n, 31, 24⟩
def F.TRAJ_G_EVT_RESULT (n : Nat) : Fld := ⟨0x40700C + 0x40 * n, 23, 16⟩
def F.TRAJ_G_EVT_EXHAUSTED_EVT (n : Nat) : Fld := ⟨0x40700C + 0x40 * n, 2, 2⟩
def F.TRAJ_G_EVT_KNOT_MISMATCH_EVT (n : Nat) : Fld := ⟨0x40700C + 0x40 * n, 1, 1⟩
def F.TRAJ_G_EVT_CMD_EVT (n : Nat) : Fld := ⟨0x40700C + 0x40 * n, 0, 0⟩
/-- BAR0 offset of TRAJ_G_EVT (09 Table 9.13). -/
def R.TRAJ_G_EVT (n : Nat) : Nat := 0x40700C + 0x40 * n
def F.TRAJ_G_SCALE_SCALE_LIM (n : Nat) : Fld := ⟨0x407010 + 0x40 * n, 31, 16⟩
def F.TRAJ_G_SCALE_SCALE (n : Nat) : Fld := ⟨0x407010 + 0x40 * n, 15, 0⟩
/-- BAR0 offset of TRAJ_G_SCALE (09 Table 9.13). -/
def R.TRAJ_G_SCALE (n : Nat) : Nat := 0x407010 + 0x40 * n
def F.TRAJ_G_PLAN_K (n : Nat) : Fld := ⟨0x407014 + 0x40 * n, 15, 10⟩
def F.TRAJ_G_PLAN_H (n : Nat) : Fld := ⟨0x407014 + 0x40 * n, 9, 3⟩
def F.TRAJ_G_PLAN_ACTIVE (n : Nat) : Fld := ⟨0x407014 + 0x40 * n, 0, 0⟩
/-- BAR0 offset of TRAJ_G_PLAN (09 Table 9.13). -/
def R.TRAJ_G_PLAN (n : Nat) : Nat := 0x407014 + 0x40 * n
def F.TRAJ_G_SIGMA_SIGMA (n : Nat) : Fld := ⟨0x407018 + 0x40 * n, 31, 0⟩
/-- BAR0 offset of TRAJ_G_SIGMA (09 Table 9.13). -/
def R.TRAJ_G_SIGMA (n : Nat) : Nat := 0x407018 + 0x40 * n
def F.TRAJ_G_RATE_SCALE_INC (n : Nat) : Fld := ⟨0x40701C + 0x40 * n, 31, 16⟩
def F.TRAJ_G_RATE_SCALE_DEC (n : Nat) : Fld := ⟨0x40701C + 0x40 * n, 15, 0⟩
/-- BAR0 offset of TRAJ_G_RATE (09 Table 9.13). -/
def R.TRAJ_G_RATE (n : Nat) : Nat := 0x40701C + 0x40 * n
def F.TRAJ_G_STOPR_STOP_SDEC (n : Nat) : Fld := ⟨0x407020 + 0x40 * n, 15, 0⟩
/-- BAR0 offset of TRAJ_G_STOPR (09 Table 9.13). -/
def R.TRAJ_G_STOPR (n : Nat) : Nat := 0x407020 + 0x40 * n
def F.TRAJ_G_TOL_KNOT_TOL (n : Nat) : Fld := ⟨0x407024 + 0x40 * n, 31, 0⟩
/-- BAR0 offset of TRAJ_G_TOL (09 Table 9.13). -/
def R.TRAJ_G_TOL (n : Nat) : Nat := 0x407024 + 0x40 * n
def F.LOOP_CTL_EN (n : Nat) : Fld := ⟨0x500000 + 0x40 * n, 0, 0⟩
/-- BAR0 offset of LOOP_CTL (10 Table 10.9). -/
def R.LOOP_CTL (n : Nat) : Nat := 0x500000 + 0x40 * n
def F.LOOP_STS_TRIP (n : Nat) : Fld := ⟨0x500008 + 0x40 * n, 4, 4⟩
def F.LOOP_STS_BOOTING (n : Nat) : Fld := ⟨0x500008 + 0x40 * n, 3, 3⟩
def F.LOOP_STS_SAT (n : Nat) : Fld := ⟨0x500008 + 0x40 * n, 2, 2⟩
def F.LOOP_STS_PEND (n : Nat) : Fld := ⟨0x500008 + 0x40 * n, 1, 1⟩
def F.LOOP_STS_ENERGISED (n : Nat) : Fld := ⟨0x500008 + 0x40 * n, 0, 0⟩
/-- BAR0 offset of LOOP_STS (10 Table 10.9). -/
def R.LOOP_STS (n : Nat) : Nat := 0x500008 + 0x40 * n
def F.LOOP_EVT_SEQ (n : Nat) : Fld := ⟨0x50000C + 0x40 * n, 31, 24⟩
def F.LOOP_EVT_RESULT (n : Nat) : Fld := ⟨0x50000C + 0x40 * n, 23, 16⟩
def F.LOOP_EVT_DEENERG_EVT (n : Nat) : Fld := ⟨0x50000C + 0x40 * n, 5, 5⟩
def F.LOOP_EVT_COMP_FAULT_EVT (n : Nat) : Fld := ⟨0x50000C + 0x40 * n, 4, 4⟩
def F.LOOP_EVT_TRIP_EVT (n : Nat) : Fld := ⟨0x50000C + 0x40 * n, 3, 3⟩
def F.LOOP_EVT_OC_EVT (n : Nat) : Fld := ⟨0x50000C + 0x40 * n, 2, 2⟩
def F.LOOP_EVT_FE_EVT (n : Nat) : Fld := ⟨0x50000C + 0x40 * n, 1, 1⟩
def F.LOOP_EVT_SAT_EVT (n : Nat) : Fld := ⟨0x50000C + 0x40 * n, 0, 0⟩
/-- BAR0 offset of LOOP_EVT (10 Table 10.9). -/
def R.LOOP_EVT (n : Nat) : Nat := 0x50000C + 0x40 * n
def F.LOOP_POS_OFS_POS_OFS (n : Nat) : Fld := ⟨0x500010 + 0x40 * n, 31, 0⟩
/-- BAR0 offset of LOOP_POS_OFS (10 Table 10.10). -/
def R.LOOP_POS_OFS (n : Nat) : Nat := 0x500010 + 0x40 * n
def F.LOOP_EP_EP (n : Nat) : Fld := ⟨0x500014 + 0x40 * n, 31, 0⟩
/-- BAR0 offset of LOOP_EP (10 Table 10.10). -/
def R.LOOP_EP (n : Nat) : Nat := 0x500014 + 0x40 * n
def F.LOOP_VREF_VREF (n : Nat) : Fld := ⟨0x500018 + 0x40 * n, 31, 0⟩
/-- BAR0 offset of LOOP_VREF (10 Table 10.10). -/
def R.LOOP_VREF (n : Nat) : Nat := 0x500018 + 0x40 * n
def F.LOOP_IQREF_IQREF (n : Nat) : Fld := ⟨0x50001C + 0x40 * n, 31, 0⟩
/-- BAR0 offset of LOOP_IQREF (10 Table 10.10). -/
def R.LOOP_IQREF (n : Nat) : Nat := 0x50001C + 0x40 * n
def F.LOOP_IQ_IQ (n : Nat) : Fld := ⟨0x500020 + 0x40 * n, 31, 0⟩
/-- BAR0 offset of LOOP_IQ (10 Table 10.10). -/
def R.LOOP_IQ (n : Nat) : Nat := 0x500020 + 0x40 * n
def F.LOOP_ID_ID (n : Nat) : Fld := ⟨0x500024 + 0x40 * n, 31, 0⟩
/-- BAR0 offset of LOOP_ID (10 Table 10.10). -/
def R.LOOP_ID (n : Nat) : Nat := 0x500024 + 0x40 * n
def F.LOOP_VQ_VQ (n : Nat) : Fld := ⟨0x500028 + 0x40 * n, 31, 0⟩
/-- BAR0 offset of LOOP_VQ (10 Table 10.10). -/
def R.LOOP_VQ (n : Nat) : Nat := 0x500028 + 0x40 * n
def F.LOOP_VD_VD (n : Nat) : Fld := ⟨0x50002C + 0x40 * n, 31, 0⟩
/-- BAR0 offset of LOOP_VD (10 Table 10.10). -/
def R.LOOP_VD (n : Nat) : Nat := 0x50002C + 0x40 * n
def F.LOOP_ANG_ANG_OFS (n : Nat) : Fld := ⟨0x500030 + 0x40 * n, 31, 0⟩
/-- BAR0 offset of LOOP_ANG (10 Table 10.10). -/
def R.LOOP_ANG (n : Nat) : Nat := 0x500030 + 0x40 * n
def F.LOOP_THETA_THETA (n : Nat) : Fld := ⟨0x500038 + 0x40 * n, 31, 0⟩
/-- BAR0 offset of LOOP_THETA (10 Table 10.10). -/
def R.LOOP_THETA (n : Nat) : Nat := 0x500038 + 0x40 * n
def F.LOOP_C_C (n : Nat) (i : Nat) : Fld := ⟨0x504000 + 0x100 * n + 0x8 * i, 31, 0⟩
/-- BAR0 offset of LOOP_C (10 Table 10.11). -/
def R.LOOP_C (n : Nat) (i : Nat) : Nat := 0x504000 + 0x100 * n + 0x8 * i
def F.LOOP_SH_S (n : Nat) (i : Nat) : Fld := ⟨0x504004 + 0x100 * n + 0x8 * i, 4, 0⟩
/-- BAR0 offset of LOOP_SH (10 Table 10.11). -/
def R.LOOP_SH (n : Nat) (i : Nat) : Nat := 0x504004 + 0x100 * n + 0x8 * i
def F.LOOP_CFG_OC_N (n : Nat) : Fld := ⟨0x50C000 + 0x40 * n, 19, 16⟩
def F.LOOP_CFG_BQ_EN (n : Nat) : Fld := ⟨0x50C000 + 0x40 * n, 12, 11⟩
def F.LOOP_CFG_NPOS (n : Nat) : Fld := ⟨0x50C000 + 0x40 * n, 10, 8⟩
def F.LOOP_CFG_NSENSE (n : Nat) : Fld := ⟨0x50C000 + 0x40 * n, 5, 4⟩
def F.LOOP_CFG_MOTOR (n : Nat) : Fld := ⟨0x50C000 + 0x40 * n, 3, 2⟩
def F.LOOP_CFG_TOPO (n : Nat) : Fld := ⟨0x50C000 + 0x40 * n, 1, 0⟩
/-- BAR0 offset of LOOP_CFG (10 Table 10.12). -/
def R.LOOP_CFG (n : Nat) : Nat := 0x50C000 + 0x40 * n
def F.LOOP_ILIM_ILIM (n : Nat) : Fld := ⟨0x50C004 + 0x40 * n, 31, 0⟩
/-- BAR0 offset of LOOP_ILIM (10 Table 10.12). -/
def R.LOOP_ILIM (n : Nat) : Nat := 0x50C004 + 0x40 * n
def F.LOOP_IOC_IOC (n : Nat) : Fld := ⟨0x50C008 + 0x40 * n, 31, 0⟩
/-- BAR0 offset of LOOP_IOC (10 Table 10.12). -/
def R.LOOP_IOC (n : Nat) : Nat := 0x50C008 + 0x40 * n
def F.LOOP_FE_MAX_FE_MAX (n : Nat) : Fld := ⟨0x50C00C + 0x40 * n, 31, 0⟩
/-- BAR0 offset of LOOP_FE_MAX (10 Table 10.12). -/
def R.LOOP_FE_MAX (n : Nat) : Nat := 0x50C00C + 0x40 * n
def F.LOOP_ID_REF_ID_REF (n : Nat) : Fld := ⟨0x50C010 + 0x40 * n, 31, 0⟩
/-- BAR0 offset of LOOP_ID_REF (10 Table 10.12). -/
def R.LOOP_ID_REF (n : Nat) : Nat := 0x50C010 + 0x40 * n
def F.LOOP_ELEC_CNT_ELEC_CNT (n : Nat) : Fld := ⟨0x50C014 + 0x40 * n, 31, 0⟩
/-- BAR0 offset of LOOP_ELEC_CNT (10 Table 10.12). -/
def R.LOOP_ELEC_CNT (n : Nat) : Nat := 0x50C014 + 0x40 * n
def F.LOOP_IFS_IFS (n : Nat) : Fld := ⟨0x50C018 + 0x40 * n, 31, 0⟩
/-- BAR0 offset of LOOP_IFS (10 Table 10.12). -/
def R.LOOP_IFS (n : Nat) : Nat := 0x50C018 + 0x40 * n
def F.LOOP_LIMV_VLIMF (n : Nat) : Fld := ⟨0x50C01C + 0x40 * n, 31, 16⟩
/-- BAR0 offset of LOOP_LIMV (10 Table 10.12). -/
def R.LOOP_LIMV (n : Nat) : Nat := 0x50C01C + 0x40 * n
def F.LOOP_OFS01_OFS1 (n : Nat) : Fld := ⟨0x50C020 + 0x40 * n, 31, 16⟩
def F.LOOP_OFS01_OFS0 (n : Nat) : Fld := ⟨0x50C020 + 0x40 * n, 15, 0⟩
/-- BAR0 offset of LOOP_OFS01 (10 Table 10.12). -/
def R.LOOP_OFS01 (n : Nat) : Nat := 0x50C020 + 0x40 * n
def F.LOOP_OFS2_OFS2 (n : Nat) : Fld := ⟨0x50C024 + 0x40 * n, 15, 0⟩
/-- BAR0 offset of LOOP_OFS2 (10 Table 10.12). -/
def R.LOOP_OFS2 (n : Nat) : Nat := 0x50C024 + 0x40 * n
def F.LOOP_PCFG_DT (n : Nat) : Fld := ⟨0x50E000 + 0x20 * n, 31, 24⟩
def F.LOOP_PCFG_MINP (n : Nat) : Fld := ⟨0x50E000 + 0x20 * n, 23, 16⟩
def F.LOOP_PCFG_BOOT (n : Nat) : Fld := ⟨0x50E000 + 0x20 * n, 15, 8⟩
def F.LOOP_PCFG_POL_L (n : Nat) : Fld := ⟨0x50E000 + 0x20 * n, 4, 4⟩
def F.LOOP_PCFG_POL_H (n : Nat) : Fld := ⟨0x50E000 + 0x20 * n, 3, 3⟩
def F.LOOP_PCFG_PINMODE (n : Nat) : Fld := ⟨0x50E000 + 0x20 * n, 2, 2⟩
def F.LOOP_PCFG_K (n : Nat) : Fld := ⟨0x50E000 + 0x20 * n, 1, 0⟩
/-- BAR0 offset of LOOP_PCFG (10 Table 10.13). -/
def R.LOOP_PCFG (n : Nat) : Nat := 0x50E000 + 0x20 * n
def F.LOOP_DUTY01_DUTY1 (n : Nat) : Fld := ⟨0x50E004 + 0x20 * n, 31, 16⟩
def F.LOOP_DUTY01_DUTY0 (n : Nat) : Fld := ⟨0x50E004 + 0x20 * n, 15, 0⟩
/-- BAR0 offset of LOOP_DUTY01 (10 Table 10.13). -/
def R.LOOP_DUTY01 (n : Nat) : Nat := 0x50E004 + 0x20 * n
def F.LOOP_DUTY23_DUTY3 (n : Nat) : Fld := ⟨0x50E008 + 0x20 * n, 31, 16⟩
def F.LOOP_DUTY23_DUTY2 (n : Nat) : Fld := ⟨0x50E008 + 0x20 * n, 15, 0⟩
/-- BAR0 offset of LOOP_DUTY23 (10 Table 10.13). -/
def R.LOOP_DUTY23 (n : Nat) : Nat := 0x50E008 + 0x20 * n
def F.LOOP_TCFG_EN (n : Nat) : Fld := ⟨0x50E400 + 0x10 * n, 12, 12⟩
def F.LOOP_TCFG_TPOL (n : Nat) : Fld := ⟨0x50E400 + 0x10 * n, 11, 11⟩
def F.LOOP_TCFG_PIN (n : Nat) : Fld := ⟨0x50E400 + 0x10 * n, 7, 0⟩
/-- BAR0 offset of LOOP_TCFG (10 Table 10.14). -/
def R.LOOP_TCFG (n : Nat) : Nat := 0x50E400 + 0x10 * n
def F.LOOP_TAXES_AXES (n : Nat) : Fld := ⟨0x50E404 + 0x10 * n, 31, 0⟩
/-- BAR0 offset of LOOP_TAXES (10 Table 10.14). -/
def R.LOOP_TAXES (n : Nat) : Nat := 0x50E404 + 0x10 * n
def F.LOOP_GCFG_VBUS_MAX : Fld := ⟨0x50E800, 31, 16⟩
def F.LOOP_GCFG_VBUS_MIN : Fld := ⟨0x50E800, 15, 0⟩
/-- BAR0 offset of LOOP_GCFG (10 Table 10.14). -/
def R.LOOP_GCFG : Nat := 0x50E800
def F.LOOP_TRIP_STS_TRIP : Fld := ⟨0x50E804, 15, 0⟩
/-- BAR0 offset of LOOP_TRIP_STS (10 Table 10.14). -/
def R.LOOP_TRIP_STS : Nat := 0x50E804
def F.LOOP_TRIP_CLR_CLR : Fld := ⟨0x50E808, 15, 0⟩
/-- BAR0 offset of LOOP_TRIP_CLR (10 Table 10.14). -/
def R.LOOP_TRIP_CLR : Nat := 0x50E808
def F.LOOP_GEVT_SEQ : Fld := ⟨0x50E80C, 31, 24⟩
def F.LOOP_GEVT_VBUS_LOW_EVT : Fld := ⟨0x50E80C, 2, 2⟩
def F.LOOP_GEVT_VBUS_HIGH_EVT : Fld := ⟨0x50E80C, 1, 1⟩
def F.LOOP_GEVT_OVERRUN_EVT : Fld := ⟨0x50E80C, 0, 0⟩
/-- BAR0 offset of LOOP_GEVT (10 Table 10.14). -/
def R.LOOP_GEVT : Nat := 0x50E80C
def F.SOLV_SCH_ID_LO_SCHED_ID (n : Nat) : Fld := ⟨0x601000 + 0x40 * n, 31, 0⟩
/-- BAR0 offset of SOLV_SCH_ID_LO (11 Table 11.7). -/
def R.SOLV_SCH_ID_LO (n : Nat) : Nat := 0x601000 + 0x40 * n
def F.SOLV_SCH_ID_HI_SCHED_ID (n : Nat) : Fld := ⟨0x601004 + 0x40 * n, 31, 0⟩
/-- BAR0 offset of SOLV_SCH_ID_HI (11 Table 11.7). -/
def R.SOLV_SCH_ID_HI (n : Nat) : Nat := 0x601004 + 0x40 * n
def F.SOLV_SCH_DIM_CLASS (n : Nat) : Fld := ⟨0x601008 + 0x40 * n, 31, 30⟩
def F.SOLV_SCH_DIM_M (n : Nat) : Fld := ⟨0x601008 + 0x40 * n, 29, 19⟩
def F.SOLV_SCH_DIM_N (n : Nat) : Fld := ⟨0x601008 + 0x40 * n, 18, 9⟩
def F.SOLV_SCH_DIM_K (n : Nat) : Fld := ⟨0x601008 + 0x40 * n, 8, 4⟩
def F.SOLV_SCH_DIM_NA_M1 (n : Nat) : Fld := ⟨0x601008 + 0x40 * n, 3, 0⟩
/-- BAR0 offset of SOLV_SCH_DIM (11 Table 11.7). -/
def R.SOLV_SCH_DIM (n : Nat) : Nat := 0x601008 + 0x40 * n
def F.SOLV_SCH_DIM2_H (n : Nat) : Fld := ⟨0x60100C + 0x40 * n, 23, 17⟩
def F.SOLV_SCH_DIM2_NNZ_L (n : Nat) : Fld := ⟨0x60100C + 0x40 * n, 16, 0⟩
/-- BAR0 offset of SOLV_SCH_DIM2 (11 Table 11.7). -/
def R.SOLV_SCH_DIM2 (n : Nat) : Nat := 0x60100C + 0x40 * n
def F.SOLV_SCH_FACT_FACT_CYC (n : Nat) : Fld := ⟨0x601010 + 0x40 * n, 31, 0⟩
/-- BAR0 offset of SOLV_SCH_FACT (11 Table 11.7). -/
def R.SOLV_SCH_FACT (n : Nat) : Nat := 0x601010 + 0x40 * n
def F.SOLV_SCH_ITER_ITER_CYC (n : Nat) : Fld := ⟨0x601014 + 0x40 * n, 31, 0⟩
/-- BAR0 offset of SOLV_SCH_ITER (11 Table 11.7). -/
def R.SOLV_SCH_ITER (n : Nat) : Nat := 0x601014 + 0x40 * n
def F.SOLV_SCH_CHECK_CHECK_CYC (n : Nat) : Fld := ⟨0x601018 + 0x40 * n, 31, 0⟩
/-- BAR0 offset of SOLV_SCH_CHECK (11 Table 11.7). -/
def R.SOLV_SCH_CHECK (n : Nat) : Nat := 0x601018 + 0x40 * n
def F.SOLV_SCH_ASM_ASM (n : Nat) : Fld := ⟨0x60101C + 0x40 * n, 31, 0⟩
/-- BAR0 offset of SOLV_SCH_ASM (11 Table 11.7). -/
def R.SOLV_SCH_ASM (n : Nat) : Nat := 0x60101C + 0x40 * n
def F.SOLV_SCH_OUT_OUT (n : Nat) : Fld := ⟨0x601020 + 0x40 * n, 31, 0⟩
/-- BAR0 offset of SOLV_SCH_OUT (11 Table 11.7). -/
def R.SOLV_SCH_OUT (n : Nat) : Nat := 0x601020 + 0x40 * n
def F.SOLV_C_CFG_EN (n : Nat) : Fld := ⟨0x602000 + 0x40 * n, 8, 8⟩
def F.SOLV_C_CFG_GROUP (n : Nat) : Fld := ⟨0x602000 + 0x40 * n, 7, 4⟩
def F.SOLV_C_CFG_SCHED (n : Nat) : Fld := ⟨0x602000 + 0x40 * n, 3, 0⟩
/-- BAR0 offset of SOLV_C_CFG (11 Table 11.8). -/
def R.SOLV_C_CFG (n : Nat) : Nat := 0x602000 + 0x40 * n
def F.SOLV_C_BASE_BASE (n : Nat) : Fld := ⟨0x602004 + 0x40 * n, 24, 0⟩
/-- BAR0 offset of SOLV_C_BASE (11 Table 11.8). -/
def R.SOLV_C_BASE (n : Nat) : Nat := 0x602004 + 0x40 * n
def F.SOLV_C_IN_ADDR_IN_ADDR (n : Nat) : Fld := ⟨0x602008 + 0x40 * n, 24, 0⟩
/-- BAR0 offset of SOLV_C_IN_ADDR (11 Table 11.8). -/
def R.SOLV_C_IN_ADDR (n : Nat) : Nat := 0x602008 + 0x40 * n
def F.SOLV_C_IN_CUR (n : Nat) : Fld := ⟨0x60200C + 0x40 * n, 1, 1⟩
def F.SOLV_C_IN_PUBLISH (n : Nat) : Fld := ⟨0x60200C + 0x40 * n, 0, 0⟩
/-- BAR0 offset of SOLV_C_IN (11 Table 11.8). -/
def R.SOLV_C_IN (n : Nat) : Nat := 0x60200C + 0x40 * n
def F.SOLV_C_RG_HITS (n : Nat) : Fld := ⟨0x602010 + 0x40 * n, 31, 16⟩
def F.SOLV_C_RG_BLOCK (n : Nat) : Fld := ⟨0x602010 + 0x40 * n, 7, 0⟩
/-- BAR0 offset of SOLV_C_RG (11 Table 11.8). -/
def R.SOLV_C_RG (n : Nat) : Nat := 0x602010 + 0x40 * n
def F.SOLV_CTX_RUN_MAX_ITER (n : Nat) : Fld := ⟨0x603000 + 0x40 * n, 31, 22⟩
def F.SOLV_CTX_RUN_CHECK_K (n : Nat) : Fld := ⟨0x603000 + 0x40 * n, 21, 18⟩
def F.SOLV_CTX_RUN_ADAPT_K (n : Nat) : Fld := ⟨0x603000 + 0x40 * n, 17, 10⟩
def F.SOLV_CTX_RUN_RHO0 (n : Nat) : Fld := ⟨0x603000 + 0x40 * n, 9, 7⟩
def F.SOLV_CTX_RUN_WARM_EN (n : Nat) : Fld := ⟨0x603000 + 0x40 * n, 6, 6⟩
/-- BAR0 offset of SOLV_CTX_RUN (12 Table 12.4). -/
def R.SOLV_CTX_RUN (n : Nat) : Nat := 0x603000 + 0x40 * n
def F.SOLV_CTX_POL_DL_EARLY (n : Nat) : Fld := ⟨0x603004 + 0x40 * n, 31, 24⟩
def F.SOLV_CTX_POL_RELAX (n : Nat) : Fld := ⟨0x603004 + 0x40 * n, 23, 20⟩
def F.SOLV_CTX_POL_SHIFT_MAX (n : Nat) : Fld := ⟨0x603004 + 0x40 * n, 19, 17⟩
def F.SOLV_CTX_POL_ACC_FLAGS (n : Nat) : Fld := ⟨0x603004 + 0x40 * n, 16, 16⟩
def F.SOLV_CTX_POL_ACC_RSAT (n : Nat) : Fld := ⟨0x603004 + 0x40 * n, 15, 15⟩
def F.SOLV_CTX_POL_PEER_EN (n : Nat) : Fld := ⟨0x603004 + 0x40 * n, 14, 14⟩
def F.SOLV_CTX_POL_PEER_IDX (n : Nat) : Fld := ⟨0x603004 + 0x40 * n, 13, 6⟩
/-- BAR0 offset of SOLV_CTX_POL (12 Table 12.4). -/
def R.SOLV_CTX_POL (n : Nat) : Nat := 0x603004 + 0x40 * n
def F.SOLV_CTX_CMD_COLD (n : Nat) : Fld := ⟨0x603008 + 0x40 * n, 0, 0⟩
/-- BAR0 offset of SOLV_CTX_CMD (12 Table 12.4). -/
def R.SOLV_CTX_CMD (n : Nat) : Nat := 0x603008 + 0x40 * n
def F.SOLV_CTX_STS_CODE (n : Nat) : Fld := ⟨0x60300C + 0x40 * n, 31, 24⟩
def F.SOLV_CTX_STS_TAKE (n : Nat) : Fld := ⟨0x60300C + 0x40 * n, 15, 14⟩
def F.SOLV_CTX_STS_SHIFTS (n : Nat) : Fld := ⟨0x60300C + 0x40 * n, 13, 11⟩
def F.SOLV_CTX_STS_RES_VALID (n : Nat) : Fld := ⟨0x60300C + 0x40 * n, 10, 10⟩
def F.SOLV_CTX_STS_FVALID (n : Nat) : Fld := ⟨0x60300C + 0x40 * n, 9, 9⟩
def F.SOLV_CTX_STS_BUSY (n : Nat) : Fld := ⟨0x60300C + 0x40 * n, 8, 8⟩
def F.SOLV_CTX_STS_PEER_STALE (n : Nat) : Fld := ⟨0x60300C + 0x40 * n, 7, 7⟩
def F.SOLV_CTX_STS_INSIDE (n : Nat) : Fld := ⟨0x60300C + 0x40 * n, 6, 6⟩
def F.SOLV_CTX_STS_RANGE_SAT_F (n : Nat) : Fld := ⟨0x60300C + 0x40 * n, 5, 5⟩
def F.SOLV_CTX_STS_PIVOT_REG_F (n : Nat) : Fld := ⟨0x60300C + 0x40 * n, 4, 4⟩
def F.SOLV_CTX_STS_WARM_REJECT_F (n : Nat) : Fld := ⟨0x60300C + 0x40 * n, 3, 3⟩
def F.SOLV_CTX_STS_PLAN_FAIL (n : Nat) : Fld := ⟨0x60300C + 0x40 * n, 2, 2⟩
def F.SOLV_CTX_STS_NR_REASON (n : Nat) : Fld := ⟨0x60300C + 0x40 * n, 1, 0⟩
/-- BAR0 offset of SOLV_CTX_STS (12 Table 12.5). -/
def R.SOLV_CTX_STS (n : Nat) : Nat := 0x60300C + 0x40 * n
def F.SOLV_CTX_EVT_SEQ (n : Nat) : Fld := ⟨0x603010 + 0x40 * n, 31, 24⟩
def F.SOLV_CTX_EVT_FAIL_EVT (n : Nat) : Fld := ⟨0x603010 + 0x40 * n, 2, 2⟩
def F.SOLV_CTX_EVT_TAKE_EVT (n : Nat) : Fld := ⟨0x603010 + 0x40 * n, 1, 1⟩
def F.SOLV_CTX_EVT_DONE_EVT (n : Nat) : Fld := ⟨0x603010 + 0x40 * n, 0, 0⟩
/-- BAR0 offset of SOLV_CTX_EVT (12 Table 12.5). -/
def R.SOLV_CTX_EVT (n : Nat) : Nat := 0x603010 + 0x40 * n
def F.SOLV_CTX_RESP_R_P (n : Nat) : Fld := ⟨0x603014 + 0x40 * n, 31, 0⟩
/-- BAR0 offset of SOLV_CTX_RESP (12 Table 12.6). -/
def R.SOLV_CTX_RESP (n : Nat) : Nat := 0x603014 + 0x40 * n
def F.SOLV_CTX_RESD_R_D (n : Nat) : Fld := ⟨0x603018 + 0x40 * n, 31, 0⟩
/-- BAR0 offset of SOLV_CTX_RESD (12 Table 12.6). -/
def R.SOLV_CTX_RESD (n : Nat) : Nat := 0x603018 + 0x40 * n
def F.SOLV_CTX_CNT_ITERS (n : Nat) : Fld := ⟨0x60301C + 0x40 * n, 31, 21⟩
def F.SOLV_CTX_CNT_NFACT (n : Nat) : Fld := ⟨0x60301C + 0x40 * n, 20, 16⟩
def F.SOLV_CTX_CNT_PIVOTS (n : Nat) : Fld := ⟨0x60301C + 0x40 * n, 15, 0⟩
/-- BAR0 offset of SOLV_CTX_CNT (12 Table 12.6). -/
def R.SOLV_CTX_CNT (n : Nat) : Nat := 0x60301C + 0x40 * n
def F.SOLV_CTX_CLK_CLOCKS (n : Nat) : Fld := ⟨0x603020 + 0x40 * n, 31, 0⟩
/-- BAR0 offset of SOLV_CTX_CLK (12 Table 12.6). -/
def R.SOLV_CTX_CLK (n : Nat) : Nat := 0x603020 + 0x40 * n
def F.SOLV_CTX_CYC_PLAN_CYC (n : Nat) : Fld := ⟨0x603024 + 0x40 * n, 31, 0⟩
/-- BAR0 offset of SOLV_CTX_CYC (12 Table 12.6). -/
def R.SOLV_CTX_CYC (n : Nat) : Nat := 0x603024 + 0x40 * n
def F.SOLV_CTX_RHO_RHO_IDX (n : Nat) : Fld := ⟨0x603028 + 0x40 * n, 2, 0⟩
/-- BAR0 offset of SOLV_CTX_RHO (12 Table 12.6). -/
def R.SOLV_CTX_RHO (n : Nat) : Nat := 0x603028 + 0x40 * n
def F.ARB_STS_HELD : Fld := ⟨0x700800, 26, 16⟩
def F.ARB_STS_RESTORE : Fld := ⟨0x700800, 15, 15⟩
def F.ARB_STS_LIVE : Fld := ⟨0x700800, 12, 0⟩
/-- BAR0 offset of ARB_STS (13 Table 13.6). -/
def R.ARB_STS : Nat := 0x700800
def F.ARB_EVT_SEQ : Fld := ⟨0x700804, 31, 24⟩
def F.ARB_EVT_ORPHAN_EVT : Fld := ⟨0x700804, 3, 3⟩
def F.ARB_EVT_HOME_DOWN_EVT : Fld := ⟨0x700804, 2, 2⟩
def F.ARB_EVT_RESTORE_EVT : Fld := ⟨0x700804, 1, 1⟩
def F.ARB_EVT_FULL_EVT : Fld := ⟨0x700804, 0, 0⟩
/-- BAR0 offset of ARB_EVT (13 Table 13.6). -/
def R.ARB_EVT : Nat := 0x700804
def F.ARB_REVOKE_T_T_REV : Fld := ⟨0x700808, 31, 0⟩
/-- BAR0 offset of ARB_REVOKE_T (13 Table 13.6). -/
def R.ARB_REVOKE_T : Nat := 0x700808
def F.ARB_REVOKE_GEN : Fld := ⟨0x700810, 31, 24⟩
def F.ARB_REVOKE_INDEX : Fld := ⟨0x700810, 11, 0⟩
/-- BAR0 offset of ARB_REVOKE (13 Table 13.6). -/
def R.ARB_REVOKE : Nat := 0x700810
def F.ARB_CFG_RESTORE_T : Fld := ⟨0x700820, 31, 16⟩
def F.ARB_CFG_RETRIES : Fld := ⟨0x700820, 7, 0⟩
/-- BAR0 offset of ARB_CFG (13 Table 13.7). -/
def R.ARB_CFG : Nat := 0x700820
def F.ARB_CNT0_GRANTS : Fld := ⟨0x700824, 31, 16⟩
def F.ARB_CNT0_REFUSALS : Fld := ⟨0x700824, 15, 0⟩
/-- BAR0 offset of ARB_CNT0 (13 Table 13.7). -/
def R.ARB_CNT0 : Nat := 0x700824
def F.ARB_CNT1_RETRY_CNT : Fld := ⟨0x700828, 31, 16⟩
def F.ARB_CNT1_RESENT : Fld := ⟨0x700828, 15, 0⟩
/-- BAR0 offset of ARB_CNT1 (13 Table 13.7). -/
def R.ARB_CNT1 : Nat := 0x700828
def F.ARB_G_BLK_BLOCK (n : Nat) : Fld := ⟨0x700000 + 0x40 * n, 9, 0⟩
/-- BAR0 offset of ARB_G_BLK (13 Table 13.8). -/
def R.ARB_G_BLK (n : Nat) : Nat := 0x700000 + 0x40 * n
def F.ARB_G_HDL_HANDLE (n : Nat) : Fld := ⟨0x700004 + 0x40 * n, 31, 0⟩
/-- BAR0 offset of ARB_G_HDL (13 Table 13.8). -/
def R.ARB_G_HDL (n : Nat) : Nat := 0x700004 + 0x40 * n
def F.ARB_G_TA_T_A (n : Nat) : Fld := ⟨0x700008 + 0x40 * n, 31, 0⟩
/-- BAR0 offset of ARB_G_TA (13 Table 13.8). -/
def R.ARB_G_TA (n : Nat) : Nat := 0x700008 + 0x40 * n
def F.ARB_G_TB_T_B (n : Nat) : Fld := ⟨0x70000C + 0x40 * n, 31, 0⟩
/-- BAR0 offset of ARB_G_TB (13 Table 13.8). -/
def R.ARB_G_TB (n : Nat) : Nat := 0x70000C + 0x40 * n
def F.ARB_G_CMD_OP (n : Nat) : Fld := ⟨0x700010 + 0x40 * n, 1, 0⟩
/-- BAR0 offset of ARB_G_CMD (13 Table 13.8). -/
def R.ARB_G_CMD (n : Nat) : Nat := 0x700010 + 0x40 * n
def F.ARB_G_STS_NEXT_RSEQ (n : Nat) : Fld := ⟨0x700018 + 0x40 * n, 31, 28⟩
def F.ARB_G_STS_HELD (n : Nat) : Fld := ⟨0x700018 + 0x40 * n, 26, 16⟩
def F.ARB_G_STS_PENDING (n : Nat) : Fld := ⟨0x700018 + 0x40 * n, 3, 0⟩
/-- BAR0 offset of ARB_G_STS (13 Table 13.8). -/
def R.ARB_G_STS (n : Nat) : Nat := 0x700018 + 0x40 * n
def F.ARB_G_EVT_SEQ (n : Nat) : Fld := ⟨0x70001C + 0x40 * n, 31, 24⟩
def F.ARB_G_EVT_AUTO_FAIL_EVT (n : Nat) : Fld := ⟨0x70001C + 0x40 * n, 2, 2⟩
def F.ARB_G_EVT_NOTICE_EVT (n : Nat) : Fld := ⟨0x70001C + 0x40 * n, 1, 1⟩
def F.ARB_G_EVT_RESULT_EVT (n : Nat) : Fld := ⟨0x70001C + 0x40 * n, 0, 0⟩
/-- BAR0 offset of ARB_G_EVT (13 Table 13.8). -/
def R.ARB_G_EVT (n : Nat) : Nat := 0x70001C + 0x40 * n
def F.ARB_RS_PENDING (n : Nat) (i : Nat) : Fld := ⟨0x701000 + 0x100 * n + 0x10 * i, 31, 31⟩
def F.ARB_RS_RSEQ (n : Nat) (i : Nat) : Fld := ⟨0x701000 + 0x100 * n + 0x10 * i, 27, 24⟩
def F.ARB_RS_CODE (n : Nat) (i : Nat) : Fld := ⟨0x701000 + 0x100 * n + 0x10 * i, 23, 16⟩
def F.ARB_RS_OP (n : Nat) (i : Nat) : Fld := ⟨0x701000 + 0x100 * n + 0x10 * i, 11, 10⟩
def F.ARB_RS_BLOCK (n : Nat) (i : Nat) : Fld := ⟨0x701000 + 0x100 * n + 0x10 * i, 9, 0⟩
/-- BAR0 offset of ARB_RS (13 Table 13.9). -/
def R.ARB_RS (n : Nat) (i : Nat) : Nat := 0x701000 + 0x100 * n + 0x10 * i
def F.ARB_RS_HDL_HANDLE (n : Nat) (i : Nat) : Fld := ⟨0x701004 + 0x100 * n + 0x10 * i, 31, 0⟩
/-- BAR0 offset of ARB_RS_HDL (13 Table 13.9). -/
def R.ARB_RS_HDL (n : Nat) (i : Nat) : Nat := 0x701004 + 0x100 * n + 0x10 * i
def F.ARB_RS_TA_T_A (n : Nat) (i : Nat) : Fld := ⟨0x701008 + 0x100 * n + 0x10 * i, 31, 0⟩
/-- BAR0 offset of ARB_RS_TA (13 Table 13.9). -/
def R.ARB_RS_TA (n : Nat) (i : Nat) : Nat := 0x701008 + 0x100 * n + 0x10 * i
def F.ARB_RS_TB_T_B (n : Nat) (i : Nat) : Fld := ⟨0x70100C + 0x100 * n + 0x10 * i, 31, 0⟩
/-- BAR0 offset of ARB_RS_TB (13 Table 13.9). -/
def R.ARB_RS_TB (n : Nat) (i : Nat) : Nat := 0x70100C + 0x100 * n + 0x10 * i
def F.ARB_PAR0_AUTO_KEEP (n : Nat) : Fld := ⟨0x700C00 + 0x10 * n, 16, 16⟩
def F.ARB_PAR0_PREC (n : Nat) : Fld := ⟨0x700C00 + 0x10 * n, 7, 0⟩
/-- BAR0 offset of ARB_PAR0 (13 Table 13.10). -/
def R.ARB_PAR0 (n : Nat) : Nat := 0x700C00 + 0x10 * n
def F.ARB_WIN_WIN_MAX (n : Nat) : Fld := ⟨0x700C04 + 0x10 * n, 31, 0⟩
/-- BAR0 offset of ARB_WIN (13 Table 13.10). -/
def R.ARB_WIN (n : Nat) : Nat := 0x700C04 + 0x10 * n
def F.ARB_LEAD_LEAD_MAX (n : Nat) : Fld := ⟨0x700C08 + 0x10 * n, 31, 0⟩
/-- BAR0 offset of ARB_LEAD (13 Table 13.10). -/
def R.ARB_LEAD (n : Nat) : Nat := 0x700C08 + 0x10 * n
def F.ARB_KEEP_KEEP_AHEAD (n : Nat) : Fld := ⟨0x700C0C + 0x10 * n, 15, 0⟩
/-- BAR0 offset of ARB_KEEP (13 Table 13.10). -/
def R.ARB_KEEP (n : Nat) : Nat := 0x700C0C + 0x10 * n
def F.SPC_CTL_STEP (n : Nat) : Fld := ⟨0x800000 + 0x40 * n, 2, 2⟩
def F.SPC_CTL_RESUME (n : Nat) : Fld := ⟨0x800000 + 0x40 * n, 1, 1⟩
def F.SPC_CTL_HALT (n : Nat) : Fld := ⟨0x800000 + 0x40 * n, 0, 0⟩
/-- BAR0 offset of SPC_CTL (14 Table 14.12). -/
def R.SPC_CTL (n : Nat) : Nat := 0x800000 + 0x40 * n
def F.SPC_STS_PC (n : Nat) : Fld := ⟨0x800004 + 0x40 * n, 28, 16⟩
def F.SPC_STS_HCAUSE (n : Nat) : Fld := ⟨0x800004 + 0x40 * n, 11, 8⟩
def F.SPC_STS_ECAUSE (n : Nat) : Fld := ⟨0x800004 + 0x40 * n, 7, 4⟩
def F.SPC_STS_TASK (n : Nat) : Fld := ⟨0x800004 + 0x40 * n, 2, 2⟩
def F.SPC_STS_STATE (n : Nat) : Fld := ⟨0x800004 + 0x40 * n, 1, 0⟩
/-- BAR0 offset of SPC_STS (14 Table 14.12). -/
def R.SPC_STS (n : Nat) : Nat := 0x800004 + 0x40 * n
def F.SPC_EVT_SEQ (n : Nat) : Fld := ⟨0x800008 + 0x40 * n, 31, 24⟩
def F.SPC_EVT_DOUBLE_EVT (n : Nat) : Fld := ⟨0x800008 + 0x40 * n, 2, 2⟩
def F.SPC_EVT_EXC_EVT (n : Nat) : Fld := ⟨0x800008 + 0x40 * n, 1, 1⟩
def F.SPC_EVT_HALT_EVT (n : Nat) : Fld := ⟨0x800008 + 0x40 * n, 0, 0⟩
/-- BAR0 offset of SPC_EVT (14 Table 14.12). -/
def R.SPC_EVT (n : Nat) : Nat := 0x800008 + 0x40 * n
def F.SPC_DOOR_RING (n : Nat) : Fld := ⟨0x80000C + 0x40 * n, 0, 0⟩
/-- BAR0 offset of SPC_DOOR (14 Table 14.12). -/
def R.SPC_DOOR (n : Nat) : Nat := 0x80000C + 0x40 * n
def F.SPC_CFG_WMASK (n : Nat) : Fld := ⟨0x800010 + 0x40 * n, 31, 16⟩
def F.SPC_CFG_EN (n : Nat) : Fld := ⟨0x800010 + 0x40 * n, 0, 0⟩
/-- BAR0 offset of SPC_CFG (14 Table 14.12). -/
def R.SPC_CFG (n : Nat) : Nat := 0x800010 + 0x40 * n
def F.SPC_BUSY_CLOCKS (n : Nat) : Fld := ⟨0x800014 + 0x40 * n, 31, 0⟩
/-- BAR0 offset of SPC_BUSY (14 Table 14.12). -/
def R.SPC_BUSY (n : Nat) : Nat := 0x800014 + 0x40 * n
def F.SPC_WAIT_CLOCKS (n : Nat) : Fld := ⟨0x800018 + 0x40 * n, 31, 0⟩
/-- BAR0 offset of SPC_WAIT (14 Table 14.12). -/
def R.SPC_WAIT (n : Nat) : Nat := 0x800018 + 0x40 * n
def F.SPC_WIN_VALUE (n : Nat) (i : Nat) : Fld := ⟨0x801000 + 0x100 * n + 0x4 * i, 31, 0⟩
/-- BAR0 offset of SPC_WIN (14 Table 14.13). -/
def R.SPC_WIN (n : Nat) (i : Nat) : Nat := 0x801000 + 0x100 * n + 0x4 * i
def F.SCHED_STS_READY : Fld := ⟨0x880000, 26, 16⟩
def F.SCHED_STS_DELAYED : Fld := ⟨0x880000, 10, 0⟩
/-- BAR0 offset of SCHED_STS (15 Table 15.4). -/
def R.SCHED_STS : Nat := 0x880000
def F.SCHED_EVT_SEQ : Fld := ⟨0x880004, 31, 24⟩
def F.SCHED_EVT_CTR_LOST_EVT : Fld := ⟨0x880004, 2, 2⟩
def F.SCHED_EVT_BAD_POST_EVT : Fld := ⟨0x880004, 1, 1⟩
def F.SCHED_EVT_POST_OVF_EVT : Fld := ⟨0x880004, 0, 0⟩
/-- BAR0 offset of SCHED_EVT (15 Table 15.4). -/
def R.SCHED_EVT : Nat := 0x880004
def F.SCHED_CNT0_POST_OVF : Fld := ⟨0x880008, 31, 16⟩
def F.SCHED_CNT0_BAD_POST : Fld := ⟨0x880008, 15, 0⟩
/-- BAR0 offset of SCHED_CNT0 (15 Table 15.4). -/
def R.SCHED_CNT0 : Nat := 0x880008
def F.SCHED_CNT1_CTR_LOST : Fld := ⟨0x88000C, 31, 0⟩
/-- BAR0 offset of SCHED_CNT1 (15 Table 15.4). -/
def R.SCHED_CNT1 : Nat := 0x88000C
def F.SCHED_POST_TASK : Fld := ⟨0x880010, 9, 0⟩
/-- BAR0 offset of SCHED_POST (15 Table 15.5). -/
def R.SCHED_POST : Nat := 0x880010
def F.SCHED_DPOST_T_DELAY : Fld := ⟨0x880014, 31, 0⟩
/-- BAR0 offset of SCHED_DPOST_T (15 Table 15.5). -/
def R.SCHED_DPOST_T : Nat := 0x880014
def F.SCHED_DPOST_TASK : Fld := ⟨0x880018, 9, 0⟩
/-- BAR0 offset of SCHED_DPOST (15 Table 15.5). -/
def R.SCHED_DPOST : Nat := 0x880018
def F.SCHED_CFG_AFFINITY_WAIT : Fld := ⟨0x88001C, 15, 0⟩
/-- BAR0 offset of SCHED_CFG (15 Table 15.5). -/
def R.SCHED_CFG : Nat := 0x88001C
def F.SCHED_CTR_CTL_KMASK : Fld := ⟨0x880020, 31, 16⟩
def F.SCHED_CTR_CTL_STOP_FULL : Fld := ⟨0x880020, 1, 1⟩
def F.SCHED_CTR_CTL_EN : Fld := ⟨0x880020, 0, 0⟩
/-- BAR0 offset of SCHED_CTR_CTL (15 Table 15.6). -/
def R.SCHED_CTR_CTL : Nat := 0x880020
def F.SCHED_CTR_POS_LO_FULL : Fld := ⟨0x880024, 31, 31⟩
def F.SCHED_CTR_POS_LO_WPTR : Fld := ⟨0x880024, 16, 0⟩
/-- BAR0 offset of SCHED_CTR_POS_LO (15 Table 15.6). -/
def R.SCHED_CTR_POS_LO : Nat := 0x880024
def F.SCHED_CTR_POS_HI_WRAPS : Fld := ⟨0x880028, 31, 0⟩
/-- BAR0 offset of SCHED_CTR_POS_HI (15 Table 15.6). -/
def R.SCHED_CTR_POS_HI : Nat := 0x880028
def F.SCHED_CTR_CMD_RESET : Fld := ⟨0x88002C, 0, 0⟩
/-- BAR0 offset of SCHED_CTR_CMD (15 Table 15.6). -/
def R.SCHED_CTR_CMD : Nat := 0x88002C
def F.SCHED_MB_DATA_DATA (n : Nat) : Fld := ⟨0x880100 + 0x10 * n, 31, 0⟩
/-- BAR0 offset of SCHED_MB_DATA (15 Table 15.7). -/
def R.SCHED_MB_DATA (n : Nat) : Nat := 0x880100 + 0x10 * n
def F.SCHED_MB_EVT_SEQ (n : Nat) : Fld := ⟨0x880104 + 0x10 * n, 31, 24⟩
def F.SCHED_MB_EVT_DONE_EVT (n : Nat) : Fld := ⟨0x880104 + 0x10 * n, 1, 1⟩
def F.SCHED_MB_EVT_MSG_EVT (n : Nat) : Fld := ⟨0x880104 + 0x10 * n, 0, 0⟩
/-- BAR0 offset of SCHED_MB_EVT (15 Table 15.7). -/
def R.SCHED_MB_EVT (n : Nat) : Nat := 0x880104 + 0x10 * n
def F.SCHED_TSK_LAST_STATUS (n : Nat) : Fld := ⟨0x881000 + 0x4 * n, 31, 24⟩
def F.SCHED_TSK_COUNT (n : Nat) : Fld := ⟨0x881000 + 0x4 * n, 23, 16⟩
def F.SCHED_TSK_LAST_CORE (n : Nat) : Fld := ⟨0x881000 + 0x4 * n, 15, 12⟩
def F.SCHED_TSK_AFF_WAIT (n : Nat) : Fld := ⟨0x881000 + 0x4 * n, 11, 11⟩
def F.SCHED_TSK_DELAYED (n : Nat) : Fld := ⟨0x881000 + 0x4 * n, 10, 10⟩
def F.SCHED_TSK_STATE (n : Nat) : Fld := ⟨0x881000 + 0x4 * n, 9, 8⟩
/-- BAR0 offset of SCHED_TSK (15 Table 15.8). -/
def R.SCHED_TSK (n : Nat) : Nat := 0x881000 + 0x4 * n
def F.CFG_SAFE_BIND_KEYH32 : Fld := ⟨0xD00080, 31, 0⟩
/-- BAR0 offset of CFG_SAFE_BIND (16 Table 16.9). -/
def R.CFG_SAFE_BIND : Nat := 0xD00080
def F.CFG_SAFE_BIND_STS_SEQ : Fld := ⟨0xD00088, 31, 24⟩
def F.CFG_SAFE_BIND_STS_RESULT : Fld := ⟨0xD00088, 23, 16⟩
def F.CFG_SAFE_BIND_STS_DONE_EVT : Fld := ⟨0xD00088, 1, 1⟩
def F.CFG_SAFE_BIND_STS_BUSY : Fld := ⟨0xD00088, 0, 0⟩
/-- BAR0 offset of CFG_SAFE_BIND_STS (16 Table 16.9). -/
def R.CFG_SAFE_BIND_STS : Nat := 0xD00088
def F.SAFE_STS_LOCK_CAUSE : Fld := ⟨0xB00000, 23, 16⟩
def F.SAFE_STS_OUT_ON : Fld := ⟨0xB00000, 15, 8⟩
def F.SAFE_STS_SAFE_KEY_BLANK : Fld := ⟨0xB00000, 7, 7⟩
def F.SAFE_STS_ISTATE : Fld := ⟨0xB00000, 3, 0⟩
/-- BAR0 offset of SAFE_STS (16 Table 16.10). -/
def R.SAFE_STS : Nat := 0xB00000
def F.SAFE_EVT_SEQ : Fld := ⟨0xB00004, 31, 24⟩
def F.SAFE_EVT_CODE : Fld := ⟨0xB00004, 23, 16⟩
def F.SAFE_EVT_DETAIL : Fld := ⟨0xB00004, 15, 0⟩
/-- BAR0 offset of SAFE_EVT (16 Table 16.10). -/
def R.SAFE_EVT : Nat := 0xB00004
def F.SAFE_IN_SAFE_B : Fld := ⟨0xB00008, 31, 16⟩
def F.SAFE_IN_SAFE_A : Fld := ⟨0xB00008, 15, 0⟩
/-- BAR0 offset of SAFE_IN (16 Table 16.11). -/
def R.SAFE_IN : Nat := 0xB00008
def F.SAFE_INV_DISC : Fld := ⟨0xB0000C, 31, 16⟩
def F.SAFE_INV_DEMAND : Fld := ⟨0xB0000C, 15, 0⟩
/-- BAR0 offset of SAFE_INV (16 Table 16.11). -/
def R.SAFE_INV : Nat := 0xB0000C
def F.SAFE_OUT_RB_FAULT : Fld := ⟨0xB00010, 31, 24⟩
def F.SAFE_OUT_RB : Fld := ⟨0xB00010, 23, 16⟩
def F.SAFE_OUT_STOP1 : Fld := ⟨0xB00010, 15, 8⟩
def F.SAFE_OUT_ESC : Fld := ⟨0xB00010, 7, 0⟩
/-- BAR0 offset of SAFE_OUT (16 Table 16.11). -/
def R.SAFE_OUT : Nat := 0xB00010
def F.SAFE_PERMIT_PERMIT (n : Nat) : Fld := ⟨0xB00020 + 0x4 * n, 31, 0⟩
/-- BAR0 offset of SAFE_PERMIT (16 Table 16.12). -/
def R.SAFE_PERMIT (n : Nat) : Nat := 0xB00020 + 0x4 * n
def F.SAFE_CNT0_DISC_CNT : Fld := ⟨0xB00030, 31, 16⟩
def F.SAFE_CNT0_ACK_EARLY : Fld := ⟨0xB00030, 15, 0⟩
/-- BAR0 offset of SAFE_CNT0 (16 Table 16.12). -/
def R.SAFE_CNT0 : Nat := 0xB00030
def F.SAFE_CNT1_ACK_CNT : Fld := ⟨0xB00034, 31, 16⟩
def F.SAFE_CNT1_RB_CNT : Fld := ⟨0xB00034, 15, 0⟩
/-- BAR0 offset of SAFE_CNT1 (16 Table 16.12). -/
def R.SAFE_CNT1 : Nat := 0xB00034
def F.SAFE_LOG0_TIME (n : Nat) : Fld := ⟨0xB00100 + 0x8 * n, 31, 0⟩
/-- BAR0 offset of SAFE_LOG0 (16 Table 16.12). -/
def R.SAFE_LOG0 (n : Nat) : Nat := 0xB00100 + 0x8 * n
def F.SAFE_LOG1_SEQ (n : Nat) : Fld := ⟨0xB00104 + 0x8 * n, 31, 24⟩
def F.SAFE_LOG1_CODE (n : Nat) : Fld := ⟨0xB00104 + 0x8 * n, 23, 16⟩
def F.SAFE_LOG1_DETAIL (n : Nat) : Fld := ⟨0xB00104 + 0x8 * n, 15, 0⟩
/-- BAR0 offset of SAFE_LOG1 (16 Table 16.12). -/
def R.SAFE_LOG1 (n : Nat) : Nat := 0xB00104 + 0x8 * n
def F.SAFE_SSM_DMIN_DMIN (n : Nat) : Fld := ⟨0xB00200 + 0x10 * n, 31, 0⟩
/-- BAR0 offset of SAFE_SSM_DMIN (17 Table 17.7). -/
def R.SAFE_SSM_DMIN (n : Nat) : Nat := 0xB00200 + 0x10 * n
def F.SAFE_SSM_STS_SLIM (n : Nat) : Fld := ⟨0xB00204 + 0x10 * n, 31, 16⟩
def F.SAFE_SSM_STS_SRC (n : Nat) : Fld := ⟨0xB00204 + 0x10 * n, 15, 8⟩
def F.SAFE_SSM_STS_MISS (n : Nat) : Fld := ⟨0xB00204 + 0x10 * n, 3, 3⟩
def F.SAFE_SSM_STS_PSTOP (n : Nat) : Fld := ⟨0xB00204 + 0x10 * n, 2, 2⟩
def F.SAFE_SSM_STS_SVIOL (n : Nat) : Fld := ⟨0xB00204 + 0x10 * n, 1, 1⟩
def F.SAFE_SSM_STS_MON (n : Nat) : Fld := ⟨0xB00204 + 0x10 * n, 0, 0⟩
/-- BAR0 offset of SAFE_SSM_STS (17 Table 17.7). -/
def R.SAFE_SSM_STS (n : Nat) : Nat := 0xB00204 + 0x10 * n
def F.SAFE_SSM_VM_V_M (n : Nat) : Fld := ⟨0xB00208 + 0x10 * n, 31, 16⟩
def F.SAFE_SSM_VM_DIFF (n : Nat) : Fld := ⟨0xB00208 + 0x10 * n, 15, 0⟩
/-- BAR0 offset of SAFE_SSM_VM (17 Table 17.7). -/
def R.SAFE_SSM_VM (n : Nat) : Nat := 0xB00208 + 0x10 * n
def F.SAFE_SMSG_STS_STREAM (n : Nat) : Fld := ⟨0xB00400 + 0x10 * n, 31, 16⟩
def F.SAFE_SMSG_STS_MISS_S (n : Nat) : Fld := ⟨0xB00400 + 0x10 * n, 15, 8⟩
def F.SAFE_SMSG_STS_NODISJ (n : Nat) : Fld := ⟨0xB00400 + 0x10 * n, 3, 3⟩
def F.SAFE_SMSG_STS_MISMATCH (n : Nat) : Fld := ⟨0xB00400 + 0x10 * n, 2, 2⟩
def F.SAFE_SMSG_STS_WD (n : Nat) : Fld := ⟨0xB00400 + 0x10 * n, 1, 1⟩
def F.SAFE_SMSG_STS_GOOD (n : Nat) : Fld := ⟨0xB00400 + 0x10 * n, 0, 0⟩
/-- BAR0 offset of SAFE_SMSG_STS (17 Table 17.8). -/
def R.SAFE_SMSG_STS (n : Nat) : Nat := 0xB00400 + 0x10 * n
def F.SAFE_SMSG_LATCH_LATCH_CYC (n : Nat) : Fld := ⟨0xB00404 + 0x10 * n, 31, 0⟩
/-- BAR0 offset of SAFE_SMSG_LATCH (17 Table 17.8). -/
def R.SAFE_SMSG_LATCH (n : Nat) : Nat := 0xB00404 + 0x10 * n
def F.SAFE_SMSG_CNT0_REPLAY (n : Nat) : Fld := ⟨0xB00408 + 0x10 * n, 31, 16⟩
def F.SAFE_SMSG_CNT0_MISSED (n : Nat) : Fld := ⟨0xB00408 + 0x10 * n, 15, 0⟩
/-- BAR0 offset of SAFE_SMSG_CNT0 (17 Table 17.8). -/
def R.SAFE_SMSG_CNT0 (n : Nat) : Nat := 0xB00408 + 0x10 * n
def F.SAFE_SMSG_CNT1_MISMATCHES (n : Nat) : Fld := ⟨0xB0040C + 0x10 * n, 31, 16⟩
def F.SAFE_SMSG_CNT1_WDS (n : Nat) : Fld := ⟨0xB0040C + 0x10 * n, 15, 0⟩
/-- BAR0 offset of SAFE_SMSG_CNT1 (17 Table 17.8). -/
def R.SAFE_SMSG_CNT1 (n : Nat) : Nat := 0xB0040C + 0x10 * n
def F.RED_STS_COPY_AGE : Fld := ⟨0xC00000, 31, 24⟩
def F.RED_STS_SILENT : Fld := ⟨0xC00000, 23, 16⟩
def F.RED_STS_PARTNER : Fld := ⟨0xC00000, 12, 8⟩
def F.RED_STS_DRILL_PEND : Fld := ⟨0xC00000, 5, 5⟩
def F.RED_STS_LINK_UP : Fld := ⟨0xC00000, 4, 4⟩
def F.RED_STS_ROLE : Fld := ⟨0xC00000, 2, 0⟩
/-- BAR0 offset of RED_STS (18 Table 18.4). -/
def R.RED_STS : Nat := 0xC00000
def F.RED_CLAIM_CLAIM : Fld := ⟨0xC00004, 31, 0⟩
/-- BAR0 offset of RED_CLAIM (18 Table 18.4). -/
def R.RED_CLAIM : Nat := 0xC00004
def F.RED_SEEN_SEEN : Fld := ⟨0xC00008, 31, 0⟩
/-- BAR0 offset of RED_SEEN (18 Table 18.4). -/
def R.RED_SEEN : Nat := 0xC00008
def F.RED_EVT_SEQ : Fld := ⟨0xC0000C, 31, 24⟩
def F.RED_EVT_DRILL_FAIL_EVT : Fld := ⟨0xC0000C, 6, 6⟩
def F.RED_EVT_DRILL_EVT : Fld := ⟨0xC0000C, 5, 5⟩
def F.RED_EVT_PARTNER_LOST_EVT : Fld := ⟨0xC0000C, 4, 4⟩
def F.RED_EVT_QUAR_EVT : Fld := ⟨0xC0000C, 3, 3⟩
def F.RED_EVT_NO_TAKEOVER_EVT : Fld := ⟨0xC0000C, 2, 2⟩
def F.RED_EVT_TAKEOVER_EVT : Fld := ⟨0xC0000C, 1, 1⟩
def F.RED_EVT_LIVE_EVT : Fld := ⟨0xC0000C, 0, 0⟩
/-- BAR0 offset of RED_EVT (18 Table 18.5). -/
def R.RED_EVT : Nat := 0xC0000C
def F.RED_DRILL_CYC_D : Fld := ⟨0xC00010, 31, 0⟩
/-- BAR0 offset of RED_DRILL_CYC (18 Table 18.6). -/
def R.RED_DRILL_CYC : Nat := 0xC00010
def F.RED_CMD_RELEASE : Fld := ⟨0xC00018, 1, 1⟩
def F.RED_CMD_DRILL : Fld := ⟨0xC00018, 0, 0⟩
/-- BAR0 offset of RED_CMD (18 Table 18.6). -/
def R.RED_CMD : Nat := 0xC00018
def F.RED_CNT0_LINK_CRC : Fld := ⟨0xC00020, 31, 16⟩
def F.RED_CNT0_SILENT_CNT : Fld := ⟨0xC00020, 15, 0⟩
/-- BAR0 offset of RED_CNT0 (18 Table 18.6). -/
def R.RED_CNT0 : Nat := 0xC00020
def F.RED_CNT1_TAKEOVERS : Fld := ⟨0xC00024, 31, 16⟩
def F.RED_CNT1_DRILLS : Fld := ⟨0xC00024, 15, 0⟩
/-- BAR0 offset of RED_CNT1 (18 Table 18.6). -/
def R.RED_CNT1 : Nat := 0xC00024
def F.PWR_REQ_TARGET : Fld := ⟨0x100000, 1, 0⟩
/-- BAR0 offset of PWR_REQ (19 Table 19.7). -/
def R.PWR_REQ : Nat := 0x100000
def F.PWR_PERF_LEVEL : Fld := ⟨0x100008, 0, 0⟩
/-- BAR0 offset of PWR_PERF (19 Table 19.7). -/
def R.PWR_PERF : Nat := 0x100008
def F.PWR_FAB_REQ_TARGET : Fld := ⟨0x100010, 1, 0⟩
/-- BAR0 offset of PWR_FAB_REQ (19 Table 19.7). -/
def R.PWR_FAB_REQ : Nat := 0x100010
def F.PWR_WAKE_MSPI : Fld := ⟨0x100018, 17, 17⟩
def F.PWR_WAKE_PERST : Fld := ⟨0x100018, 16, 16⟩
def F.PWR_WAKE_PORTS : Fld := ⟨0x100018, 7, 0⟩
/-- BAR0 offset of PWR_WAKE (19 Table 19.7). -/
def R.PWR_WAKE : Nat := 0x100018
def F.PWR_STS_PGOOD : Fld := ⟨0x100020, 10, 10⟩
def F.PWR_STS_PERF : Fld := ⟨0x100020, 9, 9⟩
def F.PWR_STS_PERF_BUSY : Fld := ⟨0x100020, 8, 8⟩
def F.PWR_STS_WAKE_PEND : Fld := ⟨0x100020, 7, 7⟩
def F.PWR_STS_PHASE : Fld := ⟨0x100020, 6, 4⟩
def F.PWR_STS_TARGET : Fld := ⟨0x100020, 3, 2⟩
def F.PWR_STS_STATE : Fld := ⟨0x100020, 1, 0⟩
/-- BAR0 offset of PWR_STS (19 Table 19.8). -/
def R.PWR_STS : Nat := 0x100020
def F.PWR_EVT_SEQ : Fld := ⟨0x100024, 31, 24⟩
def F.PWR_EVT_NV_REFUSED_EVT : Fld := ⟨0x100024, 9, 9⟩
def F.PWR_EVT_PMIC_FAULT_EVT : Fld := ⟨0x100024, 8, 8⟩
def F.PWR_EVT_PMB_ERR_EVT : Fld := ⟨0x100024, 7, 7⟩
def F.PWR_EVT_PGOOD_LOSS_EVT : Fld := ⟨0x100024, 6, 6⟩
def F.PWR_EVT_PERF_FAIL_EVT : Fld := ⟨0x100024, 5, 5⟩
def F.PWR_EVT_PERF_DONE_EVT : Fld := ⟨0x100024, 4, 4⟩
def F.PWR_EVT_REQ_DROP_EVT : Fld := ⟨0x100024, 3, 3⟩
def F.PWR_EVT_REFUSED_EVT : Fld := ⟨0x100024, 2, 2⟩
def F.PWR_EVT_EXITED_EVT : Fld := ⟨0x100024, 1, 1⟩
def F.PWR_EVT_ENTERED_EVT : Fld := ⟨0x100024, 0, 0⟩
/-- BAR0 offset of PWR_EVT (19 Table 19.8). -/
def R.PWR_EVT : Nat := 0x100024
def F.PWR_REFUSE_CNT_COUNT : Fld := ⟨0x100028, 31, 0⟩
/-- BAR0 offset of PWR_REFUSE_CNT (19 Table 19.9). -/
def R.PWR_REFUSE_CNT : Nat := 0x100028
def F.PWR_LAST_REFUSER_TARGET : Fld := ⟨0x10002C, 9, 8⟩
def F.PWR_LAST_REFUSER_REFUSER : Fld := ⟨0x10002C, 7, 0⟩
/-- BAR0 offset of PWR_LAST_REFUSER (19 Table 19.9). -/
def R.PWR_LAST_REFUSER : Nat := 0x10002C
def F.PWR_PMB_STS_STATUS_WORD : Fld := ⟨0x100030, 31, 16⟩
def F.PWR_PMB_STS_STATUS_VOUT : Fld := ⟨0x100030, 15, 8⟩
def F.PWR_PMB_STS_PMB_ERR : Fld := ⟨0x100030, 7, 0⟩
/-- BAR0 offset of PWR_PMB_STS (19 Table 19.9). -/
def R.PWR_PMB_STS : Nat := 0x100030
def F.PWR_PMB_MEAS_VOUT : Fld := ⟨0x100034, 31, 16⟩
def F.PWR_PMB_MEAS_IOUT : Fld := ⟨0x100034, 15, 0⟩
/-- BAR0 offset of PWR_PMB_MEAS (19 Table 19.9). -/
def R.PWR_PMB_MEAS : Nat := 0x100034
def F.PWR_HOLD_E : Fld := ⟨0x100038, 31, 0⟩
/-- BAR0 offset of PWR_HOLD (19 Table 19.9). -/
def R.PWR_HOLD : Nat := 0x100038
def F.PWR_NV_CNT_NV_REFUSED : Fld := ⟨0x10003C, 31, 0⟩
/-- BAR0 offset of PWR_NV_CNT (19 Table 19.9). -/
def R.PWR_NV_CNT : Nat := 0x10003C
def F.PWR_QUIESCE_QUIESCE_TIMEOUT : Fld := ⟨0x100040, 31, 0⟩
/-- BAR0 offset of PWR_QUIESCE (19 Table 19.10). -/
def R.PWR_QUIESCE : Nat := 0x100040
def F.PWR_HOLD_CFG_HOLD_C : Fld := ⟨0x100044, 31, 16⟩
def F.PWR_HOLD_CFG_HOLD_VMIN : Fld := ⟨0x100044, 15, 0⟩
/-- BAR0 offset of PWR_HOLD_CFG (19 Table 19.10). -/
def R.PWR_HOLD_CFG : Nat := 0x100044
def F.PWR_ENEED_E_NEED (n : Nat) : Fld := ⟨0x100048 + 0x4 * n, 31, 0⟩
/-- BAR0 offset of PWR_ENEED (19 Table 19.10). -/
def R.PWR_ENEED (n : Nat) : Nat := 0x100048 + 0x4 * n
def F.PWR_PMB_CFG_VOUT_T : Fld := ⟨0x100058, 23, 16⟩
def F.PWR_PMB_CFG_N : Fld := ⟨0x100058, 12, 8⟩
def F.PWR_PMB_CFG_ADDR : Fld := ⟨0x100058, 6, 0⟩
/-- BAR0 offset of PWR_PMB_CFG (19 Table 19.10). -/
def R.PWR_PMB_CFG : Nat := 0x100058
def F.CLK_STS_SOLV_DIV8 : Fld := ⟨0x100100, 2, 2⟩
def F.CLK_STS_SAFE_LOCK : Fld := ⟨0x100100, 1, 1⟩
def F.CLK_STS_ROOT_LOCK : Fld := ⟨0x100100, 0, 0⟩
/-- BAR0 offset of CLK_STS (19 Table 19.10). -/
def R.CLK_STS : Nat := 0x100100
def F.CFG_BOOT_STS_STAGE : Fld := ⟨0xD000C0, 31, 28⟩
def F.CFG_BOOT_STS_FAILED : Fld := ⟨0xD000C0, 27, 27⟩
def F.CFG_BOOT_STS_DETAIL : Fld := ⟨0xD000C0, 23, 16⟩
def F.CFG_BOOT_STS_TRIES : Fld := ⟨0xD000C0, 15, 8⟩
/-- BAR0 offset of CFG_BOOT_STS (20 Table 20.6). -/
def R.CFG_BOOT_STS : Nat := 0xD000C0
def F.CFG_BOOT_CNT_BOOTS : Fld := ⟨0xD000C4, 31, 0⟩
/-- BAR0 offset of CFG_BOOT_CNT (20 Table 20.6). -/
def R.CFG_BOOT_CNT : Nat := 0xD000C4
def F.CFG_BOOT_TIME_MS : Fld := ⟨0xD000C8, 31, 0⟩
/-- BAR0 offset of CFG_BOOT_TIME (20 Table 20.6). -/
def R.CFG_BOOT_TIME : Nat := 0xD000C8
def F.CFG_RET_BAD_RET_BAD : Fld := ⟨0xD000CC, 15, 0⟩
/-- BAR0 offset of CFG_RET_BAD (20 Table 20.6). -/
def R.CFG_RET_BAD : Nat := 0xD000CC
def F.UPD_CMD_OP : Fld := ⟨0xD00100, 11, 9⟩
def F.UPD_CMD_INDEX : Fld := ⟨0xD00100, 8, 0⟩
/-- BAR0 offset of UPD_CMD (20 Table 20.7). -/
def R.UPD_CMD : Nat := 0xD00100
def F.UPD_CRC_CRC : Fld := ⟨0xD00108, 31, 0⟩
/-- BAR0 offset of UPD_CRC (20 Table 20.7). -/
def R.UPD_CRC : Nat := 0xD00108
def F.UPD_STS_OWNER : Fld := ⟨0xD0010C, 31, 28⟩
def F.UPD_STS_OWNER_NODE : Fld := ⟨0xD0010C, 27, 23⟩
def F.UPD_STS_RECOVERY : Fld := ⟨0xD0010C, 22, 22⟩
def F.UPD_STS_BUSY : Fld := ⟨0xD0010C, 21, 21⟩
def F.UPD_STS_FLASH_INVALID : Fld := ⟨0xD0010C, 20, 20⟩
def F.UPD_STS_FLASH_CHANGED : Fld := ⟨0xD0010C, 19, 19⟩
def F.UPD_STS_DONE_CNT : Fld := ⟨0xD0010C, 9, 0⟩
/-- BAR0 offset of UPD_STS (20 Table 20.7). -/
def R.UPD_STS : Nat := 0xD0010C
def F.UPD_EVT_SEQ : Fld := ⟨0xD00110, 31, 24⟩
def F.UPD_EVT_RESULT : Fld := ⟨0xD00110, 23, 16⟩
def F.UPD_EVT_SRC : Fld := ⟨0xD00110, 15, 12⟩
def F.UPD_EVT_OP : Fld := ⟨0xD00110, 11, 9⟩
def F.UPD_EVT_LCODE : Fld := ⟨0xD00110, 7, 3⟩
def F.UPD_EVT_EXPIRED_EVT : Fld := ⟨0xD00110, 2, 2⟩
def F.UPD_EVT_REFUSED_EVT : Fld := ⟨0xD00110, 1, 1⟩
def F.UPD_EVT_DONE_EVT : Fld := ⟨0xD00110, 0, 0⟩
/-- BAR0 offset of UPD_EVT (20 Table 20.7). -/
def R.UPD_EVT : Nat := 0xD00110
def F.UPD_CNT_WIN_DISCARD : Fld := ⟨0xD00114, 31, 16⟩
def F.UPD_CNT_LOG_LOST : Fld := ⟨0xD00114, 15, 0⟩
/-- BAR0 offset of UPD_CNT (20 Table 20.7). -/
def R.UPD_CNT : Nat := 0xD00114
def F.UPD_CFG_VBUS_MIN : Fld := ⟨0xD00118, 31, 16⟩
def F.UPD_CFG_IDLE_T : Fld := ⟨0xD00118, 15, 8⟩
def F.UPD_CFG_READY_T : Fld := ⟨0xD00118, 7, 0⟩
/-- BAR0 offset of UPD_CFG (20 Table 20.7). -/
def R.UPD_CFG : Nat := 0xD00118
def F.UPD_WIN_DATA (n : Nat) : Fld := ⟨0xD80000 + 0x4 * n, 31, 0⟩
/-- BAR0 offset of UPD_WIN (20 Table 20.7). -/
def R.UPD_WIN (n : Nat) : Nat := 0xD80000 + 0x4 * n
/-- BAR0 offset of word w of the descriptor mirror of task i (15 Table 15.8). -/
def R.SCHED_DESC (n : Nat) (i : Nat) : Nat := 0x884000 + 0x10 * n + 0x4 * i
/-- BAR0 offset of CFG_BUILD_LO (02 Table 2.10). -/
def R.CFG_BUILD_LO : Nat := 0xD00014
/-- BAR0 offset of CFG_BUILD_HI (02 Table 2.10). -/
def R.CFG_BUILD_HI : Nat := 0xD00018

end Sys2Proof.Machine
end

