-- ==== Sys2Proof/Machine/State.lean ====
section
/-! DEFINITION. The state of the LTH-960 as plain data: the register file, the hidden state of each block, SRAM, flash, OTP and the
queue of waiting commands; the reasons a step can stop; and the state at reset. -/
namespace Sys2Proof.Machine
open Sys2Proof.Config

/-- Memory of bytes: (address, byte) pairs in one canonical form (addresses strictly rising, no entry equal to what an
unlisted address reads as). -/
abbrev Memory := List Host.Cell

/-- The faults the chapters name (00 R12). -/
inductive FaultKind where
  | pllLoss | sramUe | sramCe | contrailCorrupt | extFault | overtemp | pgoodLoss | pmicFault
  | loopOverrun | trajLate | snapLate | csrParity | streamAge | quadErr | encoder
  | vbusLow | vbusHigh | overcurrent | followErr | companion | trip
  | gearOverspeed | stepLag | gearScaleStop | island | quarantine | relinquish
  | planFail | planExhausted | snapMiss | openWire | report
  deriving DecidableEq, Repr, Inhabited

/-- A fault in force (01 R39): its kind and instance, class 0 to 3, the axes it affects as a mask, whether its cause
still stands, and the event bit of the owning block that must be cleared (none: clears with its cause). -/
structure FaultRec where
  kind : FaultKind
  idx : Nat
  cls : Nat
  axes : Nat
  cause : Bool
  owner : Option Fld
  deriving DecidableEq, Repr, Inhabited

/-- The host side: guard slots, snapshots, MSI-X, MSPI, DMA and the tunnel (chapter 3). -/
structure HostSt where
  /-- host access granted (03 R66) -/
  granted : Bool
  /-- the ROM loader is in recovery (20 R459) -/
  recovery : Bool
  /-- pending guarded value (V offset, value) by port code (03 R83) -/
  guards : List (Nat × Option (Nat × Nat))
  /-- HI snapshots by port code · 2^26 + offset (03 R77) -/
  snaps : List (Nat × Option Word)
  /-- registers whose stored parity is bad (03 R86) -/
  parityBad : List Nat
  /-- block codes of gated blocks that a host access has ungated (03 R87) -/
  ungated : List Nat
  /-- MSI-X: enable, function mask, table words, pending bits, messages waiting to leave (03 R71) -/
  msixEn : Bool
  msixMask : Bool
  msixTbl : List (Nat × Word)
  pba : Nat
  msgs : List Nat
  d3hot : Bool
  /-- the negotiated maximum payload size is 256 bytes, else 128 (03 R67, R70) -/
  mps256 : Bool
  /-- what the previous MSPI frame did: CRC_ERR, FRAME_ERR, BUSERR, GUARD_FAIL (03 Table 3.9) -/
  mspiCrc : Bool
  mspiFrame : Bool
  mspiBus : Bool
  mspiGuard : Bool
  /-- bytes the last MSPI frame drove on MISO -/
  miso : List Byte
  /-- data of the last read completion (PCIe) -/
  rdData : Word
  /-- running transfers: channel, BAR2 offset, length; of them those to host memory; their host addresses by channel; the write requests of the
  last one that ended and the read requests of the last one that started: host address, and bytes or length (03 R70) -/
  dmaRun : List (Nat × Nat × Nat)
  dmaToHost : List Nat
  dmaHost : List (Nat × Nat)
  dmaOut : List (Nat × List Byte)
  dmaIn : List (Nat × Nat)
  /-- requester: next TAG, the outstanding request (DST, TAG, OP, L) and when it was sent, ns that TIME has run (03 R92); node and TAG of the power
  requests that a write of PWR_FAB_REQ sent (19 R438) -/
  tunTag : Nat
  tunReq : Option (Nat × Nat × Nat × Nat)
  tunAt : Nat
  tunFab : List (Nat × Nat)
  /-- finish times (ps) of the requests in the tunnel port, at most 1 running and 4 waiting (03 R91) -/
  tunFin : List Nat
  /-- FAULT_N: the net is pulled low by others; the device has entered RUN since power-up; EXT_FAULT's cause stands (01 R37, R38) -/
  faultnExt : Bool
  everRun : Bool
  extCause : Bool
  deriving DecidableEq, Repr, Inhabited

/-- An event channel's hidden state (04 R112 to R115). -/
structure EvChan where
  /-- fires late: the target had passed when it was armed or moved, or the integration step passed it (04 R113, R114) -/
  late : Bool
  /-- cyclic: CYC_START of the cycle of the last firing -/
  fired : Option Nat
  /-- last captured edge, ns that TIME has run -/
  lastEdge : Option Nat
  /-- the driven pulse ends at this instant, ns that TIME has run; none: pin at rest -/
  pulseEnd : Option Nat
  deriving DecidableEq, Repr, Inhabited

/-- The time base (chapter 4). TIME_NOW counts 2^-32 ns. -/
structure TimeSt where
  running : Bool
  now : Nat
  /-- what steps have taken from TIME_NOW since the root PLL locked, in 2^-32 ns: TIME_NOW and this is how long TIME has run -/
  stepped : Int
  /-- TIME ticks since the root PLL locked -/
  ticks : Nat
  /-- integer ns of the next CYC_START, and of the last one -/
  nextCyc : Nat
  cycStart : Nat
  cycno : Nat
  cycPh : Nat
  planPh : Nat
  /-- in use: Tb, IN_CUT in ns, m; and those of the LINK section waiting for the next CYC_START (04 R487) -/
  tb : Nat
  inCut : Nat
  m : Nat
  pendCfg : Option (Nat × Nat × Nat)
  /-- servo integral and trim in 2^-32 ns (04 R101) -/
  servoI : Int
  trim : Int
  integrated : Bool
  lockRun : Nat
  outRun : Nat
  /-- a SYNC was accepted since the last CYC_START -/
  syncSeen : Bool
  /-- last PPS_IN edge not ignored, last edge used by the servo, ns that TIME has run -/
  ppsLast : Option Nat
  ppsUsed : Option Nat
  aligned : Bool
  /-- PPS_OUT: start of the last pulse and the end of the running one, ns that TIME has run -/
  ppsOutLast : Option Nat
  ppsOutEnd : Option Nat
  ev : List (Nat × EvChan)
  deriving DecidableEq, Repr, Inhabited

/-- What is written into a frame as it leaves (05 R128, R132, 06 R152): nothing; CORR of a forwarded SYNC (corrected ingress and
link delay, ps); T_SYNC; RESID of a DELAY_RSP (corrected ingress of the request); nothing, but t1 is kept. -/
inductive OnExit where
  | plain
  | corr (ing dly : Int)
  | tsync
  | resid (ing : Int)
  | reqT1
  deriving DecidableEq, Repr, Inhabited

/-- A frame at an egress port: the frame, what its exit adds, whether this node originates it, the symbol in which its SOF reached the
node, and its rank among the frames of that symbol (05 R130: 1 + the ingress port, 9 originated here; 0 a delay or HELLO frame). -/
structure EgrItem where
  frame : Frame
  onExit : OnExit
  own : Bool
  sof : Nat
  rank : Nat
  deriving DecidableEq, Repr, Inhabited

/-- A symbol on the line (05 Table 5.1): a data octet, a special code-group by its octet, or an invalid code-group. -/
inductive LineSym where
  | data (b : Nat)
  | ctrl (b : Nat)
  | invalid
  deriving DecidableEq, Repr, Inhabited

/-- A lane's receiver (05 R120, R122): COMs counted in TRAIN with their bit position, and whether all of them came inverted (once aligned,
the lane is inverted); ERRRUN, consecutive valid code-groups, and the running disparity (true: positive). -/
structure LaneRx where
  coms : Nat
  pos : Nat
  inv : Bool
  errRun : Nat
  okRun : Nat
  rd : Bool
  deriving DecidableEq, Repr, Inhabited

/-- A PRBS generator and checker (05 R141 to R143), newest bit first: the generator's last bits and the bits that its last run of bit times
sent; the checker's last bits, bits in a row that matched, and which of the last 1,024 compared bits differed. -/
structure PrbsSt where
  gen : List Bool
  sent : List Bool
  chk : List Bool
  run : Nat
  win : List Bool
  deriving DecidableEq, Repr, Inhabited

/-- One LNK port's hidden state (05 R122, R130, R132, R133). -/
structure PortSt where
  signal : Bool
  helloSeen : Bool
  /-- peer of the last HELLO: member, serial, port, node -/
  peer : Option (Nat × Nat × Nat × Nat)
  /-- peer identity recorded at COMMIT: serial, port -/
  recorded : Option (Nat × Nat)
  /-- outstanding DELAY_REQ: corrected egress stamp t1 in ps -/
  reqT1 : Option Int
  dlyCount : Nat
  dlyOut : Nat
  /-- cycles since the last accepted delay sample -/
  dlyMiss : Nat
  /-- the line is busy until this instant, ps -/
  busyUntil : Nat
  /-- delay and HELLO frames that wait (they go ahead of the buffer), and the buffer's frame -/
  dq : List EgrItem
  buf : Option EgrItem
  /-- a slot frame held in the buffer through the delay window leaves from this instant on, ps (05 R132) -/
  hold : Nat
  /-- the last frame let out on the port; what it was in the queue, the instant it left, and whether its CRC was inverted -/
  out : Option Frame
  cur : Option (EgrItem × Nat × Bool)
  /-- the symbols last sent, the idle set after them included (later idle sets follow without end), and the running disparity then
  (true: positive) -/
  line : List LineSym
  rd : Bool
  deriving DecidableEq, Repr, Inhabited

/-- A node of the root's graph (05 R136): serial, member, path, its known links (port, peer serial, peer port), reached. -/
structure GNode where
  serial : Nat
  member : Nat
  path : List Nat
  links : List (Nat × Nat × Nat)
  /-- return route: the ports taken at the intermediate nodes, from the node to the root (05 R135) -/
  ret : List Nat
  /-- the port at which the path enters the node -/
  entry : Nat
  assigned : Option Nat
  deriving DecidableEq, Repr, Inhabited

/-- What the root waits for in discovery (05 R136). -/
inductive DiscWait where
  | idle
  | probe (serial : Nat) (path ret : List Nat) (entry : Nat)
  | table (node part : Nat)
  | commit (node : Nat)
  deriving DecidableEq, Repr, Inhabited

/-- The root's discovery (05 R136, R137). -/
structure DiscSt where
  running : Bool
  graph : List GNode
  wait : DiscWait
  tag : Nat
  attempts : Nat
  /-- nodes still to be given tables; serial numbers given up after three unanswered attempts -/
  todo : List Nat
  abandoned : List Nat
  conflict : Bool
  deriving DecidableEq, Repr, Inhabited

/-- A locally originated payload waiting for its slot (06 R151). -/
structure TxItem where
  typ : Nat
  dst : Nat
  stream : Nat
  body : List Word
  deriving DecidableEq, Repr, Inhabited

/-- LINK: ports, discovery, the schedule and the stream buffers (chapters 5 and 6). -/
structure LinkSt where
  cfg : LinkCfg
  serial : Nat
  ports : List (Nat × PortSt)
  disc : DiscSt
  /-- TABLE words received, by word offset -/
  tblIn : List (Nat × Word)
  /-- parts of the TABLE received, one bit each -/
  tblGot : Nat
  /-- the node has been in SCHEDULED or ZENITH since its start (06 R151) -/
  everSched : Bool
  /-- entries that have accepted a frame, by index and the CYCNO of the window, and those whose frame had a good CRC: of this cycle, of
  the last one and of windows already open for the next; DLV entries whose window has closed and tx entries whose START has passed in
  this cycle -/
  accepted : List (Nat × Nat)
  goods : List (Nat × Nat)
  /-- LIVE of the last accepted SYNC frames, by the CYCNO they carry (06 R158) -/
  syncLive : List (Nat × Word)
  closed : List Nat
  sent : List Nat
  /-- stream buffers: payload by index of the stream list -/
  bufs : List (Nat × List Word)
  txq : List TxItem
  /-- dawn frames heard: (node, arrival ns); dawn frames sent (06 R155, R157) -/
  dawns : List (Nat × Nat)
  dawnSent : Nat
  listenFrom : Nat
  listenTimer : Nat
  noSyncDone : Bool
  /-- COLDSTART: the window has ended and ZENITH begins at the next CYC_START -/
  dawnEnd : Nat
  becomeZenith : Bool
  /-- cycles since INTEGRATING was entered; a whole cycle has begun; the cycle is still valid (06 R158) -/
  integCycles : Nat
  fullBegun : Bool
  /-- succession decided: ZENITH at the next CYC_START (06 R160) -/
  succ : Bool
  /-- zenith: PROP_CYC, CYCNO of the SYNC that carries the proposal, nodes that echoed ACC 0 (06 R166) -/
  propCyc : Nat
  propSent : Option Nat
  declined : Nat
  /-- zenith: the cycle whose SYNC carries the void proposal (06 R166) -/
  voidCyc : Option Nat
  /-- follower: the proposal accepted and the one seen confirmed (mode, cycle) (06 R166, R167) -/
  acc : Option (Nat × Nat)
  conf : Option (Nat × Nat)
  /-- nodes whose ECHO was accepted in this cycle (06 R154) -/
  echoed : Nat
  /-- PRBS bits inverted by INJ, by the instance that sent them, last first -/
  prbsInj : List Nat
  /-- receivers of LNK0 to LNK7 (0 to 7) and REDL0 and REDL1 (8, 9), and their generators and checkers -/
  rx : List (Nat × LaneRx)
  prbs : List (Nat × PrbsSt)
  deriving DecidableEq, Repr, Inhabited

/-- A filtered line of a count channel (07 R170): its filtered and raw levels, and how many samples in a row it has been raw at the other
level, the first of them at this SYS clock. -/
structure LineF where
  lvl : Bool
  raw : Bool
  run : Nat
  since : Nat
  deriving DecidableEq, Repr, Inhabited

/-- A count channel's hidden state (07 R170 to R181). Stamps are SYS clocks since the root PLL locked. -/
structure ChanSt where
  /-- lines A, B and Z, and the SYS clock of the next sample of A and B, and of Z -/
  a : LineF
  b : LineF
  z : LineF
  clk : Nat
  zClk : Nat
  /-- changes of the filtered line B, newest first: the stamp and the level from then on (07 R180) -/
  dirs : List (Nat × Bool)
  /-- stamp and direction (true: negative) of the last counted transition -/
  last : Option Nat
  lastNeg : Option Bool
  /-- stamp that opens the running period, and the last closed period P -/
  opened : Option Nat
  per : Nat
  enabledAt : Nat
  /-- LAT of the previous latch; a latch has been made since MODE left off (07 R174, R176) -/
  prevLat : Nat
  valid : Bool
  /-- the last latch: its SYS clock, METHOD and the LAT of the latch before it (07 R174, R176), and whether it was the first after PARK
  (07 R486) -/
  latClk : Nat
  latMethod : Bool
  latPrev : Nat
  unparked : Bool
  /-- CYC_ERR of the cycle that ended at the last CYC_START (07 R173) -/
  cycErr : Nat
  deriving DecidableEq, Repr, Inhabited

/-- An encoder port's hidden state (07 R182 to R188). -/
structure EncSt where
  rawPrev : Nat
  /-- request instant of the transfer in progress, ns -/
  tReq : Nat
  /-- sampling instant of the last good word, ns -/
  ts : Int
  /-- good words since enable, as far as 2: a speed needs two -/
  words : Nat
  /-- sampling instant of the last good word that changed POS, or the instant the port was enabled, ns that TIME has run; STANDSTILL_T in
  10 µs -/
  lastMove : Int
  stillT : Nat
  /-- since the previous IN_CUT: a word completed; a good word completed -/
  anyWord : Bool
  goodWord : Bool
  deriving DecidableEq, Repr, Inhabited

/-- An output divider (07 R189 to R191). CTL and RATIO in use; those written are in the registers until the next CYC_START. -/
structure DivSt where
  acc : Int
  /-- counts emitted: the state of the quadrature output, modulo 4 -/
  phase : Nat
  /-- CTL and RATIO in use -/
  ctl : Word
  ratio : Word
  /-- a RATIO write waits for the next CYC_START -/
  pendRatio : Bool
  /-- SYS clock of the last output step -/
  lastStep : Option Nat
  deriving DecidableEq, Repr, Inhabited

/-- FB (chapter 7). -/
structure FbSt where
  chans : List (Nat × ChanSt)
  encs : List (Nat × EncSt)
  divs : List (Nat × DivSt)
  /-- PARK was entered since the last latch (07 R486) -/
  parked : Bool
  deriving DecidableEq, Repr, Inhabited

/-- Where a conversion's result goes (08 R194 to R201). -/
inductive AdcDest where
  | res (seq entry : Nat)
  | reserved
  | injected
  deriving DecidableEq, Repr, Inhabited

/-- One conversion: its input code, where its result goes, where a burst sample is stored (a BAR2 offset), whether it writes its
result register, and whether it is the last of its sequence. -/
structure AdcConv where
  input : Nat
  dest : AdcDest
  store : Option Nat
  final : Bool
  seqLast : Bool
  /-- the slice of its converter that acquires it, from the slot's beginning on (08 R194) -/
  slice : Nat
  deriving DecidableEq, Repr, Inhabited

/-- Conversions that acquire together (08 R195): a group, or one entry; notBefore in ps of the oscillator. -/
structure AdcJob where
  convs : List AdcConv
  acqx : Nat
  late : Bool
  notBefore : Nat
  /-- the TIME tick of the trigger, and the place among the triggers of one tick: 0 reserved, 1 + sequence number (08 R197) -/
  trig : Nat
  ord : Nat
  deriving DecidableEq, Repr, Inhabited

/-- A converter (08 R194 to R206). Times in ps of the oscillator since the root PLL locked. -/
structure ConvSt where
  /-- end of the last slot begun or counted idle -/
  slotEnd : Nat
  /-- the slice that the next slot goes to -/
  rot : Nat
  /-- consecutive idle slots, and whether 4 have followed one another since the sampling delays were last updated (08 R202) -/
  idleRun : Nat
  toneRun : Bool
  /-- reference conversions of each slice since its offset and gain were last updated -/
  refs : List (Nat × Nat)
  /-- the 10 ms window: its start, its idle slots -/
  winStart : Nat
  winIdle : Nat
  /-- conversions begun: when the result is written, the conversion, LATE -/
  begun : List (Nat × AdcConv × Bool)
  work : List AdcJob
  /-- injected queue: input and arrival -/
  inj : List (Nat × Nat)
  /-- triggers held while a calibration waits or runs: reserved sets (0 CYC_START, 1 HALF) and sequences -/
  heldRes : List Nat
  heldSeq : List Nat
  /-- calibration: step in progress (0: none), consecutive aborts, when the wait began -/
  calStep : Nat
  aborts : Nat
  waitFrom : Nat
  /-- the slot boundary at which step 1 began -/
  calFrom : Nat
  /-- the foreground calibration of switch-on has ended -/
  ready : Bool
  deriving DecidableEq, Repr, Inhabited

/-- ADC (chapter 8). -/
structure AdcSt where
  cfg : AdcCfg
  convs : List (Nat × ConvSt)
  /-- last pulled-up and pulled-down results by input; inputs whose next alternating pull is down -/
  lastUp : List (Nat × Option Int)
  lastDown : List (Nat × Option Int)
  pullDown : List Nat
  /-- inputs whose comparator's condition is true, as a mask (08 R199) -/
  cmp : Nat
  /-- consecutive readings above 112 °C (21 R482) -/
  hotRun : Nat
  deriving DecidableEq, Repr, Inhabited

/-- A command captured by TRAJ (09 R215). -/
structure AxCmd where
  op : Nat
  imm : Bool
  ramp : Bool
  tgt : Int
  vel : Nat
  acc : Nat
  dec : Nat
  jerk : Nat
  num : Int
  den : Nat
  mpos : Int
  mdist : Int
  deriving DecidableEq, Repr, Inhabited

/-- A piece of constant jerk: jerk and duration, both in the planner's fixed point (2^-96). -/
structure Seg where
  j : Int
  dt : Int
  deriving DecidableEq, Repr, Inhabited

/-- A planned profile (09 R218): start state (2^-96), pieces, elapsed profile time (2^-15 Tb), target (none: jog or stop), the
jog's direction (0: no jog) and the limits it was planned with (Q16.48). -/
structure Profile where
  p0 : Int
  v0 : Int
  a0 : Int
  segs : List Seg
  t : Nat
  target : Option Int
  jog : Int
  vel : Nat
  acc : Nat
  dec : Nat
  jerk : Nat
  /-- deceleration in use (2^-96): DEC, or D_req while clamped (09 R220) -/
  decUse : Int
  deriving DecidableEq, Repr, Inhabited

/-- A gear change armed or ramping (09 R236). -/
structure GearChg where
  num : Int
  den : Nat
  imm : Bool
  ramp : Bool
  mpos : Int
  mdist : Int
  /-- a GEAR_OFF -/
  off : Bool
  deriving DecidableEq, Repr, Inhabited

/-- An axis in TRAJ (chapter 9). p in Q32.32, v and a in Q16.48. -/
structure AxisSt where
  /-- setpoint for the most recent CYC_START and the one TRAJ produced for the next -/
  p : Int
  v : Int
  a : Int
  np : Int
  nv : Int
  na : Int
  pend : Option AxCmd
  prof : Option Profile
  /-- kept move: target and limits (VEL, ACC, DEC, JERK) (09 R225) -/
  kept : Option (Int × Nat × Nat × Nat × Nat)
  /-- gear: armed change, ramp in progress (with the master's offset from MPOS and r0), remainder and its denominator, master
  position at the last step -/
  armed : Option GearChg
  ramp : Option (GearChg × Int × Int × Int)
  rem : Int
  remDen : Int
  xPrev : Option Int
  /-- reaction in progress: 0 none, 1 to 3 the class (01 R36); taken by TRAJ; base cycles left of STOP_TMAX -/
  react : Nat
  reactTaken : Bool
  stopLeft : Nat
  /-- offset SET_POS applies at the next CYC_START -/
  setOfs : Option Int
  /-- step generation: the line of this cycle, from and to (Q32.32), and the emitted position (fine units) -/
  stepFrom : Int
  stepTo : Int
  stepPos : Int
  /-- the pins of step generation: RES_LOG in force, the DIR level, and the SYS clocks of the last step pulse, DIR change and change of the
  resolution pins -/
  resLog : Nat
  dirHigh : Bool
  stepClk : Option Nat
  dirClk : Nat
  resClk : Nat
  doneNext : Bool
  /-- a profile or path produced the last setpoint (02 R63) -/
  moved : Bool
  deriving DecidableEq, Repr, Inhabited

/-- A result that TRAJ has taken: its buffer, how many knots it has, and the blend Δ by axis slot (09 R229). -/
structure TakenPlan where
  buf : Nat
  knots : Nat
  delta : List (Nat × (Int × Int × Int))
  deriving DecidableEq, Repr, Inhabited

/-- A group in TRAJ (09 R226 to R233). -/
structure GroupSt where
  pend : Option Nat
  /-- path stop: 0 none, 1 by STOP or PATH_OFF, 2 by a fault, 3 by an exhausted plan -/
  pathStop : Nat
  held : Bool
  /-- change of s in the last step (Q1.15) -/
  ds : Int
  /-- blend Δ by axis slot: p, v, a (09 R229) -/
  delta : List (Nat × (Int × Int × Int))
  /-- a plan is in the ACTIVE buffer -/
  hasPlan : Bool
  /-- since PATH_ON: 1 no PLAN event yet, 2 the first has passed, 3 the first plan boundary is due (12 R306) -/
  bound : Nat
  /-- σ has reached the last knot, and PLAN_EXHAUSTED has been raised for it (09 R230) -/
  exhausted : Bool
  /-- a result taken at TRAJ_START that becomes ACTIVE at the plan boundary (09 R229) -/
  next : Option TakenPlan
  deriving DecidableEq, Repr, Inhabited

/-- TRAJ (chapter 9). -/
structure TrajSt where
  axes : List AxisCfg
  ax : List (Nat × AxisSt)
  gr : List (Nat × GroupSt)
  deriving DecidableEq, Repr, Inhabited

/-- An axis in LOOP (chapter 10). -/
structure LoopAx where
  pendEn : Option Bool
  /-- Q32.32 (10 R265) -/
  posOfs : Int
  /-- the position source has been VALID since load; its last latched position and speed -/
  everValid : Bool
  lat : Nat
  spd : Int
  vcorr : Int
  iInt : Int
  intD : Int
  intQ : Int
  bq0 : Int × Int × Int × Int
  bq1 : Int × Int × Int × Int
  /-- electrical revolution: r, last LAT, tracking -/
  r : Nat
  rLat : Nat
  rValid : Bool
  ocRun : Nat
  /-- current reference in use by the current stage and voltage feed-forward of linked axes -/
  iqRef : Int
  ffD : Int
  ffQ : Int
  /-- those of the cycle before (01 Table 1.9: a late stage's outputs are discarded) -/
  prevIq : Int
  prevFfD : Int
  prevFfQ : Int
  bootLeft : Nat
  compWait : Nat
  /-- linked axis: ENERGISE and INT_RESET bits of its slot -/
  energise : Bool
  intReset : Bool
  /-- duty shadows waiting for the next valley -/
  shadow : Option (List Nat)
  /-- compare values CMP of the half-bridges for the ramps from the last valley, that valley's SYS clock, and those before it -/
  cmp : List Nat
  loadClk : Nat
  cmpOld : List Nat
  /-- off pattern on the PWM pins -/
  off : Bool
  /-- the sequence that starts the current stage has written its last result (08 R197) -/
  stageReady : Bool
  deriving DecidableEq, Repr, Inhabited

/-- LOOP (chapter 10). -/
structure LoopSt where
  cfg : List LoopCfg
  ax : List (Nat × LoopAx)
  /-- filtered level of trip inputs: active -/
  tripIn : Nat
  /-- filters of the trip inputs, TFILT of each, and the SYS clock of the next sample (10 R258) -/
  tripF : List (Nat × LineF)
  tripN : List (Nat × Nat)
  tripClk : List (Nat × Nat)
  /-- SYS clock at which the PWM counters last restarted (10 R255) -/
  centre : Nat
  vbusLowRun : Nat
  /-- the current stage of this centre is at HALF -/
  atHalf : Bool
  deriving DecidableEq, Repr, Inhabited
/-- A demand in force (16 R385): its source (0 to 15 an input, 16 + g a protective stop, 32 + g a SCALE_VIOL of group g), what it
covers, the outputs past their output-off point, whether STOP_T has passed and the positions then recorded. -/
structure Demand where
  src : Nat
  cat : Nat
  outs : Nat
  axes : Nat
  manual : Bool
  start : Nat
  past : Nat
  expired : Bool
  sos : List (Nat × Option Int)
  deriving DecidableEq, Repr, Inhabited

/-- A received safe stream (17 R414, R415): last accepted SEQ by plane, copies since the last CYC_START, good pairs held, and the
causes of its safe state. -/
structure SmsgRx where
  lastA : Option Nat
  lastB : Option Nat
  newA : List (List Word)
  newB : List (List Word)
  held : List (Nat × List Word)
  miss : Nat
  run : Nat
  wd : Bool
  mism : Bool
  nodisj : Bool
  lastGood : Bool
  deriving DecidableEq, Repr, Inhabited

/-- A monitored group's separation state (17 R399 to R409): capsule end points (P and Q by turns) at the
latest complete snapshot, in 2^-24 µm, and its instant in ns. -/
structure SsmGrp where
  pts : Option (List (List Int))
  at_ : Nat
  sEnv : Nat
  clear : Nat
  sviol : Bool
  deriving DecidableEq, Repr, Inhabited

/-- SAFE (chapters 16 and 17). Times are in µs since the island entered INIT. -/
structure SafeSt where
  /-- PD_SAFE is on; the SAFE clock runs -/
  on : Bool
  run : Bool
  cfg : SafeCfg
  ssm : SsmCfg
  /-- self-tests passed; the SAFE section accepted; SAFE_KEYH blank; SHA-256 of the loaded SAFE_KEY -/
  tested : Bool
  accepted : Bool
  blank : Bool
  keyHash : List Byte
  /-- energise permits, one bit an axis (16 R388) -/
  permit : Nat
  samples : Nat
  evals : Nat
  /-- filtered readings that are safe by input, and consecutive samples at the other level -/
  filtA : Nat
  filtB : Nat
  runA : List (Nat × Nat)
  runB : List (Nat × Nat)
  /-- SRBk as last sampled -/
  rb : Nat
  dcnt : List (Nat × Nat)
  disc : Nat
  /-- start-up test by input: 0 none, 1 due, 2 seen safe -/
  test : List (Nat × Nat)
  /-- ticks both channels have read ACK_IN pressed; they disagreed since -/
  press : Nat
  gap : Bool
  demands : List Demand
  outOn : Nat
  /-- the switches that channel A and channel B command closed, by output (16 R375) -/
  swA : Nat
  swB : Nat
  /-- when each output last switched -/
  swAt : List (Nat × Nat)
  /-- the running or last off-pulse: output, start, end -/
  pulse : Option (Nat × Nat × Nat)
  due : List (Nat × Nat)
  /-- off-pulses begun: odd ones open channel A's switch -/
  pulses : List (Nat × Nat)
  rbFault : Nat
  esc : Nat
  /-- the last five tick positions by axis, newest first -/
  hist : List (Nat × List (Option Int))
  /-- zones active at the latest evaluation, at any since the last snapshot, and as frozen by it -/
  zNow : Nat
  zAcc : Nat
  zFrozen : Nat
  grp : List (Nat × SsmGrp)
  /-- the snapshot whose result is awaited: its CYCNO, whether the island was ACTIVE at it, its instant (ns) and the positions of
  direct axes -/
  snap : Option (Nat × Bool × Nat × List (Nat × Int))
  /-- an SSM cycle has been completed in ACTIVE -/
  ssmFull : Bool
  rx : List (Nat × SmsgRx)
  /-- copies built at the last CYC_START by tx stream (plane A, plane B), and the frames sent by stream ID -/
  txBuf : List (Nat × List Word × List Word)
  txSeq : List (Nat × Nat)
  deriving DecidableEq, Repr, Inhabited

/-- An ARB message (13 Table 13.5). -/
structure ArbMsg where
  msg : Nat
  rseq : Nat
  auto : Bool
  grp : Nat
  block : Nat
  handle : Nat
  ta : Nat
  tb : Nat
  tag : Nat
  prec : Nat
  code : Nat
  deriving DecidableEq, Repr, Inhabited

/-- A request accepted and not yet checked (13 R317): group, RSEQ, OP and the operands. -/
structure ArbReq where
  g : Nat
  rseq : Nat
  op : Nat
  blk : Nat
  hdl : Nat
  ta : Nat
  tb : Nat
  deriving DecidableEq, Repr, Inhabited

/-- A remote request with no result yet (13 R326): its message, the home, when it was sent (ns; none: it waits) and how often
it has been sent again. -/
structure ArbOut where
  m : ArbMsg
  dest : Nat
  sent : Option Nat
  tries : Nat
  deriving DecidableEq, Repr, Inhabited

/-- ARB (chapter 13). The home table, held table and geometry are in SRAM. -/
structure ArbSt where
  /-- geometry: block, home and GEOM_TAG -/
  geo : List (Nat × Nat × Nat)
  /-- LAST_WIN by GRP -/
  lastWin : List (Nat × Option Nat)
  reqs : List ArbReq
  /-- messages for the home's tick, in order of arrival, with the node that sent them -/
  inbox : List (Nat × ArbMsg)
  /-- messages waiting by destination -/
  queues : List (Nat × List ArbMsg)
  /-- messages for a destination whose queue holds its 64, behind it in order -/
  spill : List (Nat × List ArbMsg)
  outs : List ArbOut
  /-- results of the last 16 RSEQs by GRP: MSG of the request and the RESULT (13 R326) -/
  records : List (Nat × List (Nat × ArbMsg))
  /-- revocations accepted: INDEX, GEN, T_REV -/
  revokes : List (Nat × Nat × Nat)
  restoreLeft : Nat
  /-- nodes whose ARB stream gained FAULT and has not returned to good frames -/
  down : List Nat
  deriving DecidableEq, Repr, Inhabited

/-- A schedule's header (11 Table 11.2), the BAR2 offset its payload starts at and its length in bytes. -/
structure SolvSched where
  id : Nat
  cls : Nat
  k : Nat
  h : Nat
  na : Nat
  n : Nat
  m : Nat
  nnzP : Nat
  nnzA : Nat
  nnzL : Nat
  nblk : Nat
  nfill : Nat
  nair : Nat
  nbs : Nat
  factCyc : Nat
  iterCyc : Nat
  checkCyc : Nat
  offs : List Nat
  base : Nat
  size : Nat
  deriving DecidableEq, Repr, Inhabited

/-- Where a context's solve stands (12 Table 12.2). -/
inductive SolvStage where
  | idle
  | waiting
  /-- an assembly that its deadline will cut short -/
  | assembly
  | factor
  | iterate
  | check
  | output
  deriving DecidableEq, Repr, Inhabited

/-- A solver context's hidden state (chapters 11 and 12). -/
structure SolvCtx where
  stage : SolvStage
  /-- snapshot: axis states by slot (p, v, a in the planner's unit), grants (block, t_start, t_end), goal and parameter words,
  T_b in ns -/
  snap : List (Int × Int × Int)
  grants : List (Nat × Nat × Nat)
  copy : List Word
  tb : Nat
  /-- deadline, in 1/12 ns from the PLAN event -/
  deadline : Nat
  /-- RUN and POL in effect -/
  run : Word
  pol : Word
  origins : List Int
  /-- origins kept with the stored warm start -/
  warmOrg : Option (List Int)
  /-- current factor buffer; the k and the P and A words the current factor was made with -/
  buf : Nat
  fk : Nat
  fpa : List Word
  iters : Nat
  onFactor : Nat
  nfact : Nat
  pivots : Nat
  hits : Nat
  blk : Option Nat
  rangeF : Bool
  pivotF : Bool
  warmF : Bool
  inside : Bool
  peer : Bool
  /-- k and r_p of the last four checks of this solve, last first -/
  checks : List (Nat × Int)
  rp : Int
  rd : Int
  resValid : Bool
  /-- code decided before output: 0 converged -/
  code : Nat
  /-- start, in 1/12 ns from the PLAN event -/
  start : Nat
  /-- a result of this plan cycle is complete -/
  fresh : Bool
  /-- tool points and CODE of the knots in the buffer that is not ACTIVE and in the ACTIVE one, and the CYCNO at which σ was 0 -/
  newPts : List (Int × Int × Int)
  newCode : Nat
  actPts : List (Int × Int × Int)
  actCode : Nat
  actCyc : Nat
  deriving DecidableEq, Repr, Inhabited

/-- SOLV (chapters 11 and 12). -/
structure SolvSt where
  /-- PD_SOLV is on and the section loaded -/
  on : Bool
  scheds : List (Nat × SolvSched)
  ctx : List (Nat × SolvCtx)
  /-- the lanes are free from this instant, in 1/12 ns from the PLAN event; the PLAN event: ns and CYCNO -/
  now : Nat
  planNs : Nat
  planCyc : Nat
  /-- the 96 accumulators and whether one has saturated in its chain -/
  acc : List (Int × Bool)
  deriving DecidableEq, Repr, Inhabited

/-- A write of an SP instruction (14 R345): a data register (by a load or not), a control register by its index, an accumulator, what
EXA, ADDA and MFC read of it, a word of X or Y, bits of sr (mask, value), and the EIE that event acceptance sees. -/
inductive SpWrite where
  | dreg (r v : Nat) (load : Bool)
  | creg (i v : Nat)
  | acc (k : Nat) (v : Int)
  | vis (k : Nat) (v : Int)
  | xmem (a v : Nat)
  | ymem (a v : Nat)
  | sr (mask v : Nat)
  | eie (b : Bool)
  deriving DecidableEq, Repr, Inhabited

/-- An SP core (14 Table 14.2, R345, R351). Registers hold unsigned values of their widths. -/
structure SpCore where
  d : List (Nat × Nat)
  /-- control registers by index 0 to 37 -/
  cr : List (Nat × Nat)
  a0 : Int
  a1 : Int
  v0 : Int
  v1 : Int
  pc : Nat
  /-- the next instruction is a delay slot: where the transfer goes -/
  slot : Option Nat
  /-- writes not yet visible, with the number of instructions still to pass -/
  late : List (Nat × SpWrite)
  /-- global stores on their way, oldest first: address and data (14 R340) -/
  stores : List (Nat × Nat)
  eieVis : Bool
  taskLatch : Bool
  hostLatch : Bool
  stepping : Bool
  /-- task held -/
  held : Option Nat
  /-- in WAIT: the task SCHED has served it, and the ns of that clock; the hand-over is on its way (15 R364) -/
  got : Option (Nat × Nat)
  /-- TIME tick up to which BUSY and WAIT have counted -/
  counted : Nat
  deriving DecidableEq, Repr, Inhabited

/-- A task in SCHED (chapter 15); COUNT, LAST_STATUS, LAST_CORE and STATE are in its register. -/
structure TaskSt where
  core : Option Nat
  /-- held since, ns -/
  since : Nat
  /-- READY since: the model's order of readying, and ns -/
  ready : Option (Nat × Nat)
  /-- affinity window: its end, ns; it expires in the present CORE clock unless its LAST core is served in it (15 R365, R367) -/
  win : Option Nat
  expiring : Bool
  /-- reserved for its LAST core, which is in WAIT -/
  pin : Bool
  last : Option Nat
  /-- due time of its delay-list entry, UT -/
  due : Option Nat
  asked : Bool
  /-- its last completion: the clock (by SchedSt.seq) and the core (15 R367) -/
  fin : Option (Nat × Nat)
  deriving DecidableEq, Repr, Inhabited

/-- SCHED and the SP cores (chapters 14 and 15). -/
structure SchedSt where
  cores : List (Nat × SpCore)
  /-- task IDs with a VALID descriptor -/
  ids : List Nat
  tasks : List (Nat × TaskSt)
  /-- the present CORE clock: its number in the model's order, and the TIME tick and ns at which it lies -/
  seq : Nat
  clk : Nat × Nat
  /-- the device has entered RUN; triggers post (from the first CYC_START after it) -/
  armed : Bool
  trig : Bool
  /-- entries in the contrail's FIFO at a TIME tick, and entries dropped and not yet reported -/
  fill : Nat
  fillAt : Nat
  lost : Nat
  deriving DecidableEq, Repr, Inhabited

/-- The RED record (18 Table 18.1): items by kind, context and length in bytes. -/
structure RedCfg where
  en : Bool
  primary : Bool
  partner : Nat
  shared : Nat
  items : List (Nat × Nat × Nat)
  deriving DecidableEq, Repr, Inhabited

/-- A linked axis in the critical copy (18 R424): LOOP and TRAJ state and the register words that show it. -/
structure RedAxis where
  axis : Nat
  loop : LoopAx
  traj : AxisSt
  regs : List (Nat × Word)
  deriving DecidableEq, Repr, Inhabited

/-- A shared group in the critical copy: its state, register words, and the CYCNO at which σ was 0. -/
structure RedGroup where
  g : Nat
  st : GroupSt
  regs : List (Nat × Word)
  origin : Nat
  deriving DecidableEq, Repr, Inhabited

/-- The critical copy (18 R424); changed ARB entries by BAR2 offset. -/
structure RedCopy where
  now : Nat
  cyc : Nat
  cycPh : Nat
  planPh : Nat
  claim : Nat
  axes : List RedAxis
  groups : List RedGroup
  arb : List (Nat × List Word)
  deriving DecidableEq, Repr, Inhabited

/-- What a bulk item other than an ARB table holds (18 Table 18.1, kinds 3 to 5). -/
structure RedItem where
  lastWin : List (Nat × Option Nat)
  warm : List Word
  origins : Option (List Int)
  patch : List Word
  /-- kind 5: PATCH_SEL, PATCH_IDX and the CYCNO at which a patch that passed takes effect on both units (02 R64) -/
  patchRec : Option (Word × Word × Nat)
  deriving DecidableEq, Repr, Inhabited

/-- A part of a group's ACTIVE knot buffer (18 R425): ten knots at most. -/
structure RedKnots where
  g : Nat
  part : Nat
  k : Nat
  h : Nat
  origin : Nat
  words : List Word
  deriving DecidableEq, Repr, Inhabited

/-- RED (chapter 18). -/
structure RedSt where
  cfg : RedCfg
  /-- aligned lanes, one bit each -/
  lanes : Nat
  /-- CYC_STARTs since LISTEN; a HELLO has arrived; ROLE the partner last reported -/
  listen : Nat
  hello : Bool
  partner : Nat
  /-- last CLAIM by FEEDBACK stream; highest since the last CYC_START, and in the cycle before -/
  fb : List (Nat × Nat)
  fbMax : Nat
  fbPrev : Nat
  /-- a frame with a good CRC has arrived since the last CYC_START -/
  good : Bool
  /-- arrival of a RELINQUISH not yet counted, ns; a takeover is due -/
  relinq : Option Nat
  takeDue : Bool
  /-- the drill's D on the active; the CYC_START at which the standby takes over -/
  drillD : Option Nat
  drillIn : Option Nat
  /-- the standby has said that the DRILL frame arrived; D of the last drill, while patches are refused for it (18 R434) -/
  drillAck : Bool
  drillWin : Option Nat
  /-- sender: when the copy began to stream (ns), cut short since; next bulk chunk, chunks that go first, knot parts that go first;
  ARB tables at the previous SNAP -/
  sendAt : Option Nat
  /-- the internal watchdog was last restarted, up-time in ns (18 R428) -/
  wdAt : Nat
  cut : Bool
  bulkNext : Nat
  first : List Nat
  knots : List (Nat × Nat)
  arbPrev : Memory
  /-- receiver: SNAP of the copy arriving and its chunks; bulk payloads by chunk; copies applied in a row; chunks applied since
  SYNCING; the last applied copy; knot parts held by group (origin, parts) -/
  rxCyc : Option Nat
  rx : List (Nat × List Word)
  bulk : List (Nat × List Word)
  copies : Nat
  rot : List Nat
  copy : Option RedCopy
  held : List (Nat × (Nat × Nat))
  /-- frames sent at the last SNAP, CYC_START or by the last command -/
  out : List (List Word)
  /-- the watchdog has disabled every transmitter (18 R428) -/
  txOff : Bool
  deriving DecidableEq, Repr, Inhabited

/-- PWR and CLK (chapter 19). -/
structure PwrSt where
  /-- targets of the requests that wait, first first; the wake that waits for an entry to complete -/
  reqs : List Nat
  wake : Option Nat
  /-- the quiesce began at this instant, ns -/
  quiesceAt : Nat
  /-- PERF change: 0 none, 1 and 2 to PERF1 (divider, polling), 3, 5 and 4 to PERF0 (polling, PGOOD, divider); the polling began at this
  instant, ns; the divider setting that waits for PD_SOLV: is it 8? -/
  perf : Nat
  divNext : Option Bool
  pollAt : Nat
  /-- PMIC_EN is driven; RESET_N is high; VBUS is 8.5 V or more since it last fell below 8.0 V -/
  pmicEn : Bool
  resetN : Bool
  vbusOk : Bool
  /-- power domains that are off: bit 0 PD_SOLV, 1 PD_SPC, 2 PD_ADC, 3 PD_SYS and PD_CORE -/
  off : Nat
  /-- PMBus transactions sent by the last command: address, command code and data -/
  sent : List (Nat × Nat × Nat)
  deriving DecidableEq, Repr, Inhabited

/-- A section table entry (02 Table 2.2). -/
structure Sect where
  typ : Nat
  flags : Nat
  sver : Nat
  off : Nat
  len : Nat
  crc : Nat
  inst : Nat
  deriving DecidableEq, Repr, Inhabited

/-- Start-up, the loaded image and the event log (chapters 2 and 20). -/
structure BootSt where
  /-- read mode found by step 1: 0 none, 1 quad DTR, 2 quad SDR -/
  mode : Nat
  /-- PMIC_EN is low for 1.0 s before step 2 is tried again -/
  retry : Bool
  sects : List Sect
  recs : List Rec
  /-- CFG or RED has written the state shadow since it was last cleared (01 R19) -/
  shadow : Bool
  /-- in recovery while OTP RECOV_HOLD is blank: the hold-up check is skipped (20 R459) -/
  skipHold : Bool
  /-- next slot of the flash ring, next SEQ, records in shared memory and the next one's place there -/
  logSlot : Nat
  logSeq : Nat
  logRam : Nat
  /-- companion loading (20 R456, R457): nodes to load, the one being loaded and its attempt, when its answer is due (ns), nodes
  acknowledged whose READY is awaited and since when (ns), nodes failed, frames of the attempt -/
  todo : List Nat
  cur : Option (Nat × Nat)
  sentAt : Nat
  wait : List Nat
  waitFrom : Option Nat
  failed : List Nat
  train : List Frame
  deriving DecidableEq, Repr, Inhabited

/-- A command of UPD in progress (20 R463): source and peer, OP, INDEX, whether it is the first PROGRAM after OPEN (its sector is a
second store), and what it stores, by word index. -/
structure UpdWork where
  src : Nat
  node : Nat
  op : Nat
  idx : Nat
  second : Bool
  data : List (Nat × Word)
  /-- the instant of the accept (20 R463) -/
  at_ : Nat
  deriving DecidableEq, Repr, Inhabited

/-- UPD and live patches (chapters 20 and 2). Sources: 1 MSPI, 2 PCIe, 3 fabric peer. -/
structure UpdSt where
  /-- staged words at source · 2^14 + word index; UPD_CRC by source; the peer that owns the fabric buffer -/
  win : List (Nat × Word)
  crc : List (Nat × Word)
  peer : Option Nat
  /-- sector 0 kept aside by word index; sectors programmed since OPEN -/
  kept : List (Nat × Word)
  sectors : List Nat
  /-- no PROGRAM has been accepted since OPEN -/
  opened : Bool
  work : List UpdWork
  /-- the holder's last command, ns -/
  last : Nat
  /-- staged patch payload; CYC_STARTs left until a patch that passed takes effect, the last of them included -/
  patch : List Word
  patchAt : Option Nat
  /-- bulk chunks of the patch that go to the standby first; the standby has said that it holds the patch (02 R64) -/
  patchOut : List Nat
  patchAck : Bool
  /-- a patch that the active unit of a pair has sent here: PATCH_SEL, PATCH_IDX, payload, CYC_STARTs left (02 R64) -/
  peerPatch : Option (Word × Word × List Word × Nat)
  /-- the pending APPLY was written inside a drill (18 R434) -/
  patchDrill : Bool
  deriving DecidableEq, Repr, Inhabited

/-- The AIO pool (21 R469 to R471): the functions given to pins; the banks whose supply lies in an operating range and those of them that
have adapted to 1.8 V; the pins whose output function has acted since the sections were applied. Every other pin is high-impedance. -/
structure IoSt where
  fns : List AioFn
  banks : Nat
  low : Nat
  acts : Nat
  deriving DecidableEq, Repr, Inhabited

/-- The test access port (21 R483): the instruction register, the one-bit bypass register, the identification register, and of the boundary
register the captured values and the update latches, one bit a cell. -/
structure TapSt where
  ir : BitVec 8
  bypass : Bool
  idReg : Word
  scan : BitVec 310
  latch : BitVec 310
  deriving DecidableEq, Repr, Inhabited

/-- A ball with a boundary cell (21 R483, Tables 13.1 and 21.1): AIO, ENC_CLK, ENC_DAT, SIN of channel A or B, SRB, SOUT; the transmit pair and
the two receive balls of lane l (LNK0 to LNK7, REDL0, REDL1, PCIe lanes 0 to 3); QSPI, MSPI, the PMBus, PMIC and the other SYSTEM balls. -/
inductive Ball where
  | aio (n : Fin 160)
  | encClk (n : Fin 16)
  | encDat (n : Fin 16)
  | sin (n : Fin 16) (chB : Bool)
  | srb (n : Fin 8)
  | sout (n : Fin 8)
  | tx (l : Fin 14)
  | rx (l : Fin 14) (neg : Bool)
  | qspi (i : Fin 6)
  | mspi (i : Fin 4)
  | pmb (i : Fin 3)
  | pmicEn
  | pgood
  | ppsIn
  | ppsOut
  | trig (n : Fin 8)
  | resetN
  | faultN
  | perstN
  deriving DecidableEq, Repr

/-- The device but for its memories and the queue: the register file (sparse, an unlisted word at its reset value) and the
hidden state of each block. -/
structure Dev where
  regs : List (Nat × Word)
  host : HostSt
  time : TimeSt
  link : LinkSt
  fb : FbSt
  adc : AdcSt
  traj : TrajSt
  loop : LoopSt
  arb : ArbSt
  solv : SolvSt
  sched : SchedSt
  safe : SafeSt
  red : RedSt
  pwr : PwrSt
  boot : BootSt
  upd : UpdSt
  io : IoSt
  tap : TapSt
  /-- SRAM words with an uncorrectable error, by BAR2 offset (01 R34) -/
  eccBad : List Nat
  /-- correctable SRAM errors counted (01 R34) -/
  eccCe : Nat
  /-- faults in force -/
  faults : List FaultRec
  /-- how many free values have been taken; the model's own field (no statement rests on it) -/
  free : Nat
  deriving DecidableEq, Repr, Inhabited

/-- The LTH-960: the device, SRAM by BAR2 offset, QSPI flash by address, OTP words, and the commands that wait. -/
structure State where
  dev : Dev
  mem : Memory
  flash : Memory
  otp : List (Nat × Word)
  pending : List Instr
  deriving DecidableEq, Repr, Inhabited

/-- The device right after reset: step 1 of the start-up sequence (20 Table 20.1), with RESET_N high and VBUS not yet at 8.5 V; every
register word at its reset value, the time base at the defaults of 01 Table 1.5 and stopped. -/
def Dev.reset : Dev :=
  { regs := [], host := default, time := { (default : TimeSt) with tb := 31250, inCut := 10000, m := 64 }, link := default, fb := default,
    adc := default, traj := default, loop := default, arb := default, solv := default, sched := default,
    safe := { (default : SafeSt) with filtA := 0xFFFF, filtB := 0xFFFF }, red := default,
    pwr := { (default : PwrSt) with resetN := true }, boot := default, upd := default, io := default,
    tap := { (default : TapSt) with ir := 2 }, eccBad := [], eccCe := 0, faults := [], free := 0 }

/-- The machine right after reset: SRAM reads 0, the flash is erased, OTP is blank and no command waits (log entries 1, 2). -/
def State.reset : State := { dev := Dev.reset, mem := [], flash := [], otp := [], pending := [] }

/-- No command stops the block: every refused access or request has its coded result in a register (00 R12, 03 R89), so
there is no fault. -/
inductive Fault where
  deriving DecidableEq, Repr

/-- Why a command has no meaning. -/
inductive Refusal where
  /-- Raised by an arm of exec whose command is not modelled (safe: the block stops). No arm is left with it. -/
  | notModelled (mnemonic : String)
  deriving DecidableEq, Repr

end Sys2Proof.Machine
end

