-- ==== Sys2Proof/Machine/Ops.lean ====
section
/-! DEFINITION. The named operations every block uses: register words and fields, event registers and MSI-X vectors,
faults and their reactions, and the levels that follow them after every command. -/
namespace Sys2Proof.Machine
open Sys2Proof.Config

/-- STATE of an axis (09 Table 9.9). -/
abbrev axOff : Nat := 0
abbrev axHold : Nat := 1
abbrev axProfile : Nat := 2
abbrev axGear : Nat := 3
abbrev axPath : Nat := 4
abbrev axStopping : Nat := 5
abbrev axFaultStop : Nat := 6

/-- The value listed at a key of a table; the type's default where nothing is listed. -/
def tget {α : Type} [Inhabited α] (l : List (Nat × α)) (k : Nat) : α := tblGet (fun _ => default) l k

/-- Change the value at a key of a table. -/
def tmod {α : Type} [Inhabited α] [DecidableEq α] (l : List (Nat × α)) (k : Nat) (f : α → α) : List (Nat × α) :=
  tblMod (fun _ => default) l k f

/-- Put a value at a key of a table. -/
def tput {α : Type} [Inhabited α] [DecidableEq α] (l : List (Nat × α)) (k : Nat) (v : α) : List (Nat × α) :=
  tblSet (fun _ => default) l k v

/-! Register words and fields. -/

/-- A register word by its BAR0 offset. -/
def Dev.rd (d : Dev) (off : Nat) : Word := tblGet regReset d.regs off

/-- Put a register word. -/
def Dev.wr (off : Nat) (w : Word) (d : Dev) : Dev := { d with regs := tblSet regReset d.regs off w }

/-- A field's value. -/
def Dev.get (d : Dev) (f : Fld) : Nat := bitsOf (d.rd f.reg).toNat f.hi f.lo

/-- A field's value read as two's complement. -/
def Dev.gets (d : Dev) (f : Fld) : Int := sInt (f.hi + 1 - f.lo) (d.get f)

/-- A one-bit field. -/
def Dev.flag (d : Dev) (f : Fld) : Bool := d.get f != 0

/-- Put a field (the value modulo its width). -/
def Dev.put (f : Fld) (v : Nat) (d : Dev) : Dev :=
  d.wr f.reg (BitVec.ofNat 32 (putBits (d.rd f.reg).toNat f.hi f.lo v))

/-- Put a signed value into a field. -/
def Dev.puts (f : Fld) (v : Int) (d : Dev) : Dev := d.put f (uNat (f.hi + 1 - f.lo) v)

/-- Set or clear a one-bit field. -/
def Dev.up (f : Fld) (b : Bool) (d : Dev) : Dev := d.put f (b2n b)

/-- The 64-bit value of the pair of words at off and off + 4. -/
def Dev.get64 (d : Dev) (off : Nat) : Nat := (d.rd off).toNat + 2 ^ 32 * (d.rd (off + 4)).toNat

/-- The same read as two's complement. -/
def Dev.gets64 (d : Dev) (off : Nat) : Int := sInt 64 (d.get64 off)

/-- Put a 64-bit value into the pair of words at off and off + 4. -/
def Dev.put64 (off : Nat) (v : Nat) (d : Dev) : Dev :=
  (d.wr off (BitVec.ofNat 32 v)).wr (off + 4) (BitVec.ofNat 32 (v / 2 ^ 32))

/-- The same for a signed value. -/
def Dev.puts64 (off : Nat) (v : Int) (d : Dev) : Dev := d.put64 off (uNat 64 v)

/-- A saturating counter field counts n. -/
def Dev.cntBy (f : Fld) (n : Nat) (d : Dev) : Dev :=
  d.put f (min (d.get f + n) (2 ^ (f.hi + 1 - f.lo) - 1))

/-- A saturating counter field counts one. -/
def Dev.cnt (f : Fld) (d : Dev) : Dev := d.cntBy f 1

/-- A wrapping counter field counts one. -/
def Dev.cntWrap (f : Fld) (d : Dev) : Dev := d.put f (d.get f + 1)

/-- Apply a change for every element of a list. -/
def Dev.each {α : Type} (l : List α) (f : α → Dev → Dev) (d : Dev) : Dev := l.foldl (fun d x => f x d) d

/-- Apply a change when a condition holds. -/
def Dev.when (b : Bool) (f : Dev → Dev) (d : Dev) : Dev := if b then f d else d

/-- A fresh free value: its number, and the state in which it is taken. -/
def Dev.fresh (d : Dev) : Nat × Dev := (d.free, { d with free := d.free + 1 })

/-! Events and MSI-X (03 R71, R78). -/

/-- The group of an axis, from the AXIS section (02 Table 2.4). -/
def Dev.groupOf (d : Dev) (n : Nat) : Option Nat := (d.traj.axes.find? (fun a => a.axis == n)).map (·.group)

/-- The MSI-X vector an event register is routed to (03 Table 3.6). The vectors of axis events go by the groups KG0 to KG15; an axis in no
group has vector 32 here (log entry 74). -/
def Dev.vectorOf (d : Dev) (off : Nat) : Option Nat :=
  if off = 0x104 then some 0
  else if off = 0x10 ∨ off = 0x20 ∨ off = 0x30 then some 1
  else if 0x400 ≤ off ∧ off < 0x500 then some (2 + (off - 0x400) / 0x20)
  else if off = 0x60C then some 59
  else match off / 0x100000 with
    | 1 => some 11
    | 2 => some 12
    | 3 => some 13
    | 4 => if off < 0x407000 then some (32 + (d.groupOf ((off - 0x400000) / 0x40)).getD 0)
           else some (32 + (off - 0x407000) / 0x40 % 16)
    | 5 => some 58
    | 6 => some (16 + (off - 0x603000) / 0x40 % 16)
    | 7 => some (if off < 0x700400 then 32 + (off - 0x700000) / 0x40 else 32)
    | 8 => if off < 0x880000 then none
           else some (if 0x880100 ≤ off ∧ off < 0x880180 then 48 + (off - 0x880100) / 0x10 else 48)
    | 9 => some 14
    | 10 => some 15
    | 11 => some 56
    | 12 => some 57
    | 13 => some 10
    | _ => none

/-- A word of the MSI-X table; every vector is masked at reset (03 R67, PRESUMED from the PCI Express specification). -/
def msixReset (k : Nat) : Word := if k % 4 = 3 then 1 else 0

/-- Is a vector masked, by itself or by the function mask? -/
def Dev.msixMasked (d : Dev) (v : Nat) : Bool :=
  d.host.msixMask || (tblGet msixReset d.host.msixTbl (4 * v + 3)).toNat % 2 == 1

/-- An increment of a SEQ routed to vector v (03 R71): one message, merged into a waiting one; the PBA bit while masked. -/
def Dev.msix (v : Nat) (d : Dev) : Dev :=
  if d.msixMasked v then { d with host := { d.host with pba := setBit d.host.pba v true } }
  else if !d.host.msixEn || d.host.msgs.contains v then d
  else { d with host := { d.host with msgs := d.host.msgs ++ [v] } }

/-- An event is captured in an event register: its bit sets and SEQ increments (03 R78, R71). -/
def Dev.raise (f : Fld) (d : Dev) : Dev :=
  let d := (d.put f 1).cntWrap ⟨f.reg, 31, 24⟩
  match d.vectorOf f.reg with
  | some v => d.msix v
  | none => d

/-! Faults (00 R12, R13; 01 R36 to R39). -/

/-- SYS_FAULT_EVT's bit for a class. -/
def clsEvt (cls : Nat) : Fld :=
  match cls with
  | 0 => F.SYS_FAULT_EVT_F0_EVT
  | 1 => F.SYS_FAULT_EVT_F1_EVT
  | 2 => F.SYS_FAULT_EVT_F2_EVT
  | _ => F.SYS_FAULT_EVT_F3_EVT

/-- Every axis of the device. -/
def allAxes : Nat := 2 ^ 128 - 1

/-- A fault is recorded in SYS_FAULT_EVT and is in force until it clears under R39. -/
def Dev.record (k : FaultKind) (idx cls axes : Nat) (cause : Bool) (owner : Option Fld) (d : Dev) : Dev :=
  let old := d.faults.filter (fun r => !(r.kind = k && r.idx = idx))
  ({ d with faults := ⟨k, idx, cls, axes, cause, owner⟩ :: old }).raise (clsEvt cls)

/-- An event of class F0 (02 to 21: 'class F0'): the owner's event bit, and the report in SYS_FAULT_EVT. -/
def Dev.event0 (f : Fld) (d : Dev) : Dev :=
  (d.raise f).record .report (f.reg * 32 + f.lo) 0 0 false (some f)

/-- Does LOOP report the axis energised? -/
def Dev.energised (d : Dev) (n : Nat) : Bool := d.flag (F.LOOP_STS_ENERGISED n)

/-- ENERGISED falls (10 Table 10.9). -/
def Dev.energOff (n : Nat) (d : Dev) : Dev :=
  if d.energised n then
    ((d.up (F.LOOP_STS_ENERGISED n) false).up (F.LOOP_STS_BOOTING n) false).event0 (F.LOOP_EVT_DEENERG_EVT n)
  else d

/-- De-energising (01 R36, 10 R258, R264): EN clears; a direct axis takes the off pattern at once; a linked axis is commanded
to de-energise by the next setpoint frame, and ENERGISED follows its companion. -/
def Dev.deenergise (n : Nat) (d : Dev) : Dev :=
  let d := d.up (F.LOOP_CTL_EN n) false
  let d := { d with loop := { d.loop with ax := tmod d.loop.ax n (fun a =>
      if n < 32 then { a with off := true, energise := false } else { a with energise := false }) } }
  if n < 32 then d.energOff n else d

/-- The reaction of the affected axes (00 R13: the higher class wins, and a reaction in progress is never weakened); TRAJ takes a
fault of a higher class anew (09 R224). -/
def Dev.react (cls axes : Nat) (d : Dev) : Dev :=
  if cls = 0 then d
  else (onesBelow 128 axes).foldl (fun d n =>
    let d := { d with traj := { d.traj with ax := tmod d.traj.ax n (fun a =>
      { a with react := max a.react cls, reactTaken := a.reactTaken && decide (cls ≤ a.react) }) } }
    if 3 ≤ cls then d.deenergise n else d) d

/-- A fault is raised: it is recorded, and its axes react. -/
def Dev.fault (k : FaultKind) (idx cls axes : Nat) (cause : Bool) (owner : Option Fld) (d : Dev) : Dev :=
  (d.record k idx cls axes cause owner).react cls axes

/-- The cause of a fault goes away. -/
def Dev.causeOff (k : FaultKind) (idx : Nat) (d : Dev) : Dev :=
  { d with faults := d.faults.map (fun r => if r.kind = k && r.idx = idx then { r with cause := false } else r) }

/-- A register is written: its parity is right again, and the cause of CSR_PARITY goes away (03 R86). -/
def Dev.parityWritten (off : Nat) (d : Dev) : Dev :=
  if d.host.parityBad.contains off then
    ({ d with host := { d.host with parityBad := d.host.parityBad.filter (fun x => x != off) } }).causeOff .csrParity off
  else d

/-- Does a fault's cause stand? -/
def Dev.causeOn (d : Dev) (k : FaultKind) (idx : Nat) : Bool :=
  d.faults.any (fun r => r.kind = k && r.idx = idx && r.cause)

/-- The axes whose AXIS record names a position source (02 Table 2.4, 07 R168), as a mask. -/
def Dev.sourcedBy (d : Dev) (x : PosSrc) : Nat :=
  (d.traj.axes.filter (fun a => a.src = x)).foldl (fun m a => setBit m a.axis true) 0

/-- The axes geared to a source (09 Table 9.10: SRC_TYPE and SRC_IDX of GSRC) whose STATE is GEAR, as a mask. -/
def Dev.gearedTo (d : Dev) (typ idx : Nat) : Nat :=
  (List.range 128).foldl (fun m n =>
    if d.flag (F.TRAJ_GEAR_GSRC_SRC_EN n) && d.get (F.TRAJ_GEAR_GSRC_SRC_TYPE n) == typ
        && d.get (F.TRAJ_GEAR_GSRC_SRC_IDX n) == idx && d.get (F.TRAJ_AX_STS_STATE n) == axGear
    then setBit m n true else m) 0

/-- A feedback fault of class F3 for the axes it positions, F2 for those geared to it, F0 when neither (07 Table 7.1). -/
def Dev.feedbackFault (k : FaultKind) (idx typ : Nat) (x : PosSrc) (own : Fld) (d : Dev) : Dev :=
  let a3 := d.sourcedBy x
  let a2 := d.gearedTo typ idx
  let d := if a3 = 0 then d else d.fault k idx 3 a3 true (some own)
  let d := if a2 = 0 then d else d.fault k (idx + 1000) 2 a2 true (some own)
  if a3 = 0 ∧ a2 = 0 then d.fault k idx 0 0 true (some own) else d

/-- Is a fault in force (01 R39): its cause stands, or its owner's event bit is uncleared? -/
def Dev.active (d : Dev) (r : FaultRec) : Bool :=
  r.cause || (match r.owner with | some f => d.flag f | none => false)

/-- Is a fault of a class in force? -/
def Dev.clsAct (d : Dev) (cls : Nat) : Bool := d.faults.any (fun r => r.cls = cls)

/-- Does the device drive FAULT_N low (01 R37)? -/
def Dev.drives (d : Dev) : Bool :=
  !d.host.everRun || d.clsAct 2 || d.clsAct 3 || (d.clsAct 1 && d.flag F.SYS_FAULTN_CFG_F1_ASSERT)

/-- Is a fault of class F1 to F3 on an axis uncleared? -/
def Dev.uncleared (d : Dev) (n : Nat) : Bool := d.faults.any (fun r => decide (1 ≤ r.cls) && bitOf r.axes n)

/-- Drop the faults no longer in force (01 R39). -/
def Dev.prune (d : Dev) : Dev := { d with faults := d.faults.filter d.active }

/-- EXT_FAULT follows the net (01 R38): its cause is the net low while this device does not drive it. Where EXT_EN makes it a fault, its bit
and that of its class are one occurrence and count SEQ once (log entry 8); EXT_EN and EXT_CLASS are read when the cause arises (log entry 9). -/
def Dev.extFault (d : Dev) : Dev :=
  let c := d.host.faultnExt && !d.drives
  if c == d.host.extCause then d
  else
    let d := { d with host := { d.host with extCause := c } }
    if c then
      if d.flag F.SYS_FAULTN_CFG_EXT_EN then
        (d.up F.SYS_FAULT_EVT_EXT_FAULT true).fault .extFault 0 (d.get F.SYS_FAULTN_CFG_EXT_CLASS) allAxes true (some F.SYS_FAULT_EVT_EXT_FAULT)
      else d.raise F.SYS_FAULT_EVT_EXT_FAULT
    else (d.causeOff .extFault 0).prune

/-- SYS_FAULT_LVL shows what stands (01 Table 1.10). -/
def Dev.levels (d : Dev) : Dev :=
  d.wr R.SYS_FAULT_LVL (BitVec.ofNat 32
    (b2n (d.clsAct 0) + 2 * b2n (d.clsAct 1) + 4 * b2n (d.clsAct 2) + 8 * b2n (d.clsAct 3)
      + 16 * b2n (d.drives || d.host.faultnExt) + 32 * b2n d.drives))

/-- What follows at once after every command: faults that have cleared leave, EXT_FAULT follows the net (up to three times: where the
device stops driving a net that is still low the fault is raised anew, and may itself make the device drive it), and the levels show
the result. -/
def Dev.settle (d : Dev) : Dev := (d.prune.extFault.extFault.extFault).levels

/-- Functions of AIO pins that drive them (21 Table 21.2; TIMER in the output modes of its channel). -/
def aioOut (u : Config.AioUse) : Bool :=
  match u with
  | .pwm _ _ _ => true
  | .step _ => true
  | .dir _ => true
  | .res _ _ => true
  | .divider _ _ => true
  | .timer _ => true
  | _ => false

/-- Output functions first act: their pins begin to drive (21 R470). -/
def Dev.aioAct (p : Config.AioUse → Bool) (d : Dev) : Dev :=
  { d with io := { d.io with acts := d.io.fns.foldl (fun m f => if p f.use then setBit m f.pin true else m) d.io.acts } }

/-- The end of every command. -/
def State.settle (s : State) : State := { s with dev := s.dev.settle }

/-- The outcome of a command: a next state, its levels settled. -/
def done (s : State) : Host.Outcome State Fault Refusal := .next s.settle

/-- A command that touches no memory and no queue. -/
def onDev (f : Dev → Dev) (s : State) : Host.Outcome State Fault Refusal := done { s with dev := f s.dev }

/-! Logged errors (03 R84, R86, R89). -/

/-- A fresh free value below a bound. -/
def Dev.draw (n : Nat) (d : Dev) : Nat × Dev := let (k, d) := d.fresh; (Config.freeNat k % n, d)

/-- A fresh free word. -/
def Dev.drawW (d : Dev) : Nat × Dev := d.draw (2 ^ 32)

/-- SRC of a port (03 Table 3.15: 0 PCIe, 1 MSPI, 2 DMA, 3 scrubber, 4 fabric tunnel). The table has no code for SP core c; the
model numbers its guard slot 8 + c. -/
def portCode : Port → Nat
  | .pcie => 0
  | .mspi => 1
  | .tunnel => 4
  | .sp c => 8 + c

/-- The region of Table 1.8 a BAR2 offset lies in, 0x7F outside every region. -/
def bar2Region (off : Nat) : Nat :=
  if off < 0x800000 then 0 else if off < 0x1000000 then 1 else if off < 0x1200000 then 2
  else if off < 0x1400000 then 3 else if off < 0x1580000 then 4
  else if 0x1600000 ≤ off ∧ off < 0x1880000 then 5 else 0x7F

/-- An error is logged at base (0x10 BUSERR, 0x20 GUARD, 0x30 PARITY): counted, recorded, its event raised. SRC of an SP core's access is free. -/
def Dev.logErr (base : Nat) (bar2 : Bool) (cause src : Nat) (write : Bool) (off : Nat) (d : Dev) : Dev :=
  let blk := if bar2 then bar2Region off else bitsOf off 25 20
  let d := d.wr (base + 8) (BitVec.ofNat 32 (min ((d.rd (base + 8)).toNat + 1) (2 ^ 32 - 1)))
  let (code, d) := if src < 8 then (src, d) else d.draw 8
  let d := d.put ⟨base, 23, 8⟩ (b2n bar2 * 2 ^ 15 + blk * 2 ^ 8 + cause * 2 ^ 4 + code * 2 + b2n write)
  let d := (d.wr (base + 4) (BitVec.ofNat 32 (off % 2 ^ 26))).raise ⟨base, 0, 0⟩
  if src = 1 then
    (if base = 0x10 then { d with host := { d.host with mspiBus := true } }
     else if base = 0x20 then { d with host := { d.host with mspiGuard := true } } else d)
  else d

/-- A guarded write that its block rejects (03 R84). -/
def Dev.illegal (p : Port) (off : Nat) (d : Dev) : Dev := d.logErr 0x20 false 5 (portCode p) true off

/-- The patch registers, whose discarded writes (02 R64) leave their parity as it is: their own effects say when they are written. -/
def ownParity (off : Nat) : Bool := [R.CFG_PATCH_SEL, R.CFG_PATCH_IDX, R.CFG_PATCH_DATA, R.CFG_PATCH_CMD].contains off

/-- A register is written, but for the patch registers. -/
def Dev.written (off : Nat) (d : Dev) : Dev := if ownParity off then d else d.parityWritten off

/-- An accepted guarded write of the register at off with its effect f; unless its block rejects it, the register is written (03 R86). -/
def Dev.guarded (off : Nat) (f : Dev → Dev) (d : Dev) : Dev :=
  let d' := f d
  if d'.get F.SYS_GUARD_LOG_SEQ = d.get F.SYS_GUARD_LOG_SEQ then d'.written off else d'

/-- The same for an effect on more than the registers. -/
def State.guarded (off : Nat) (f : State → State) (s : State) : State :=
  let s' := f s
  if s'.dev.get F.SYS_GUARD_LOG_SEQ = s.dev.get F.SYS_GUARD_LOG_SEQ then { s' with dev := s'.dev.written off } else s'

/-! Who answers (03 R66, R88; 20 Table 20.2). -/

/-- Do the ports answer? From the PLLs' lock on while PD_SYS is on, and where a start has stopped at an AIO bank's supply with host access
granted (20 Table 20.2, 21 R471). -/
def Dev.answers (d : Dev) : Bool :=
  (decide (3 ≤ d.get F.CFG_BOOT_STS_STAGE) || (d.get F.CFG_BOOT_STS_STAGE == 2 && d.host.granted)) && !bitOf d.pwr.off 3

/-- May a port's access act? PCIe and MSPI need the grant of R66; in D3hot the endpoint takes no memory request. -/
def Dev.mayAccess (d : Dev) : Port → Bool
  | .pcie => d.answers && d.host.granted && !d.host.d3hot
  | .mspi => d.answers && d.host.granted
  | _ => d.answers

/-- A command that a host gives by writing a register: nothing while its port's access does not act. -/
def Dev.byPort (p : Port) (f : Dev → Dev) (d : Dev) : Dev := if d.mayAccess p then f d else d

/-! SRAM, flash and OTP: bytes by address (03 R69; 02 R40). -/

/-- SRAM reads 0 where nothing has been written since its domain switched on (01 R19). -/
def sramReset (_ : Nat) : Byte := 0

/-- Erased flash reads 0xFF (log entry 2). -/
def flashReset (_ : Nat) : Byte := 0xFF

/-- A little-endian word of SRAM. -/
def Memory.word (m : Memory) (a : Nat) : Word :=
  BitVec.ofNat 32 (leNat ((List.range 4).map (fun i => tblGet sramReset m (a + i))))

/-- Store bytes from an address up. -/
def Memory.putBytes (dflt : Nat → Byte) (m : Memory) (a : Nat) : List Byte → Memory
  | [] => m
  | b :: bs => Memory.putBytes dflt (tblSet dflt m a b) (a + 1) bs

/-- Store a word in SRAM. -/
def Memory.putWord (m : Memory) (a : Nat) (w : Word) : Memory := m.putBytes sramReset a (leBytes 4 w.toNat)

/-- n words from an address up. -/
def Memory.words (m : Memory) (a n : Nat) : List Word := (List.range n).map (fun i => m.word (a + 4 * i))

/-- Store words from an address up. -/
def Memory.putWords (m : Memory) (a : Nat) : List Word → Memory
  | [] => m
  | w :: ws => (m.putWord a w).putWords (a + 4) ws

/-- Clear every byte from lo up to below hi (a domain that switched off, 01 R19). -/
def Memory.clear (m : Memory) (lo hi : Nat) : Memory := m.filter (fun c => c.1 < lo || hi ≤ c.1)

/-- The canonical form: addresses strictly rising, no entry equal to what an unlisted address reads as. -/
def Memory.wf (dflt : Nat → Byte) (m : Memory) : Bool := tblWf dflt 0 m

/-- n bytes of flash from an address up. -/
def Memory.flashBytes (m : Memory) (a n : Nat) : List Byte := (List.range n).map (fun i => tblGet flashReset m (a + i))

end Sys2Proof.Machine
end

