-- ==== Sys2Proof/Machine/Time.lean ====
section
/-! DEFINITION. The time base (chapter 4): TIME_NOW, the servo, PPS and time of day, and the event channels. -/
namespace Sys2Proof.Machine
open Sys2Proof.Config

/-- The increment of one TIME tick in 2^-32 ns (R95). -/
def Dev.tickInc (d : Dev) : Nat := (5 * 2 ^ 32 + d.gets F.TIME_INC_NOM_NOM_TRIM - d.time.trim).toNat

/-- TIME_INC_ACT shows the increment in use (R97). -/
def Dev.showInc (d : Dev) : Dev :=
  (d.put F.TIME_INC_ACT_LO_INC_FRAC d.tickInc).put F.TIME_INC_ACT_HI_INC_INT (d.tickInc / 2 ^ 32)

/-- The ns that TIME has run when it shows ns; a step changes TIME_NOW and not this. -/
def Dev.upAt (d : Dev) (ns : Nat) : Nat := (2 ^ 32 * (ns : Int) + d.time.stepped).toNat / 2 ^ 32

/-- k TIME ticks pass; messages that wait leave the endpoint (03 R71 allows them 0.5 µs; log entry 74), and driven pulses whose end is
past end. -/
def Dev.tick (k : Nat) (d : Dev) : Dev :=
  if k = 0 ∨ d.time.running = false then d
  else
    let now := d.time.now + k * d.tickInc
    let past := fun (o : Option Nat) => match o with
      | some e => if 2 ^ 32 * (e : Int) ≤ now + d.time.stepped then none else some e
      | none => none
    { d with
      time := { d.time with
        now := now, ticks := d.time.ticks + k, ppsOutEnd := past d.time.ppsOutEnd,
        ev := d.time.ev.map (fun p => (p.1, { p.2 with pulseEnd := past p.2.pulseEnd })) },
      host := { d.host with msgs := [] } }

/-- TIME runs to the first tick whose integer part is ns or more (R96, R110). -/
def Dev.runTo (ns : Nat) (d : Dev) : Dev :=
  if 2 ^ 32 * ns ≤ d.time.now then d
  else d.tick ((2 ^ 32 * ns - d.time.now + d.tickInc - 1) / d.tickInc)

/-- TIME runs to the last tick at or before ns (R106: a captured value lies within 5.0 ns before its edge). -/
def Dev.runBelow (ns : Nat) (d : Dev) : Dev :=
  if 2 ^ 32 * ns ≤ d.time.now then d else d.tick ((2 ^ 32 * ns - d.time.now) / d.tickInc)

/-- Integer nanoseconds of TIME_NOW. -/
def Dev.nowNs (d : Dev) : Nat := d.time.now / 2 ^ 32

/-- The ns that TIME has run. -/
def Dev.upNs (d : Dev) : Nat := (d.time.now + d.time.stepped).toNat / 2 ^ 32

/-- TIME runs until it has run t ns. -/
def Dev.runUp (t : Nat) (d : Dev) : Dev := d.runTo (((2 ^ 32 * (t : Int) - d.time.stepped) + (2 ^ 32 - 1)) / 2 ^ 32).toNat

/-- TIME_NOW in picoseconds, rounded down. -/
def Dev.nowPs (d : Dev) : Int := (d.time.now * 1000 / 2 ^ 32 : Nat)

/-- TIME runs to an instant in picoseconds. -/
def Dev.runToPs (ps : Nat) (d : Dev) : Dev := d.runTo ((ps + 999) / 1000)

/-- ROLE (Table 4.4). -/
def Dev.role (d : Dev) : Nat := d.get F.TIME_SERVO_STS_ROLE

/-- Is this node the zenith node? -/
def Dev.isZenith (d : Dev) : Bool := 2 ≤ d.role

/-- LOCKED sets or clears, with its event (R105). -/
def Dev.setLocked (b : Bool) (d : Dev) : Dev :=
  if d.flag F.TIME_SERVO_STS_LOCKED == b then d
  else (d.up F.TIME_SERVO_STS_LOCKED b).event0
    (if b then F.TIME_SERVO_EVT_LOCK_EVT else F.TIME_SERVO_EVT_UNLOCK_EVT)

/-- LOCKED after an accepted sample (R105): 16 in a row within 10 ns set it, one above 20 ns clears it. -/
def Dev.lockSample (e : Int) (d : Dev) : Dev :=
  let run := if e.natAbs ≤ 10000 then d.time.lockRun + 1 else 0
  let d := { d with time := { d.time with lockRun := run } }
  if 20000 < e.natAbs then d.setLocked false
  else if 16 ≤ run then d.setLocked true else d

/-- TRIM_MAX as it acts (Table 4.3). -/
def Dev.trimMax (d : Dev) : Int := (min (d.get F.TIME_TRIM_MAX_TRIM_MAX) 0x83126F : Nat)

/-- One servo step (R101) with the given gains and shift. -/
def Dev.servoStep (kp ki shift : Nat) (e : Int) (d : Dev) : Dev :=
  let e := clampI (-2 ^ 31) (2 ^ 31 - 1) e
  let m := d.trimMax
  let i := clampI (-m) m (d.time.servoI + shrI (ki * e) shift)
  let t := clampI (-m) m (shrI (kp * e) shift + i)
  ({ d with time := { d.time with servoI := i, trim := t } }).showInc

/-- The shift of R101 as SHIFT acts: 4 to 8. -/
def Dev.servoShift (d : Dev) : Nat := max 4 (min 8 (d.get F.TIME_TRIM_MAX_SHIFT))

/-- The next multiple of Tb above ns. -/
def nextMultiple (tb ns : Nat) : Nat := (ns / tb + 1) * tb

/-- Targets the integration step has passed fire late (R113). -/
def Dev.lateTargets (d : Dev) : Dev :=
  Dev.each (List.range 8) (fun n d =>
    if d.get (F.TIME_EV_CTL_MODE n) = 1 && d.flag (F.TIME_EV_CTL_ARM n)
        && decide (d.get64 (R.TIME_EV_TGT_LO n) ≤ d.nowNs) then
      { d with time := { d.time with ev := tmod d.time.ev n (fun c => { c with late := true }) } }
    else d) d

/-- After a step, a cyclic channel whose instant of the present cycle has passed does not fire in it (R112). -/
def Dev.cycPassed (d : Dev) : Dev :=
  { d with time := { d.time with ev := (List.range 8).foldl (fun l n => tmod l n (fun c => { c with
      fired := if d.time.cycStart + 25 * d.get (F.TIME_EV_CYC_PHASE n) < d.nowNs then some d.time.cycStart else none })) d.time.ev } }

/-- The integration step (R103): TIME_NOW := TIME_NOW - e, i := 0, and NEXT_CYC to the next multiple of Tb (R96). The run of samples that
sets LOCKED starts again (R105; log entry 76). -/
def Dev.timeStep (e : Int) (d : Dev) : Dev :=
  let now := ((d.time.now : Int) - (e * 2 ^ 32).fdiv 1000).toNat
  let d := { d with time := { d.time with
    now := now, stepped := d.time.stepped + d.time.now - now, servoI := 0, nextCyc := nextMultiple d.time.tb (now / 2 ^ 32),
    cycStart := now / 2 ^ 32 / d.time.tb * d.time.tb, integrated := true, lockRun := 0, outRun := 0 } }
  (d.event0 F.TIME_SERVO_EVT_STEP_EVT).cycPassed.lateTargets

/-- A sync sample while integrated (R101, R104): discarded as an outlier, or accepted with its servo step. The second
component says whether it was accepted. -/
def Dev.syncSample (e : Int) (d : Dev) : Dev × Bool :=
  let thr := 1000 * max 100 (d.get F.TIME_OUTLIER_THR_OUTLIER_THR)
  if thr < e.natAbs then
    (((d.cnt F.TIME_SERVO_CNT_OUTLIER).event0 F.TIME_SERVO_EVT_OUTLIER_EVT) |> fun d =>
      { d with time := { d.time with outRun := d.time.outRun + 1 } }, false)
  else
    let d := { d with time := { d.time with outRun := 0 } }
    let d := d.servoStep (d.get F.TIME_SERVO_GAIN_KP) (d.get F.TIME_SERVO_GAIN_KI) d.servoShift e
    (((d.puts F.TIME_OFFSET_OFFSET (clampI (-2 ^ 31) (2 ^ 31 - 1) e)).lockSample e), true)

/-- ROLE as the zenith node shows it: free, or following PPS (Table 4.4). Free-running, NOM_TRIM alone sets the rate (R97) and LOCKED is 1
(R105); a node that enters PPS mode earns LOCKED by its PPS samples (log entry 76). -/
def Dev.zenithRole (d : Dev) : Dev :=
  if d.flag F.TIME_PPS_CTL_PPS_EN then
    let d := if d.role = 3 then d else ({ d with time := { d.time with lockRun := 0 } }).setLocked false
    d.put F.TIME_SERVO_STS_ROLE 3
  else
    let d := ({ d with time := { d.time with servoI := 0, trim := 0 } }).showInc
    (d.put F.TIME_SERVO_STS_ROLE 2).setLocked true

/-- The node is no longer the zenith node: LOCKED follows the rule of a follower again, which no sample has met yet (R105, log entry 76). -/
def Dev.zenithLeave (d : Dev) : Dev :=
  if d.isZenith then ({ d with time := { d.time with lockRun := 0 } }).setLocked false else d

/-- The zenith step (R96, R22): TIME_NOW, CYCNO, CYC_PH and PLAN_PH to 0 at this CYC_START. -/
def Dev.zenithStep (d : Dev) : Dev :=
  let d := { d with time := { d.time with
    now := 0, stepped := d.time.stepped + d.time.now, nextCyc := d.time.tb, cycStart := 0, cycno := 0, cycPh := 0, planPh := 0,
    servoI := 0, trim := 0, integrated := false } }
  (d.showInc.zenithRole).cycPassed.lateTargets

/-- A newly accepted NOM_TRIM (R97): out of range it is refused (the caller logs ILLEGAL); else it enters the increment. -/
def nomTrimOk (w : Word) : Bool := (sInt 32 w.toNat).natAbs ≤ 8589935

/-- NOM_TRIM takes effect; i and trim are unchanged. -/
def Dev.nomTrim (w : Word) (d : Dev) : Dev := (d.wr R.TIME_INC_NOM w).showInc

/-! PPS and time of day (R106 to R109). -/

/-- TOD_OFFSET as a signed number of ns. -/
def Dev.todOffset (d : Dev) : Int := d.gets64 R.TIME_TOD_OFFSET_LO

/-- The servo sample of a PPS edge: distance of the captured time of day from the nearest whole second, in ps (R108), from the whole
nanoseconds of the capture (log entry 76). -/
def Dev.ppsError (d : Dev) (cap : Nat) : Int :=
  let x := ((cap : Int) + d.todOffset).emod 1000000000
  1000 * (if x < 500000000 then x else x - 1000000000)

/-- The zenith node's use of a PPS edge (R107, R108): the edge that aligns the time of day, and the servo step of each after it. Only an
ALIGN of this node counts as alignment, TIME_OFFSET keeps the last e of a SYNC, and an edge that jumped is no accepted one (log entry 76). -/
def Dev.ppsServo (cap : Nat) (d : Dev) : Dev :=
  if d.flag F.TIME_PPS_CTL_ALIGN then
    let ofs := ((1000000000 * d.get64 R.TIME_TOD_SEC_LO : Nat) : Int) - cap
    let d := ((d.puts64 R.TIME_TOD_OFFSET_LO ofs).up F.TIME_SERVO_STS_TOD_VALID true).up F.TIME_PPS_CTL_ALIGN false
    { d with time := { d.time with aligned := true, ppsUsed := some (d.upAt cap) } }
  else if d.flag F.TIME_PPS_CTL_PPS_EN && d.time.aligned then
    let e := d.ppsError cap
    if 10000000 < e.natAbs then d.event0 F.TIME_SERVO_EVT_PPS_JUMP_EVT
    else
      let d := { d with time := { d.time with ppsUsed := some (d.upAt cap) } }
      let d := d.servoStep (d.get F.TIME_PPS_GAIN_KP_PPS) (d.get F.TIME_PPS_GAIN_KI_PPS) 16 e
      d.lockSample e
  else d

/-- A PPS_IN edge (R106): captured when of the selected polarity and not within 0.5 s of the last. -/
def Dev.ppsEdge (rising : Bool) (t : Nat) (d : Dev) : Dev :=
  let d := d.runBelow t
  if rising == d.flag F.TIME_PPS_CTL_PPS_IN_POL then d
  else if (match d.time.ppsLast with | some l => decide (d.upAt t < l + 500000000) | none => false) then d
  else
    let cap := d.nowNs
    let d := { (d.put64 R.TIME_PPS_CAP_LO cap) with time := { d.time with ppsLast := some (d.upAt t) } }
    if d.isZenith then d.ppsServo cap else d

/-- 1.5 s without an accepted edge (R108). -/
def Dev.ppsLoss (t : Nat) (d : Dev) : Dev :=
  let d := d.runTo t
  if d.isZenith && d.flag F.TIME_PPS_CTL_PPS_EN && d.time.aligned
      && (match d.time.ppsUsed with | some u => decide (u + 1500000000 ≤ d.upNs) | none => true) then
    d.event0 F.TIME_SERVO_EVT_PPS_LOSS_EVT
  else d

/-- ALIGN (R107): armed on the zenith node, ignored elsewhere. -/
def Dev.todAlign (d : Dev) : Dev := if d.isZenith then d.up F.TIME_PPS_CTL_ALIGN true else d

/-- PPS_OUT pulse width in ns as OUT_WIDTH acts (Table 4.6). -/
def Dev.ppsWidth (d : Dev) : Nat := 1000 * max 1 (min 200000 (d.get F.TIME_PPS_CTL_OUT_WIDTH))

/-- What PPS_OUT shows: while PPS_OUT_EN drives it, the level that PPS_OUT_POL gives a pulse during one, the other otherwise (R109). -/
def Dev.ppsPin (d : Dev) : Option Bool :=
  if d.flag F.TIME_PPS_CTL_PPS_OUT_EN then some (d.time.ppsOutEnd.isSome != d.flag F.TIME_PPS_CTL_PPS_OUT_POL) else none

/-- Time of day crosses its next whole second (R109): a pulse, unless one started less than 0.5 s ago. -/
def Dev.ppsOut (d : Dev) : Dev :=
  let tod := (d.nowNs : Int) + d.todOffset
  let d := d.runTo (((tod / 1000000000 + 1) * 1000000000 - d.todOffset).toNat)
  if d.flag F.TIME_PPS_CTL_PPS_OUT_EN && d.flag F.TIME_SERVO_STS_TOD_VALID
      && (match d.time.ppsOutLast with | some l => decide (l + 500000000 ≤ d.upNs) | none => true) then
    { d with time := { d.time with ppsOutLast := some d.upNs, ppsOutEnd := some (d.upNs + d.ppsWidth) } }
  else d

/-- A write of TIME_PPS_CTL: ALIGN is a command; ROLE follows PPS_EN on the zenith node. -/
def Dev.ppsCtlWrite (w : Word) (d : Dev) : Dev :=
  let d := d.parityWritten R.TIME_PPS_CTL
  let al := d.flag F.TIME_PPS_CTL_ALIGN
  let d := (d.wr R.TIME_PPS_CTL (w &&& 0x03FFFF1D)).up F.TIME_PPS_CTL_ALIGN al
  let d := if bitOf w.toNat 1 then d.todAlign else d
  if d.isZenith then d.zenithRole else d

/-! Event channels (R112 to R115). -/

/-- DIV as it acts. -/
def Dev.evDiv (d : Dev) (n : Nat) : Nat := max 1 (d.get (F.TIME_EV_CYC_DIV n))

/-- PHASE at or above Tb / 25 ns, or a DIV that does not divide 1,680. -/
def Dev.evBad (d : Dev) (n : Nat) : Bool :=
  d.get (F.TIME_EV_CTL_MODE n) == 2 && (decide (d.time.tb ≤ 25 * d.get (F.TIME_EV_CYC_PHASE n)) || 1680 % d.evDiv n != 0)

/-- CFG_ERR follows its cause; the channel stays idle and ARM clears (R112). -/
def Dev.evCheck (n : Nat) (d : Dev) : Dev :=
  let b := d.evBad n
  let d := d.up (F.TIME_EV_STS_CFG_ERR n) b
  if b then d.up (F.TIME_EV_CTL_ARM n) false else d

/-- A firing is late when its target is at or below TIME_NOW (R113, R114). -/
def Dev.evLate (n : Nat) (d : Dev) : Dev :=
  let late := d.get (F.TIME_EV_CTL_MODE n) = 1 ∧ d.get64 (R.TIME_EV_TGT_LO n) ≤ d.nowNs
  { d with time := { d.time with ev := tmod d.time.ev n (fun c => { c with late := late }) } }

/-- A channel is armed or its PHASE moves: a cyclic firing whose instant of the present cycle has passed does not come in it (R112: from
ARM onwards, one firing in a cycle). -/
def Dev.evPassed (n : Nat) (again : Bool) (d : Dev) : Dev :=
  let t := d.time.cycStart + 25 * d.get (F.TIME_EV_CYC_PHASE n)
  { d with time := { d.time with ev := tmod d.time.ev n (fun c => { c with
      fired := if t ≤ d.nowNs then some d.time.cycStart else if again then none else c.fired }) } }

/-- A write of a channel's CTL (R112): MODE cancels an armed firing, ARM arms one-shot and cyclic channels. -/
def Dev.evCtlWrite (n : Nat) (w : Word) (d : Dev) : Dev :=
  let d := (d.wr (R.TIME_EV_CTL n) (w &&& 0x0003FF1B)).parityWritten (R.TIME_EV_CTL n)
  let m := d.get (F.TIME_EV_CTL_MODE n)
  let d := d.up (F.TIME_EV_CTL_ARM n) (bitOf w.toNat 2 && (m = 1 || m = 2))
  let d := { d with time := { d.time with ev := tmod d.time.ev n (fun c => { c with late := false }) } }
  let d := ((d.evPassed n true).evCheck n).evLate n
  if m = 1 ∨ m = 2 then d.aioAct (fun u => u == .timer n) else d

/-- A write of ARM = 1 with the other fields as they are. -/
def Dev.evArm (n : Nat) (d : Dev) : Dev := d.evCtlWrite n ((d.rd (R.TIME_EV_CTL n)) ||| 4)

/-- A write of one half of TGT: an armed one-shot moves to it (R114). -/
def Dev.evTgtWrite (n : Nat) (hi : Bool) (w : Word) (d : Dev) : Dev :=
  let off := R.TIME_EV_TGT_LO n + (if hi then 4 else 0)
  let d := (d.wr off w).parityWritten off
  if d.flag (F.TIME_EV_CTL_ARM n) then d.evLate n else d

/-- A write of a channel's CYC: CFG_ERR follows. -/
def Dev.evCycWrite (n : Nat) (w : Word) (d : Dev) : Dev :=
  (((d.wr (R.TIME_EV_CYC n) (w &&& 0x00FFFFFF)).parityWritten (R.TIME_EV_CYC n)).evPassed n false).evCheck n

/-- The instant at which the armed channel fires next, if it does in this cycle (R112, R113). -/
def Dev.evDue (d : Dev) (n : Nat) : Option Nat :=
  if !d.flag (F.TIME_EV_CTL_ARM n) then none
  else match d.get (F.TIME_EV_CTL_MODE n) with
    | 1 => some (if (tget d.time.ev n).late then d.nowNs + 1 else d.get64 (R.TIME_EV_TGT_LO n))
    | 2 =>
      let t := d.time.cycStart + 25 * d.get (F.TIME_EV_CYC_PHASE n)
      if d.time.cycPh % d.evDiv n = 0 ∧ (tget d.time.ev n).fired ≠ some d.time.cycStart then some t else none
    | _ => none

/-- The channel fires (R112): its events, to which chapter 4 gives no fault class, and TRIGn driven for WIDTH. -/
def Dev.evFire (n t : Nat) (d : Dev) : Dev :=
  let late := (tget d.time.ev n).late
  let d := d.runTo t
  let one := d.get (F.TIME_EV_CTL_MODE n) = 1
  let d := if one then d.up (F.TIME_EV_CTL_ARM n) false else d
  let pe := if d.flag (F.TIME_EV_CTL_PIN_EN n)
    then some (d.upNs + 25 * max 1 (d.get (F.TIME_EV_CTL_WIDTH n))) else none
  let d := { d with time := { d.time with ev := tmod d.time.ev n (fun c =>
    { c with late := false, fired := some d.time.cycStart, pulseEnd := pe }) } }
  let d := if late then d.up (F.TIME_EV_STS_LATE_EVT n) true else d
  d.raise (F.TIME_EV_STS_FIRE_EVT n)

/-- The AIO pin given TIMER n (21 Table 21.2). -/
def Dev.timerPin (d : Dev) (n : Nat) : Option Nat := (d.io.fns.find? (fun f => f.use == .timer n)).map (·.pin)

/-- Is a ball the capture input of its channel? An AIO pin given TIMER n replaces TRIGn (21 Table 21.2), its bank supplied in range. -/
def Dev.captureAt (p : TrigAt) (d : Dev) : Bool :=
  match d.timerPin p.n with
  | none => p.aio.isNone
  | some pin => p.aio.map (·.val) == some pin && bitOf d.io.banks (pin / 32)

/-- An edge at the capture input of channel n (R112, R115): captured in capture mode when EDGE selects it; of two less than 10.0 ns apart the
second may be lost, here it is not captured (log entry 12). -/
def Dev.trigEdge (p : TrigAt) (rising : Bool) (t : Nat) (d : Dev) : Dev × Bool :=
  let n := p.n.val
  let d := d.runBelow t
  let e := d.get (F.TIME_EV_CTL_EDGE n)
  let sel := if rising then bitOf e 0 else bitOf e 1
  let near := match (tget d.time.ev n).lastEdge with | some l => decide (d.upAt t < l + 10) | none => false
  if d.captureAt p ∧ d.get (F.TIME_EV_CTL_MODE n) = 3 ∧ sel ∧ near = false then
    let ovr := d.flag (F.TIME_EV_STS_CAP_EVT n)
    let d := d.put64 (R.TIME_EV_CAP_LO n) d.nowNs
    let d := { d with time := { d.time with ev := tmod d.time.ev n (fun c => { c with lastEdge := some (d.upAt t) }) } }
    let d := if ovr then d.up (F.TIME_EV_STS_OVR_EVT n) true else d
    (d.raise (F.TIME_EV_STS_CAP_EVT n), true)
  else (d, false)

/-! The instants of the cycle (R110, Table 4.7). -/

/-- TIME runs to an instant of the cycle that began at the last CYC_START. -/
def Dev.runInCycle (ofs : Nat) (d : Dev) : Dev := d.runTo (d.time.cycStart + ofs)

/-- The event channels against a Tb that has come into use (R112). -/
def Dev.evChecks (d : Dev) : Dev := Dev.each (List.range 8) Dev.evCheck d

/-- CYC_START (R96, R22, R487): TIME_NOW reaches NEXT_CYC, NEXT_CYC advances by the Tb in use, and the counters advance. -/
def Dev.cycTick (d : Dev) : Dev :=
  let d := d.runTo d.time.nextCyc
  let d := match d.time.pendCfg with
    | some (tb, ic, m) => { d with time := { d.time with tb := tb, inCut := ic, m := m, pendCfg := none } }.evChecks
    | none => d
  { d with time := { d.time with
    cycStart := d.time.nextCyc, nextCyc := d.time.nextCyc + d.time.tb,
    cycno := (d.time.cycno + 1) % 2 ^ 32, cycPh := (d.time.cycPh + 1) % 1680,
    planPh := (d.time.planPh + 1) % d.time.m } }

/-- A base cycle without an accepted sync frame, on a follower that is integrated (R104). -/
def Dev.syncMiss (d : Dev) : Dev :=
  let miss := d.time.integrated && !d.time.syncSeen
  let d := { d with time := { d.time with syncSeen := false } }
  if miss then (d.cnt F.TIME_SERVO_CNT_SYNC_MISS).event0 F.TIME_SERVO_EVT_SYNC_MISS_EVT else d

/-! Corrected stamps (R98), in ps. -/

/-- Corrected ingress. -/
def Dev.ingress (d : Dev) (port : Nat) (stamp : Int) : Int := stamp - d.gets (F.TIME_ASYM_RX_ASYM port)

/-- Corrected egress. -/
def Dev.egress (d : Dev) (port : Nat) (stamp : Int) : Int := stamp + d.gets (F.TIME_ASYM_TX_ASYM port)

/-! Commands. -/

/-- NOM_TRIM_WRITE (R97). -/
def execNomTrimWrite (p : Port) (w : Word) (s : State) : Host.Outcome State Fault Refusal :=
  onDev (Dev.guarded R.TIME_INC_NOM (fun d => if nomTrimOk w then d.nomTrim w else d.illegal p R.TIME_INC_NOM)) s

/-- PPS_IN_EDGE (R106 to R108). -/
def execPpsInEdge (rising : Bool) (t : Nat) (s : State) : Host.Outcome State Fault Refusal := onDev (Dev.ppsEdge rising t) s

/-- TOD_ALIGN (R107). -/
def execTodAlign (s : State) : Host.Outcome State Fault Refusal :=
  onDev (fun d => (d.parityWritten R.TIME_PPS_CTL).todAlign) s

/-- PPS_LOSS (R108). -/
def execPpsLoss (t : Nat) (s : State) : Host.Outcome State Fault Refusal := onDev (Dev.ppsLoss t) s

/-- PPS_OUT_PULSE (R109). -/
def execPpsOutPulse (s : State) : Host.Outcome State Fault Refusal := onDev Dev.ppsOut s

/-- EV_MODE_WRITE (R112). -/
def execEvModeWrite (n : Fin 8) (w : Word) (s : State) : Host.Outcome State Fault Refusal := onDev (Dev.evCtlWrite n w) s

/-- EV_ARM (R112, R113). -/
def execEvArm (n : Fin 8) (s : State) : Host.Outcome State Fault Refusal := onDev (Dev.evArm n) s

/-- EV_TGT_WRITE (R114). -/
def execEvTgtWrite (n : Fin 8) (hi : Bool) (w : Word) (s : State) : Host.Outcome State Fault Refusal :=
  onDev (Dev.evTgtWrite n hi w) s

end Sys2Proof.Machine
end

