-- ==== Sys2Proof/Machine/Adc.lean ====
section
/-! DEFINITION. Analogue conversion (chapter 8): slots, sequences, injected conversions, calibration, results. -/
namespace Sys2Proof.Machine
open Sys2Proof.Config

/-- Change a converter's hidden state. -/
def Dev.modConv (c : Nat) (f : ConvSt → ConvSt) (d : Dev) : Dev := { d with adc := { d.adc with convs := tmod d.adc.convs c f } }

/-- Oscillator time in ps: 5,000 a TIME tick. -/
def Dev.oscPs (d : Dev) : Nat := 5000 * d.time.ticks

/-- TIME runs to an oscillator instant. -/
def Dev.runOsc (ps : Nat) (d : Dev) : Dev := d.tick ((ps + 4999) / 5000 - d.time.ticks)

/-- The first ADC clock (6.25 ns) at or after an instant (R196). -/
def adcClk (ps : Nat) : Nat := (ps + 6249) / 6250 * 6250

/-- Is a converter calibrating or waiting to? -/
def Dev.calRun (d : Dev) (c : Nat) : Bool := bitOf (d.get F.ADC_STS_CAL_RUN) c
def Dev.calWait (d : Dev) (c : Nat) : Bool := bitOf (d.get F.ADC_STS_CAL_WAIT) c

/-- Put one converter's bit of a mask field. -/
def Dev.putBit (f : Fld) (c : Nat) (b : Bool) (d : Dev) : Dev := d.put f (setBit (d.get f) c b)

/-! Slots (R194, R195, R201). -/

/-- The slots a job occupies, in ps: N + ACQX (R195). -/
def AdcJob.span (j : AdcJob) : Nat := 25000 * (j.convs.length + j.acqx)

/-- When each of the jobs begins if no injected conversion comes in between and the first free slot begins at e. -/
def jobStarts : Nat → List AdcJob → List Nat
  | _, [] => []
  | e, j :: r => max e j.notBefore :: jobStarts (max e j.notBefore + j.span) r

/-- The idle slots from the end of the last slot up to t: each converts a reference on its slice (R202). A slot that a re-phasing cuts
short is none. The slices rotate by one a conversion: the further slots of an extended acquisition begin none (log entry 80). -/
def ConvSt.idle (t : Nat) (k : ConvSt) : ConvSt :=
  let n := (t - k.slotEnd) / 25000
  { k with
    slotEnd := k.slotEnd + 25000 * n
    rot := (k.rot + n) % 4
    idleRun := k.idleRun + n
    toneRun := k.toneRun || decide (4 ≤ k.idleRun + n)
    winIdle := k.winIdle + n
    refs := (List.range 4).map (fun i => (i, tget k.refs i + (n + 3 - (i + 4 - k.rot) % 4) / 4)) }

/-- The conversions of a job on the slices from r on (R194, R195). -/
def onSlices (r : Nat) (l : List AdcConv) : List AdcConv := l.zipIdx.map (fun x => { x.1 with slice := (r + x.2) % 4 })

/-- When the next job of regular or reserved work would begin. -/
def ConvSt.workStart (k : ConvSt) : Option Nat := k.work.head?.map (fun j => max k.slotEnd j.notBefore)

/-- When the next injected conversion would begin: the first slot boundary at or after its arrival. -/
def ConvSt.injStart (k : ConvSt) : Option Nat :=
  k.inj.head?.map (fun x => if x.2 ≤ k.slotEnd then k.slotEnd else k.slotEnd + 25000 * ((x.2 - k.slotEnd + 24999) / 25000))

/-- What begins next, and when: true for an injected conversion. A queued request takes the next slot boundary (R201), be it the one to which
a job that starts off the grid re-phases it (R196): the job then moves one slot later (log entry 80). -/
def Dev.nextBegin (d : Dev) (c : Nat) : Option (Nat × Bool) :=
  let k := tget d.adc.convs c
  if d.calRun c then none
  else match k.injStart, (if d.calWait c then none else k.workStart) with
    | some i, some w => some (if i ≤ w then (i, true) else (w, k.inj.any (fun x => decide (x.2 ≤ w))))
    | some i, none => some (i, true)
    | none, some w => some (w, false)
    | none, none => none

/-- The waiting jobs whose slots an injected conversion from t on moves yield LATE results (R201). -/
def ConvSt.moveLate (t : Nat) (k : ConvSt) : List AdcJob :=
  (k.work.zip ((jobStarts k.slotEnd k.work).zip (jobStarts (t + 25000) k.work))).map
    (fun x => { x.1 with late := x.1.late || x.2.1 != x.2.2 })

/-- One begins at instant t. A result is written 100 ns after the sample instant, which ends the acquisition. -/
def ConvSt.begin (k : ConvSt) (t : Nat) (injected : Bool) : ConvSt :=
  let k := k.idle t
  if injected then
    { k with
      slotEnd := t + 25000, rot := (k.rot + 1) % 4, idleRun := 0, inj := k.inj.tail,
      begun := k.begun ++ [(t + 125000, ⟨(k.inj.headD (0, 0)).1, .injected, none, true, false, k.rot⟩, false)],
      work := k.moveLate t }
  else match k.work with
    | [] => k
    | j :: r => { k with
      slotEnd := t + j.span, rot := (k.rot + j.convs.length) % 4, idleRun := 0, work := r,
      begun := k.begun ++ (onSlices k.rot j.convs).map (fun x => (t + 25000 * (1 + j.acqx) + 100000, x, j.late)) }

/-- All that begins up to instant t, at most n jobs. -/
def Dev.pump (c t : Nat) : Nat → Dev → Dev
  | 0, d => d
  | n + 1, d =>
    match d.nextBegin c with
    | some (u, i) => if u ≤ t then Dev.pump c t n (d.modConv c (fun k => k.begin u i)) else d
    | none => d

/-- All that has begun before now, so that what the present instant still brings takes its place in the order of R197 and R201; the
slots since are idle, but in a calibration, which holds the slices. -/
def Dev.pumpNow (c : Nat) (d : Dev) : Dev :=
  let k := tget d.adc.convs c
  let d := d.pump c (d.oscPs - 1) (k.work.length + k.inj.length)
  if d.calRun c then d else d.modConv c (ConvSt.idle d.oscPs)

/-! Sequences and triggers (R196 to R198, Table 8.2). -/

/-- The conversions of one entry: a burst takes 2^BURST samples, stored as halfwords; the last one writes ADC_RES. -/
def entryConvs (seq idx : Nat) (e : AdcEntry) : List AdcConv :=
  if e.burst = 0 then [⟨e.input, .res seq idx, none, true, false, 0⟩]
  else (List.range (2 ^ e.burst)).map (fun i =>
    ⟨e.input, .res seq idx, some (e.buffer + 2 * i), decide (i + 1 = 2 ^ e.burst), false, 0⟩)

/-- The jobs of a sequence's entries: groups acquire together (R195); further burst samples follow one by one. -/
def seqJobs (seq t trig : Nat) : List (AdcEntry × Nat) → List (AdcEntry × Nat) → List AdcJob
  | _, [] => []
  | grp, (e, i) :: r =>
    if e.simul ∧ r ≠ [] then seqJobs seq t trig (grp ++ [(e, i)]) r
    else
      let g := grp ++ [(e, i)]
      let cs := g.map (fun x => entryConvs seq x.2 x.1)
      let first := cs.filterMap List.head?
      let more := cs.flatMap List.tail
      ⟨first, (g.head?.map (·.1.acqx)).getD 0, false, t, trig, seq + 1⟩ ::
        more.map (fun x => ⟨[x], 0, false, t, trig, seq + 1⟩) ++ seqJobs seq t trig [] r

/-- The last conversion of a job list is the last of its sequence. -/
def markLast (js : List AdcJob) : List AdcJob :=
  match js.reverse with
  | [] => []
  | j :: r => (r.reverse) ++ [{ j with convs := match j.convs.reverse with
    | [] => []
    | x :: y => y.reverse ++ [{ x with seqLast := true }] }]

/-- The jobs of a triggered sequence. -/
def Dev.jobsOf (d : Dev) (q : AdcSeq) : List AdcJob :=
  markLast (seqJobs q.seq (adcClk (d.oscPs + 6250 * q.delay)) d.time.ticks [] q.entries.zipIdx)

/-- Jobs take their place among the waiting ones: before those that the same TIME tick triggered and that come after them (R197: in one
ADC clock the reserved entries first, then the sequences in ascending number), and behind all others. -/
def placeJobs (trig ord : Nat) (js work : List AdcJob) : List AdcJob :=
  let after := fun (j : AdcJob) => j.trig == trig && decide (ord < j.ord)
  work.takeWhile (fun j => !after j) ++ js ++ work.dropWhile (fun j => !after j)

/-- Is a conversion one of a sequence? -/
def ofSeq (s : Nat) (x : AdcConv) : Bool := match x.dest with | .res q _ => q == s | _ => false

/-- Is a sequence still running or waiting (R197)? -/
def ConvSt.busySeq (k : ConvSt) (s : Nat) : Bool :=
  k.heldSeq.contains s || k.begun.any (fun x => ofSeq s x.2.1) || k.work.any (fun j => j.convs.any (ofSeq s))

/-- A trigger is dropped (R197). -/
def Dev.seqOvr (d : Dev) : Dev := (d.cnt F.ADC_CNT0_SEQ_OVR).event0 F.ADC_EVT_SEQ_OVR_EVT

/-- A sequence is triggered: during a calibration its first trigger is held (R206), otherwise R196 and R197. -/
def Dev.seqTrigger (q : AdcSeq) (d : Dev) : Dev :=
  let d := d.pumpNow q.conv
  let k := tget d.adc.convs q.conv
  if !k.ready then d
  else if d.calRun q.conv || d.calWait q.conv then
    (if k.heldSeq.contains q.seq then d.seqOvr else d.modConv q.conv (fun k => { k with heldSeq := k.heldSeq ++ [q.seq] }))
  else if k.busySeq q.seq then d.seqOvr
  else d.modConv q.conv (fun k => { k with work := placeJobs d.time.ticks (q.seq + 1) (d.jobsOf q) k.work })

/-- The reserved inputs of a converter at a trigger: 0 CYC_START, 1 HALF (Table 8.2). -/
def reservedInputs (c trig : Nat) : List Nat :=
  match c, trig with
  | 0, _ => [0x40]
  | 1, 0 => [0x41]
  | 2, 0 => [0x44, 0x45]
  | 3, 0 => [0x46, 0x47]
  | _, _ => []

/-- The jobs of a set of reserved entries. -/
def reservedJobs (c trig t tick : Nat) : List AdcJob :=
  (reservedInputs c trig).map (fun i => ⟨[⟨i, .reserved, none, true, false, 0⟩], 0, false, t, tick, 0⟩)

/-- The reserved entries of a trigger (R197, R206). -/
def Dev.reservedTrigger (c trig : Nat) (d : Dev) : Dev :=
  let d := d.pumpNow c
  let k := tget d.adc.convs c
  if !k.ready || reservedInputs c trig == [] then d
  else if d.calRun c || d.calWait c then
    (if k.heldRes.contains trig then d.seqOvr else d.modConv c (fun k => { k with heldRes := k.heldRes ++ [trig] }))
  else d.modConv c (fun k => { k with
    work := placeJobs d.time.ticks 0 (reservedJobs c trig (adcClk d.oscPs) d.time.ticks) k.work })

/-- A trigger reaches ADC: 0 CYC_START, 1 HALF, 8 to 15 TEV0 to TEV7. Reserved entries run first, then the sequences in ascending
number. -/
def Dev.adcTrigger (trig : Nat) (d : Dev) : Dev :=
  let d := if trig < 2 then Dev.each (List.range 4) (fun c d => d.reservedTrigger c trig) d else d
  Dev.each ((d.adc.cfg.seqs.filter (fun q => q.trigger == trig)).mergeSort (fun a b => a.seq ≤ b.seq)) Dev.seqTrigger d

/-! Injected conversions (R199 to R201). -/

/-- A request takes its place in the queue: in arrival order, and among those of one ADC clock by ascending input. -/
def placeInj (n t : Nat) (q : List (Nat × Nat)) : List (Nat × Nat) :=
  let after := fun (x : Nat × Nat) => adcClk x.2 == adcClk t && decide (n < x.1)
  q.takeWhile (fun x => !after x) ++ [(n, t)] ++ q.dropWhile (fun x => !after x)

/-- A request for an input: queued, merged or lost. A differential pair uses its even input. -/
def Dev.injRequest (n : Nat) (d : Dev) : Dev :=
  let n := if d.flag (F.ADC_INCFG_DIFF (n / 2 * 2)) then n / 2 * 2 else n
  let c := n / 16
  let d := d.pumpNow c
  let k := tget d.adc.convs c
  if !k.ready then d
  else if k.inj.any (fun x => x.1 == n) then d.cnt F.ADC_CNT1_INJ_MERGE
  else if 4 ≤ k.inj.length then (d.cnt F.ADC_CNT0_INJ_OVF).event0 F.ADC_EVT_INJ_OVF_EVT
  else d.modConv c (fun k => { k with inj := placeInj n d.oscPs k.inj })

/-- The voltage of a threshold DAC's code, in nV (R199). -/
def cmpDac (diff : Bool) (t : Nat) : Int := if diff then ((t : Int) - 128) * 14062500 else (t : Int) * 7031250

/-- A window comparator's condition at an input of v nV (R199): outside is above HI or below LO, inside is between them. A condition
that is true turns false one DAC step beyond the threshold that made it true: the hysteresis, whose side the spec leaves open (DESIGN
CHOICE, log entry 80). -/
def cmpCond (mode : Nat) (diff was : Bool) (lo hi : Nat) (v : Int) : Bool :=
  let h : Int := if was then cmpDac diff 1 - cmpDac diff 0 else 0
  match mode with
  | 1 => decide (cmpDac diff hi - h < v ∨ v < cmpDac diff lo + h)
  | 2 => decide (cmpDac diff lo - h ≤ v ∧ v ≤ cmpDac diff hi + h)
  | _ => false

/-- A window comparator sees v nV at its input (R199): when its condition becomes true, CMP_EVT, class F0, and a request. It works while
PD_ADC is on; the odd input of a differential pair uses none. -/
def Dev.cmpEvent (n : Nat) (v : Int) (t : Nat) (d : Dev) : Dev :=
  let d := d.runTo t
  if bitOf d.pwr.off 2 || (n % 2 == 1 && d.flag (F.ADC_INCFG_DIFF (n - 1))) then d
  else
    let was := bitOf d.adc.cmp n
    let now := cmpCond (d.get (F.ADC_INCFG_CMP_MODE n)) (d.flag (F.ADC_INCFG_DIFF (n / 2 * 2))) was
      (d.get (F.ADC_INCFG_LO n)) (d.get (F.ADC_INCFG_HI n)) v
    let d := { d with adc := { d.adc with cmp := setBit d.adc.cmp n now } }
    if now && !was then (d.record .report (R.ADC_EVT * 32 + 9) 0 0 false none).injRequest n else d

/-! Results (R193, R207 to R209). -/

/-- The code nearest an input voltage in nV, half up, saturated (R193). It is the corrected code: the trims of the slice are what turns
its raw code, which nothing shows, into it (R202, R194). -/
def adcCode (diff : Bool) (nv : Int) : Int :=
  let num := (if diff then nv else nv - 900000000) * 32768
  let den : Int := if diff then 1800000000 else 900000000
  satI 16 ((2 * num + den).fdiv (2 * den))

/-- The coarse over-range detector (R208). -/
def adcOvr (diff : Bool) (nv : Int) : Bool :=
  if diff then decide (1818000000 < nv.natAbs) else decide (1818000000 < nv ∨ nv < -18000000)

/-- VBUS and VHOLD in 10 mV units from a code (R209). -/
def supplyVolt (code : Int) : Nat := ((2 * (32768 + code) * 3600 + 32768).fdiv 65536).toNat

/-- OPEN of an input after a pulled result (R207), with the class its configuration names (Table 8.3). -/
def Dev.openTest (n : Nat) (d : Dev) : Dev :=
  match tget d.adc.lastUp n, tget d.adc.lastDown n with
  | some u, some l =>
    let m : Int := 64 * d.get (F.ADC_INCFG_OW_MARGIN n)
    let isOpen := decide (32767 - m ≤ u ∧ l ≤ -32768 + m)
    if isOpen then
      (if d.flag (F.ADC_INCFG_OPEN n) then d
       else
        let d := (d.up (F.ADC_INCFG_OPEN n) true).raise F.ADC_EVT_OPEN_EVT
        let (cls, axes) := match d.adc.cfg.openClass.find? (fun x => x.1 == n) with
          | some (_, c, a) => (c, a)
          | none => (0, 0)
        d.fault .openWire n cls axes true (some F.ADC_EVT_OPEN_EVT))
    else (d.up (F.ADC_INCFG_OPEN n) false).causeOff .openWire n
  | _, _ => d

/-- The pull current of a conversion of input n: none, or some down (R207). -/
def Dev.pullOf (d : Dev) (n : Nat) : Option Bool :=
  match d.get (F.ADC_INCFG_PULL n) with
  | 0 => none
  | 1 => some false
  | 2 => some true
  | _ => some (d.adc.pullDown.contains n)

/-- A pulled result is remembered, an alternating pull reverses, and the wire is tested. -/
def Dev.pulled (n : Nat) (down : Bool) (code : Int) (d : Dev) : Dev :=
  let a := d.adc
  let flip := if a.pullDown.contains n then a.pullDown.filter (· != n) else n :: a.pullDown
  let d := { d with adc := { a with
    lastUp := if down then a.lastUp else tput a.lastUp n (some code),
    lastDown := if down then tput a.lastDown n (some code) else a.lastDown,
    pullDown := if d.get (F.ADC_INCFG_PULL n) = 3 then flip else a.pullDown } }
  d.openTest n

/-- A divider's conversion counts an over-range like any other (R208); it has no OVR_EVT_EN. -/
def Dev.supplyOvr (v : Int) (d : Dev) : Dev := if adcOvr false v then d.cnt F.ADC_CNT1_OVR_CNT else d

/-- A reserved measurement (R209): v is the divider's input in nV, or a temperature in 1/16 °C. -/
def Dev.reservedResult (input : Nat) (v : Int) (d : Dev) : Dev :=
  match input with
  | 0x40 => (d.supplyOvr v).put F.ADC_VBUS_VOLT (supplyVolt (adcCode false v))
  | 0x41 => (d.supplyOvr v).put F.ADC_VHOLD_VOLT (supplyVolt (adcCode false v))
  | n => d.puts (F.ADC_TEMP_TEMP (n - 0x44)) v

/-- The axes whose current stage a sequence starts are ready once its last result is written (R197). -/
def Dev.stageReady (c s : Nat) (d : Dev) : Dev :=
  Dev.each (d.loop.cfg.filter (fun x => x.seqConv == c && x.seqNum == s)) (fun x d =>
    { d with loop := { d.loop with ax := tmod d.loop.ax x.axis (fun a => { a with stageReady := true }) } }) d

/-- A regular or injected result is written (R194, R201, R207, R208). The input's voltage v is in nV. -/
def Dev.adcResult (c : Nat) (x : AdcConv) (late : Bool) (v : Int) (d : Dev) : Dev :=
  match x.dest with
  | .reserved => d.reservedResult x.input v
  | dst =>
    let n := x.input
    let diff := d.flag (F.ADC_INCFG_DIFF (n / 2 * 2))
    let code := adcCode diff v
    let ovr := adcOvr diff v
    let pull := d.pullOf n
    let inj := dst = .injected
    let w := b2n inj * 2 ^ 31 + n * 2 ^ 24 + b2n late * 2 ^ 18 + b2n pull.isSome * 2 ^ 17 + b2n ovr * 2 ^ 16 + uNat 16 code
    let d := match dst with
      | .res s e => if x.final then d.wr (R.ADC_RES c s e) (BitVec.ofNat 32 w) else d
      | _ => (d.wr (R.ADC_INJ n) (BitVec.ofNat 32 w)).event0 F.ADC_EVT_INJ_EVT
    let d := if ovr then d.cnt F.ADC_CNT1_OVR_CNT else d
    let d := if ovr && d.flag (F.ADC_INCFG_OVR_EVT_EN n) then d.event0 F.ADC_EVT_OVR_EVT else d
    let d := match pull with | some down => d.pulled n down code | none => d
    match dst with
    | .res s _ => if x.seqLast then d.stageReady c s else d
    | _ => d

/-- The conversion whose result is written next: when, which, LATE. -/
def Dev.nextResult (c : Nat) (d : Dev) : Option (Nat × AdcConv × Bool) × Dev :=
  let d := d.pumpNow c
  let d := if (tget d.adc.convs c).begun = [] then
      (match d.nextBegin c with | some (u, _) => d.pump c u 1 | none => d) else d
  ((tget d.adc.convs c).begun.head?, d)

/-- The stored sample of a burst (R198). -/
def Dev.burstSample (d : Dev) (x : AdcConv) (v : Int) : Option (Nat × List Byte) :=
  x.store.map (fun a => (a, leBytes 2 (uNat 16 (adcCode (d.flag (F.ADC_INCFG_DIFF (x.input / 2 * 2))) v))))

/-! Calibration (R202 to R206). -/

/-- A calibration event with its REASON and converter. -/
def Dev.calEvent (f : Fld) (c reason : Nat) (d : Dev) : Dev :=
  let d := d.put F.ADC_EVT_CAL_CONV c
  let d := if reason = 0 then d else d.put F.ADC_EVT_REASON reason
  d.event0 f

/-- Does an enabled direct axis take a current or VBUS from a converter (R204)? -/
def Dev.calAxis (d : Dev) (c : Nat) : Bool :=
  d.loop.cfg.any (fun x => x.axis < 32 && d.get (F.LOOP_CFG_TOPO x.axis) == 1 && d.flag (F.LOOP_CTL_EN x.axis)
    && (c == 0 || x.phases.any (fun p => p.1 == c)))

/-- A CAL bit is written (R204); it has no effect while PD_ADC is off (03 R88). -/
def Dev.calRequest (c : Nat) (d : Dev) : Dev :=
  if bitOf d.pwr.off 2 || bitOf (d.get F.ADC_CTL_CAL) c then d
  else if d.calAxis c then d.calEvent F.ADC_EVT_CAL_REFUSED_EVT c 1
  else
    let d := d.pumpNow c
    ((d.putBit F.ADC_CTL_CAL c true).putBit F.ADC_STS_CAL_WAIT c true).modConv c (fun k =>
      { k with aborts := 0, waitFrom := d.oscPs, calStep := 0 })

/-- A write of ADC_CTL. -/
def Dev.adcCal (m : Nat) (d : Dev) : Dev := Dev.each (onesBelow 4 m) Dev.calRequest d

/-- The slot boundary at or after now. -/
def Dev.nextSlot (d : Dev) (c : Nat) : Nat :=
  let e := (tget d.adc.convs c).slotEnd
  e + 25000 * ((d.oscPs - e + 24999) / 25000)

/-- May a waiting calibration start: the queue is empty and nothing begun is unfinished (R205)? -/
def Dev.calFree (d : Dev) (c : Nat) : Bool := d.calWait c && (tget d.adc.convs c).inj == [] && (tget d.adc.convs c).begun == []

/-- The calibration starts at the next slot boundary (R205). -/
def Dev.calStart (c : Nat) (d : Dev) : Dev :=
  let d := d.pumpNow c
  if d.calFree c then
    let t := d.nextSlot c
    (((d.runOsc t).putBit F.ADC_STS_CAL_WAIT c false).putBit F.ADC_STS_CAL_RUN c true).modConv c (fun k =>
      { k.idle t with calStep := 1, calFrom := t })
  else d

/-- The calibration ends or is abandoned: the paused remainders run first, then the held reserved entries, then the held sequences;
every result of this work carries LATE (R206). -/
def Dev.calEnd (c : Nat) (d : Dev) : Dev :=
  let d := ((d.putBit F.ADC_STS_CAL_WAIT c false).putBit F.ADC_STS_CAL_RUN c false).putBit F.ADC_CTL_CAL c false
  let k := tget d.adc.convs c
  let t := adcClk d.oscPs
  let held := (k.heldRes.mergeSort (· ≤ ·)).flatMap (fun r => reservedJobs c r t d.time.ticks)
    ++ (k.heldSeq.mergeSort (· ≤ ·)).flatMap (fun s =>
      (d.adc.cfg.seqs.filter (fun q => q.conv == c && q.seq == s)).flatMap (fun q => d.jobsOf { q with delay := 0 }))
  d.modConv c (fun k => { k with
    work := (k.work ++ held).map (fun j => { j with late := true, ord := 0 }), heldRes := [], heldSeq := [], calStep := 0, aborts := 0 })

/-- The end of the step in progress: 1.25 µs each (R203). -/
def ConvSt.stepEnd (k : ConvSt) : Nat := k.calFrom + 1250000 * k.calStep

/-- A step ends: an injected request that waits aborts the calibration (R205). -/
def Dev.calStepEnd (c : Nat) (d : Dev) : Dev :=
  let k := tget d.adc.convs c
  if !d.calRun c then d
  else
    let d := d.runOsc k.stepEnd
    if k.inj = [] then d.modConv c (fun k => { k with calStep := min 16 (k.calStep + 1) })
    else
      let d := ((d.cnt F.ADC_CNT1_CAL_ABORT).calEvent F.ADC_EVT_CAL_ABORT_EVT c 0).modConv c (fun k =>
        { k with slotEnd := k.stepEnd })
      if k.aborts + 1 = 8 then (d.calEvent F.ADC_EVT_CAL_FAIL_EVT c 3).calEnd c
      else
        ((d.putBit F.ADC_STS_CAL_RUN c false).putBit F.ADC_STS_CAL_WAIT c true).modConv c (fun k =>
          { k with calStep := 0, aborts := k.aborts + 1, waitFrom := k.stepEnd })

/-- New offset and gain of a slice: what a calibration or the background correction measures is a free value (R202). -/
def Dev.newTrims (k : Nat) (d : Dev) : Dev :=
  let (w, d) := d.draw (2 ^ 24)
  d.wr (R.ADC_SLICE k) (BitVec.ofNat 32 (putBits (d.rd (R.ADC_SLICE k)).toNat 23 0 w))

/-- A new sampling delay of a slice, from -127 ps to +127 ps (R202). -/
def Dev.newSkew (k : Nat) (d : Dev) : Dev :=
  let (n, d) := d.draw 255
  d.puts (F.ADC_SLICE_SKEW k) ((n : Int) - 127)

/-- New trims of every kind in the four slices of a converter. -/
def Dev.newSlices (c : Nat) (d : Dev) : Dev := Dev.each (List.range 4) (fun i d => (d.newTrims (4 * c + i)).newSkew (4 * c + i)) d

/-- Step 16 ends (R203): the new trims load in all four slices at once, or the calibration fails with RANGE. -/
def Dev.calDone (c : Nat) (ok : Bool) (d : Dev) : Dev :=
  let k := tget d.adc.convs c
  if !d.calRun c || k.calStep != 16 || k.inj != [] then d
  else
    let d := d.runOsc k.stepEnd
    let d := if ok then (d.newSlices c).calEvent F.ADC_EVT_CAL_DONE_EVT c 0
      else d.calEvent F.ADC_EVT_CAL_FAIL_EVT c 4
    (d.modConv c (fun k => { k with slotEnd := k.stepEnd, refs := [], toneRun := false, idleRun := 0 })).calEnd c

/-- A wait longer than 1 ms (R205): a request or a conversion still holds the calibration off, and the command ends; where none does,
the calibration starts. -/
def Dev.calWaitTimeout (c : Nat) (d : Dev) : Dev :=
  if d.calWait c then
    let d := (d.runOsc ((tget d.adc.convs c).waitFrom + 1000000000)).pumpNow c
    if d.calFree c then d.calStart c else (d.calEvent F.ADC_EVT_CAL_REFUSED_EVT c 2).calEnd c
  else d

/-- One converter's share of that: the trims load, or fall outside their ranges (a free choice), and the event says which. -/
def Dev.switchOnCal (c : Nat) (d : Dev) : Dev :=
  let (r, d) := d.draw 2
  if r = 0 then d.calEvent F.ADC_EVT_CAL_FAIL_EVT c 4
  else (d.newSlices c).calEvent F.ADC_EVT_CAL_DONE_EVT c 0

/-- The foreground calibration of all four converters when PD_ADC switches on (R203, R204), and with it a fresh grid and the first
10 ms window. The commands
that call it stand for instants at which it has ended: the march test outlasts it, and an exit from PARK waits for it (19 R444). -/
def Dev.adcSwitchOn (d : Dev) : Dev :=
  let d := Dev.each (List.range 4) Dev.switchOnCal d
  Dev.each (List.range 4) (fun c d => d.modConv c (fun _ => { (default : ConvSt) with ready := true, slotEnd := adcClk d.oscPs, winStart := d.oscPs })) d

/-- The slots of a 10 ms window. -/
def windowSlots : Nat := 400000

/-- A converter at the end of its 10 ms window. -/
def Dev.windowEnd (d : Dev) (c : Nat) : Dev := (d.runOsc ((tget d.adc.convs c).winStart + 10000000000)).pumpNow c

/-- The end of a 10 ms window, idle of its total slots idle: fewer than 10 % of them were idle, or not (R202). No window ends with other
counts than the converter has made (log entry 5). -/
def Dev.bgWindow (c idle total : Nat) (d : Dev) : Dev :=
  if !(tget d.adc.convs c).ready || total != windowSlots || idle != (tget (d.windowEnd c).adc.convs c).winIdle then d
  else
    ((d.windowEnd c).putBit F.ADC_STS_BG_STARVED c (decide (10 * idle < total))).modConv c (fun k =>
      { k with winStart := k.winStart + 10000000000, winIdle := 0 })

/-- The background correction updates a slice's offset and gain once 256 reference conversions on it are done, or, from a run of 4 idle
slots on the tone, the sampling delays of all four slices of its converter; the trims of a starved converter hold (R202). Which of the
references an idle slot converts the spec leaves open: any run of 4 may be on the tone (log entry 80). -/
def Dev.bgTrim (k : Nat) (skew : Bool) (d : Dev) : Dev :=
  let c := k / 4
  let d := d.pumpNow c
  let s := tget d.adc.convs c
  if bitOf (d.get F.ADC_STS_BG_STARVED) c || !s.ready then d
  else if skew then
    (if s.toneRun then (Dev.each (List.range 4) (fun i d => d.newSkew (4 * c + i)) d).modConv c (fun s =>
      { s with toneRun := false, idleRun := 0 }) else d)
  else if 256 ≤ tget s.refs (k % 4) then
    (d.newTrims k).modConv c (fun s => { s with refs := tput s.refs (k % 4) (tget s.refs (k % 4) - 256) })
  else d

/-! Commands. -/

/-- RSEQ_TRIGGER (R196, R197). -/
def execRseqTrigger (c q : Fin 4) (s : State) : Host.Outcome State Fault Refusal :=
  onDev (fun d => match d.adc.cfg.seqs.find? (fun x => x.conv == c.val && x.seq == q.val) with
    | some x => d.seqTrigger x
    | none => d) s

/-- CONVERSION_DONE (R194): the next result of converter c, for an input of v nV (a temperature: 1/16 °C). -/
def execConversionDone (c : Fin 4) (v : Int) (s : State) : Host.Outcome State Fault Refusal :=
  let (r, d) := s.dev.nextResult c
  match r with
  | none => done { s with dev := d }
  | some (t, x, late) =>
    let d := (d.runOsc t).modConv c (fun k => { k with begun := k.begun.tail })
    let m := match d.burstSample x v with | some (a, bs) => s.mem.putBytes sramReset a bs | none => s.mem
    done { s with dev := d.adcResult c x late v, mem := m }

/-- CMP_EVENT (R199). -/
def execCmpEvent (n : Fin 64) (v : VoltAt) (s : State) : Host.Outcome State Fault Refusal := onDev (Dev.cmpEvent n v.nv v.t) s

/-- ADC_CAL (R204). -/
def execAdcCal (m : BitVec 4) (s : State) : Host.Outcome State Fault Refusal := onDev (Dev.adcCal m.toNat) s

/-- CAL_START (R205). -/
def execCalStart (c : Fin 4) (s : State) : Host.Outcome State Fault Refusal := onDev (Dev.calStart c) s

/-- CAL_STEP_END (R205). -/
def execCalStepEnd (c : Fin 4) (s : State) : Host.Outcome State Fault Refusal := onDev (Dev.calStepEnd c) s

/-- CAL_DONE (R203). -/
def execCalDone (c : Fin 4) (ok : Bool) (s : State) : Host.Outcome State Fault Refusal := onDev (Dev.calDone c ok) s

/-- CAL_WAIT_TIMEOUT (R205). -/
def execCalWaitTimeout (c : Fin 4) (s : State) : Host.Outcome State Fault Refusal := onDev (Dev.calWaitTimeout c) s

/-- BG_WINDOW_END (R202). -/
def execBgWindowEnd (c : Fin 4) (idle total : Nat) (s : State) : Host.Outcome State Fault Refusal := onDev (Dev.bgWindow c idle total) s

/-- BG_TRIM_UPDATE (R202). -/
def execBgTrimUpdate (k : Fin 16) (skew : Bool) (s : State) : Host.Outcome State Fault Refusal := onDev (Dev.bgTrim k skew) s

end Sys2Proof.Machine
end

