-- ==== Sys2Proof/Machine/Crypto.lean ====
section
/-! DEFINITION. SHA-256 and the verification of an ECDSA signature on curve P-256, as FIPS 180-4 and FIPS 186-4 define them (02 R43,
R44; the standards' constants are PRESUMED, log entry 7). -/
namespace Sys2Proof.Machine

/-! SHA-256, on packed numbers: a block is one number of 512 bits and the eight working words one of 256, the first word in the top bits.
The standard defines its constants as the first 32 bits of the fractions of the roots of the first primes: they are computed here. -/

/-- Word i of a packed number, counted from the low end. -/
def packedWord (x i : Nat) : Nat := x / 2 ^ (32 * i) % 2 ^ 32

/-- The largest number below 2^36 whose k-th power is at most n, bit by bit. -/
def rootFloor (k n : Nat) : Nat :=
  (List.range 36).foldl (fun r i => if (r + 2 ^ (35 - i)) ^ k ≤ n then r + 2 ^ (35 - i) else r) 0

/-- The first 64 primes. -/
def primes64 : List Nat := ((List.range 312).drop 2).filter (fun n => (List.range 16).all (fun d => n ≤ d + 2 || n % (d + 2) != 0))

/-- The first 32 bits of the fraction of the k-th root of n. -/
def rootBits (k n : Nat) : Nat := rootFloor k (n * 2 ^ (32 * k)) % 2 ^ 32

/-- The round constants: cube roots. -/
def shaK : List Nat := primes64.map (rootBits 3)

/-- The initial hash value: the square roots of the first eight primes. -/
def shaH : Nat := (primes64.take 8).foldl (fun h p => h * 2 ^ 32 + rootBits 2 p) 0

/-- The exclusive or of a word's rotations to the right by the amounts given, and of one more word. -/
def spun (x : Nat) (by_ : List Nat) (more : Nat) : Nat :=
  by_.foldl (fun y n => Nat.xor y (x * (2 ^ 32 + 1) / 2 ^ n % 2 ^ 32)) more

/-- The window of sixteen schedule words moved on by one. -/
def shaSlide (w : Nat) : Nat :=
  let old := packedWord w 14
  let late := packedWord w 1
  w % 2 ^ 480 * 2 ^ 32
    + (packedWord w 15 + packedWord w 6 + spun old [7, 18] (old / 8) + spun late [17, 19] (late / 1024)) % 2 ^ 32

/-- One round: the working words with the constant and the window's first word. -/
def shaMix (v k w : Nat) : Nat :=
  let at' := packedWord v
  let pick := Nat.xor (at' 1) (Nat.land (at' 3) (Nat.xor (at' 2) (at' 1)))
  let most := Nat.lor (Nat.land (at' 7) (Nat.lor (at' 6) (at' 5))) (Nat.land (at' 6) (at' 5))
  let t := k + packedWord w 15 + pick + at' 0 + spun (at' 3) [6, 11, 25] 0
  (t + most + spun (at' 7) [2, 13, 22] 0) % 2 ^ 32 * 2 ^ 224 + v / 2 ^ 160 * 2 ^ 128
    + (at' 4 + t) % 2 ^ 32 * 2 ^ 96 + v / 2 ^ 32 % 2 ^ 96

/-- The hash value after one more block. -/
def shaAbsorb (h blk : Nat) : Nat :=
  let v := (shaK.foldl (fun s k => (shaMix s.1 k s.2, shaSlide s.2)) (h, blk)).1
  (List.range 8).foldl (fun r i => r + (packedWord h i + packedWord v i) % 2 ^ 32 * 2 ^ (32 * i)) 0

/-- SHA-256 of a byte list: its bytes, a 1 bit, zeros and the length in bits fill whole blocks. -/
def sha256 (bs : List Byte) : List Byte :=
  let blocks := (bs.length + 72) / 64
  let all := (beNat bs * 256 + 0x80) * 2 ^ (8 * (64 * blocks - bs.length - 1)) + 8 * bs.length % 2 ^ 64
  beBytes 32 ((List.range blocks).foldl (fun h i => shaAbsorb h (all / 2 ^ (512 * (blocks - 1 - i)) % 2 ^ 512)) shaH)

/-! P-256. -/

/-- The field prime, the coefficient b, the order and the base point. -/
def p256P : Nat := 0xffffffff00000001000000000000000000000000ffffffffffffffffffffffff
def p256B : Nat := 0x5ac635d8aa3a93e7b3ebbd55769886bc651d06b0cc53b0f63bce3c3e27d2604b
def p256N : Nat := 0xffffffff00000000ffffffffffffffffbce6faada7179e84f3b9cac2fc632551
def p256G : Nat × Nat × Nat :=
  (0x6b17d1f2e12c4247f8bce6e563a440f277037d812deb33a0f4a13945d898c296,
   0x4fe342e2fe1a7f9b8ee7eb4a7c0f9e162bce33576b315ececbb6406837bf51f5, 1)

/-- b^e mod m, for e below 2^256. -/
def powMod (b e m : Nat) : Nat :=
  (List.range 256).foldl (fun r i => let r := r * r % m; if bitOf e (255 - i) then r * b % m else r) 1

/-- Double a point in Jacobian coordinates (Z = 0: the point at infinity). -/
def ecDouble (a : Nat × Nat × Nat) : Nat × Nat × Nat :=
  let (x, y, z) := a
  let p := p256P
  let yy := y * y % p
  let s := 4 * x * yy % p
  let zz := z * z % p
  let m := 3 * (x + p - zz) * (x + zz) % p
  let x' := (m * m + 2 * (p - s)) % p
  (x', (m * (s + p - x') + 8 * (p - yy * yy % p)) % p, 2 * y * z % p)

/-- Add two points in Jacobian coordinates. -/
def ecAdd (a b : Nat × Nat × Nat) : Nat × Nat × Nat :=
  let (x1, y1, z1) := a
  let (x2, y2, z2) := b
  let p := p256P
  if z1 = 0 then b
  else if z2 = 0 then a
  else
    let u1 := x1 * (z2 * z2 % p) % p
    let u2 := x2 * (z1 * z1 % p) % p
    let s1 := y1 * (z2 * z2 % p * z2 % p) % p
    let s2 := y2 * (z1 * z1 % p * z1 % p) % p
    if u1 = u2 then (if s1 = s2 then ecDouble a else (1, 1, 0))
    else
      let h := (u2 + p - u1) % p
      let r := (s2 + p - s1) % p
      let hh := h * h % p
      let hhh := hh * h % p
      let v := u1 * hh % p
      let x := (r * r + (p - hhh) + 2 * (p - v)) % p
      (x, (r * (v + p - x) + (p - s1 * hhh % p)) % p, z1 * z2 % p * h % p)

/-- k times a point. -/
def ecMul (k : Nat) (a : Nat × Nat × Nat) : Nat × Nat × Nat :=
  (List.range 256).foldl (fun r i => let r := ecDouble r; if bitOf k (255 - i) then ecAdd r a else r) (1, 1, 0)

/-- Does a signature (r, s) by a public key (X, Y) verify for a digest? -/
def ecdsaOk (key digest sig : List Byte) : Bool :=
  let x := beNat (key.take 32)
  let y := beNat (key.drop 32)
  let r := beNat (sig.take 32)
  let s := beNat (sig.drop 32)
  let p := p256P
  let n := p256N
  decide (x < p ∧ y < p ∧ y * y % p = (x * x % p * x + (p - 3) * x + p256B) % p ∧ 0 < r ∧ r < n ∧ 0 < s ∧ s < n) &&
    (let w := powMod s (n - 2) n
     let (px, _, pz) := ecAdd (ecMul (beNat digest * w % n) p256G) (ecMul (r * w % n) (x, y, 1))
     let zi := powMod pz (p - 2) p
     pz != 0 && px * (zi * zi % p) % p % n == r)

end Sys2Proof.Machine
end

