-- ==== Sys2Proof/Machine/Line.lean ====
section
/-! DEFINITION. The line of a port (05 R120 to R124, R141, R142): 8b/10b code-groups with running disparity, the receiver that tracks them,
idle sets, and the test patterns. The code tables are those of IEEE 802.3 Clause 36, which R120 names (log entry 77). -/
namespace Sys2Proof.Machine

/-! Code-groups: ten bits, bit a the most significant; a running disparity is true where it is positive. -/

/-- abcdei of D0 to D31 at negative running disparity. -/
def sub6 : List Nat :=
  [0b100111, 0b011101, 0b101101, 0b110001, 0b110101, 0b101001, 0b011001, 0b111000,
   0b111001, 0b100101, 0b010101, 0b110100, 0b001101, 0b101100, 0b011100, 0b010111,
   0b011011, 0b100011, 0b010011, 0b110010, 0b001011, 0b101010, 0b011010, 0b111010,
   0b110011, 0b100110, 0b010110, 0b110110, 0b001110, 0b101110, 0b011110, 0b101011]

/-- fghj of .0 to .7 at negative running disparity. -/
def sub4 : List Nat := [0b1011, 0b1001, 0b0101, 0b1100, 0b1101, 0b1010, 0b0110, 0b1110]

/-- Has a sub-block of w bits as many ones as zeros? -/
def balanced (w v : Nat) : Bool := 2 * (onesBelow w v).length == w

/-- A sub-block of w bits as sent at a running disparity, and the disparity after it; alt: at positive disparity it is complemented. -/
def subSend (w : Nat) (rd alt : Bool) (v : Nat) : Nat × Bool :=
  (if rd && alt then 2 ^ w - 1 - v else v, if balanced w v then rd else !rd)

/-- The special code-groups in use: K28.5, K27.7, K29.7, K30.7 (Table 5.1). -/
def legalK : List Nat := [0xBC, 0xFB, 0xFD, 0xFE]

/-- The code-group of an octet, special or not, and the running disparity after it. -/
def code10 (rd k : Bool) (b : Nat) : Nat × Bool :=
  let x := b % 32
  let y := b / 32 % 8
  let v6 := if k && x == 28 then 0b001111 else sub6.getD x 0
  let (s6, r) := subSend 6 rd (!balanced 6 v6 || x == 7) v6
  let far := if r then [11, 13, 14].contains x else [17, 18, 20].contains x
  let v4 := if k then (if x = 28 then 0b0101 else 0b0111) else if y = 7 ∧ far then 0b0111 else sub4.getD y 0
  let (s4, r) := subSend 4 r (k || !balanced 4 v4 || y == 3) v4
  (16 * s6 + s4, r)

/-- The running disparity after a valid code-group received at rd; none: an invalid code-group or a disparity error. -/
def decode10 (rd : Bool) (g : Nat) : Option Bool :=
  let as_ := fun (k : Bool) (b : Nat) => let (v, r) := code10 rd k b; if v = g then some r else none
  (legalK.findSome? (as_ true)).or ((List.range 256).findSome? (as_ false))

/-- COM as it arrives on a lane that is not inverted, from the idle sets of R121, and on one that is. -/
def comma (inv : Bool) : Nat := if inv then 0b1100000101 else 0b0011111010

/-- A receiver in TRAIN takes a code-group at a bit position (R122): COMs in a row at one position, no invalid code-group between them. -/
def LaneRx.train (pos g : Nat) (r : LaneRx) : LaneRx :=
  let valid := fun v => (decode10 false v).isSome || (decode10 true v).isSome
  if g = comma false ∨ g = comma true then
    let on := decide (r.coms ≠ 0 ∧ r.pos = pos)
    { r with coms := if on then r.coms + 1 else 1, pos := pos, inv := (!on || r.inv) && g == comma true }
  else if valid g || valid (1023 - g) then r
  else { r with coms := 0 }

/-- Alignment reached: ERRRUN is 0, and the last COM left its running disparity. -/
def LaneRx.aligned (r : LaneRx) : LaneRx := { r with coms := 0, errRun := 0, okRun := 0, rd := true }

/-- An aligned receiver takes a code-group (R122); the second component says whether it counts as an error. An invalid code-group leaves
the running disparity to its ones (IEEE 802.3 Clause 36). -/
def LaneRx.track (g : Nat) (r : LaneRx) : LaneRx × Bool :=
  let g := if r.inv then 1023 - g else g
  match decode10 r.rd g with
  | some rd => ({ r with rd := rd, okRun := r.okRun + 1, errRun := if 4 ≤ r.okRun + 1 then 0 else r.errRun }, false)
  | none =>
    let n := (onesBelow 10 g).length
    ({ r with rd := if n = 5 then r.rd else decide (5 < n), okRun := 0, errRun := r.errRun + 1 }, true)

/-! Symbols sent. -/

/-- A symbol's code-group and the running disparity after it; none: an invalid code-group, which the manual does not choose. -/
def LineSym.code (rd : Bool) : LineSym → Option Nat × Bool
  | .data b => let (g, r) := code10 rd false b; (some g, r)
  | .ctrl b => let (g, r) := code10 rd true b; (some g, r)
  | .invalid => (none, rd)

/-- The code-groups of symbols, and the running disparity after them. -/
def codeGroups : Bool → List LineSym → List (Option Nat) × Bool
  | rd, [] => ([], rd)
  | rd, x :: l =>
    let (g, r) := x.code rd
    let (gs, r) := codeGroups r l
    (g :: gs, r)

/-- The bits of a code-group on the line: bit a first (R120). -/
def groupBits (g : Nat) : List Bool := (List.range 10).map (fun i => bitOf g (9 - i))

/-- An idle set: /K28.5/D5.6/ where it is the first after a frame at positive disparity, else /K28.5/D16.2/ (R121). -/
def idleSet (first rd : Bool) : List LineSym := [.ctrl 0xBC, .data (if first && rd then 0xC5 else 0x50)]

/-! Test patterns. -/

/-- The powers of a pattern's polynomial: PRBS7, PRBS15, PRBS31; 0b11 acts as 0b10 (R141, Table 5.19). -/
def prbsTaps (pattern : Nat) : Nat × Nat := if pattern = 0 then (7, 6) else if pattern = 1 then (15, 14) else (31, 28)

/-- The next bit of a pattern after the bits h, newest first. -/
def prbsNext (pattern : Nat) (h : List Bool) : Bool :=
  let (a, b) := prbsTaps pattern
  xor (h.getD (a - 1) false) (h.getD (b - 1) false)

/-- The checker takes a bit while LOCK is 0 (R142): it seeds itself and counts bits in a row that match its prediction. -/
def PrbsSt.seek (pattern : Nat) (b : Bool) (r : PrbsSt) : PrbsSt :=
  let hit := decide ((prbsTaps pattern).1 ≤ r.chk.length) && prbsNext pattern r.chk == b
  { r with chk := (b :: r.chk).take 31, run := if hit then r.run + 1 else 0 }

/-- The checker takes a bit while LOCK is 1: it goes on from its own prediction; the second component says whether the bit differs. -/
def PrbsSt.compare (pattern : Nat) (b : Bool) (r : PrbsSt) : PrbsSt × Bool :=
  let p := prbsNext pattern r.chk
  ({ r with chk := (p :: r.chk).take 31, win := ((p != b) :: r.win).take 1024 }, p != b)

end Sys2Proof.Machine
end

