-- ==== Sys2Proof/Machine/Frame.lean ====
section
/-! DEFINITION. Frames of the Lathal Link fabric: header fields, CRCs, building a frame, and letting one out at a port (chapter 5). -/
namespace Sys2Proof.Machine

/-- HCRC: CRC-8 over the seven header bytes other than HCRC, in the order sent (R125; log entry 13). -/
def hcrcOf (h0 h1 : Nat) : Nat := crc8 (leBytes 4 h0 ++ leBytes 3 (h1 / 256))

/-- The header's word 1 with its HCRC. -/
def sealHead (h0 h1 : Nat) : Nat := h1 / 256 * 256 + hcrcOf h0 h1

/-- CRC-32Q over the header with TTL taken as 0 and the payload (R126; HCRC is taken as that header's own, log entry 13). -/
def crc32q (h0 h1 : Nat) (body : List Word) : Nat :=
  let h0' := putBits h0 15 11 0
  crcBits 32 0x814141AB 0
    ((leBytes 4 h0' ++ leBytes 4 (sealHead h0' h1) ++ body.flatMap (fun w => leBytes 4 w.toNat)).flatMap byteBits)

end Sys2Proof.Machine

namespace Sys2Proof
open Sys2Proof.Machine

/-! Header fields (Tables 5.4 and 5.5). -/

def Frame.typ (f : Frame) : Nat := bitsOf f.h0.toNat 31 28
def Frame.dst (f : Frame) : Nat := bitsOf f.h0.toNat 27 23
def Frame.src (f : Frame) : Nat := bitsOf f.h0.toNat 22 18
def Frame.rclass (f : Frame) : Nat := bitsOf f.h0.toNat 17 16
def Frame.ttl (f : Frame) : Nat := bitsOf f.h0.toNat 15 11
def Frame.len (f : Frame) : Nat := bitsOf f.h0.toNat 6 0
def Frame.stream (f : Frame) : Nat := bitsOf f.h1.toNat 31 16
def Frame.cyc8 (f : Frame) : Nat := bitsOf f.h1.toNat 15 8
def Frame.hcrc (f : Frame) : Nat := bitsOf f.h1.toNat 7 0

/-- Payload word i as a number; 0 beyond the end. -/
def Frame.w (f : Frame) (i : Nat) : Nat := (f.body.getD i 0).toNat

/-- The CRC a frame should carry. -/
def Frame.goodCrc (f : Frame) : Word := BitVec.ofNat 32 (crc32q f.h0.toNat f.h1.toNat f.body)

/-- Does the header pass HCRC, and is LEN at most 64 (R125)? -/
def Frame.headOk (f : Frame) : Bool := f.hcrc == hcrcOf f.h0.toNat f.h1.toNat && decide (f.len ≤ 64)

/-- Is the whole frame good: EOF in its place and the CRC right (R127, R128)? -/
def Frame.good (f : Frame) : Bool := f.fin = .eof && f.body.length == f.len && f.crc == f.goodCrc

/-- A frame with a new header word 0, its HCRC made anew. -/
def Frame.withH0 (f : Frame) (h0 : Nat) : Frame :=
  { f with h0 := BitVec.ofNat 32 h0, h1 := BitVec.ofNat 32 (sealHead h0 f.h1.toNat) }

/-- A frame with new payload words, its CRC made anew. -/
def Frame.withBody (f : Frame) (b : List Word) : Frame :=
  { f with body := b, crc := BitVec.ofNat 32 (crc32q f.h0.toNat f.h1.toNat b) }

/-- Symbols on the line, the idle set after it included (R121, R124). -/
def Frame.symbols (f : Frame) : Nat := 16 + 4 * f.body.length

/-- The symbols of a frame in order of transmission (Table 5.3): words little-endian, the CRC most significant byte first. -/
def Frame.syms (f : Frame) : List LineSym :=
  let octets := fun (l : List Byte) => l.map (fun b => LineSym.data b.toNat)
  [.ctrl 0xFB] ++ octets (([f.h0, f.h1] ++ f.body).flatMap (fun w => leBytes 4 w.toNat)) ++ octets (leBytes 4 f.crc.toNat).reverse
    ++ (match f.fin with | .eof => [.ctrl 0xFD] | .eofBad => [.ctrl 0xFE] | .codeErr => [.invalid, .ctrl 0xFD] | .cut => [])

end Sys2Proof

namespace Sys2Proof.Machine
open Sys2Proof.Config

/-- A number of symbols in ps, rounded up: one lasts 25/12 ns (R120). -/
def symPs (n : Nat) : Nat := (25000 * n + 11) / 12

/-! This node. -/

/-- NODE_ID while ID_VALID (Table 5.11). -/
def Dev.nodeId (d : Dev) : Nat := d.get F.LINK_STS_NODE_ID

/-- ID_VALID. -/
def Dev.idValid (d : Dev) : Bool := d.flag F.LINK_STS_ID_VALID

/-- PHASE: 1 DISCOVERY, 2 LOAD, 3 SCHEDULED. -/
def Dev.phase (d : Dev) : Nat := d.get F.LINK_STS_PHASE

/-- SSTATE (06 Table 6.7). -/
def Dev.sstate (d : Dev) : Nat := d.get F.LINK_SCHED_STS_SSTATE

/-- A port's state: 0 DOWN, 1 TRAIN, 2 ALIGNED, 3 UP. -/
def Dev.portState (d : Dev) (p : Nat) : Nat := d.get (F.LINK_PORT_STS_STATE p)

/-- Is a node assigned, as this node's tables show it (R127)? -/
def Dev.assigned (d : Dev) (n : Nat) : Bool := d.get (F.LINK_RTA_EGR_A n) != 15

/-- EGR_B[s][d] (Table 5.14). -/
def Dev.egrB (d : Dev) (s t : Nat) : Nat :=
  bitsOf (d.rd (R.LINK_RTB (4 * s + t / 8))).toNat (4 * (t % 8) + 3) (4 * (t % 8))

/-- Change a port's hidden state. -/
def Dev.modPort (p : Nat) (f : PortSt → PortSt) (d : Dev) : Dev :=
  { d with link := { d.link with ports := tmod d.link.ports p f } }

/-- A frame this node originates (R125): TTL 31, SRC its ID (0 before assignment), CYC8 its CYCNO in SCHEDULED. -/
def Dev.mkFrame (d : Dev) (typ dst rclass stream : Nat) (body : List Word) : Frame :=
  let src := if d.idValid then d.nodeId else 0
  let h0 := typ * 2 ^ 28 + dst % 32 * 2 ^ 23 + src * 2 ^ 18 + rclass % 4 * 2 ^ 16 + 31 * 2 ^ 11 + body.length % 128
  let h1 := stream % 2 ^ 16 * 2 ^ 16 + (if d.phase = 3 then d.time.cycno % 256 else 0) * 256
  { h0 := BitVec.ofNat 32 h0, h1 := BitVec.ofNat 32 (sealHead h0 h1), body := body,
    crc := BitVec.ofNat 32 (crc32q h0 (sealHead h0 h1) body), fin := .eof }

/-! Letting a frame out. -/

/-- What leaving at the corrected egress instant writes into the payload (R99, R132; 06 R152), in ps. -/
def exitBody (x : OnExit) (eg : Int) (b : List Word) : List Word :=
  match x with
  | .plain => b
  | .reqT1 => b
  | .resid ing => b.set 1 (BitVec.ofInt 32 (eg - ing))
  | .corr ing dly => b.set 4 (BitVec.ofInt 32 (sInt 32 (b.getD 4 0).toNat + dly + (eg - ing)))
  | .tsync =>
    let ns := (eg / 1000).toNat
    ((b.set 1 (BitVec.ofNat 32 ns)).set 2 (BitVec.ofNat 32 (ns / 2 ^ 32))).set 3 (BitVec.ofNat 32 (eg % 1000).toNat)

/-- The symbol in which an instant (ps) falls. -/
def symAt (ps : Nat) : Nat := 12 * ps / 25000

/-- A port sends a frame's symbols and the idle set after it; INJ_CODE spoils the second symbol of the next idle set (R121, R143). -/
def Dev.lineSend (p : Nat) (f : Frame) (d : Dev) : Dev :=
  let q := tget d.link.ports p
  let idle := idleSet true (codeGroups q.rd f.syms).2
  let inj := d.flag (F.LINK_PORT_CTL_INJ_CODE p)
  let l := f.syms ++ (if inj then idle.take 1 ++ [.invalid] else idle)
  let d := if inj then d.up (F.LINK_PORT_CTL_INJ_CODE p) false else d
  d.modPort p (fun q => { q with line := l, rd := (codeGroups q.rd l).2 })

/-- A frame goes out on the line at internal egress instant t (ps): stamped payload is written and the CRC made anew; INJ_CRC
inverts the CRC of the next frame this node originates (R143); the line is busy until the idle set has followed. Nothing
leaves once RED's watchdog has disabled the transmitters (18 R428). -/
def Dev.letOut (p : Nat) (it : EgrItem) (t : Nat) (d : Dev) : Dev :=
  if d.red.txOff then d else
  let eg := d.egress p t
  let f := match it.onExit with
    | .plain => it.frame
    | x => if it.frame.fin = .eof then it.frame.withBody (exitBody x eg it.frame.body)
           else { it.frame with body := exitBody x eg it.frame.body }
  let inj := it.own && d.flag (F.LINK_PORT_CTL_INJ_CRC p)
  let f := if inj then { f with crc := ~~~ f.crc } else f
  let d := if inj then d.up (F.LINK_PORT_CTL_INJ_CRC p) false else d
  (d.lineSend p f).modPort p (fun q => { q with
    out := some f, cur := some (it, t, inj), busyUntil := t + symPs f.symbols,
    reqT1 := match it.onExit with | .reqT1 => some eg | _ => q.reqT1 })

/-- Do two frames of one symbol go out in this order (R130)? -/
def EgrItem.before (a b : EgrItem) : Bool := a.sof == b.sof && decide (a.rank < b.rank)

/-- EGR_DROP at an egress port. -/
def Dev.egrDrop (p : Nat) (d : Dev) : Dev := (d.cnt (F.LINK_PORT_CNT2_EGR_DROP p)).event0 (F.LINK_PORT_EVT_DROP_EVT p)

/-- A frame finds its egress port sending (R130): it waits in the single buffer, or a frame is dropped: of two frames of one symbol the
later. -/
def Dev.egressWait (p : Nat) (it : EgrItem) (d : Dev) : Dev :=
  match (tget d.link.ports p).buf with
  | none => d.modPort p (fun q => { q with buf := some it })
  | some b => (if it.before b then d.modPort p (fun q => { q with buf := some it }) else d).egrDrop p

/-- The frame on the line and the instant it left, where frame it goes out ahead of it: both reached the node in one symbol, and the frame
on the line did not wait. -/
def Dev.egressBehind (d : Dev) (p : Nat) (it : EgrItem) : Option (EgrItem × Nat × Bool) :=
  (tget d.link.ports p).cur.filter (fun c => it.before c.1)

/-- A frame reaches an egress port at instant t (ps) (R130): it goes out, waits, or is dropped; it takes the place of a frame of the
same symbol that R130 puts after it. -/
def Dev.egressAt (p : Nat) (it : EgrItem) (t : Nat) (d : Dev) : Dev :=
  let q := tget d.link.ports p
  if q.busyUntil ≤ t ∧ q.buf = none ∧ q.dq = [] then d.letOut p it t
  else match d.egressBehind p it with
    | some (c, t0, inj) =>
      let d := if inj then d.up (F.LINK_PORT_CTL_INJ_CRC p) true else d
      (d.letOut p it t0).egressWait p c
    | none => d.egressWait p it

/-- A frame of this node, made at instant t (ps). -/
def ownItem (f : Frame) (x : OnExit) (t : Nat) : EgrItem := ⟨f, x, true, symAt t, 9⟩

/-- A delay or HELLO frame of this node. -/
def delayItem (f : Frame) (x : OnExit) : EgrItem := ⟨f, x, true, 0, 0⟩

/-- A delay or HELLO frame: ahead of any waiting frame, as soon as the frame in progress ends (R132). -/
def Dev.delayOut (p : Nat) (it : EgrItem) (t : Nat) (d : Dev) : Dev :=
  let q := tget d.link.ports p
  if q.busyUntil ≤ t ∧ q.dq = [] then d.letOut p it t
  else d.modPort p (fun q => { q with dq := q.dq ++ [it] })

/-- Frames of this node that the guardian lets out unscheduled (06 R151): DISC, COMPLOAD and TUNNEL in DISCOVERY, or in LOAD
before the node has first been in SCHEDULED or ZENITH since its start. -/
def Dev.unschedOk (d : Dev) : Bool := d.phase = 1 || (d.phase = 2 && !d.link.everSched)

/-- Does the guardian let out a frame of this node that has waited (06 R151): a frame of a slot in SCHEDULED and ZENITH, elsewhere DAWN in
COLDSTART and the unscheduled ones? -/
def Dev.guardian (d : Dev) (f : Frame) : Bool :=
  if 4 ≤ d.sstate then f.stream != 0 && f.typ != 2
  else if f.typ = 2 then d.sstate == 2
  else d.unschedOk && (f.typ == 8 || f.typ == 9 || f.typ == 11)

/-- The port becomes free and the frame that waits goes out, a slot frame held in the delay window not before its end (R130, R132). A frame
of this node that the guardian no longer lets out is dropped. -/
def Dev.egressSend (p : Nat) (d : Dev) : Dev :=
  let q := tget d.link.ports p
  let t := max q.busyUntil d.nowPs.toNat
  match q.dq, q.buf with
  | it :: r, _ => ((d.runToPs t).modPort p (fun q => { q with dq := r })).letOut p it t
  | [], some it =>
    let t := max t q.hold
    let d := (d.runToPs t).modPort p (fun q => { q with buf := none, hold := 0 })
    if it.own && !d.guardian it.frame then d else d.letOut p it t
  | [], none => d

/-- An unscheduled frame of this node to one port now. -/
def Dev.sendNow (p : Nat) (f : Frame) (d : Dev) : Dev :=
  if d.unschedOk && d.portState p = 3 then d.egressAt p (ownItem f .plain d.nowPs.toNat) d.nowPs.toNat else d

/-- The ports on which a frame of this node leaves, by its route class (R127). -/
def Dev.ownPorts (d : Dev) (f : Frame) : List Nat :=
  match f.rclass with
  | 0 => let e := d.get (F.LINK_RTA_EGR_A f.dst); if e < 8 then [e] else []
  | 1 => let e := d.egrB f.src f.dst; if e < 8 then [e] else []
  | 2 => onesBelow 8 (d.get (F.LINK_RTA_BMASK f.src))
  | _ => []

/-- A payload this node sends: at once where the guardian lets it out unscheduled, else in its slot (06 R151). -/
def Dev.sendBody (typ dst stream : Nat) (body : List Word) (d : Dev) : Dev :=
  if d.phase = 3 then { d with link := { d.link with txq := d.link.txq ++ [⟨typ, dst, stream, body⟩] } }
  else
    let f := d.mkFrame typ dst 0 0 body
    Dev.each (d.ownPorts f) (fun p d => d.sendNow p f) d

end Sys2Proof.Machine
end

