-- ==== Sys2Proof/Machine/Link.lean ====
section
/-! DEFINITION. Ports, receiving and forwarding frames, link delay and test patterns (chapter 5), with the acceptance windows of
the schedule (chapter 6). -/
namespace Sys2Proof.Machine
open Sys2Proof.Config

/-! Port states (R122, R123). -/

/-- Change a lane's receiver. -/
def Dev.modLane (l : Nat) (f : LaneRx → LaneRx) (d : Dev) : Dev := { d with link := { d.link with rx := tmod d.link.rx l f } }

/-- A port takes a state; leaving UP raises DOWN_EVT, entering it UP_EVT (Table 5.2). What waits for a port that carries no frames any more is
lost (log entry 79). -/
def Dev.portTo (p st : Nat) (d : Dev) : Dev :=
  let old := d.portState p
  let d := d.put (F.LINK_PORT_STS_STATE p) st
  let d := if st < 3 then d.modPort p (fun q => { q with buf := none, hold := 0 }) else d
  let d := if st < 2 then (d.modPort p (fun q => { q with helloSeen := false, reqT1 := none, dq := [] })).modLane p (fun _ => default) else d
  if old = 3 ∧ st ≠ 3 then d.event0 (F.LINK_PORT_EVT_DOWN_EVT p)
  else if old ≠ 3 ∧ st = 3 then d.event0 (F.LINK_PORT_EVT_UP_EVT p)
  else d

/-- ALIGNED to UP (Table 5.2): DLY_VALID, a HELLO received, and DISCOVERY or the recorded peer. -/
def Dev.portTryUp (p : Nat) (d : Dev) : Dev :=
  let q := tget d.link.ports p
  let known := match q.peer, q.recorded with
    | some (_, ser, pp, _), some (rs, rp) => ser == rs && pp == rp
    | _, _ => false
  if d.portState p = 2 ∧ d.flag (F.LINK_PORT_STS_DLY_VALID p) ∧ q.helloSeen ∧ (d.phase = 1 ∨ known = true) then d.portTo p 3 else d

/-- DLY_VALID clears: the count restarts, and UP falls to ALIGNED (R123, R133). -/
def Dev.dlyLost (p : Nat) (d : Dev) : Dev :=
  let d := (d.up (F.LINK_PORT_STS_DLY_VALID p) false).modPort p (fun q => { q with dlyCount := 0 })
  if d.portState p = 3 then d.portTo p 2 else d

/-- In traffic mode an injected code error goes out with the next idle set: with the one after the frame on the line, else now (R143; log
entry 79). -/
def Dev.injCodeSend (p : Nat) (d : Dev) : Dev :=
  if d.get (F.LINK_PORT_CTL_MODE p) = 1 ∧ d.flag (F.LINK_PORT_CTL_INJ_CODE p) ∧ d.red.txOff = false then
    let now := d.nowPs.toNat
    (d.up (F.LINK_PORT_CTL_INJ_CODE p) false).modPort p (fun q =>
      { q with line := (if now < q.busyUntil then q.line.dropLast else [.ctrl 0xBC]) ++ [.invalid] })
  else d

/-- A write of LINK_PORTn_CTL (R123, R143): any MODE but traffic takes the port to DOWN, and traffic with an input signal from there to
TRAIN; INJ_CODE goes out with the next idle set in traffic mode, INJ_CRC waits for the next frame of this node. -/
def Dev.portCtlWrite (p : Nat) (w : Word) (d : Dev) : Dev :=
  if d.host.recovery then d
  else
  let crc := d.flag (F.LINK_PORT_CTL_INJ_CRC p) || bitOf w.toNat 4
  let code := d.flag (F.LINK_PORT_CTL_INJ_CODE p) || bitOf w.toNat 3
  let d := (d.wr (R.LINK_PORT_CTL p) (w &&& 0x00000FE3)).parityWritten (R.LINK_PORT_CTL p)
  let d := ((d.up (F.LINK_PORT_CTL_INJ_CRC p) crc).up (F.LINK_PORT_CTL_INJ_CODE p) code).injCodeSend p
  if d.get (F.LINK_PORT_CTL_MODE p) ≠ 1 then d.portTo p 0
  else if d.portState p = 0 ∧ (tget d.link.ports p).signal = true then d.portTo p 1 else d

/-- Input signal seen for 1 µs (Table 5.2); in recovery LINK is in reset (20 R459). -/
def Dev.portSignal (p : Nat) (d : Dev) : Dev :=
  if d.host.recovery then d
  else
  let d := d.modPort p (fun q => { q with signal := true })
  if d.portState p = 0 ∧ d.get (F.LINK_PORT_CTL_MODE p) = 1 then d.portTo p 1 else d

/-- No input signal for 1 µs. -/
def Dev.portNoSignal (p : Nat) (d : Dev) : Dev :=
  (d.modPort p (fun q => { q with signal := false })).portTo p 0

/-- A lane in TRAIN receives a code-group; the second component: 3 COM at one bit position have come (R122). -/
def Dev.laneTrain (l : Nat) (x : Fin 10 × BitVec 10) (d : Dev) : Dev × Bool :=
  let d := d.modLane l (LaneRx.train x.1 x.2.toNat)
  if 3 ≤ (tget d.link.rx l).coms then (d.modLane l LaneRx.aligned, true) else (d, false)

/-- An aligned lane receives a code-group; a port counts CODE_ERR; the second component: ERRRUN has reached 4 (R122). -/
def Dev.laneTrack (l : Nat) (g : Nat) (d : Dev) : Dev × Bool :=
  let (r, bad) := (tget d.link.rx l).track g
  let d := d.modLane l (fun _ => r)
  let d := if bad && decide (l < 8) then d.cnt (F.LINK_PORT_CNT0_CODE_ERR l) else d
  (d, bad && decide (4 ≤ r.errRun))

/-- Alignment (R122): the lane is inverted where its commas came inverted. -/
def Dev.portAlign (p : Nat) (d : Dev) : Dev := (d.up (F.LINK_PORT_STS_RX_INV p) (tget d.link.rx p).inv).portTo p 2

/-- ERRRUN has reached 4 (R122): the port returns to TRAIN. -/
def Dev.portLoss (p : Nat) (d : Dev) : Dev :=
  ((d.cnt (F.LINK_PORT_CNT0_ALIGN_LOSS p)).event0 (F.LINK_PORT_EVT_ALIGN_LOSS_EVT p)).portTo p 1

/-- What a frame's code-groups do to the receiver (R122): its header's valid ones clear ERRRUN; an invalid one inside it counts. -/
def Dev.frameGroups (p : Nat) (f : Frame) (d : Dev) : Dev :=
  let bad := f.fin = .codeErr
  let d := d.modLane p (fun r => { r with errRun := if bad then 1 else 0, okRun := if bad then 0 else 4, rd := (codeGroups r.rd f.syms).2 })
  if bad then d.cnt (F.LINK_PORT_CNT0_CODE_ERR p) else d

/-! Acceptance windows (06 R147, R149). -/

/-- The zenith node as this node knows it. -/
def Dev.zenithId (d : Dev) : Nat := d.get F.LINK_SCHED_STS_ZENITH_ID

/-- The slot table in use, with indices. -/
def Dev.slots (d : Dev) : List (Slot × Nat) := (d.link.cfg.modes.getD (d.get F.LINK_SCHED_STS_CUR_MODE) []).zipIdx

/-- Is an entry active in this cycle (06 R147)? -/
def slotActive (zen : Nat) (e : Slot) : Bool :=
  match e.kind with
  | 1 => e.src == zen
  | 2 => e.dst == zen
  | _ => true

/-- The active rx entries of a port. -/
def Dev.rxSlots (d : Dev) (p : Nat) : List (Slot × Nat) :=
  d.slots.filter (fun e => !e.1.tx && bitOf e.1.ports p && slotActive d.zenithId e.1)

/-- The windows that hold a corrected SOF stamp, by entry, index and CYCNO of the cycle each belongs to (06 R149): a window may open before
its cycle's CYC_START and close after the next one. -/
def Dev.windowsAt (d : Dev) (p : Nat) (ing : Int) : List (Slot × Nat × Nat) :=
  (d.rxSlots p).flatMap (fun e => [0, 1, -1].filterMap (fun (k : Int) =>
    if (ing - 1000 * d.time.cycStart - 25000 * (e.1.start : Int) - 1000 * k * d.time.tb).natAbs ≤ 500 * d.link.cfg.guardNs
    then some (e.1, e.2, ((d.time.cycno + k) % 2 ^ 32).toNat) else none))

/-- Is an instant of the cycle (ps) inside the delay window of R132? -/
def Dev.inDelayWindow (d : Dev) (rel : Int) : Bool :=
  decide (1000 * (d.time.tb : Int) - 2250000 ≤ rel ∧ rel ≤ 1000 * (d.time.tb : Int) - 1250000)

/-- Is the nearest window edge the opening edge of a later window (Table 6.3)? The entries' windows of this cycle, the one before and the
next are at starts (ps). -/
def nearOpening (half rel : Int) (starts : List Int) : Bool :=
  let low := fun (l : List Int) => l.foldl (fun (m : Option Int) v => some (match m with | some x => min x v | none => v)) none
  match low ((starts.map (fun s => s - half - rel)).filter (fun v => decide (0 < v))),
      low ((starts.map (fun s => rel - (s + half))).filter (fun v => decide (0 < v))) with
  | some o, some c => decide (o < c)
  | some _, none => true
  | none, _ => false

/-- The judgement of Table 6.3: the entry that accepts the frame, by index and CYCNO of its window, or the counter that records its
discard. Where the stamp lies in two windows, the one the header names is taken. -/
def Dev.slotJudge (d : Dev) (p : Nat) (f : Frame) (ing : Int) : Except Fld (Nat × Nat) :=
  let es := d.rxSlots p
  let ws := d.windowsAt p ing
  if es.isEmpty then .error F.LINK_SCHED_CNT1_SLOT_NONE
  else if ws.isEmpty then
    let starts := es.flatMap (fun e => [-1, 0, 1].map (fun (k : Int) => 25000 * (e.1.start : Int) + 1000 * k * d.time.tb))
    .error (if nearOpening (500 * d.link.cfg.guardNs) (ing - 1000 * d.time.cycStart) starts then F.LINK_SCHED_CNT0_SLOT_EARLY
      else F.LINK_SCHED_CNT0_SLOT_LATE)
  else match ws.find? (fun w => f.stream == w.1.stream && f.src == w.1.src && f.cyc8 == w.2.2 % 256) with
    | some w => if d.link.accepted.contains w.2 then .error F.LINK_SCHED_CNT2_SLOT_DUP else .ok w.2
    | none => .error (if ws.any (fun w => d.link.accepted.contains w.2) then F.LINK_SCHED_CNT2_SLOT_DUP else F.LINK_SCHED_CNT1_SLOT_STREAM)

/-- Is the frame a HELLO: DISC with RLEN 0 and OP 0x01 (R132, Table 5.10)? -/
def isHello (f : Frame) : Bool := f.typ == 9 && bitsOf (f.w 0) 31 27 == 0 && bitsOf (f.w 0) 15 8 == 1

/-- The schedule's judgement of an arriving frame (06 R149): none, no entry concerned; an entry accepts it; or it is discarded,
with or without a counter. A SYNC takes its entry where it is accepted (R150). -/
def Dev.judge (d : Dev) (p : Nat) (f : Frame) (ing : Int) : Except (Option Fld) (Option (Nat × Nat)) :=
  if d.sstate < 3 then .ok none
  else if f.typ = 2 then .error none
  else if f.typ = 1 ∧ f.stream = 0xFFFF then .ok none
  else if (f.typ = 10 ∨ isHello f) ∧ d.inDelayWindow (ing - 1000 * d.time.cycStart) then .ok none
  else match d.slotJudge p f ing with
    | .ok i => .ok (some i)
    | .error c => .error (some c)

/-! Streams (06 R162). -/

/-- A good frame reaches a stream's buffer. -/
def Dev.streamGood (stream : Nat) (body : List Word) (d : Dev) : Dev :=
  match d.link.cfg.rx.findIdx? (fun x => x.stream == stream) with
  | none => d
  | some j =>
    let d := { d with link := { d.link with bufs := tput d.link.bufs j body } }
    ((((d.put (F.LINK_STRM_AGE j) 0).up (F.LINK_STRM_STALE j) false).up (F.LINK_STRM_VALID j) true).up (F.LINK_STRM_FAULT j) false).causeOff
      .streamAge j

/-! Receiving (R127, R128). -/

/-- What the tail of a frame counts at its ingress port (R128); one that ends with its port is charged to nobody. -/
def Dev.tailCount (p : Nat) (f : Frame) (d : Dev) : Dev :=
  if f.good || f.fin = .cut then d
  else if f.fin = .eofBad then d.cnt (F.LINK_PORT_CNT2_STOMPED p)
  else
    let d := if f.fin = .eof ∧ f.body.length ≠ f.len then d.cnt (F.LINK_PORT_CNT3_LEN_ERR p)
      else d.cnt (F.LINK_PORT_CNT1_CRC_ERR p)
    d.event0 (F.LINK_PORT_EVT_CRC_EVT p)

/-- A DISC route entry: 3 bits at index i of the 96 bits in three words (Table 5.8). -/
def routeAt (w1 w2 w3 i : Nat) : Nat := bitsOf (w1 + 2 ^ 32 * w2 + 2 ^ 64 * w3) (3 * i + 2) (3 * i)

/-- The egress a route class selects (R127, R135): deliver here, and the ports to forward on; none: no route. -/
def Dev.route (d : Dev) (f : Frame) : Option (Bool × List Nat) :=
  let one := fun e => if e = 8 then some (true, []) else if e < 8 then some (false, [e]) else none
  match f.rclass with
  | 3 =>
    let h := 31 - f.ttl
    if h = bitsOf (f.w 0) 31 27 then some (true, []) else some (false, [routeAt (f.w 1) (f.w 2) (f.w 3) h])
  | c =>
    if !d.assigned f.src || !d.assigned f.dst then none
    else match c with
      | 0 => one (d.get (F.LINK_RTA_EGR_A f.dst))
      | 1 => one (d.egrB f.src f.dst)
      | _ => some (true, onesBelow 8 (d.get (F.LINK_RTA_BMASK f.src)))

/-- A copy leaves on one port (R127 to R130): TTL - 1 and a new HCRC; a bad frame ends with EOF_BAD; CORR of a SYNC is updated as
it leaves. The hop takes 53 to 57 symbols (Table 5.7), a free value. -/
def Dev.forward (pin stamp : Nat) (f : Frame) (e : Nat) (d : Dev) : Dev :=
  if d.portState e ≠ 3 then d
  else
    let (k, d) := d.fresh
    let g := (f.withH0 (putBits f.h0.toNat 15 11 (f.ttl - 1)))
    let g := { g with body := g.body.take g.len, fin := if f.good then FrameEnd.eof else FrameEnd.eofBad }
    let x := if f.typ = 1 ∧ f.stream = 0xFFFF
      then OnExit.corr (d.ingress pin stamp) (d.gets (F.LINK_PORT_DLY_DELAY pin)) else OnExit.plain
    d.egressAt e ⟨g, x, false, symAt stamp, 1 + pin⟩ (stamp + symPs (53 + freeNat k % 5))

/-- TTL_EXP: a frame that is to be forwarded has run out of TTL, and is dropped (R127). -/
def Dev.ttlExp (p : Nat) (d : Dev) : Dev := (d.cnt (F.LINK_PORT_CNT3_TTL_EXP p)).event0 (F.LINK_PORT_EVT_DROP_EVT p)

/-- A frame is forwarded on the ports its route selects (R127). -/
def Dev.forwardAll (p stamp : Nat) (f : Frame) (ports : List Nat) (d : Dev) : Dev := Dev.each ports (fun e d => d.forward p stamp f e) d

/-- UNROUTABLE. -/
def Dev.unroutable (p : Nat) (d : Dev) : Dev :=
  (d.cnt (F.LINK_PORT_CNT3_UNROUTABLE p)).event0 (F.LINK_PORT_EVT_DROP_EVT p)

/-- An entry has accepted a frame in the window of cycle cyc; with a good CRC it also counts as received, and reaches its buffer. -/
def Dev.slotTake (w : Option (Nat × Nat)) (f : Frame) (d : Dev) : Dev :=
  match w with
  | none => d
  | some (i, cyc) =>
    let d := { d with link := { d.link with
      accepted := (i, cyc) :: d.link.accepted, goods := if f.good then (i, cyc) :: d.link.goods else d.link.goods } }
    match d.slots.find? (fun e => e.2 == i) with
    | some (e, _) => if e.dlv && f.good then d.streamGood e.stream f.body else d
    | none => d

/-- Does LINK deliver a frame's payload to its consumer? Stream data outside SCHEDULED and ZENITH it does not (06 R164). -/
def Dev.consumes (d : Dev) (f : Frame) : Bool :=
  decide (4 ≤ d.sstate) || !(within 3 7 f.typ || (f.typ == 8 && f.stream != 0))

/-- A frame arrives on port p, its SOF stamped at stamp (internal ingress, ps) (R127, R128). The second component says whether
it is delivered here with a good CRC. -/
def Dev.frameIn (p : Nat) (f : Frame) (stamp : Nat) (d : Dev) : Dev × Bool :=
  let d := d.runToPs stamp
  let st := d.portState p
  if st < 2 then (d, false)
  else
  let d := d.frameGroups p f
  if st = 2 ∧ ¬ (f.typ = 10 ∨ isHello f) then (d, false)
  else if !f.headOk then ((d.cnt (F.LINK_PORT_CNT1_HCRC_ERR p)).event0 (F.LINK_PORT_EVT_CRC_EVT p), false)
  else if f.typ = 0 ∨ 12 ≤ f.typ then (d.unroutable p, false)
  else match d.judge p f (d.ingress p stamp) with
    | .error none => (d, false)
    | .error (some c) => (d.cnt c, false)
    | .ok i =>
      let d := (d.slotTake i f).tailCount p f
      if f.typ = 10 then (d, f.good)
      else match d.route f with
        | none => (d.unroutable p, false)
        | some (here, ports) =>
          if f.ttl = 0 ∧ ports ≠ [] then (d.ttlExp p, false) else (d.forwardAll p stamp f ports, here && f.good && d.consumes f)

/-! Link delay (R132, R133). -/

/-- HELLO body: member code, serial number, port index, node ID or 0xFF; one item a word (log entry 14). -/
def Dev.helloBody (d : Dev) (p : Nat) : List Word :=
  [0x00000100#32, 0, 0, 0, 0, 0, 0, 0x960#32, BitVec.ofNat 32 d.link.serial, BitVec.ofNat 32 (d.link.serial / 2 ^ 32),
    BitVec.ofNat 32 p, BitVec.ofNat 32 (if d.idValid then d.nodeId else 0xFF)]

/-- At CYC_START + Tb - 2.25 µs (R132): DELAY_REQ on every port in ALIGNED or UP, and in every 256th cycle a HELLO; each port's cycles
without an accepted sample are counted (R133). -/
def Dev.delayReqs (d : Dev) : Dev :=
  let d := d.runInCycle (d.time.tb - 2250)
  if d.host.recovery then d else Dev.each (List.range 8) (fun p d =>
    let d := d.modPort p (fun q => { q with dlyMiss := q.dlyMiss + 1 })
    if d.portState p < 2 then d
    else
      let t := d.nowPs.toNat
      let d := d.delayOut p (delayItem (d.mkFrame 10 0 3 0 [0x01000000#32, 0]) .reqT1) t
      if d.time.cycno % 256 = 0 then d.delayOut p (delayItem (d.mkFrame 9 0 3 0 (d.helloBody p)) .plain) t else d) d

/-- A DELAY_REQ is answered within 300 ns of its EOF (R132); when within it is a free value. -/
def Dev.delayAnswer (p : Nat) (f : Frame) (stamp : Nat) (d : Dev) : Dev :=
  let (k, d) := d.fresh
  let t := stamp + symPs (14 + 4 * f.body.length) + freeNat k % 300001
  d.delayOut p (delayItem (d.mkFrame 10 0 3 0 [0x02000000#32, 0]) (.resid (d.ingress p stamp))) t

/-- The filter of R133 on a sample s (ps). -/
def Dev.dlySample (p : Nat) (s : Int) (d : Dev) : Dev :=
  let q := tget d.link.ports p
  let dl := d.gets (F.LINK_PORT_DLY_DELAY p)
  let take := fun (v : Int) (c o : Nat) (d : Dev) =>
    (d.puts (F.LINK_PORT_DLY_DELAY p) v).modPort p (fun q => { q with dlyCount := c, dlyOut := o, dlyMiss := 0 })
  if s < 0 ∨ 400000 < s then (d.event0 (F.LINK_PORT_EVT_DLY_RANGE_EVT p)).dlyLost p
  else
    let d :=
      if q.dlyCount = 0 then take s 1 q.dlyOut d
      else if 2000 < (s - dl).natAbs then
        let d := d.cnt (F.LINK_PORT_CNT3_DLY_OUTLIER p)
        if q.dlyOut + 1 = 8 then
          let d := d.dlyLost p
          (d.puts (F.LINK_PORT_DLY_DELAY p) s).modPort p (fun q => { q with dlyCount := 1, dlyOut := 0 })
        else d.modPort p (fun q => { q with dlyOut := q.dlyOut + 1 })
      else take (dl + shrI (s - dl) 3) (q.dlyCount + 1) 0 d
    if 4 ≤ (tget d.link.ports p).dlyCount then (d.up (F.LINK_PORT_STS_DLY_VALID p) true).portTryUp p else d

/-- A DELAY_RSP arrives (R133): within 1.5 µs of t1 it gives a sample; half an odd difference rounds toward minus infinity (log entry 92). -/
def Dev.delayRsp (p : Nat) (f : Frame) (stamp : Nat) (d : Dev) : Dev :=
  match (tget d.link.ports p).reqT1 with
  | none => d
  | some t1 =>
    let t4 := d.ingress p stamp
    let d := d.modPort p (fun q => { q with reqT1 := none })
    if 1500000 < t4 - t1 then d else d.dlySample p ((t4 - t1 - sInt 32 (f.w 1)).fdiv 2)

/-- A hop-local DELAY frame: SUB 0x01 is answered, SUB 0x02 is a response, any other is UNROUTABLE (R132). -/
def Dev.delayFrame (p : Nat) (f : Frame) (stamp : Nat) (d : Dev) : Dev :=
  match bitsOf (f.w 0) 31 24 with
  | 1 => d.delayAnswer p f stamp
  | 2 => d.delayRsp p f stamp
  | _ => d.unroutable p

/-- A HELLO records the peer (R123, R132): another peer than the one known takes an UP port to ALIGNED with PEER_CHANGE. -/
def Dev.helloIn (p : Nat) (f : Frame) (d : Dev) : Dev :=
  let q := tget d.link.ports p
  let ser := f.w 8 + 2 ^ 32 * f.w 9
  let known := match q.recorded with
    | some r => some r
    | none => q.peer.map (fun x => (x.2.1, x.2.2.1))
  let change := match known with | some (s, pp) => !(s == ser && pp == f.w 10) | none => false
  let d := d.modPort p (fun q => { q with helloSeen := true, peer := some (f.w 7 % 2 ^ 16, ser, f.w 10, f.w 11) })
  let d := (d.put (F.LINK_PORT_STS_PEER_PORT p) (f.w 10)).put (F.LINK_PORT_STS_PEER_NODE p) (f.w 11)
  if change then
    let d := d.event0 (F.LINK_PORT_EVT_PEER_CHANGE_EVT p)
    if d.portState p = 3 then d.portTo p 2 else d.portTryUp p
  else d.portTryUp p

/-! Test patterns (R141 to R143). -/

/-- Do the generator and checker of instance n act: MODE 0b10 on a LNK port, a redundancy link that is disabled? -/
def Dev.prbsActs (d : Dev) (n : Nat) : Bool :=
  if n < 8 then d.get (F.LINK_PORT_CTL_MODE n) == 2 else d.get F.RED_STS_ROLE == 0

/-- Change an instance's generator and checker. -/
def Dev.modPrbs (n : Nat) (f : PrbsSt → PrbsSt) (d : Dev) : Dev := { d with link := { d.link with prbs := tmod d.link.prbs n f } }

/-- The generator sends its next bit (R141), inverted when INV is 1 and once more by INJ, which is then clear (R143). What it starts from is a
free value. Nothing leaves once RED's watchdog has disabled the transmitters (18 R428). -/
def Dev.prbsSend (n : Nat) (d : Dev) : Dev :=
  if d.flag (F.LINK_PRBS_CTL_GEN_EN n) && d.prbsActs n && !d.red.txOff then
    let pat := d.get (F.LINK_PRBS_CTL_PATTERN n)
    let len := (prbsTaps pat).1
    let (seed, d) := if (tget d.link.prbs n).gen.length < len then
        let (k, d) := d.draw (2 ^ len - 1)
        ((List.range len).map (bitOf (k + 1)), d)
      else ((tget d.link.prbs n).gen, d)
    let b := prbsNext pat seed
    let inj := d.flag (F.LINK_PRBS_CTL_INJ n)
    let out := xor b (xor (d.flag (F.LINK_PRBS_CTL_INV n)) inj)
    let d := if inj then ({ d with link := { d.link with prbsInj := n :: d.link.prbsInj } }).up (F.LINK_PRBS_CTL_INJ n) false else d
    d.modPrbs n (fun r => { r with gen := (b :: seed).take 31, sent := r.sent ++ [out] })
  else d

/-- A write of LINK_PRBSn_CTL: CHK_EN from 0 to 1 clears ERR and BITS; INJ inverts the next bit the generator sends, at once where it runs; a
generator that is switched on or takes another PATTERN starts anew. -/
def Dev.prbsCtlWrite (n : Nat) (w : Word) (d : Dev) : Dev :=
  if d.host.recovery then d
  else
  let was := d.flag (F.LINK_PRBS_CTL_CHK_EN n)
  let old := (d.flag (F.LINK_PRBS_CTL_GEN_EN n), d.get (F.LINK_PRBS_CTL_PATTERN n))
  let inj := d.flag (F.LINK_PRBS_CTL_INJ n) || bitOf w.toNat 7
  let d := (d.wr (R.LINK_PRBS_CTL n) (w &&& 0x0000007C)).parityWritten (R.LINK_PRBS_CTL n)
  let new := (d.flag (F.LINK_PRBS_CTL_GEN_EN n), d.get (F.LINK_PRBS_CTL_PATTERN n))
  let d := d.modPrbs n (fun r => { r with gen := if new == old then r.gen else [], sent := [] })
  let d := d.up (F.LINK_PRBS_CTL_INJ n) inj
  let d := if inj then d.prbsSend n else d
  if d.flag (F.LINK_PRBS_CTL_CHK_EN n) && !was then
    ((((d.wr (R.LINK_PRBS_ERR n) 0).wr (R.LINK_PRBS_BITS_LO n) 0).wr (R.LINK_PRBS_BITS_HI n) 0).up (F.LINK_PRBS_STS_LOCK n) false).modPrbs n
      (fun r => { r with chk := [], run := 0, win := [] })
  else d

/-- LOCK sets after 64 matching bits (R142). -/
def Dev.prbsLock (n : Nat) (d : Dev) : Dev :=
  ((d.up (F.LINK_PRBS_STS_LOCK n) true).event0 (F.LINK_PRBS_STS_LOCK_EVT n)).modPrbs n (fun r => { r with run := 0, win := [] })

/-- 32 errors within 1,024 bits clear LOCK, and the checker seeds itself anew (R142). -/
def Dev.prbsLoss (n : Nat) (d : Dev) : Dev :=
  ((d.up (F.LINK_PRBS_STS_LOCK n) false).event0 (F.LINK_PRBS_STS_LOCK_LOSS_EVT n)).modPrbs n (fun r => { r with chk := [], run := 0, win := [] })

/-- The checker receives a bit, taken inverted when INV is 1 (R142, Table 5.19). -/
def Dev.prbsCheck (n : Nat) (b : Bool) (d : Dev) : Dev :=
  if !(d.flag (F.LINK_PRBS_CTL_CHK_EN n) && d.prbsActs n) then d
  else
    let pat := d.get (F.LINK_PRBS_CTL_PATTERN n)
    let b := xor b (d.flag (F.LINK_PRBS_CTL_INV n))
    if d.flag (F.LINK_PRBS_STS_LOCK n) then
      let (r, bad) := (tget d.link.prbs n).compare pat b
      let d := (d.put64 (R.LINK_PRBS_BITS_LO n) (d.get64 (R.LINK_PRBS_BITS_LO n) + 1)).modPrbs n (fun _ => r)
      let d := if bad then d.cnt (F.LINK_PRBS_ERR_ERR n) else d
      if 32 ≤ (r.win.filter id).length then d.prbsLoss n else d
    else
      let d := d.modPrbs n (PrbsSt.seek pat b)
      if 64 ≤ (tget d.link.prbs n).run then d.prbsLock n else d

/-- Bit times pass on a lane: the checker receives these bits and the generator sends as many. -/
def Dev.prbsRun (n : Nat) (bits : List Bool) (d : Dev) : Dev :=
  Dev.each bits (fun b d => (d.prbsSend n).prbsCheck n b) (d.modPrbs n (fun r => { r with sent := [] }))

/-! Commands. -/

/-- PORT_MODE_WRITE (R123). -/
def execPortModeWrite (p : Fin 8) (w : Word) (s : State) : Host.Outcome State Fault Refusal := onDev (Dev.portCtlWrite p w) s

/-- PORT_SIGNAL_DETECT (R123). -/
def execPortSignalDetect (p : Fin 8) (s : State) : Host.Outcome State Fault Refusal := onDev (Dev.portSignal p) s

/-- PORT_SIGNAL_LOSS (R123). -/
def execPortSignalLoss (p : Fin 8) (s : State) : Host.Outcome State Fault Refusal := onDev (Dev.portNoSignal p) s

/-- EGRESS_SEND (R130). -/
def execEgressSend (p : Fin 8) (s : State) : Host.Outcome State Fault Refusal := onDev (Dev.egressSend p) s

/-- DELAY_REQ_SEND (R132). -/
def execDelayReqSend (s : State) : Host.Outcome State Fault Refusal := onDev Dev.delayReqs s

/-- DELAY_REQ_RECEIVE (R132). -/
def execDelayReqReceive (p : Fin 8) (f : Frame) (stamp : Nat) (s : State) : Host.Outcome State Fault Refusal :=
  onDev (fun d =>
    let (d, here) := d.frameIn p f stamp
    if here && f.typ == 10 then d.delayFrame p f stamp else d) s

/-- DELAY_RSP_RECEIVE (R133). -/
def execDelayRspReceive (p : Fin 8) (f : Frame) (stamp : Nat) (s : State) : Host.Outcome State Fault Refusal :=
  onDev (fun d =>
    let (d, here) := d.frameIn p f stamp
    if here && f.typ == 10 then d.delayFrame p f stamp else d) s

/-- DELAY_RSP_TIMEOUT (R133): the sample is missing. -/
def execDelayRspTimeout (p : Fin 8) (s : State) : Host.Outcome State Fault Refusal :=
  onDev (Dev.modPort p (fun q => { q with reqT1 := none })) s

/-- DLY_VALID_LOSS (R133): 8 consecutive cycles without an accepted sample. -/
def execDlyValidLoss (p : Fin 8) (s : State) : Host.Outcome State Fault Refusal :=
  onDev (fun d => if d.flag (F.LINK_PORT_STS_DLY_VALID p) ∧ 8 ≤ (tget d.link.ports p).dlyMiss then d.dlyLost p else d) s

/-- HELLO_RECEIVE (R123). -/
def execHelloReceive (p : Fin 8) (f : Frame) (stamp : Nat) (s : State) : Host.Outcome State Fault Refusal :=
  onDev (fun d =>
    let (d, here) := d.frameIn p f stamp
    if here && isHello f then d.helloIn p f else d) s

/-- PRBS_CHK_ENABLE (R141). -/
def execPrbsChkEnable (n : Fin 10) (s : State) : Host.Outcome State Fault Refusal :=
  onDev (fun d => d.prbsCtlWrite n (d.rd (R.LINK_PRBS_CTL n) ||| 8)) s

/-- PRBS_INJ (R143). -/
def execPrbsInj (n : Fin 10) (s : State) : Host.Outcome State Fault Refusal :=
  onDev (fun d => d.prbsCtlWrite n (d.rd (R.LINK_PRBS_CTL n) ||| 0x80)) s

/-- INJ_CODE (R143). -/
def execInjCode (p : Fin 8) (s : State) : Host.Outcome State Fault Refusal :=
  onDev (fun d => d.portCtlWrite p (d.rd (R.LINK_PORT_CTL p) ||| 8)) s

/-- INJ_CRC (R143). -/
def execInjCrc (p : Fin 8) (s : State) : Host.Outcome State Fault Refusal :=
  onDev (fun d => d.portCtlWrite p (d.rd (R.LINK_PORT_CTL p) ||| 0x10)) s

/-- PRBS_LOCK (R142): the bits received, among them 64 in a row that match. -/
def execPrbsLock (r : LaneBits) (s : State) : Host.Outcome State Fault Refusal := onDev (Dev.prbsRun r.lane r.bits) s

/-- PRBS_LOCK_LOSS (R142): the bits received, among them 32 errors within 1,024. -/
def execPrbsLockLoss (n : Fin 10) (bits errs : List Bool) (s : State) : Host.Outcome State Fault Refusal :=
  onDev (Dev.prbsRun n (bits ++ errs)) s

end Sys2Proof.Machine
end

