-- ==== Sys2Proof/Machine/Disc.lean ====
section
/-! DEFINITION. Discovery, node IDs and routing tables (05 R134 to R139). -/
namespace Sys2Proof.Machine
open Sys2Proof.Config

/-! The graph and the tables (R138, R139). Nodes are node IDs; an edge is (node, port, node, port). -/

/-- The known links between assigned nodes, in both directions. -/
def edgesOf (g : List GNode) : List (Nat × Nat × Nat × Nat) :=
  let idOf := fun (ser : Nat) => (g.find? (fun n => n.serial == ser)).bind (·.assigned)
  let one := g.flatMap (fun n => match n.assigned with
    | none => []
    | some a => n.links.filterMap (fun l => (idOf l.2.1).map (fun b => (a, l.1, b, l.2.2))))
  (one ++ one.map (fun e => (e.2.2.1, e.2.2.2, e.1, e.2.1))).eraseDups

/-- The neighbours of a node by ascending port: (port, neighbour, its port). -/
def nbrs (es : List (Nat × Nat × Nat × Nat)) (a : Nat) : List (Nat × Nat × Nat) :=
  (List.range 8).flatMap (fun p => (es.filter (fun e => e.1 == a && e.2.1 == p)).map (fun e => (p, e.2.2.1, e.2.2.2)))

/-- A breadth-first tree: (child, parent, parent's port, child's port) in the order found. -/
def bfsGo (es : List (Nat × Nat × Nat × Nat)) : Nat → List Nat → List (Nat × Nat × Nat × Nat) → List Nat →
    List (Nat × Nat × Nat × Nat)
  | 0, _, acc, _ => acc
  | _ + 1, [], acc, _ => acc
  | k + 1, a :: q, acc, seen =>
    let new := ((nbrs es a).foldl (fun (r : List (Nat × Nat × Nat × Nat)) x =>
      if seen.contains x.2.1 || r.any (fun y => y.1 == x.2.1) then r else r ++ [(x.2.1, a, x.1, x.2.2)]) [])
    bfsGo es k (q ++ new.map (·.1)) (acc ++ new) (seen ++ new.map (·.1))

/-- The breadth-first tree rooted at a node. -/
def bfsTree (es : List (Nat × Nat × Nat × Nat)) (root : Nat) : List (Nat × Nat × Nat × Nat) := bfsGo es 33 [root] [] [root]

/-- The path from a node up to the root of a tree: the tree entries on the way. -/
def upPath (t : List (Nat × Nat × Nat × Nat)) : Nat → Nat → List (Nat × Nat × Nat × Nat)
  | 0, _ => []
  | k + 1, n =>
    match t.find? (fun e => e.1 == n) with
    | none => []
    | some e => e :: upPath t k e.2.1

/-- EGR_A[t] at node n (R139): the port towards its parent in the tree rooted at t. -/
def egrAOf (es : List (Nat × Nat × Nat × Nat)) (n t : Nat) : Nat :=
  if n = t then 8
  else match (bfsTree es t).find? (fun e => e.1 == n) with
    | some e => e.2.2.2
    | none => 15

/-- BMASK[s] at node n: the ports towards its children in the tree rooted at s. -/
def bmaskOf (es : List (Nat × Nat × Nat × Nat)) (n s : Nat) : Nat :=
  ((bfsTree es s).filter (fun e => e.2.1 == n)).foldl (fun m e => setBit m e.2.2.1 true) 0

/-- The plane B path from s to t (R139): tree entries from t back to s, found without the intermediate nodes and the links of the
table A path; empty where there is none. -/
def pathB (es : List (Nat × Nat × Nat × Nat)) (s t : Nat) : List (Nat × Nat × Nat × Nat) :=
  let pa := upPath (bfsTree es t) 33 s
  let mids := (pa.map (·.2.1)).filter (fun n => n != t)
  let cut := pa.flatMap (fun e => [(e.1, e.2.2.2, e.2.1, e.2.2.1), (e.2.1, e.2.2.1, e.1, e.2.2.2)])
  let es' := es.filter (fun e => !mids.contains e.1 && !mids.contains e.2.2.1 && !cut.contains e)
  upPath (bfsTree es' s) 33 t

/-- EGR_B[s][t] at node n. -/
def egrBOf (es : List (Nat × Nat × Nat × Nat)) (n s t : Nat) : Nat :=
  if s = t then (if n = s then 8 else 15)
  else
    let p := pathB es s t
    if p.isEmpty then 15
    else if n = t then 8
    else match p.find? (fun e => e.2.1 == n) with
      | some e => e.2.2.1
      | none => 15

/-- The 160 table words of a node: LINK_RTA, then LINK_RTB (Tables 5.13, 5.14, 5.10). -/
def tableWords (g : List GNode) (n : Nat) : List Word :=
  let es := edgesOf g
  let ids := g.filterMap (·.assigned)
  let rta := (List.range 32).map (fun t => BitVec.ofNat 32
    (if ids.contains t then bmaskOf es n t * 2 ^ 16 + egrAOf es n t else 15))
  let b := fun s t => if ids.contains s && ids.contains t then egrBOf es n s t else 15
  let rtb := (List.range 128).map (fun w => BitVec.ofNat 32
    ((List.range 8).foldl (fun a j => a + b (w / 4) (8 * (w % 4) + j) * 16 ^ j) 0))
  rta ++ rtb

/-! DISC frames (R135, Tables 5.8, 5.10). -/

/-- A route as three words. -/
def routeWords (l : List Nat) : List Word :=
  let v := (l.zipIdx).foldl (fun a x => a + x.1 % 8 * 2 ^ (3 * x.2)) 0
  [BitVec.ofNat 32 v, BitVec.ofNat 32 (v / 2 ^ 32), BitVec.ofNat 32 (v / 2 ^ 64)]

/-- Send a DISC frame on a port, with its forward and return routes. -/
def Dev.sendDisc (p op tag rlen : Nat) (fwd ret : List Word) (body : List Word) (d : Dev) : Dev :=
  let w0 := BitVec.ofNat 32 (rlen * 2 ^ 27 + op * 2 ^ 8 + tag % 256)
  d.sendNow p (d.mkFrame 9 0 3 0 ([w0] ++ fwd ++ ret ++ body))

/-- The root sends a request to a node by its path (R135, R136). -/
def Dev.discRequest (path ret : List Nat) (op : Nat) (body : List Word) (d : Dev) : Dev :=
  match path with
  | [] => d
  | p :: rest => d.sendDisc p op d.link.disc.tag rest.length (routeWords rest) (routeWords ret) body

/-- A reply to a request that came in on port p: FWD is the request's RET, TAG is copied (R135); the reply's own RET words, of which the
rule says nothing, are zeros (log entry 92). -/
def Dev.discReply (p : Nat) (f : Frame) (op : Nat) (body : List Word) (d : Dev) : Dev :=
  d.sendDisc p op (bitsOf (f.w 0) 7 0) (bitsOf (f.w 0) 31 27)
    [f.body.getD 4 0, f.body.getD 5 0, f.body.getD 6 0] [0, 0, 0] body

/-- Change the discovery state. -/
def Dev.modDisc (f : DiscSt → DiscSt) (d : Dev) : Dev := { d with link := { d.link with disc := f d.link.disc } }

/-- The links of this node by its ports in UP: (port, peer serial, peer port). -/
def Dev.ownLinks (d : Dev) : List (Nat × Nat × Nat) :=
  (List.range 8).filterMap (fun p => if d.portState p = 3
    then (tget d.link.ports p).peer.map (fun x => (p, x.2.1, x.2.2.1)) else none)

/-- Discovery ends with a result (R137, Table 5.9). -/
def Dev.discEnd (code detail : Nat) (d : Dev) : Dev :=
  let d := (d.put F.LINK_DISC_EVT_DISC_RESULT code).put F.LINK_DISC_EVT_DISC_DETAIL detail
  let d := d.modDisc (fun x => { x with running := false, wait := .idle, conflict := x.conflict || code == 4 })
  if code = 0 then d.event0 F.LINK_DISC_EVT_DISC_DONE_EVT
  else
    let d := if code = 4 then d.up F.LINK_DISC_EVT_ROOT_CONFLICT_EVT true else d
    d.event0 F.LINK_DISC_EVT_DISC_FAIL_EVT

/-- LINK_NODISJ from the tables (R139): assigned nodes without a plane B route from this node. -/
def Dev.setNodisj (d : Dev) : Dev :=
  let n := d.nodeId
  let v := (List.range 32).foldl (fun a t =>
    if t ≠ n ∧ d.assigned t ∧ d.egrB n t = 15 then setBit a t true else a) 0
  d.wr R.LINK_NODISJ (BitVec.ofNat 32 v)

/-- Load the table words into LINK_RTA and LINK_RTB. -/
def Dev.loadTables (ws : List Word) (d : Dev) : Dev :=
  Dev.each ws.zipIdx (fun x d =>
    if x.2 < 32 then d.wr (R.LINK_RTA x.2) (x.1 &&& 0x00FF000F) else d.wr (R.LINK_RTB (x.2 - 32)) x.1) d

/-- Peer identities are recorded, the ID becomes valid, and the node enters LOAD (R136 step 5). Step 6 of the start-up sequence ends:
the root goes on to step 7, any other node to step 8 (20 R453). -/
def Dev.takeId (n : Nat) (d : Dev) : Dev :=
  let d := if d.get F.CFG_BOOT_STS_STAGE = 6 then d.put F.CFG_BOOT_STS_STAGE (if d.flag F.LINK_STS_ROOT then 7 else 8) else d
  let d := Dev.each (List.range 8) (fun p d => d.modPort p (fun q =>
    { q with recorded := q.peer.map (fun x => (x.2.1, x.2.2.1)) })) d
  (((d.put F.LINK_STS_NODE_ID n).up F.LINK_STS_ID_VALID true).put F.LINK_STS_PHASE 2).setNodisj

/-- All nodes have been committed: the root loads its own tables and enters LOAD with result OK; a node found on no entry's path raises
UNEXPECTED_EVT (R136, R137). -/
def Dev.discOk (d : Dev) : Dev :=
  let g := d.link.disc.graph
  let d := (d.loadTables (tableWords g 0)).takeId 0
  let d := d.put F.LINK_STS_NODES ((g.filter (fun n => n.assigned.isSome)).length)
  let d := if g.any (fun n => !(n.path.isEmpty || d.link.cfg.nodes.any (fun e => e.path == n.path))) then d.event0 F.LINK_DISC_EVT_UNEXPECTED_EVT else d
  d.discEnd 0 0

/-- The request of the present wait state goes out (again). -/
def Dev.discSend (d : Dev) : Dev :=
  let node := fun (id : Nat) => d.link.disc.graph.find? (fun n => n.assigned == some id)
  match d.link.disc.wait with
  | .idle => d
  | .probe _ path ret _ => d.discRequest path ret 2 []
  | .table id part => match node id with
    | some n => d.discRequest n.path n.ret 4
        (BitVec.ofNat 32 (32 * part) :: ((tableWords d.link.disc.graph id).drop (32 * part)).take 32)
    | none => d
  | .commit id => match node id with
    | some n => d.discRequest n.path n.ret 5 [BitVec.ofNat 32 id]
    | none => d

/-- A new request: the next TAG, the first attempt. -/
def Dev.discNew (w : DiscWait) (d : Dev) : Dev :=
  (d.modDisc (fun x => { x with wait := w, tag := (x.tag + 1) % 256, attempts := 1 })).discSend

/-- The next node to give tables to, or the end of discovery. -/
def Dev.discNextNode (d : Dev) : Dev :=
  match d.link.disc.todo with
  | [] => d.discOk
  | id :: r => (d.modDisc (fun x => { x with todo := r })).discNew (.table id 0)

/-- Probing has ended: IDs by path, MISSING and MISMATCH, then the tables (R136 step 4, R137). -/
def Dev.discAssign (d : Dev) : Dev :=
  let es := d.link.cfg.nodes
  let g := d.link.disc.graph
  let at' := fun (e : NodeEntry) => g.find? (fun n => n.path == e.path)
  match es.find? (fun e => e.required && (at' e).isNone) with
  | some e => d.discEnd 1 e.id
  | none =>
    match es.find? (fun e => match at' e with | some n => n.member != e.member | none => false) with
    | some e => d.discEnd 2 e.id
    | none =>
      let g := g.map (fun n => if n.path = [] then { n with assigned := some 0 }
        else { n with assigned := (es.find? (fun e => e.path == n.path)).map (·.id) })
      let d := d.modDisc (fun x => { x with graph := g, todo := (g.filterMap (·.assigned)).filter (fun i => i != 0) })
      d.discNextNode

/-- The first link, breadth-first, to a node not yet reached: (its serial, path, return route, entry port). -/
def discTarget (g : List GNode) (gone : List Nat) : Option (Nat × List Nat × List Nat × Nat) :=
  (g.flatMap (fun n => (n.links.mergeSort (fun a b => a.1 ≤ b.1)).map (fun l => (n, l)))).findSome? (fun x =>
    if g.any (fun m => m.serial == x.2.2.1) || gone.contains x.2.2.1 then none
    else
      some (x.2.2.1, x.1.path ++ [x.2.1], if x.1.path = [] then [] else x.1.entry :: x.1.ret, x.2.2.2))

/-- The next probe, or the end of probing (R136 step 2). -/
def Dev.discProbe (d : Dev) : Dev :=
  match discTarget d.link.disc.graph d.link.disc.abandoned with
  | some (ser, path, ret, e) => d.discNew (.probe ser path ret e)
  | none => d.discAssign

/-- Discovery starts on the root from its own HELLOs (R136 step 1). -/
def Dev.discStart (d : Dev) : Dev :=
  if d.flag F.LINK_STS_ROOT ∧ d.phase = 1 ∧ d.link.disc.conflict = false then
    let me : GNode := ⟨d.link.serial, 0x960, [], d.ownLinks, [], 0, none⟩
    (d.modDisc (fun x => { x with running := true, graph := [me], todo := [], abandoned := [], wait := .idle })).discProbe
  else d

/-- A PROBE (R136, R137): answered with a REPORT; at a root it is a conflict. Serial number and port of a peer that is not there are sent as
zeros, and DISC_DETAIL, for which Table 5.9 gives ROOT_CONFLICT no value, is 0 (log entry 92). -/
def Dev.probeIn (p : Nat) (f : Frame) (d : Dev) : Dev :=
  if d.flag F.LINK_STS_ROOT then (if d.phase = 1 then d.discEnd 4 0 else d)
  else
    let port := fun (n : Nat) =>
      match (tget d.link.ports n).peer with
      | some (_, ser, pp, _) => [BitVec.ofNat 32 (d.portState n), BitVec.ofNat 32 ser, BitVec.ofNat 32 (ser / 2 ^ 32), BitVec.ofNat 32 pp]
      | none => [BitVec.ofNat 32 (d.portState n), 0, 0, 0]
    d.discReply p f 3 ([0x960#32, BitVec.ofNat 32 d.link.serial, BitVec.ofNat 32 (d.link.serial / 2 ^ 32)]
      ++ (List.range 8).flatMap port)

/-- The links a REPORT lists: ports in UP with their peers. -/
def reportLinks (f : Frame) : List (Nat × Nat × Nat) :=
  (List.range 8).filterMap (fun n =>
    if f.w (10 + 4 * n) = 3 then some (n, f.w (11 + 4 * n) + 2 ^ 32 * f.w (12 + 4 * n), f.w (13 + 4 * n)) else none)

/-- A REPORT answers the outstanding PROBE (R136 step 3). -/
def Dev.reportIn (f : Frame) (d : Dev) : Dev :=
  match d.link.disc.wait with
  | .probe _ path ret e =>
    if d.link.disc.running ∧ bitsOf (f.w 0) 7 0 = d.link.disc.tag then
      let n : GNode := ⟨f.w 8 + 2 ^ 32 * f.w 9, f.w 7 % 2 ^ 16, path, reportLinks f, ret, e, none⟩
      (d.modDisc (fun x => { x with graph := x.graph ++ [n], wait := .idle })).discProbe
    else d
  | _ => d

/-- A TABLE (R136): 32 words at a word offset; answered ACK, or NACK where it does not fit. Table 5.10 numbers no reasons: a NACK carries 1
for a TABLE and 2 for a COMMIT; a root takes neither and answers neither (R137, log entry 92). -/
def Dev.tableIn (p : Nat) (f : Frame) (d : Dev) : Dev :=
  if d.flag F.LINK_STS_ROOT then d else
  let ofs := f.w 7
  let ws := (f.body.drop 8).take 32
  if d.phase = 1 ∧ ofs % 32 = 0 ∧ ofs < 160 ∧ ws.length = 32 then
    let d := { d with link := { d.link with
      tblIn := ws.zipIdx.foldl (fun (t : List (Nat × Word)) (x : Word × Nat) => tblSet (fun _ => 0) t (ofs + x.2) x.1) d.link.tblIn } }
    let d := { d with link := { d.link with tblGot := setBit d.link.tblGot (ofs / 32) true } }
    d.discReply p f 6 []
  else d.discReply p f 7 [1]

/-- A COMMIT (R136): refused, with reason 2 (log entry 92), when tables are missing or this node's own LINK section names another ID; at a
root it is not answered (R137). Says whether accepted. -/
def Dev.commitIn (p : Nat) (f : Frame) (d : Dev) : Dev × Bool :=
  if d.flag F.LINK_STS_ROOT then (d, false) else
  let id := f.w 7 % 32
  let other := match d.link.cfg.nodeId with | some k => k != id | none => false
  if d.phase ≠ 1 ∨ other = true ∨ d.link.tblGot ≠ 31 then (d.discReply p f 7 [2], false)
  else
    let ws := (List.range 160).map (tblGet (fun _ => (0 : Word)) d.link.tblIn)
    let d := (d.discReply p f 6 []).loadTables ws
    ((d.takeId id).event0 F.LINK_DISC_EVT_DISC_DONE_EVT, true)

/-- An ACK of the outstanding TABLE or COMMIT (R136). -/
def Dev.ackIn (f : Frame) (d : Dev) : Dev :=
  if !d.link.disc.running || bitsOf (f.w 0) 7 0 != d.link.disc.tag then d
  else match d.link.disc.wait with
    | .table id part => d.discNew (if part < 4 then .table id (part + 1) else .commit id)
    | .commit _ => (d.modDisc (fun x => { x with wait := .idle })).discNextNode
    | _ => d

/-- A NACK to TABLE or COMMIT ends discovery with TABLE_NACK (R137). -/
def Dev.nackIn (f : Frame) (d : Dev) : Dev :=
  if !d.link.disc.running || bitsOf (f.w 0) 7 0 != d.link.disc.tag then d
  else match d.link.disc.wait with
    | .table id _ => d.discEnd 5 id
    | .commit id => d.discEnd 5 id
    | _ => d

/-- 20 µs without an answer (R136): repeated, and the third unanswered attempt abandons the node; an abandoned REQUIRED entry is
MISSING (log entry 14). -/
def Dev.discTimeout (d : Dev) : Dev :=
  let x := d.link.disc
  if !x.running then d
  else if x.attempts < 3 then (d.modDisc (fun x => { x with attempts := x.attempts + 1 })).discSend
  else
    let drop := fun (id : Nat) (d : Dev) =>
      let req := d.link.cfg.nodes.any (fun e => e.id == id && e.required)
      if req then d.discEnd 1 id
      else (d.modDisc (fun x => { x with
        graph := x.graph.map (fun n => if n.assigned = some id then { n with assigned := none } else n), wait := .idle })).discNextNode
    match x.wait with
    | .idle => d
    | .probe ser _ _ _ => (d.modDisc (fun x => { x with abandoned := ser :: x.abandoned, wait := .idle })).discProbe
    | .table id _ => drop id d
    | .commit id => drop id d

/-- A DISC frame delivered here, but for HELLO and COMMIT. -/
def Dev.discIn (p : Nat) (f : Frame) (d : Dev) : Dev :=
  match bitsOf (f.w 0) 15 8 with
  | 1 => d.helloIn p f
  | 2 => d.probeIn p f
  | 3 => d.reportIn f
  | 4 => d.tableIn p f
  | 6 => d.ackIn f
  | 7 => d.nackIn f
  | _ => d

/-- A DISC frame with a given operation arrives. -/
def Dev.discFrame (op p : Nat) (f : Frame) (stamp : Nat) (d : Dev) : Dev :=
  let (d, here) := d.frameIn p f stamp
  if here && f.typ == 9 && bitsOf (f.w 0) 15 8 == op then d.discIn p f else d

/-! Commands. -/

/-- DISCOVERY_START (R136). -/
def execDiscoveryStart (s : State) : Host.Outcome State Fault Refusal := onDev Dev.discStart s

/-- PROBE_RECEIVE (R136, R137). -/
def execProbeReceive (p : Fin 8) (f : Frame) (stamp : Nat) (s : State) : Host.Outcome State Fault Refusal :=
  onDev (Dev.discFrame 2 p f stamp) s

/-- REPORT_RECEIVE (R136). -/
def execReportReceive (p : Fin 8) (f : Frame) (stamp : Nat) (s : State) : Host.Outcome State Fault Refusal :=
  onDev (Dev.discFrame 3 p f stamp) s

/-- TABLE_RECEIVE (R136). -/
def execTableReceive (p : Fin 8) (f : Frame) (stamp : Nat) (s : State) : Host.Outcome State Fault Refusal :=
  onDev (Dev.discFrame 4 p f stamp) s

/-- DISC_ACK_RECEIVE (R136). -/
def execDiscAckReceive (p : Fin 8) (f : Frame) (stamp : Nat) (s : State) : Host.Outcome State Fault Refusal :=
  onDev (Dev.discFrame 6 p f stamp) s

/-- DISC_NACK_RECEIVE (R137). -/
def execDiscNackReceive (p : Fin 8) (f : Frame) (stamp : Nat) (s : State) : Host.Outcome State Fault Refusal :=
  onDev (Dev.discFrame 7 p f stamp) s

/-- DISC_RETRY_TIMEOUT (R136). -/
def execDiscRetryTimeout (s : State) : Host.Outcome State Fault Refusal := onDev Dev.discTimeout s

/-- DISCOVERY_REPEAT (R137): a root whose discovery failed tries again. -/
def execDiscoveryRepeat (s : State) : Host.Outcome State Fault Refusal :=
  onDev (fun d => if d.link.disc.running = false ∧ d.get F.LINK_DISC_EVT_DISC_RESULT ≠ 0 then d.discStart else d) s

end Sys2Proof.Machine
end

