-- ==== Sys2Proof/Machine/Sched.lean ====
section
/-! DEFINITION. The time-triggered schedule and fabric start-up (chapter 6): table checks, node states, SYNC, ECHO and DAWN frames,
stale data and mode changes. -/
namespace Sys2Proof.Machine
open Sys2Proof.Config

/-! The check of R148. -/

/-- Units a frame of LEN words occupies (R148). -/
def slotD (len : Nat) : Nat := (16 + 4 * len + 11) / 12

/-- Is a parameter of Table 6.1 outside its range? -/
def paramBad (c : LinkCfg) : Bool :=
  !within 64 1024 c.guardNs || !within 8 255 c.holdMax || decide (3 < c.coldstart.length) || (c.root && c.coldstart.isEmpty)
    || c.rx.any (fun x => !within 1 255 x.ageLimit)

/-- The first failure of the checks of one mode with one zenith node: the number of the check and the entry concerned. -/
def checkMode (c : LinkCfg) (self zen : Nat) (es : List Slot) : Option (Nat × Nat) :=
  let g := (c.guardNs + 24) / 25
  let ix := es.zipIdx
  let act := ix.filter (fun e => slotActive zen e.1)
  let bad1 := ix.find? (fun e => decide (c.tb < 25 * (e.1.start + slotD e.1.len)))
  let clash := act.find? (fun e => act.any (fun f =>
    e.2 != f.2 && e.1.tx == f.1.tx && Nat.land e.1.ports f.1.ports != 0 && decide (f.1.start < e.1.start ∨ (f.1.start = e.1.start ∧ f.2 < e.2))
      && decide (e.1.start < f.1.start + slotD f.1.len + g)))
  let lo := (c.tb - 2250 + 24) / 25
  let hi := (c.tb - 1250) / 25
  let bad3 := ix.find? (fun e => decide (e.1.start < hi ∧ lo < e.1.start + slotD e.1.len))
  let syncs := (es.filter (fun e => e.tx && e.kind == 1 && e.src == self && e.start == 0 && e.rclass == 2)).length
  let echoBad := c.coldstart.any (fun z => z != self && (es.filter (fun e => e.tx && e.kind == 2 && e.dst == z)).length != 1)
  let bad6 := ix.find? (fun e => decide (64 < e.1.len))
  match bad1 with
  | some e => some (1, e.2)
  | none => match clash with
    | some e => some (2, e.2)
    | none => match bad3 with
      | some e => some (3, e.2)
      | none =>
        if c.coldstart.contains self && syncs != 1 then some (4, 0x3FF)
        else if echoBad then some (5, 0x3FF)
        else match bad6 with
          | some e => some (6, e.2)
          | none =>
            if 512 < es.length ∨ paramBad c = true then some (6, 0x3FF) else none

/-- The first failure over every mode the node holds, each COLDSTART node in turn as the zenith node (a section that names none is checked
once, with no zenith node): (mode, check, entry). A node that holds no table has its parameters checked. -/
def checkTables (c : LinkCfg) (self : Nat) : Option (Nat × Nat × Nat) :=
  let zens := if c.coldstart.isEmpty then [32] else c.coldstart
  if c.held.isEmpty then (if paramBad c then some (0, 6, 0x3FF) else none)
  else c.held.findSome? (fun m => zens.findSome? (fun z => (checkMode c self z (c.modes.getD m [])).map (fun r => (m, r.1, r.2))))

/-- Does the node hold a mode with its checks passed? -/
def Dev.holdsMode (d : Dev) (m : Nat) : Bool := d.link.cfg.held.contains m && (checkTables d.link.cfg d.nodeId).isNone

/-! Streams (R162 to R164). -/

/-- Is a stream present in a mode: has it an rx entry with DLV 1? -/
def Dev.inMode (d : Dev) (m stream : Nat) : Bool :=
  (d.link.cfg.modes.getD m []).any (fun e => !e.tx && e.dlv && e.stream == stream)

/-- FAULT of a stream clears (R163). -/
def Dev.strmFaultOff (j : Nat) (d : Dev) : Dev := (d.up (F.LINK_STRM_FAULT j) false).causeOff .streamAge j

/-- A stream starts: AGE 0, STALE 1, VALID 0, FAULT clear (R164). -/
def Dev.freshStrm (j : Nat) (d : Dev) : Dev :=
  (((d.put (F.LINK_STRM_AGE j) 0).up (F.LINK_STRM_STALE j) true).up (F.LINK_STRM_VALID j) false).strmFaultOff j

/-- Streams that start: zero buffer, VALID 0, STALE 1, AGE 0. -/
def Dev.startStreams (pred : Nat → Bool) (d : Dev) : Dev :=
  Dev.each d.link.cfg.rx.zipIdx (fun x d =>
    if pred x.1.stream then
      { (d.freshStrm x.2) with link := { d.link with bufs := tput d.link.bufs x.2 [] } }
    else d) d

/-- Leaving SCHEDULED or ZENITH: every delivered stream at AGE 255, STALE 1. -/
def Dev.dropStreams (d : Dev) : Dev :=
  Dev.each (List.range d.link.cfg.rx.length) (fun j d => (d.put (F.LINK_STRM_AGE j) 255).up (F.LINK_STRM_STALE j) true) d

/-- Does an entry's window close after the next CYC_START? -/
def Dev.closesLate (d : Dev) (e : Slot) : Bool := decide (d.time.tb ≤ 25 * e.start + (d.link.cfg.guardNs + 1) / 2)

/-- The CYCNO of the window of an entry that closes in this cycle. -/
def Dev.closeCyc (d : Dev) (e : Slot) : Nat := if d.closesLate e then (d.time.cycno + 2 ^ 32 - 1) % 2 ^ 32 else d.time.cycno

/-- The window of a DLV entry closes (R162): without a good frame the stream ages. -/
def Dev.windowClose (i : Nat) (d : Dev) : Dev :=
  match d.slots.find? (fun e => e.2 == i) with
  | none => d
  | some (e, _) =>
    if e.tx || !e.dlv || !slotActive d.zenithId e || d.link.closed.contains i || decide (d.sstate < 4) then d
    else
      let d := d.runInCycle (25 * e.start + (d.link.cfg.guardNs + 1) / 2 - (if d.closesLate e then d.time.tb else 0))
      let d := { d with link := { d.link with closed := i :: d.link.closed } }
      if d.link.goods.contains (i, d.closeCyc e) then d
      else match d.link.cfg.rx.findIdx? (fun x => x.stream == e.stream) with
        | none => d
        | some j => (d.put (F.LINK_STRM_AGE j) (min 255 (d.get (F.LINK_STRM_AGE j) + 1))).up (F.LINK_STRM_STALE j) true

/-- Has a stream's AGE passed its AGE_LIMIT (R163)? -/
def Dev.ageOver (d : Dev) (j : Nat) : Bool :=
  match d.link.cfg.rx[j]? with
  | some x => x.ageLimit != 255 && decide (x.ageLimit < d.get (F.LINK_STRM_AGE j)) && d.inMode (d.get F.LINK_SCHED_STS_CUR_MODE) x.stream
  | none => false

/-- A delivered stream's buffer as consumers see it: payload, VALID and STALE; nothing outside SCHEDULED and ZENITH. -/
def Dev.streamBody (d : Dev) (j : Nat) : Option (List Word) :=
  if 4 ≤ d.sstate ∧ d.flag (F.LINK_STRM_VALID j) then some (tget d.link.bufs j) else none

/-! Node states (R156, Tables 6.7 and 6.8). -/

/-- FAULT is clear for every stream that a mode has not (R164). -/
def Dev.absentStreams (m : Nat) (d : Dev) : Dev :=
  Dev.each d.link.cfg.rx.zipIdx (fun x d => if d.inMode m x.1.stream then d else d.strmFaultOff x.2) d

/-- The mode in use changes. -/
def Dev.takeMode (m : Nat) (d : Dev) : Dev := (d.put F.LINK_SCHED_STS_CUR_MODE m).absentStreams m

/-- SSTATE changes; PHASE follows (Table 6.7), and a start leaves step 8 (20 Table 20.1). -/
def Dev.setSstate (st : Nat) (d : Dev) : Dev :=
  let was := decide (4 ≤ d.sstate)
  let d := d.put F.LINK_SCHED_STS_SSTATE st
  let d := if 4 ≤ st then { (d.put F.LINK_STS_PHASE 3) with link := { d.link with everSched := true } }
    else if d.phase = 3 then d.put F.LINK_STS_PHASE 2 else d
  let d := if 4 ≤ st ∧ d.get F.CFG_BOOT_STS_STAGE = 8 then d.put F.CFG_BOOT_STS_STAGE 9 else d
  if was ∧ st < 4 then d.dropStreams
  else if ¬ was ∧ 4 ≤ st then d.startStreams (d.inMode (d.get F.LINK_SCHED_STS_CUR_MODE)) else d

/-- The listen timer's length (Table 6.8). -/
def Dev.listenSpan (d : Dev) : Nat := 2 * d.time.tb + 1000 * d.nodeId

/-- Into LISTEN: the listen timer starts at 2·Tb + NODE_ID µs; the node is no longer integrated. -/
def Dev.toListen (d : Dev) : Dev :=
  let d := (d.zenithLeave).setSstate 1
  let d := d.put F.TIME_SERVO_STS_ROLE 0
  { d with
    time := { d.time with integrated := false, outRun := 0 },
    link := { d.link with dawns := [], listenFrom := d.nowNs, listenTimer := d.listenSpan, noSyncDone := false,
                          becomeZenith := false, succ := false, integCycles := 0, fullBegun := false, acc := none, conf := none } }

/-- Silenced (Table 6.8): SILENCE counted, SILENCE_EVT, back to LISTEN. -/
def Dev.silence (d : Dev) : Dev :=
  ((d.cnt F.LINK_SCHED_CNT2_SILENCE).event0 F.LINK_SCHED_EVT_SILENCE_EVT).toListen

/-- The last row of Table 6.4: an INTEGRATING node goes back to LISTEN, a SCHEDULED one is silenced. -/
def Dev.driftOut (d : Dev) : Dev := if d.sstate = 3 then d.toListen else d.silence

/-- ENTER_LISTEN (R156, R148): ID_VALID and a table that passes its checks; a root has first loaded its companions (20 Table 20.1). -/
def Dev.enterListen (d : Dev) : Dev :=
  if d.idValid = false ∨ d.phase ≠ 2 ∨ d.sstate ≠ 0 ∨ d.get F.CFG_BOOT_STS_STAGE < 8 then d
  else match checkTables d.link.cfg d.nodeId with
    | some (m, r, e) =>
      (((d.put F.LINK_TABLE_ERR_MODE m).put F.LINK_TABLE_ERR_REASON r).put F.LINK_TABLE_ERR_ENTRY e).event0
        F.LINK_SCHED_EVT_TABLE_ERR_EVT
    | none => d.toListen

/-- A frame of this node by its broadcast tree, whatever the guardian's slot rule (DAWN in COLDSTART). -/
def Dev.broadcastNow (f : Frame) (d : Dev) : Dev :=
  Dev.each (d.ownPorts f) (fun p d => if d.portState p = 3 then d.egressAt p (ownItem f .plain d.nowPs.toNat) d.nowPs.toNat else d) d

/-- The listen timer expires (R155, R156): a coldstart node that heard nothing sends DAWN. -/
def Dev.listenExpire (d : Dev) : Dev :=
  let d := d.runTo (d.link.listenFrom + d.link.listenTimer)
  if d.sstate = 1 ∧ d.link.cfg.coldstart.contains d.nodeId ∧ d.link.dawns = [] then
    let n := d.link.dawnSent + 1
    let d := d.setSstate 2
    let d := { d with link := { d.link with dawnSent := n, dawnEnd := d.nowNs + 2 * d.time.tb } }
    d.broadcastNow (d.mkFrame 2 d.nodeId 2 0xFFFD [BitVec.ofNat 32 (0x960 * 2 ^ 16 + d.nodeId), BitVec.ofNat 32 n])
  else d

/-- A DAWN delivered here (R157): in COLDSTART one from a lower ID makes the node abandon. -/
def Dev.dawnIn (f : Frame) (d : Dev) : Dev :=
  let id := bitsOf (f.w 0) 4 0
  if d.sstate = 1 then { d with link := { d.link with dawns := (id, d.nowNs) :: d.link.dawns } }
  else if d.sstate = 2 ∧ id < d.nodeId then
    let d := (d.event0 F.LINK_SCHED_EVT_DAWN_ABANDON_EVT).toListen
    { d with link := { d.link with dawns := [(id, d.nowNs)] } }
  else d

/-- Dawn IDs heard within the last 4·Tb. -/
def Dev.recentDawns (d : Dev) : List Nat :=
  (d.link.dawns.filter (fun x => decide (d.nowNs ≤ x.2 + 4 * d.time.tb))).map (·.1)

/-- No SYNC within 4·Tb after a DAWN: the listen timer restarts (Table 6.8). -/
def Dev.dawnWait (d : Dev) : Dev :=
  match d.link.dawns with
  | [] => d
  | (_, t) :: _ =>
    if d.sstate = 1 then
      let d := d.runTo (t + 4 * d.time.tb)
      { d with link := { d.link with dawns := [], listenTimer := (d.nowNs - d.link.listenFrom) + d.listenSpan } }
    else d

/-- The dawn window ends with no lower DAWN: ZENITH at the first CYC_START at least 1 µs later. -/
def Dev.dawnWindowEnd (d : Dev) : Dev :=
  if d.sstate = 2 then
    let d := d.runTo d.link.dawnEnd
    { d with link := { d.link with becomeZenith := true } }
  else d

/-- 100 ms in LISTEN: NO_SYNC_EVT once. -/
def Dev.noSync (d : Dev) : Dev :=
  if d.sstate = 1 ∧ d.link.noSyncDone = false then
    let d := d.runTo (d.link.listenFrom + 100000000)
    ({ d with link := { d.link with noSyncDone := true } }).event0 F.LINK_SCHED_EVT_NO_SYNC_EVT
  else d

/-- No full valid cycle within 16 cycles (Table 6.8). -/
def Dev.integTimeout (d : Dev) : Dev := if d.sstate = 3 ∧ 16 ≤ d.link.integCycles then d.toListen else d

/-- HOLD_MAX consecutive cycles without an accepted SYNC (Table 6.8). -/
def Dev.holdMax (d : Dev) : Dev :=
  if d.sstate = 4 ∧ d.link.cfg.holdMax ≤ d.get F.LINK_SCHED_STS_MISS_RUN then d.silence else d

/-- Rank among the COLDSTART nodes other than the zenith node (R160). -/
def Dev.rank (d : Dev) : Option Nat :=
  ((d.link.cfg.coldstart.filter (fun n => n != d.zenithId)).mergeSort (· ≤ ·)).findIdx? (· == d.nodeId)

/-- Succession (R160): ZENITH at the next CYC_START. -/
def Dev.succession (d : Dev) : Dev :=
  match d.rank with
  | some k => if d.sstate = 4 ∧ 4 + 2 * k ≤ d.get F.LINK_SCHED_STS_MISS_RUN
    then { d with link := { d.link with succ := true } } else d
  | none => d

/-! Mode changes (R165 to R167). -/

/-- A proposal becomes void, with its reason; the SYNC of cycle cyc carries that. -/
def Dev.voidProp (reason cyc : Nat) (d : Dev) : Dev :=
  let d := (d.put F.LINK_MODE_STS_PROP_STATE 3).put F.LINK_MODE_STS_VOID_REASON reason
  let d := { d with link := { d.link with propSent := none, voidCyc := some (cyc % 2 ^ 32) } }
  (d.cnt F.LINK_SCHED_CNT2_MODE_VOID).event0 F.LINK_SCHED_EVT_MODE_VOID_EVT

/-- Is a proposal outstanding on the zenith node: proposed or confirmed and not yet switched? -/
def Dev.propOpen (d : Dev) : Bool :=
  d.sstate == 5 && (d.get F.LINK_MODE_STS_PROP_STATE == 1 || d.get F.LINK_MODE_STS_PROP_STATE == 2)

/-- Why PROPOSE is refused as ILLEGAL (R165). -/
def Dev.proposeOk (d : Dev) (w : Word) : Bool :=
  d.sstate == 5 && !d.propOpen && w.toNat < 8 && d.link.cfg.held.contains (bitsOf w.toNat 2 1)

/-- An accepted PROPOSE. -/
def Dev.propose (w : Word) (d : Dev) : Dev :=
  let m := bitsOf w.toNat 2 1
  let d := d.put F.LINK_MODE_REQ_MODE m
  if bitOf w.toNat 0 then
    let d := (d.put F.LINK_MODE_STS_PROP_MODE m).put F.LINK_MODE_STS_PROP_STATE 1
    let d := (d.wr R.LINK_MODE_ACC 0).wr R.LINK_MODE_EXP 0
    { d with link := { d.link with propCyc := (d.rd R.LINK_MODE_CYC).toNat, propSent := none, declined := 0 } }
  else d

/-- b - a of two cycle numbers, read as a signed 32-bit distance (CYCNO wraps, 01 R22). -/
def cycDist (a b : Nat) : Int := sInt 32 ((b + 2 ^ 32 - a % 2 ^ 32) % 2 ^ 32)

/-- The switch to another mode (R166 step 5, R164). -/
def Dev.switchMode (m : Nat) (d : Dev) : Dev :=
  let old := d.get F.LINK_SCHED_STS_CUR_MODE
  let d := (d.takeMode m).put F.LINK_MODE_STS_PROP_STATE 0
  let d := { d with link := { d.link with acc := none, conf := none, propSent := none, fullBegun := false } }
  let d := d.startStreams (fun st => d.inMode m st && !d.inMode old st)
  d.event0 F.LINK_SCHED_EVT_MODE_SWITCH_EVT

/-- The proposal at a CYC_START on the zenith node (R166): sending, decision, end of an announcement, switch. A proposal void at once is
announced in the SYNC that would have carried its decision, as any void one. -/
def Dev.propCycle (d : Dev) : Dev :=
  let c := d.time.cycno
  let st := d.get F.LINK_MODE_STS_PROP_STATE
  let m := d.get F.LINK_MODE_STS_PROP_MODE
  if st = 3 then (if (d.link.voidCyc.map (fun v => decide (0 < cycDist v c))).getD true then d.put F.LINK_MODE_STS_PROP_STATE 0 else d)
  else if st = 2 ∧ c = d.link.propCyc then d.switchMode m
  else if st = 1 then
    match d.link.propSent with
    | none =>
      if cycDist c d.link.propCyc < 4 then d.voidProp 1 (c + 2)
      else if m = d.get F.LINK_SCHED_STS_CUR_MODE then d.voidProp 2 (c + 2)
      else
        let d := d.wr R.LINK_MODE_EXP (BitVec.ofNat 32 (setBit (d.rd R.LINK_LIVE).toNat d.nodeId false))
        { d with link := { d.link with propSent := some c } }
    | some s =>
      if cycDist s c < 2 then d
      else
        let ex := (d.rd R.LINK_MODE_EXP).toNat
        let ac := (d.rd R.LINK_MODE_ACC).toNat
        let miss := (onesBelow 32 ex).filter (fun n => !bitOf ac n)
        if miss = [] then d.put F.LINK_MODE_STS_PROP_STATE 2
        else if miss.all (fun n => bitOf d.link.declined n) then d.voidProp 4 c
        else d.voidProp 3 c
  else d

/-- A node other than the zenith node at a CYC_START (R166, R167): one that saw the confirmation switches; a follower that accepted and
saw no decision silences itself. -/
def Dev.followCycle (d : Dev) : Dev :=
  match d.link.conf, d.link.acc with
  | some (m, c), _ => if d.time.cycno = c then d.switchMode m else d
  | none, some (_, c) => if d.time.cycno = c ∧ d.sstate = 4 then d.silence else d
  | none, none => d

/-- What a SYNC says of a proposal, on a follower (R166); a proposal other than the one it knows replaces that. -/
def Dev.propSync (f : Frame) (d : Dev) : Dev :=
  let st := bitsOf (f.w 0) 6 5
  let m := bitsOf (f.w 0) 4 3
  let c := f.w 9
  let d := (d.put F.LINK_MODE_STS_PROP_STATE st).put F.LINK_MODE_STS_PROP_MODE m
  match st with
  | 1 =>
    if d.link.acc = some (m, c) then d
    else
      let ok := d.sstate = 4 ∧ d.holdsMode m ∧ 3 ≤ cycDist d.time.cycno c
      { d with link := { d.link with acc := if ok then some (m, c) else none, conf := none } }
  | 2 => { d with link := { d.link with acc := none, conf := some (m, c) } }
  | 3 => { d with link := { d.link with acc := none, conf := none } }
  | _ => d

/-! SYNC (R99, R101, R150, R156 to R161). -/

/-- The offset e of a SYNC on port p (R99), in ps. -/
def Dev.syncOffset (d : Dev) (p : Nat) (f : Frame) (stamp : Nat) : Int :=
  let ts := 1000 * ((f.w 1 + 2 ^ 32 * f.w 2 : Nat) : Int) + ((f.w 3 % 1024 : Nat) : Int)
  d.ingress p stamp - (ts + sInt 32 (f.w 4) + d.gets (F.LINK_PORT_DLY_DELAY p))

/-- LIVE, TOD_OFFSET and TOD_VALID of an accepted SYNC (R109, Table 6.11). -/
def Dev.syncCopy (f : Frame) (d : Dev) : Dev :=
  let d := { d with link := { d.link with syncLive := (f.w 5, f.body.getD 10 0) :: d.link.syncLive.take 1 } }
  let d := (d.wr R.LINK_LIVE (f.body.getD 10 0)).put F.LINK_SCHED_STS_MISS_RUN 0
  let d := (d.wr R.TIME_TOD_OFFSET_LO (f.body.getD 7 0)).wr R.TIME_TOD_OFFSET_HI (f.body.getD 8 0)
  let d := d.up F.TIME_SERVO_STS_TOD_VALID (bitOf (f.w 0) 7)
  { d with time := { d.time with syncSeen := true } }

/-- A SYNC accepted in LISTEN (Table 6.8, R103, R22): TIME steps and the counters are adopted. -/
def Dev.integrate (e : Int) (f : Frame) (d : Dev) : Dev :=
  let d := d.timeStep e
  let d := { d with
    time := { d.time with cycno := f.w 5, cycPh := bitsOf (f.w 6) 26 16, planPh := bitsOf (f.w 6) 7 0 },
    link := { d.link with integCycles := 0, fullBegun := false, accepted := [], goods := [], closed := [], sent := [] } }
  let d := (d.takeMode (bitsOf (f.w 0) 2 1)).put F.LINK_SCHED_STS_ZENITH_ID f.src
  let d := (d.put F.TIME_SERVO_STS_ROLE 1).puts F.TIME_OFFSET_OFFSET (clampI (-2 ^ 31) (2 ^ 31 - 1) e)
  (((d.lockSample e).setSstate 3).syncCopy f).propSync f

/-- The offset class of Table 6.4. -/
def Dev.driftClass (d : Dev) : Dev :=
  let a := (d.gets F.TIME_OFFSET_OFFSET).natAbs
  let g := d.link.cfg.guardNs
  if 500 * g < a then d.driftOut
  else if 250 * g < a then
    (if d.flag F.LINK_SCHED_STS_DRIFT_WARN then d else (d.up F.LINK_SCHED_STS_DRIFT_WARN true).event0 F.LINK_SCHED_EVT_DRIFT_EVT)
  else d.up F.LINK_SCHED_STS_DRIFT_WARN false

/-- The first SYNC accepted from another node is from the new zenith node; an outstanding proposal is void (R159, R160). -/
def Dev.newZenith (f : Frame) (d : Dev) : Dev :=
  if f.src = d.zenithId then d
  else
    let d := d.put F.LINK_SCHED_STS_ZENITH_ID f.src
    let d := if d.link.acc.isSome || d.link.conf.isSome then d.put F.LINK_MODE_STS_VOID_REASON 5 else d
    { d with link := { d.link with acc := none, conf := none } }

/-- An accepted SYNC in its entry of the table in use, for the cycle whose CYCNO it carries. -/
def Dev.syncTake (p : Nat) (f : Frame) (d : Dev) : Dev :=
  d.slotTake (((d.rxSlots p).find? (fun e => e.1.kind == 1 && e.1.src == f.src)).map (fun e => (e.2, f.w 5))) f

/-- A SYNC of the node's zenith, or of a new one, while integrated (R104, R150). One discarded as an outlier is no accepted SYNC frame of
its cycle: it counts as missed, and neither LIVE nor TOD is taken from it (log entry 76). An INTEGRATING node takes CUR_MODE from a SYNC; where that is
the first it hears of a switch, its full valid cycle restarts at the CYC_START of the switch, in the new mode's entries (R167). -/
def Dev.syncFollow (p : Nat) (e : Int) (f : Frame) (d : Dev) : Dev :=
  let (d, ok) := d.syncSample e
  if !ok then (if 4 ≤ d.time.outRun then d.driftOut else d)
  else
    let d := (d.newZenith f).syncCopy f
    let newMode := bitsOf (f.w 0) 2 1
    let d := if d.sstate = 3 ∧ newMode ≠ d.get F.LINK_SCHED_STS_CUR_MODE then
        let d := d.takeMode newMode
        { d with link := { d.link with accepted := [], goods := [] } }
      else d
    ((d.syncTake p f).propSync f).driftClass

/-- A SYNC frame delivered here (R157, R159, R161). -/
def Dev.syncIn (p : Nat) (f : Frame) (stamp : Nat) (d : Dev) : Dev :=
  let e := d.syncOffset p f stamp
  match d.sstate with
  | 1 =>
    let ds := d.recentDawns
    if ds = [] ∨ ds.all (fun n => decide (f.src ≤ n)) ∧ ds.contains f.src then d.integrate e f else d
  | 5 =>
    if f.src = d.nodeId then d
    else if f.src < d.nodeId then (d.event0 F.LINK_SCHED_EVT_ZEN_CONFLICT_EVT).toListen
    else d.cnt F.LINK_SCHED_CNT1_SLOT_STREAM
  | st =>
    if st < 3 then d
    else if f.src = d.zenithId then d.syncFollow p e f
    else if 4 ≤ d.get F.LINK_SCHED_STS_MISS_RUN then d.syncFollow p e f
    else d.cnt F.LINK_SCHED_CNT1_SLOT_STREAM

/-- PROP_STATE as the SYNC of this cycle carries it: void in one cycle only (R166). -/
def Dev.syncProp (d : Dev) : Nat :=
  let st := d.get F.LINK_MODE_STS_PROP_STATE
  if st = 3 ∧ d.link.voidCyc ≠ some d.time.cycno then 0 else st

/-- The SYNC payload of the zenith node (Table 6.5); T_SYNC is written as the frame leaves. -/
def Dev.syncBody (d : Dev) : List Word :=
  let w0 := 0x01000000 + 128 * d.get F.TIME_SERVO_STS_TOD_VALID + 32 * d.syncProp
    + 8 * d.get F.LINK_MODE_STS_PROP_MODE + 2 * d.get F.LINK_SCHED_STS_CUR_MODE
  [BitVec.ofNat 32 w0, 0, 0, 0, 0, BitVec.ofNat 32 d.time.cycno, BitVec.ofNat 32 (d.time.cycPh * 2 ^ 16 + d.time.planPh),
    d.rd R.TIME_TOD_OFFSET_LO, d.rd R.TIME_TOD_OFFSET_HI, BitVec.ofNat 32 d.link.propCyc, d.rd R.LINK_LIVE]

/-- The ECHO payload of a follower (Table 6.6). -/
def Dev.echoBody (d : Dev) : List Word :=
  let w0 := 0x02000000 + 128 * d.get F.LINK_SCHED_STS_DRIFT_WARN + 32 * d.get F.LINK_SCHED_STS_CUR_MODE + d.nodeId
  let (a, m, c) := match d.link.acc with | some (m, c) => (1, m, c) | none => (0, 0, 0)
  [BitVec.ofNat 32 w0, BitVec.ofNat 32 (4 * a + m), BitVec.ofNat 32 c, d.rd R.TIME_OFFSET]

/-- An ECHO accepted on the zenith node (R154, R166). -/
def Dev.echoIn (f : Frame) (d : Dev) : Dev :=
  if d.sstate ≠ 5 then d
  else
    let n := f.src
    let d := { d with link := { d.link with echoed := setBit d.link.echoed n true } }
    match d.link.propSent with
    | none => d
    | some _ =>
      if d.get F.LINK_MODE_STS_PROP_STATE ≠ 1 then d
      else if bitOf (f.w 1) 2 then
        (if bitsOf (f.w 1) 1 0 = d.get F.LINK_MODE_STS_PROP_MODE ∧ f.w 2 = d.link.propCyc
         then d.wr R.LINK_MODE_ACC (BitVec.ofNat 32 (setBit (d.rd R.LINK_MODE_ACC).toNat n true)) else d)
      else { d with link := { d.link with declined := setBit d.link.declined n true } }

/-! CYC_START (R154, R156, R158, R160). -/

/-- Was the cycle that ends at this CYC_START a full valid one (R158)? CYCNO has advanced; without an accepted SYNC it was not. -/
def Dev.cycleValid (d : Dev) : Bool :=
  let c := (d.time.cycno + 2 ^ 32 - 1) % 2 ^ 32
  match d.link.syncLive.find? (fun x => x.1 == c) with
  | none => false
  | some x => d.slots.all (fun e => e.1.tx || !slotActive d.zenithId e.1 || !bitOf x.2.toNat e.1.src
    || (onesBelow 8 e.1.ports).all (fun p => d.portState p != 3)
    || d.link.goods.contains (e.2, c))

/-- Into ZENITH from the dawn window (Table 6.8): the counters at 0, LIVE its own bit. -/
def Dev.zenithDawn (d : Dev) : Dev :=
  let d := d.zenithStep
  let d := (d.put F.LINK_SCHED_STS_ZENITH_ID d.nodeId).takeMode 0
  let d := (d.setSstate 5).put F.LINK_MODE_STS_PROP_STATE 0
  let d := { d with link := { d.link with becomeZenith := false, echoed := 0 } }
  d.event0 F.LINK_SCHED_EVT_ZENITH_EVT

/-- Into ZENITH by succession (R160): counters and time go on; an open proposal is void. -/
def Dev.zenithSucc (d : Dev) : Dev :=
  let live := setBit (d.rd R.LINK_LIVE).toNat d.zenithId false
  let had := d.get F.LINK_MODE_STS_PROP_STATE = 1 ∨ d.get F.LINK_MODE_STS_PROP_STATE = 2
  let d := { d with
    link := { d.link with succ := false, echoed := live, acc := none, conf := none, propSent := none },
    time := { d.time with integrated := false } }
  let d := (d.put F.LINK_SCHED_STS_ZENITH_ID d.nodeId).setSstate 5
  let d := (if had then d.voidProp 5 d.time.cycno else d).put F.LINK_MODE_STS_PROP_STATE 0
  (d.zenithRole).event0 F.LINK_SCHED_EVT_ZENITH_EVT

/-- The schedule at CYC_START, after the counters have advanced. A window of the last cycle that is still open ages a stream only where the
node was in SCHEDULED or ZENITH, and in this mode, as it opened. -/
def Dev.schedCycle (d : Dev) : Dev :=
  let was := (decide (4 ≤ d.sstate), d.get F.LINK_SCHED_STS_CUR_MODE)
  let follower := d.sstate = 3 ∨ d.sstate = 4
  let d := if follower ∧ d.time.syncSeen = false
    then d.put F.LINK_SCHED_STS_MISS_RUN (min 255 (d.get F.LINK_SCHED_STS_MISS_RUN + 1)) else d
  let d := d.syncMiss
  let d := if d.link.becomeZenith ∧ d.sstate = 2 ∧ d.link.dawnEnd + 1000 ≤ d.nowNs then d.zenithDawn else d
  let d := if d.link.succ ∧ d.sstate = 4 then d.zenithSucc else d
  let d := if d.sstate = 3 ∨ d.sstate = 4 then d.followCycle else d
  let d := if d.sstate = 3 then
      (if d.link.fullBegun ∧ d.cycleValid then (d.setSstate 4).event0 F.LINK_SCHED_EVT_INTEG_EVT
       else { d with link := { d.link with integCycles := d.link.integCycles + 1, fullBegun := true } })
    else d
  let d := if d.sstate = 5 then
      let d := d.wr R.LINK_LIVE (BitVec.ofNat 32 (setBit d.link.echoed d.nodeId true))
      ({ d with link := { d.link with echoed := 0 } }).propCycle
    else d
  let now := fun (l : List (Nat × Nat)) => l.filter (fun x => x.2 == d.time.cycno || (x.2 + 1) % 2 ^ 32 == d.time.cycno)
  let closed := if was = (true, d.get F.LINK_SCHED_STS_CUR_MODE) then [] else (d.slots.filter (fun e => d.closesLate e.1)).map (·.2)
  { d with link := { d.link with accepted := now d.link.accepted, goods := now d.link.goods, closed := closed, sent := [] } }

/-! Slots (R151 to R153). -/

/-- An active tx entry of the mode in use whose START has not passed in this cycle: TIME stands at most at the tick that reaches it. -/
def Dev.txSlot (d : Dev) (i : Nat) : Option Slot :=
  match d.slots.find? (fun e => e.2 == i) with
  | some (e, _) =>
    if e.tx && slotActive d.zenithId e && decide (4 ≤ d.sstate) && !d.link.sent.contains i
      && decide (d.time.now < 2 ^ 32 * (d.time.cycStart + 25 * e.start) + d.tickInc) then some e else none
  | none => none

/-- A slot frame that falls due in the delay window is held in its port's buffer until the window ends, and counts DLY_CONFLICT (R132). -/
def Dev.slotHold (p : Nat) (it : EgrItem) (d : Dev) : Dev :=
  let d := d.cnt (F.LINK_PORT_CNT4_DLY_CONFLICT p)
  if (tget d.link.ports p).buf.isSome then d.egrDrop p
  else d.modPort p (fun q => { q with buf := some it, hold := 1000 * d.time.cycStart + (1000 * d.time.tb - 1250000) })

/-- The frame of an entry goes out at its START on the ports it names (R151), never late. -/
def Dev.slotSend (e : Slot) (typ : Nat) (body : List Word) (x : OnExit) (d : Dev) : Dev :=
  if e.len < body.length then d
  else
    let b := body ++ List.replicate (e.len - body.length) 0
    let f := d.mkFrame typ e.dst e.rclass e.stream b
    Dev.each (onesBelow 8 e.ports) (fun p d =>
      if d.portState p ≠ 3 then d
      else
        let it := ownItem f x d.nowPs.toNat
        if d.inDelayWindow (25000 * (e.start : Int)) then d.slotHold p it else d.egressAt p it d.nowPs.toNat) d

/-- The SYNC or ECHO of an entry (R152, R153). -/
def Dev.slotSync (e : Slot) (d : Dev) : Dev :=
  if e.kind = 1 then (if d.sstate = 5 then d.slotSend e 1 d.syncBody .tsync else d)
  else if e.kind = 2 ∧ d.sstate = 4 then d.slotSend e 1 d.echoBody .plain else d

/-! Commands. -/

/-- SYNC_RECEIVE (R99). -/
def execSyncReceive (p : Fin 8) (f : Frame) (stamp : Nat) (s : State) : Host.Outcome State Fault Refusal :=
  onDev (fun d =>
    let (d, here) := d.frameIn p f stamp
    if here && f.typ == 1 && f.stream == 0xFFFF then d.syncIn p f stamp else d) s

/-- ENTER_LISTEN (R156). -/
def execEnterListen (s : State) : Host.Outcome State Fault Refusal := onDev Dev.enterListen s

/-- LISTEN_TIMER_EXPIRE (R156). -/
def execListenTimerExpire (s : State) : Host.Outcome State Fault Refusal := onDev Dev.listenExpire s

/-- DAWN_RECEIVE (R157). -/
def execDawnReceive (p : Fin 8) (f : Frame) (stamp : Nat) (s : State) : Host.Outcome State Fault Refusal :=
  onDev (fun d =>
    let (d, here) := d.frameIn p f stamp
    if here && f.typ == 2 then d.dawnIn f else d) s

/-- DAWN_WAIT_TIMEOUT (R156). -/
def execDawnWaitTimeout (s : State) : Host.Outcome State Fault Refusal := onDev Dev.dawnWait s

/-- DAWN_WINDOW_END (R156). -/
def execDawnWindowEnd (s : State) : Host.Outcome State Fault Refusal := onDev Dev.dawnWindowEnd s

/-- NO_SYNC_TIMEOUT (R156). -/
def execNoSyncTimeout (s : State) : Host.Outcome State Fault Refusal := onDev Dev.noSync s

/-- INTEGRATION_TIMEOUT (R156). -/
def execIntegrationTimeout (s : State) : Host.Outcome State Fault Refusal := onDev Dev.integTimeout s

/-- HOLD_MAX_SILENCE (R156). -/
def execHoldMaxSilence (s : State) : Host.Outcome State Fault Refusal := onDev Dev.holdMax s

/-- ZENITH_SUCCESSION (R160). -/
def execZenithSuccession (s : State) : Host.Outcome State Fault Refusal := onDev Dev.succession s

/-- ECHO_RECEIVE (R154). -/
def execEchoReceive (p : Fin 8) (f : Frame) (stamp : Nat) (s : State) : Host.Outcome State Fault Refusal :=
  onDev (fun d =>
    let (d, here) := d.frameIn p f stamp
    if here && f.typ == 1 && f.stream == 0xFFFE then d.echoIn f else d) s

end Sys2Proof.Machine
end

