-- ==== Sys2Proof/Machine/Fb.lean ====
section
/-! DEFINITION. Position and speed feedback (chapter 7): count channels, absolute encoders and output dividers. -/
namespace Sys2Proof.Machine
open Sys2Proof.Config

/-- Change a count channel's hidden state. -/
def Dev.modChan (n : Nat) (f : ChanSt → ChanSt) (d : Dev) : Dev := { d with fb := { d.fb with chans := tmod d.fb.chans n f } }

/-- Change an encoder port's hidden state. -/
def Dev.modEnc (j : Nat) (f : EncSt → EncSt) (d : Dev) : Dev := { d with fb := { d.fb with encs := tmod d.fb.encs j f } }

/-- Change a divider's hidden state. -/
def Dev.modDiv (k : Nat) (f : DivSt → DivSt) (d : Dev) : Dev := { d with fb := { d.fb with divs := tmod d.fb.divs k f } }

/-- The present SYS clock since the root PLL locked: two to a TIME tick. -/
def Dev.sysClk (d : Dev) : Nat := 2 * d.time.ticks

/-- Tb in SYS clocks (R176). -/
def Dev.tbClk (d : Dev) : Nat := d.time.tb * 2 / 5

/-- MODE of a channel as it acts: 0b11 is off. -/
def Dev.chanMode (d : Dev) (n : Nat) : Nat := let m := d.get (F.FB_QCFG_MODE n); if m = 3 then 0 else m

/-! Output dividers (R189 to R191). -/

/-- Fields of a divider's CTL and RATIO in use. -/
def divEn (c : Word) : Bool := bitOf c.toNat 16 && !bitOf c.toNat 6
def divN (r : Word) : Nat := max 1 (bitsOf r.toNat 31 16)
def divM (r : Word) : Nat := max 1 (bitsOf r.toNat 15 0)

/-- A divider takes s source counts (R189, R190): BACKLOG saturates, each lost count raises OVF_EVT. -/
def Dev.divTake (k : Nat) (s : Int) (d : Dev) : Dev :=
  let x := tget d.fb.divs k
  let a := x.acc + s * divN x.ratio
  let m : Int := divM x.ratio
  let b := d.gets (F.FB_DIV_STS_BACKLOG k) + a.tdiv m
  let b' := clampI (-32767) 32767 b
  let d := (d.puts (F.FB_DIV_STS_BACKLOG k) b').modDiv k (fun x => { x with acc := a.tmod m })
  Dev.each (List.range (b - b').natAbs) (fun _ d => d.event0 (F.FB_DIV_STS_OVF_EVT k)) d

/-- Counts of a source reach the dividers that follow it (typ 0 a count channel, 1 an encoder port). -/
def Dev.divFeed (typ idx : Nat) (s : Int) (d : Dev) : Dev :=
  Dev.each (List.range 8) (fun k d =>
    let c := (tget d.fb.divs k).ctl
    if divEn c && bitsOf c.toNat 6 5 == typ && bitsOf c.toNat 4 0 == idx then d.divTake k s else d) d

/-- A divider with backlog steps its quadrature output (R190). -/
def Dev.divStep (k clk : Nat) (d : Dev) : Dev :=
  let x := tget d.fb.divs k
  let b := d.gets (F.FB_DIV_STS_BACKLOG k)
  let wait := match x.lastStep with
    | some l => decide (clk < l + max 10 (bitsOf x.ctl.toNat 15 8))
    | none => false
  if b = 0 ∨ wait = true ∨ divEn x.ctl = false then d
  else
    let up := decide (0 < b)
    let fwd := up != bitOf x.ctl.toNat 7
    (d.puts (F.FB_DIV_STS_BACKLOG k) (if up then b - 1 else b + 1)).modDiv k (fun x =>
      { x with phase := (x.phase + (if fwd then 1 else 3)) % 4, lastStep := some clk })

/-- Written CTL and RATIO take effect at CYC_START (R191). -/
def Dev.divCycle (d : Dev) : Dev :=
  Dev.each (List.range 8) (fun k d =>
    let c := d.rd (R.FB_DIV_CTL k)
    let d := d.modDiv k (fun x =>
      { x with ctl := c, ratio := d.rd (R.FB_DIV_RATIO k), acc := if x.pendRatio then 0 else x.acc, pendRatio := false })
    if divEn c then d.aioAct (fun u => u == .divider k 0 || u == .divider k 1)
    else (d.put (F.FB_DIV_STS_BACKLOG k) 0).modDiv k (fun x => { x with acc := 0 })) d

/-! Counting (R170 to R180). -/

/-- Position of a filtered state (A, B) in the sequence 00, 10, 11, 01 (R171). -/
def quadPos (a b : Bool) : Nat := if a then (if b then 2 else 1) else (if b then 3 else 0)

/-- COUNT moves by s. -/
def Dev.chanAdd (n : Nat) (s : Int) (d : Dev) : Dev :=
  ((d.puts (F.FB_QCNT_COUNT n) (d.gets (F.FB_QCNT_COUNT n) + s))).divFeed 0 n s

/-- The period history is cleared, as after a reversal edge (R172, R179). -/
def Dev.chanClear (n : Nat) (d : Dev) : Dev :=
  ((d.up (F.FB_QSTS_PER_VALID n) false).up (F.FB_QSTS_METHOD n) false).modChan n (fun c => { c with opened := none })

/-- Is the device parked, so that latching and the encoder ports are gated (R486)? -/
def Dev.inPark (d : Dev) : Bool := d.get F.PWR_STS_STATE == 2

/-- A counted transition in direction neg, stamped clk (R171, R176, R178, R179). STANDSTILL is not re-evaluated in PARK (R486). -/
def Dev.chanCount (n : Nat) (neg : Bool) (clk : Nat) (d : Dev) : Dev :=
  let c := tget d.fb.chans n
  let still := d.flag (F.FB_QSTS_STANDSTILL n)
  let d := d.chanAdd n (if neg then -1 else 1)
  let d := ((d.up (F.FB_QSTS_DIR n) neg).up (F.FB_QSTS_DIR_KNOWN n) true).up (F.FB_QSTS_STANDSTILL n) (still && d.inPark)
  let d := d.modChan n (fun c => { c with last := some clk, lastNeg := some neg })
  if still ∨ c.lastNeg = none then d.modChan n (fun c => { c with opened := some clk })
  else if c.lastNeg = some neg then
    match c.opened with
    | some o => (d.up (F.FB_QSTS_PER_VALID n) true).modChan n (fun c => { c with per := clk - o, opened := some clk })
    | none => d.modChan n (fun c => { c with opened := some clk })
  else d.chanClear n

/-- Both lines changed in one sample (R172). -/
def Dev.chanIllegal (n : Nat) (d : Dev) : Dev :=
  let d := ((d.cnt (F.FB_QERR_QUAD_ERR n)).cnt (F.FB_QERR_CYC_ERR n)).event0 (F.FB_QEVT_QERR_EVT n)
  let d := d.chanClear n
  if d.flag (F.FB_QCFG_CATCHUP n) ∧ d.flag (F.FB_QSTS_DIR_KNOWN n) then
    d.chanAdd n (if d.flag (F.FB_QSTS_DIR n) then -2 else 2)
  else d

/-! Lines and their filters (R170). -/

/-- N, the samples a filter needs. -/
def Dev.chanN (d : Dev) (n : Nat) : Nat := d.get (F.FB_QCFG_FILT n) + 1

/-- A filter takes the sample of a SYS clock; the second component is the raw edge of a change of the filtered level, which comes with the
N-th sample in a row at the new level. -/
def LineF.sample (need clk : Nat) (x : Bool) (l : LineF) : LineF × Option Nat :=
  if x = l.lvl then ({ l with raw := x, run := 0 }, none)
  else
    let since := if l.run = 0 then clk else l.since
    if need ≤ l.run + 1 then ({ lvl := x, raw := x, run := 0, since := since }, some since)
    else ({ l with raw := x, run := l.run + 1, since := since }, none)

/-- A filtered transition from (a, b) as it stood to the lines' present levels, stamped clk (R171, R172). -/
def Dev.quadTransition (n : Nat) (a b : Bool) (clk : Nat) (d : Dev) : Dev :=
  let c := tget d.fb.chans n
  let inv := d.flag (F.FB_QCFG_INV_DIR n)
  match (quadPos c.a.lvl c.b.lvl + 4 - quadPos a b) % 4 with
  | 0 => d
  | 1 => d.chanCount n inv clk
  | 3 => d.chanCount n (!inv) clk
  | _ => d.chanIllegal n

/-- The filtered direction level at a SYS clock (R180). -/
def ChanSt.dirAt (c : ChanSt) (t : Int) : Bool :=
  match c.dirs.find? (fun x => decide ((x.1 : Int) ≤ t)) with
  | some x => x.2
  | none => match c.dirs.getLast? with
    | some x => !x.2
    | none => c.b.lvl

/-- A filtered change of the step line, stamped clk: its active edge counts by the direction level DIR_SU clocks before it (R180). -/
def Dev.stepEdge (n : Nat) (clk : Nat) (d : Dev) : Dev :=
  let c := tget d.fb.chans n
  if c.a.lvl == d.flag (F.FB_QCFG_STEP_EDGE n) then d
  else d.chanCount n (c.dirAt ((clk : Int) - d.get (F.FB_QCFG_DIR_SU n)) == d.flag (F.FB_QCFG_INV_DIR n)) clk

/-- A count channel takes a sample of its lines A and B: a filtered change of either, or of both, counts as the mode has it. -/
def Dev.chanSample (n : Nat) (x : Bool × Bool) (d : Dev) : Dev :=
  let c := tget d.fb.chans n
  let need := d.chanN n
  let (a, ea) := c.a.sample need c.clk x.1
  let (b, eb) := c.b.sample need c.clk x.2
  let dirs := match eb with
    | some t => ((t, b.lvl) :: c.dirs).take 300
    | none => c.dirs
  let d := d.modChan n (fun c => { c with a := a, b := b, clk := c.clk + 1, dirs := dirs })
  match ea, eb with
  | none, none => d
  | some t, _ => if d.chanMode n = 1 then d.quadTransition n c.a.lvl c.b.lvl t else d.stepEdge n t
  | none, some t => if d.chanMode n = 1 then d.quadTransition n c.a.lvl c.b.lvl t else d

/-- A rising edge of the filtered Z line (R175). -/
def Dev.zEdge (n : Nat) (d : Dev) : Dev := (d.wr (R.FB_QZCAP n) (d.rd (R.FB_QCNT n))).event0 (F.FB_QEVT_Z_EVT n)

/-- A count channel takes a sample of its Z line. -/
def Dev.zSample (n : Nat) (x : Bool) (d : Dev) : Dev :=
  let c := tget d.fb.chans n
  let (z, e) := c.z.sample (d.chanN n) c.zClk x
  let d := d.modChan n (fun c => { c with z := z, zClk := c.zClk + 1 })
  if e.isSome && z.lvl then d.zEdge n else d

/-- Samples of line Z from a SYS clock on. -/
def Dev.zSamples (n : Nat) (xs : List Bool) (clk : Nat) (d : Dev) : Dev :=
  if d.chanMode n = 0 then d
  else
    let c := tget d.fb.chans n
    let d := Dev.each (List.replicate (min 16 (clk - c.zClk)) c.z.raw) (Dev.zSample n) d
    Dev.each xs (Dev.zSample n) (d.modChan n (fun c => { c with zClk := max c.zClk clk }))

/-- The instant from which standstill is measured (R178), in SYS clocks. -/
def Dev.stillFrom (d : Dev) (n : Nat) : Nat := let c := tget d.fb.chans n; c.last.getD c.enabledAt

/-- STANDSTILL_T in SYS clocks. -/
def Dev.stillClks (d : Dev) (n : Nat) : Nat := 4000 * max 1 (d.get (F.FB_QCFG3_STANDSTILL_T n))

/-- STANDSTILL sets (R178). -/
def Dev.setStill (n : Nat) (d : Dev) : Dev :=
  let d := (d.chanClear n).modChan n (fun c => { c with lastNeg := none })
  ((d.up (F.FB_QSTS_STANDSTILL n) true).wr (R.FB_QSPD n) 0).event0 (F.FB_QEVT_STILL_EVT n)

/-- STANDSTILL_T has passed without a counted transition. -/
def Dev.stillTimeout (n clk : Nat) (d : Dev) : Dev :=
  if d.chanMode n ≠ 0 ∧ d.inPark = false ∧ d.flag (F.FB_QSTS_STANDSTILL n) = false ∧ d.stillFrom n + d.stillClks n ≤ clk then d.setStill n else d

/-! The latch (R173, R174, R176, R177, R181, R486). -/

/-- The period method's speed (R176). -/
def Dev.perSpeed (d : Dev) (n q : Nat) : Int :=
  if !d.flag (F.FB_QSTS_PER_VALID n) then 0
  else
    let v := 4096 * d.tbClk / max (tget d.fb.chans n).per q
    if d.flag (F.FB_QSTS_DIR n) then -(v : Int) else v

/-- SPEED with the method in use, then the method for the next latch (R177). The difference method's Δn is LAT minus the previous LAT, in the
units of LAT, in step mode too; a SPEED outside its range is held at the limit (log entry 78). -/
def Dev.latchSpeed (n : Nat) (lat : Int) (q : Nat) (d : Dev) : Dev :=
  let diff := d.flag (F.FB_QSTS_METHOD n)
  let v := if diff then clampI (-2 ^ 31) (2 ^ 31 - 1) (4096 * sInt 32 (uNat 32 (lat - sInt 32 (tget d.fb.chans n).prevLat)))
    else d.perSpeed n q
  let d := d.puts (F.FB_QSPD_SPEED n) v
  if diff then (if v.natAbs ≤ 4096 * d.get (F.FB_QCFG2_SW_LO n) then d.up (F.FB_QSTS_METHOD n) false else d)
  else (if 4096 * d.get (F.FB_QCFG2_SW_HI n) ≤ v.natAbs then d.up (F.FB_QSTS_METHOD n) true else d)

/-- LAT: COUNT, or in step mode the fine position of R181. -/
def Dev.latchPos (d : Dev) (n q : Nat) : Int :=
  let count := d.gets (F.FB_QCNT_COUNT n)
  if d.chanMode n ≠ 2 then count
  else
    let ip := 2 ^ min 8 (d.get (F.FB_QCFG_IPOL n))
    let f : Int := if d.flag (F.FB_QSTS_PER_VALID n) ∧ d.flag (F.FB_QSTS_STANDSTILL n) = false
      then (min (ip - 1) (ip * q / max 1 (tget d.fb.chans n).per) : Nat) else 0
    count * ip + (if d.flag (F.FB_QSTS_DIR n) then -f else f)

/-- CYC_ERR of the cycle just ended (R173): a clean cycle clears FAULT; QUAD_FAULT reads the count kept here. -/
def Dev.latchErr (n : Nat) (d : Dev) : Dev :=
  let e := d.get (F.FB_QERR_CYC_ERR n)
  let d := (d.put (F.FB_QERR_CYC_ERR n) 0).modChan n (fun c => { c with cycErr := e })
  if e = 0 then ((d.up (F.FB_QSTS_FAULT n) false).causeOff .quadErr n).causeOff .quadErr (n + 1000) else d

/-- LAT and SPEED for the latch at a SYS clock. -/
def Dev.latchAt (n clk : Nat) (d : Dev) : Dev :=
  let q := clk - d.stillFrom n
  let pos := d.latchPos n q
  let d := (d.latchSpeed n pos q).puts (F.FB_QLAT_LAT n) pos
  d.modChan n (fun c => { c with prevLat := uNat 32 pos, valid := true })

/-- The first CYC_START after PARK, when the latch is made (R486): the period history clears, and STANDSTILL is re-evaluated. -/
def Dev.unparkChan (n clk : Nat) (d : Dev) : Dev :=
  let d := d.chanClear n
  if clk < d.stillFrom n + d.stillClks n then d.up (F.FB_QSTS_STANDSTILL n) false
  else if d.flag (F.FB_QSTS_STANDSTILL n) then d else d.setStill n

/-- One channel at CYC_START. -/
def Dev.latchChan (n : Nat) (d : Dev) : Dev :=
  if d.chanMode n = 0 then d
  else
    let clk := d.sysClk
    let d := d.modChan n (fun c =>
      { c with latClk := clk, latMethod := d.flag (F.FB_QSTS_METHOD n), latPrev := c.prevLat, unparked := d.fb.parked })
    let d := (d.latchAt n clk).latchErr n
    if d.fb.parked then d.unparkChan n clk else d

/-- A sample of a channel's lines. A transition that was still in the filter at the last latch, its stamp before it, belongs to that latch,
which FB takes N samples late (R174): LAT and SPEED are made with it. After the first latch that follows PARK, METHOD stays period (R486). -/
def Dev.lateSample (n : Nat) (x : Bool × Bool) (d : Dev) : Dev :=
  let c := tget d.fb.chans n
  let d' := d.chanSample n x
  let c' := tget d'.fb.chans n
  if c'.last = c.last ∨ c'.latClk ≤ c'.last.getD 0 ∨ d'.inPark = true then d'
  else
    let method := c'.latMethod && (c.lastNeg == c'.lastNeg)
    let d := ((d'.up (F.FB_QSTS_METHOD n) method).modChan n (fun c => { c with prevLat := c.latPrev })).latchAt n c'.latClk
    if c'.unparked then d.up (F.FB_QSTS_METHOD n) false else d

/-- Samples of lines A and B from a SYS clock on; since the last ones the lines have kept their levels (16 samples settle any filter). -/
def Dev.chanSamples (n : Nat) (xs : List (Bool × Bool)) (clk : Nat) (d : Dev) : Dev :=
  let c := tget d.fb.chans n
  let gap := List.replicate (min 16 (clk - c.clk)) (c.a.raw, c.b.raw)
  let d := Dev.each gap (Dev.lateSample n) d
  Dev.each xs (Dev.lateSample n) (d.modChan n (fun c => { c with clk := max c.clk clk }))

/-- The power state becomes t; in PARK, latching is gated until the first CYC_START after it (R486). -/
def Dev.setPower (t : Nat) (d : Dev) : Dev :=
  { (d.put F.PWR_STS_STATE t) with fb := { d.fb with parked := d.fb.parked || t == 2 } }

/-- The feedback latch at CYC_START. -/
def Dev.fbLatch (d : Dev) : Dev :=
  if d.inPark then d.divCycle
  else
    let d := Dev.each (List.range 32) Dev.latchChan d
    { d with fb := { d.fb with parked := false } }.divCycle

/-- QERR_THR or more illegal transitions in the cycle just ended (R173, Table 7.1). -/
def Dev.quadFault (n : Nat) (d : Dev) : Dev :=
  let t := d.get (F.FB_QCFG_QERR_THR n)
  if d.inPark = true ∨ t = 0 ∨ (tget d.fb.chans n).cycErr < t ∨ d.flag (F.FB_QSTS_FAULT n) then d
  else
    let d := (d.up (F.FB_QSTS_FAULT n) true).raise (F.FB_QEVT_FAULT_EVT n)
    d.feedbackFault .quadErr n 0 (.chan n) (F.FB_QEVT_FAULT_EVT n)

/-! Absolute encoders (R182 to R188). -/

/-- REQ_SRC as it acts: 0 off, 1 CYC_START, 8 to 15 TEV0 to TEV7. -/
def Dev.encSrc (d : Dev) (j : Nat) : Nat :=
  let r := d.get (F.FB_ENCCFG_REQ_SRC j)
  if r = 1 ∨ 8 ≤ r then r else 0

/-- A request (R182): ignored with OVERLAP_EVT during a transfer or while ENC_DAT is low. -/
def Dev.encRequest (j : Nat) (low : Bool) (d : Dev) : Dev :=
  if d.inPark then d
  else if d.flag (F.FB_ENCSTS_BUSY j) || low then d.event0 (F.FB_ENCEVT_OVERLAP_EVT j)
  else (d.up (F.FB_ENCSTS_BUSY j) true).modEnc j (fun e => { e with tReq := d.nowNs })

/-- The requests of one source; low is the mask of ENC_DAT lines that are low. -/
def Dev.encRequests (src low : Nat) (d : Dev) : Dev :=
  Dev.each (List.range 16) (fun j d => if d.encSrc j = src then d.encRequest j (bitOf low j) else d) d

/-- Framed format (Table 7.2)? -/
def Dev.encFramed (d : Dev) (j : Nat) : Bool := d.get (F.FB_ENCCFG_FRAME j) == 2

/-- Word length L (R182). -/
def Dev.encLen (d : Dev) (j : Nat) : Nat :=
  if d.encFramed j then d.get (F.FB_ENCCFG_POSLEN j) + 9 else d.get (F.FB_ENCCFG_WLEN j)

/-- POSLEN as it acts (R183). -/
def Dev.encPosLen (d : Dev) (j : Nat) : Nat :=
  let p := d.get (F.FB_ENCCFG_POSLEN j)
  if d.encFramed j then p else min p (d.get (F.FB_ENCCFG_WLEN j))

/-- Gray to binary over n bits: each bit is the exclusive or of the bits from the top down to it (R183). -/
def grayDecode (n g : Nat) : Nat :=
  ((List.range n).foldl (fun (r : Nat × Bool) i =>
    let b := r.2 != bitOf g (n - 1 - i)
    (2 * r.1 + b2n b, b)) (0, false)).1

/-- The position field of a word. -/
def Dev.encPosField (d : Dev) (j raw : Nat) : Nat :=
  let n := d.encPosLen j
  if d.encFramed j then bitsOf raw (n + 5) 6
  else
    let v := bitsOf raw (d.encLen j - 1) (d.encLen j - n)
    if d.get (F.FB_ENCCFG_FRAME j) = 1 then grayDecode n v else v

/-- The framed CRC6 over ERR, WARN and POS (R184). -/
def encCrc6 (n raw : Nat) : Nat := crcBits 6 3 0 ((List.range (n + 2)).map (fun i => bitOf raw (n + 7 - i)))

/-- The error counted first, if any, before the jump check (R185): its counter and event. -/
def Dev.encBad (d : Dev) (j raw : Nat) : Option (Fld × Fld) :=
  let l := d.encLen j
  let n := d.encPosLen j
  if d.encFramed j then
    if !bitOf raw (l - 1) then some (F.FB_ENCCNT1_START_ERR j, F.FB_ENCEVT_FRAME_EVT j)
    else if encCrc6 n raw ≠ raw % 64 then some (F.FB_ENCCNT0_CRC_ERR j, F.FB_ENCEVT_FRAME_EVT j)
    else if bitOf raw (l - 2) then some (F.FB_ENCCNT1_ALARM j, F.FB_ENCEVT_ALARM_EVT j)
    else none
  else
    let k := d.get (F.FB_ENCCFG_ERRBIT j)
    if k ≠ 0 ∧ k ≤ l ∧ bitOf raw (l - k) = d.flag (F.FB_ENCCFG_ERRPOL j)
    then some (F.FB_ENCCNT1_ALARM j, F.FB_ENCEVT_ALARM_EVT j) else none

/-- A good word: POS moves by dp (R185), and it is stamped and gives a speed (R186). -/
def Dev.encGood (j raw pos : Nat) (dp : Int) (d : Dev) : Dev :=
  let e := tget d.fb.encs j
  let ts : Int := (e.tReq : Int) - d.get (F.FB_ENCCFG2_ENC_DLY j)
  let moved := decide (e.words = 0 ∨ dp ≠ 0)
  let d := if e.words = 0 then d
    else (d.puts (F.FB_ENCSPD_SPEED j) ((4096 * dp * d.time.tb).tdiv (ts - e.ts))).divFeed 1 j dp
  let d := (d.put (F.FB_ENCPOS_POS j) pos).up (F.FB_ENCSTS_VALID j) true
  let d := d.puts (F.FB_ENCTS_TS j) ts
  let d := if d.encFramed j then d.up (F.FB_ENCSTS_WARN j) (bitOf raw (d.encLen j - 3)) else d
  let d := if moved then d.up (F.FB_ENCSTS_STANDSTILL j) false else d
  d.modEnc j (fun e => { e with
    rawPrev := d.encPosField j raw, ts := ts, words := min 2 (e.words + 1), goodWord := true,
    lastMove := if moved then (2 ^ 32 * ts + d.time.stepped).fdiv (2 ^ 32) else e.lastMove })

/-- A word is complete (R182, R185). -/
def Dev.encWord (j raw0 : Nat) (d : Dev) : Dev :=
  if !d.flag (F.FB_ENCSTS_BUSY j) || d.inPark then d
  else
    let e := tget d.fb.encs j
    let l := d.encLen j
    let raw := raw0 % 2 ^ l
    let div := max 20 (min 400 (d.get (F.FB_ENCCFG3_CLKDIV j)))
    let d := d.runTo (e.tReq + l * div * 5 + (d.get (F.FB_ENCCFG2_DAT_DLY j) * 5 + 1) / 2)
    let d := (d.up (F.FB_ENCSTS_BUSY j) false).modEnc j (fun e => { e with anyWord := true })
    let d := (d.put (F.FB_ENCRAW_LO_RAW j) raw).put (F.FB_ENCRAW_HI_RAW j) (raw / 2 ^ 32)
    match d.encBad j raw with
    | some (c, v) => (d.cnt c).event0 v
    | none =>
      let p := d.encPosField j raw
      if !d.flag (F.FB_ENCSTS_VALID j) then d.encGood j raw (p % 2 ^ 32) 0
      else
        let n := d.encPosLen j
        let dp := sInt n ((p + 2 ^ n - e.rawPrev % 2 ^ n) % 2 ^ n)
        let jm := d.get (F.FB_ENCCFG3_JUMP_MAX j)
        if jm ≠ 0 ∧ jm < dp.natAbs then (d.cnt (F.FB_ENCCNT1_JUMP j)).event0 (F.FB_ENCEVT_JUMP_EVT j)
        else d.encGood j raw (uNat 32 (d.get (F.FB_ENCPOS_POS j) + dp)) dp

/-- LAT of a port at IN_CUT (R187): POS, or extrapolated to the CYC_START before. -/
def Dev.encLat (d : Dev) (j : Nat) : Int :=
  let e := tget d.fb.encs j
  let pos := d.gets (F.FB_ENCPOS_POS j)
  if d.flag (F.FB_ENCCFG_EXTRAP j) ∧ e.words = 2 then
    let num := d.gets (F.FB_ENCSPD_SPEED j) * (d.time.cycStart - e.ts)
    let den : Int := 4096 * d.time.tb
    pos + (2 * num + den).fdiv (2 * den)
  else pos

/-- The encoder ports at IN_CUT (R187, R188). -/
def Dev.encInCut (d : Dev) : Dev :=
  if d.inPark then d
  else Dev.each (List.range 16) (fun j d =>
    let e := tget d.fb.encs j
    if d.encSrc j = 0 then d
    else
      let d := if e.goodWord then
          let d := (d.puts (F.FB_ENCLAT_LAT j) (d.encLat j)).put (F.FB_ENCSTS_FAILRUN j) 0
          ((d.up (F.FB_ENCSTS_FAULT j) false).causeOff .encoder j).causeOff .encoder (j + 1000)
        else
          let d := if e.anyWord then d else d.cnt (F.FB_ENCCNT0_LATE j)
          (d.put (F.FB_ENCSTS_FAILRUN j) (min 255 (d.get (F.FB_ENCSTS_FAILRUN j) + 1))).event0 (F.FB_ENCEVT_LATE_EVT j)
      d.modEnc j (fun e => { e with anyWord := false, goodWord := false })) d

/-- FAILRUN exceeds FAIL_LIMIT (R188, Table 7.1). -/
def Dev.encFault (j : Nat) (d : Dev) : Dev :=
  if d.inPark = false ∧ max 1 (d.get (F.FB_ENCCFG2_FAIL_LIMIT j)) < d.get (F.FB_ENCSTS_FAILRUN j) ∧ d.flag (F.FB_ENCSTS_FAULT j) = false then
    let d := (d.up (F.FB_ENCSTS_FAULT j) true).raise (F.FB_ENCEVT_FAULT_EVT j)
    d.feedbackFault .encoder j 1 (.enc j) (F.FB_ENCEVT_FAULT_EVT j)
  else d

/-- STANDSTILL of a port at an instant t (R186). -/
def Dev.encStill (j t : Nat) (d : Dev) : Dev :=
  if d.encSrc j = 0 ∨ d.inPark = true then d
  else
    let d := d.runTo t
    let e := tget d.fb.encs j
    if e.lastMove + 10000 * (e.stillT : Int) ≤ d.upNs then d.up (F.FB_ENCSTS_STANDSTILL j) true else d

/-! Commands. -/

/-- QUAD_FAULT (R173). -/
def execQuadFault (n : Fin 32) (s : State) : Host.Outcome State Fault Refusal := onDev (Dev.quadFault n) s

/-- Z_EDGE (R175): samples of the Z line. -/
def execZEdge (z : Fin 32 × LineRun) (s : State) : Host.Outcome State Fault Refusal := onDev (Dev.zSamples z.1 z.2.lvls z.2.clk) s

/-- STANDSTILL_TIMEOUT (R178). -/
def execStandstillTimeout (n : Fin 32) (clk : Nat) (s : State) : Host.Outcome State Fault Refusal :=
  onDev (Dev.stillTimeout n clk) s

/-- ENC_WORD_DONE (R185). -/
def execEncWordDone (j : Fin 16) (raw : BitVec 40) (s : State) : Host.Outcome State Fault Refusal :=
  onDev (Dev.encWord j raw.toNat) s

/-- ENC_FAULT (R188). -/
def execEncFault (j : Fin 16) (s : State) : Host.Outcome State Fault Refusal := onDev (Dev.encFault j) s

/-- ENC_STANDSTILL (R186): STANDSTILL_T has passed at instant t without a change of POS. -/
def execEncStandstill (j : Fin 16) (t : Nat) (s : State) : Host.Outcome State Fault Refusal := onDev (Dev.encStill j t) s

/-- DIV_OUTPUT_STEP (R190). -/
def execDivOutputStep (k : Fin 8) (clk : Nat) (s : State) : Host.Outcome State Fault Refusal := onDev (Dev.divStep k clk) s

/-- DIV_CTL_WRITE (R191): effective at the next CYC_START. -/
def execDivCtlWrite (k : Fin 8) (w : Word) (s : State) : Host.Outcome State Fault Refusal :=
  onDev (fun d => (d.wr (R.FB_DIV_CTL k) (w &&& 0x0001FFFF)).parityWritten (R.FB_DIV_CTL k)) s

/-- A new ratio waits for the next CYC_START (R191). -/
def Dev.divRatioWrite (k : Nat) (w : Word) (d : Dev) : Dev :=
  ((d.wr (R.FB_DIV_RATIO k) w).parityWritten (R.FB_DIV_RATIO k)).modDiv k (fun x => { x with pendRatio := true })

/-- DIV_RATIO_WRITE (R191). -/
def execDivRatioWrite (k : Fin 8) (w : Word) (s : State) : Host.Outcome State Fault Refusal := onDev (Dev.divRatioWrite k w) s

end Sys2Proof.Machine
end

