-- ==== Sys2Proof/Machine/Profile.lean ====
section
/-! DEFINITION. Jerk-limited profiles (09 R218 to R223): the planner. The manual's durations are real numbers; the planner
works with 2^-96 of each unit, and what the exact motion does not fix in a register's last place is left free (quant). -/
namespace Sys2Proof.Machine
open Sys2Proof.Config

/-- The planner's unit. -/
def fOne : Int := 2 ^ 96

def fMul (a b : Int) : Int := shrI (a * b) 96
def fDiv (a b : Int) : Int := if b = 0 then 0 else (a * fOne).fdiv b

/-- The integer square root: bits tried from k down. -/
def isqrtFrom (n : Nat) : Nat → Nat → Nat
  | 0, r => r
  | k + 1, r => let t := r + 2 ^ k; isqrtFrom n k (if t * t ≤ n then t else r)

/-- The integer square root of a number below 2^(2·w). -/
def isqrt (w n : Nat) : Nat := isqrtFrom n w 0

/-- Square root in the planner's unit. -/
def fSqrt (a : Int) : Int := (isqrt 160 (a * fOne).toNat : Nat)

/-- A Q16.48 quantity in the planner's unit. -/
def fromQ48 (v : Int) : Int := v * 2 ^ 48

/-- Sign. -/
def sgn (a : Int) : Int := if a < 0 then -1 else if a = 0 then 0 else 1

/-- State (p, v, a) after a piece of constant jerk. -/
def advance (x : Int × Int × Int) (s : Seg) : Int × Int × Int :=
  let (p, v, a) := x
  let t := s.dt
  let t2 := fMul t t
  (p + fMul v t + fMul a t2 / 2 + fMul s.j (fMul t2 t) / 6, v + fMul a t + fMul s.j t2 / 2, a + fMul s.j t)

/-- State after all pieces. -/
def runSegs (x : Int × Int × Int) (l : List Seg) : Int × Int × Int := l.foldl advance x

/-- Distance the pieces cover from speed v and acceleration a. -/
def dispOf (v a : Int) (l : List Seg) : Int := (runSegs (0, v, a) l).1

/-- Duration of the pieces. -/
def segsTime (l : List Seg) : Int := l.foldl (fun t s => t + s.dt) 0

/-- State a time t into the pieces; beyond them the last state coasts. -/
def stateAt (x : Int × Int × Int) : List Seg → Int → Int × Int × Int
  | [], t => advance x ⟨0, t⟩
  | s :: l, t => if t < s.dt then advance x ⟨s.j, t⟩ else stateAt (advance x s) l (t - s.dt)

/-- Speed at which the acceleration returns to 0 with jerk j. -/
def vBar (v a j : Int) : Int := v + fDiv (fMul a (Int.natAbs a)) (2 * j)

/-- Time-optimal change from (v, a) to speed w at rest acceleration, with |a| at most b in the direction of the change: the
starting acceleration is brought back within b with the jerk (R219). -/
def bring (v a w b j : Int) : List Seg :=
  let sg := if w < vBar v a j then -1 else 1
  let a' := sg * a
  let dv := sg * (w - v)
  if b < a' then
    let t1 := fDiv (a' - b) j
    let left := dv - (fMul (a' + b) t1) / 2 - fDiv (fMul b b) (2 * j)
    if left < 0 then [⟨-sg * j, fDiv a' j⟩]
    else [⟨-sg * j, t1⟩, ⟨0, fDiv left b⟩, ⟨-sg * j, fDiv b j⟩]
  else
    let pk := fSqrt (max 0 (fMul j dv + fMul a' a' / 2))
    let pk := max pk (max a' 0)
    if pk ≤ b then [⟨sg * j, fDiv (pk - a') j⟩, ⟨-sg * j, fDiv pk j⟩]
    else
      let left := dv - fDiv (2 * fMul b b - fMul a' a') (2 * j)
      [⟨sg * j, fDiv (b - a') j⟩, ⟨0, max 0 (fDiv left b)⟩, ⟨-sg * j, fDiv b j⟩]

/-- The largest x in [lo, lo + 2^k) for which a monotone test holds, tried bit by bit. -/
def bisect (ok : Int → Bool) : Nat → Int → Int
  | 0, lo => lo
  | k + 1, lo => let m := lo + 2 ^ k; bisect ok k (if ok m then m else lo)

/-- A stop (R223): to rest with DEC and JERK. -/
def stopSegs (v a dec j : Int) : List Seg := bring v a 0 dec j

/-- Mirror the pieces of the opposite direction. -/
def mirror (m : Int) (l : List Seg) : List Seg := l.map (fun s => ⟨m * s.j, s.dt⟩)

/-- Plan towards a speed (R219): a part that raises the speed keeps to ACC, one that lowers it to DEC; which of them the way to w ends with
shows at the speed vBar where the acceleration would return to 0 by itself. A reversal of direction passes speed 0 within both bounds. -/
def planJog (v a w acc dec j : Int) : List Seg :=
  let m := if v < 0 ∨ v = 0 ∧ w < 0 then -1 else 1
  let (v', a', w') := (m * v, m * a, m * w)
  if 0 ≤ w' then mirror m (bring v' a' w' (if vBar v' a' j ≤ w' then acc else dec) j)
  else
    let c := min acc dec
    let one := bring v' a' w' c j
    if acc = dec ∨ one.length = 2 then mirror m one
    else
      let s1 := bring v' a' (-(fDiv (fMul c c) (2 * j))) dec j
      let body := s1.dropLast
      let last := s1.getLast?.getD ⟨0, 0⟩
      let s1 := body ++ [⟨last.j, max 0 (last.dt - fDiv c j)⟩]
      let x := runSegs (0, v', a') s1
      mirror m (s1 ++ bring x.2.1 x.2.2 w' acc j)

/-- Pieces from (v, a) that end at rest dist ahead, in the frame in which dist is not nearer than the stop (R218, R219). -/
def forward (dist v a vel acc dec j : Int) : List Seg :=
  let vb := vBar v a j
  let tail := fun (w : Int) => bring w 0 0 dec j
  let rise := fun (w : Int) => planJog v a w acc dec j
  let top := max vel vb
  let up := rise vel
  let all := dispOf v a up + dispOf vel 0 (tail vel)
  if all ≤ dist then up ++ [⟨0, fDiv (dist - all) vel⟩] ++ tail vel
  else if vb ≤ vel ∧ dispOf v a (rise vb) + dispOf vb 0 (tail vb) ≤ dist then
    let w := bisect (fun w => decide (w ≤ top) && decide (dispOf v a (rise w) + dispOf w 0 (tail w) ≤ dist)) 113 vb
    rise w ++ tail w
  else
    let pre := if vb ≤ vel then [⟨j, fDiv (-a) j⟩] else up
    let body := pre.dropLast
    let x0 := runSegs (0, v, a) body
    let last := pre.getLast?.getD ⟨0, 0⟩
    let cut := fun (t : Int) =>
      let x := advance x0 ⟨last.j, t⟩
      (⟨last.j, t⟩ : Seg) :: stopSegs x.2.1 x.2.2 dec j
    let t := bisect (fun t => decide (t ≤ last.dt) && decide ((runSegs x0 (cut t)).1 ≤ dist)) 113 0
    body ++ cut t

/-- What a plan found: its pieces, whether a clamp (R220) or a reversal (R221) was needed, and the deceleration used. -/
structure PlanOut where
  segs : List Seg
  clamped : Bool
  reversal : Bool
  dec : Int
  deriving DecidableEq, Repr

/-- The smallest peak deceleration above dec with which the axis stops within dist (R220 step 3). -/
def decReq (dist v a dec decOld j : Int) : Int :=
  1 + bisect (fun x => decide (x < decOld) && decide (dist < dispOf v a (stopSegs v a x j))) 113 dec

/-- Distances that differ by less than 2^-32 of a count count as equal in the planner: what its own truncations leave of a tie (DESIGN CHOICE,
log entry 20). -/
def tieTol : Int := 2 ^ 64

/-- Plan to a target dist away (R218 to R221): decOld is the deceleration limit in force before the command. -/
def planTo (dist v a vel acc dec j decOld : Int) : PlanOut :=
  let m := if v = 0 ∧ a = 0 then sgn dist else if vBar v a j < 0 then -1 else 1
  let (x, v', a') := (m * dist, m * v, m * a)
  let big := max dec decOld
  let dNew := dispOf v' a' (stopSegs v' a' dec j)
  if dNew ≤ x + tieTol then ⟨mirror m (forward (max x dNew) v' a' vel acc dec j), false, false, dec⟩
  else
    let sBig := stopSegs v' a' big j
    let dBig := dispOf v' a' sBig
    if dBig ≤ x + tieTol then
      let r := decReq (max x dBig) v' a' dec big j
      ⟨mirror m (stopSegs v' a' r j), true, false, r⟩
    else ⟨mirror m (sBig ++ mirror (-1) (forward (dBig - x) 0 0 vel acc dec j)), false, true, dec⟩

/-- A planner value x in 2^-96 brought to 2^-96·2^sh: exact where x stands on (within 2^-24 of a step of) that grid; between two
steps the lower one or, as the free value has it, the next (the manual states no rounding: log entry 20). -/
def Dev.quant (sh : Nat) (x : Int) (d : Dev) : Int × Dev :=
  let q := shrI x sh
  let r := x - q * 2 ^ sh
  if r * 2 ^ 24 < 2 ^ sh then (q, d)
  else if (2 ^ sh - r) * 2 ^ 24 < 2 ^ sh then (q + 1, d)
  else let (k, d) := d.fresh; (q + ((freeNat k) % 2 : Nat), d)

end Sys2Proof.Machine
end

