-- ==== Sys2Proof/Machine/Traj.lean ====
section
/-! DEFINITION. TRAJ (chapter 9): axis and group commands, profiles, stops, the speed scale, group paths and step generation. -/
namespace Sys2Proof.Machine
open Sys2Proof.Config

def Dev.modAx (n : Nat) (f : AxisSt → AxisSt) (d : Dev) : Dev := { d with traj := { d.traj with ax := tmod d.traj.ax n f } }
def Dev.modGr (g : Nat) (f : GroupSt → GroupSt) (d : Dev) : Dev := { d with traj := { d.traj with gr := tmod d.traj.gr g f } }
def Dev.ax (d : Dev) (n : Nat) : AxisSt := tget d.traj.ax n
def Dev.gr (d : Dev) (g : Nat) : GroupSt := tget d.traj.gr g

/-- The configured axes, and those of a group. -/
def Dev.axisList (d : Dev) : List Nat := d.traj.axes.map (·.axis)
def Dev.groupAxes (d : Dev) (g : Nat) : List Nat := (d.traj.axes.filter (fun a => a.group == g)).map (·.axis)
def maskOf (l : List Nat) : Nat := l.foldl (fun m n => setBit m n true) 0

/-- STATE of an axis. -/
def Dev.axState (d : Dev) (n : Nat) : Nat := d.get (F.TRAJ_AX_STS_STATE n)
def Dev.toState (n st : Nat) (d : Dev) : Dev := d.put (F.TRAJ_AX_STS_STATE n) st

/-- MODE of a group: 0 INDEP, 1 PATH, 2 PATH_OFF in progress. -/
def Dev.grMode (d : Dev) (g : Nat) : Nat := d.get (F.TRAJ_G_STS_MODE g)

/-- A quantity's value as the register pair at off shows it. -/
def wrap64 (i : Int) : Int := sInt 64 (uNat 64 i)

/-! Feedback position (10 R249). -/

/-- The position source of an axis. -/
def Dev.srcOf (d : Dev) (n : Nat) : PosSrc := ((d.traj.axes.find? (fun a => a.axis == n)).map (·.src)).getD .none

/-- The raw latched position of an axis, in counts (10 R249). -/
def Dev.axLat (d : Dev) (n : Nat) : Int :=
  match d.srcOf n with
  | .chan c => if (tget d.loop.ax n).everValid then d.gets (F.FB_QLAT_LAT c) else 0
  | .enc j => if (tget d.loop.ax n).everValid then d.gets (F.FB_ENCLAT_LAT j) else 0
  | .linked _ _ => if (tget d.loop.ax n).everValid then sInt 32 (tget d.loop.ax n).lat else 0
  | .none => if d.get (F.LOOP_CFG_TOPO n) = 3 then d.gets (F.TRAJ_STEP_POS_STEP_POS n) else 0

/-- The latched speed of an axis, Q20.12 counts per Tb (10 R250). -/
def Dev.axSpd (d : Dev) (n : Nat) : Int :=
  match d.srcOf n with
  | .chan c => d.gets (F.FB_QSPD_SPEED c)
  | .enc j => d.gets (F.FB_ENCSPD_SPEED j)
  | .linked _ _ => (tget d.loop.ax n).spd
  | .none => 0

/-- pos_fb in Q32.32 (10 R249). -/
def Dev.posFb (d : Dev) (n : Nat) : Int := wrap64 (d.axLat n * 2 ^ 32 + (tget d.loop.ax n).posOfs)

/-! Commands (R215, R216, R232). -/

/-- STILL (R213). -/
def Dev.showStill (n : Nat) (d : Dev) : Dev :=
  let a := d.ax n
  let st := d.axState n
  d.up (F.TRAJ_AX_STS_STILL n) (decide (st ≤ axHold) && decide (a.nv = 0) && decide (a.na = 0) && a.pend.isNone)

/-- A command's RESULT (Table 9.4). -/
def Dev.axResult (n code : Nat) (d : Dev) : Dev :=
  ((d.put (F.TRAJ_AX_EVT_RESULT n) code).event0 (F.TRAJ_AX_EVT_CMD_EVT n)).showStill n

/-- Nothing is pending any more. -/
def Dev.dropPend (n : Nat) (d : Dev) : Dev :=
  (d.modAx n (fun a => { a with pend := none })).up (F.TRAJ_AX_STS_PENDING n) false

/-- An accepted CMD write captures its operands (R215) and replaces a pending command (R216). -/
def Dev.axCmd (n op : Nat) (imm ramp : Bool) (d : Dev) : Dev :=
  let d := if (d.ax n).pend.isSome then d.axResult n 1 else d
  let c : AxCmd := ⟨op, imm, ramp, d.gets64 (R.TRAJ_AX_TGT_LO n), d.get64 (R.TRAJ_AX_VEL_LO n), d.get64 (R.TRAJ_AX_ACC_LO n),
    d.get64 (R.TRAJ_AX_DEC_LO n), d.get64 (R.TRAJ_AX_JERK_LO n), d.gets (F.TRAJ_GEAR_NUM_NUM n), max 1 (d.get (F.TRAJ_GEAR_DEN_DEN n)),
    d.gets (F.TRAJ_GEAR_MPOS_MPOS n), d.gets (F.TRAJ_GEAR_MDIST_MDIST n)⟩
  let d := (d.up (F.TRAJ_AX_CMD_IMM n) imm).up (F.TRAJ_AX_CMD_RAMP n) ramp
  ((d.modAx n (fun a => { a with pend := some c })).up (F.TRAJ_AX_STS_PENDING n) true).showStill n

/-- A group command's RESULT. -/
def Dev.grResult (g code : Nat) (d : Dev) : Dev := (d.put (F.TRAJ_G_EVT_RESULT g) code).event0 (F.TRAJ_G_EVT_CMD_EVT g)

/-- An accepted group CMD write (R232). -/
def Dev.grCmd (g op : Nat) (d : Dev) : Dev :=
  let d := if (d.gr g).pend.isSome then d.grResult g 1 else d
  d.modGr g (fun x => { x with pend := some op })

/-! Group decisions and the speed scale (R226, R230 to R232). -/

/-- The result of a group command (R232: an uncleared fault refuses RESUME alone; PATH_ON asks for HOLD and STILL). -/
def Dev.grCheck (d : Dev) (g op : Nat) : Nat :=
  let axs := d.groupAxes g
  if op = 1 then
    if axs.isEmpty ∨ d.grMode g ≠ 0 ∨ axs.any (fun n => d.axState n != axHold) then 4
    else if axs.any (fun n => !d.flag (F.TRAJ_AX_STS_STILL n)) then 9 else 0
  else if op = 4 ∧ axs.any d.uncleared then 3
  else if d.grMode g ≠ 1 then 4 else 0

/-- Axes of a group in one of the given states take another. -/
def Dev.grShow (g : Nat) (from_ : List Nat) (st : Nat) (d : Dev) : Dev :=
  Dev.each (d.groupAxes g) (fun n d => if from_.contains (d.axState n) then (d.toState n st).showStill n else d) d

/-- What an accepted group command does (R231, R232). -/
def Dev.grApply (g op : Nat) (d : Dev) : Dev :=
  match op with
  | 1 =>
    let d := (d.put (F.TRAJ_G_STS_MODE g) 1).put (F.TRAJ_G_SCALE_SCALE g) 0
    let d := d.modGr g (fun x => { x with pathStop := 0, hasPlan := false, bound := 1, ds := 0, delta := [], exhausted := false, next := none })
    Dev.each (d.groupAxes g) (fun n d =>
      (((d.toState n axPath).modAx n (fun a => { a with kept := none })).up (F.TRAJ_AX_STS_REMAIN_VALID n) false).showStill n) d
  | 2 => ((d.put (F.TRAJ_G_STS_MODE g) 2).modGr g (fun x => { x with pathStop := max 1 x.pathStop })).grShow g [axPath] axStopping
  | 3 => (d.modGr g (fun x => { x with pathStop := max 1 x.pathStop })).grShow g [axPath] axStopping
  | _ =>
    ((d.modGr g (fun x => { x with pathStop := 0 })).up (F.TRAJ_G_STS_HELD g) false).grShow g [axStopping, axFaultStop] axPath

/-- Decide a pending group command. -/
def Dev.grDecide (g : Nat) (d : Dev) : Dev :=
  match (d.gr g).pend with
  | none => d
  | some op =>
    let r := d.grCheck g op
    let d := d.modGr g (fun x => { x with pend := none })
    ((if r = 0 then d.grApply g op else d)).grResult g r

/-- Faults of the axes of a PATH group make the whole group perform a path stop (R231); an axis that an F3 has de-energised counts until
TRAJ shows it OFF. -/
def Dev.grFaults (g : Nat) (d : Dev) : Dev :=
  if d.grMode g ≠ 0 ∧ (d.groupAxes g).any (fun n => d.axState n != axOff && decide (0 < (d.ax n).react) && !(d.ax n).reactTaken) then
    let d := (d.modGr g (fun x => { x with pathStop := max 2 x.pathStop })).grShow g [axPath, axStopping] axFaultStop
    Dev.each (d.groupAxes g) (fun n d => if 0 < (d.ax n).react ∧ (d.ax n).reactTaken = false then
      d.modAx n (fun a => { a with reactTaken := true, stopLeft := d.get (F.TRAJ_LIM_STOP_TMAX_STOP_TMAX n) }) else d) d
  else d

/-- The goal of the speed scale (R226): 0 in a path stop, and in PATH until the first plan has taken effect (R232). -/
def Dev.grGoal (d : Dev) (g : Nat) : Nat :=
  if (d.gr g).pathStop ≠ 0 ∨ d.grMode g ≠ 0 ∧ (d.gr g).hasPlan = false then 0 else min 0x8000 (d.get (F.TRAJ_G_SCALE_SCALE_LIM g))

/-- The speed scale moves towards its goal (R226). -/
def Dev.grScale (g : Nat) (d : Dev) : Dev :=
  let s := d.get (F.TRAJ_G_SCALE_SCALE g)
  let stop := decide ((d.gr g).pathStop ≠ 0)
  let goal := d.grGoal g
  let fall := if stop then d.get (F.TRAJ_G_STOPR_STOP_SDEC g) else d.get (F.TRAJ_G_RATE_SCALE_DEC g)
  let s' := if goal < s then max goal (s - fall) else min goal (s + d.get (F.TRAJ_G_RATE_SCALE_INC g))
  (d.put (F.TRAJ_G_SCALE_SCALE g) s').modGr g (fun x => { x with ds := (s' : Int) - s })

/-- σ of the last knot of the ACTIVE buffer, Q16.16. -/
def Dev.lastSigma (d : Dev) (g : Nat) : Nat := (d.get (F.TRAJ_G_PLAN_K g) - 1) * d.get (F.TRAJ_G_PLAN_H g) * 2 ^ 16

/-- σ advances by s·Tb and stays at the last knot (R226, R230). -/
def Dev.grAdvance (g : Nat) (d : Dev) : Dev :=
  if d.grMode g ≠ 0 ∧ (d.gr g).hasPlan then
    d.put (F.TRAJ_G_SIGMA_SIGMA g) (min (d.lastSigma g) (d.get (F.TRAJ_G_SIGMA_SIGMA g) + 2 * d.get (F.TRAJ_G_SCALE_SCALE g)))
  else d

/-! Knots (R227 to R229). -/

/-- BAR2 offset of knot i, slot k in buffer b of group g (Table 9.6). -/
def knotAt (g b i k : Nat) : Nat := 0x1500000 + g * 0x6000 + b * 0x3000 + i * 384 + k * 24

/-- A signed 64-bit word of SRAM. -/
def Memory.s64 (m : Memory) (a : Nat) : Int := sInt 64 ((m.word a).toNat + 2 ^ 32 * (m.word (a + 4)).toNat)

/-- p, v and a of a knot in the planner's unit. -/
def knot (m : Memory) (g b i k : Nat) : Int × Int × Int :=
  let o := knotAt g b i k
  (m.s64 o * 2 ^ 64, fromQ48 (m.s64 (o + 8)), fromQ48 (m.s64 (o + 16)))

/-- A position difference in the planner's unit, wrapped into ±2^31 counts (Table 9.1). -/
def wrapP (x : Int) : Int := wrap64 (shrI x 64) * 2 ^ 64 + x % 2 ^ 64

/-- A polynomial by Horner's rule, coefficients from the constant term up. -/
def poly (l : List Int) (u : Int) : Int := l.foldr (fun c acc => c * fOne + fMul acc u) 0

/-- The derivative's coefficients. -/
def dpoly (l : List Int) : List Int := (List.range (l.length - 1)).map (fun (i : Nat) => ((i : Int) + 1) * l.getD (i + 1) 0)

/-- The quintic of R228 at u = x/t: position, speed and acceleration. Weights with a factor 1/2 carry it last. -/
def quintic (t u : Int) (k0 k1 : Int × Int × Int) : Int × Int × Int :=
  let (p0, v0, a0) := k0
  let (p1, v1, a1) := k1
  let t2 := fMul t t
  let base := p0
  let dp := wrapP (p1 - p0)
  let ws : List (List Int × Int × Int) :=
    [([0, 0, 0, 10, -15, 6], dp, 1), ([0, 1, 0, -6, 8, -3], fMul t v0, 1), ([0, 0, 1, -3, 3, -1], fMul t2 a0, 2),
     ([0, 0, 0, 1, -2, 1], fMul t2 a1, 2), ([0, 0, 0, -4, 7, -3], fMul t v1, 1)]
  let sum := fun (f : List Int → List Int) => ws.foldl (fun s w => s + fMul (poly (f w.1) u) w.2.1 / w.2.2) 0
  (base + sum id, fDiv (sum dpoly) t, fDiv (sum (fun l => dpoly (dpoly l))) t2)

/-- The path of slot k at σ (Q16.16) in the ACTIVE buffer, with the blend of R229: p, p′, p″ in plan time. -/
def Dev.pathState (m : Memory) (d : Dev) (g k sigma : Nat) : Int × Int × Int :=
  let b := d.get (F.TRAJ_G_PLAN_ACTIVE g)
  let h := max 1 (d.get (F.TRAJ_G_PLAN_H g))
  let kn := d.get (F.TRAJ_G_PLAN_K g)
  let i := min (sigma / (h * 2 ^ 16)) (kn - 2)
  let (p, v, a) :=
    if kn ≤ 1 then (knot m g b 0 k |> fun x => (x.1, 0, 0))
    else if d.lastSigma g ≤ sigma then ((knot m g b (kn - 1) k).1, 0, 0)
    else quintic (h * fOne) ((sigma - i * h * 2 ^ 16 : Nat) * 2 ^ 80 / h) (knot m g b i k) (knot m g b (i + 1) k)
  if sigma < h * 2 ^ 16 then
    let (p', v', a') := quintic (h * fOne) ((sigma : Nat) * 2 ^ 80 / h) (tget (d.gr g).delta k) (0, 0, 0)
    (p + p', v + v', a + a')
  else (p, v, a)

/-- The present state of a PATH group's slot for the setpoint being produced. -/
def Dev.pathNow (m : Memory) (d : Dev) (g k n : Nat) : Int × Int × Int :=
  if (d.gr g).hasPlan then d.pathState m g k (d.get (F.TRAJ_G_SIGMA_SIGMA g)) else ((d.ax n).np * 2 ^ 64, 0, 0)

/-- The slot of an axis in its group. -/
def Dev.slotOf (d : Dev) (n : Nat) : Nat := ((d.traj.axes.find? (fun a => a.axis == n)).map (·.slot)).getD 0

/-- A new result is offered to the group (R229 steps 1 to 4): its knots are in the buffer that is not ACTIVE, nk of them. True: it
is taken, and becomes ACTIVE at the boundary; false: KNOT_MISMATCH. -/
def Dev.takeKnots (m : Memory) (g nk : Nat) (d : Dev) : Dev × Bool :=
  let b := 1 - d.get (F.TRAJ_G_PLAN_ACTIVE g)
  let ds := (d.groupAxes g).map (fun n =>
    let k := d.slotOf n
    let x := d.pathNow m g k n
    let y := knot m g b 0 k
    (k, wrapP (x.1 - y.1), x.2.1 - y.2.1, x.2.2 - y.2.2))
  let tol := d.get (F.TRAJ_G_TOL_KNOT_TOL g)
  if tol ≠ 0 ∧ ds.any (fun x => decide ((tol : Int) * fOne < x.2.1.natAbs)) then
    (d.event0 (F.TRAJ_G_EVT_KNOT_MISMATCH_EVT g), false)
  else
    (d.modGr g (fun x => { x with next := some ⟨b, nk, ds.foldl (fun l x => tput l x.1 (x.2.1, x.2.2.1, x.2.2.2)) []⟩ }), true)

/-- The boundary: a result taken becomes ACTIVE, with σ = 0 (R229 step 3, 12 Table 12.8). -/
def Dev.grSwitch (g : Nat) (d : Dev) : Dev :=
  match (d.gr g).next with
  | none => d
  | some p =>
    let d := ((d.put (F.TRAJ_G_PLAN_ACTIVE g) p.buf).put (F.TRAJ_G_PLAN_K g) p.knots).put (F.TRAJ_G_SIGMA_SIGMA g) 0
    d.modGr g (fun x => { x with hasPlan := true, delta := p.delta, next := none, exhausted := false })

/-! Profiles of an axis (R217 to R225). -/

/-- A profile's exact state at its elapsed time; at its end the target, at rest (R218). -/
def Profile.at (f : Profile) : Int × Int × Int := stateAt (f.p0, f.v0, f.a0) f.segs (f.t * 2 ^ 81)

/-- Has the last piece ended? -/
def Profile.ended (f : Profile) : Bool := decide (f.jog = 0) && decide (segsTime f.segs ≤ (f.t * 2 ^ 81 : Nat) + 2 ^ 40)

/-- The axis limits VMAX, AMAX, DMAX, JMAX. -/
def Dev.axLimits (d : Dev) (n : Nat) : Nat × Nat × Nat × Nat :=
  (d.get64 (R.TRAJ_LIM_VMAX_LO n), d.get64 (R.TRAJ_LIM_AMAX_LO n), d.get64 (R.TRAJ_LIM_DMAX_LO n), d.get64 (R.TRAJ_LIM_JMAX_LO n))

/-- An operand of 0 or above its axis limit means the limit (R217). -/
def limited (x lim : Nat) : Nat := if x = 0 ∨ lim < x then lim else x

/-- The effective operands of a command. -/
def Dev.effLimits (d : Dev) (n : Nat) (c : AxCmd) : Nat × Nat × Nat × Nat :=
  let (v, a, e, j) := d.axLimits n
  (limited c.vel v, limited c.acc a, limited c.dec e, limited c.jerk j)

/-- Does a command's operand exceed its axis limit (R217)? -/
def Dev.clips (d : Dev) (n : Nat) (c : AxCmd) : Bool :=
  let (v, a, e, j) := d.axLimits n
  decide (v < c.vel ∨ a < c.acc ∨ e < c.dec ∨ j < c.jerk)

/-- The move that a stop keeps for RESUME (R225). -/
def Profile.keep (f : Profile) : Option (Int × Nat × Nat × Nat × Nat) := f.target.map (fun t => (t, f.vel, f.acc, f.dec, f.jerk))

/-- Signed distance from the exact position p (2^-96) to a target in Q32.32, wrapped into ±2^31 counts (R211). -/
def distTo (tgt p : Int) : Int := wrap64 (tgt - shrI p 64) * 2 ^ 64 - p % 2 ^ 64

/-- Is the distance of 2^31 counts (R211)? -/
def distFar (tgt p : Int) : Bool := decide (wrap64 (tgt - shrI p 64) = -2 ^ 63)

/-- A profile to a target (R218 to R221). -/
def Dev.startMove (n : Nat) (x : Int × Int × Int) (tgt : Int) (l : Nat × Nat × Nat × Nat) (decOld : Int) (d : Dev) : Dev :=
  let (vel, acc, dec, jerk) := l
  let r := planTo (distTo tgt x.1) x.2.1 x.2.2 (fromQ48 vel) (fromQ48 acc) (fromQ48 dec) (fromQ48 jerk) decOld
  let d := (d.modAx n (fun a => { a with
    prof := some ⟨x.1, x.2.1, x.2.2, r.segs, 0, some tgt, 0, vel, acc, dec, jerk, r.dec⟩ })).toState n axProfile
  let d := if r.clamped then (d.up (F.TRAJ_AX_STS_ACCEL_CLAMPED n) true).event0 (F.TRAJ_AX_EVT_CLAMP_EVT n) else d
  if r.reversal then (d.up (F.TRAJ_AX_STS_REVERSAL_PLANNED n) true).event0 (F.TRAJ_AX_EVT_REVERSAL_EVT n) else d

/-- A jog (R219). -/
def Dev.startJog (n : Nat) (x : Int × Int × Int) (sg : Int) (l : Nat × Nat × Nat × Nat) (d : Dev) : Dev :=
  let (vel, acc, dec, jerk) := l
  let segs := planJog x.2.1 x.2.2 (sg * fromQ48 vel) (fromQ48 acc) (fromQ48 dec) (fromQ48 jerk)
  (d.modAx n (fun a => { a with
    prof := some ⟨x.1, x.2.1, x.2.2, segs, 0, none, sg, vel, acc, dec, jerk, fromQ48 dec⟩ })).toState n axProfile

/-- A stop with the given deceleration and jerk (R223, R224). -/
def Dev.startStop (n st : Nat) (x : Int × Int × Int) (l : Nat × Nat × Nat × Nat) (d : Dev) : Dev :=
  let (vel, acc, dec, jerk) := l
  (d.modAx n (fun a => { a with
    prof := some ⟨x.1, x.2.1, x.2.2, stopSegs x.2.1 x.2.2 (fromQ48 dec) (fromQ48 jerk), 0, none, 0, vel, acc, dec, jerk, fromQ48 dec⟩,
    armed := none, ramp := none })).toState n st

/-! Gearing (R234 to R238). -/

/-- The master axis of a gear source of type setpoint or axis feedback. -/
def Dev.masterAxis (d : Dev) (n : Nat) : Option Nat :=
  if d.flag (F.TRAJ_GEAR_GSRC_SRC_EN n) ∧ 2 ≤ d.get (F.TRAJ_GEAR_GSRC_SRC_TYPE n) then some (d.get (F.TRAJ_GEAR_GSRC_SRC_IDX n)) else none

/-- The masters above an axis: itself geared or about to be, then every geared master of it (at most k of them). -/
def Dev.mastersUp (d : Dev) : Nat → Nat → List Nat
  | 0, _ => []
  | k + 1, n => match d.masterAxis n with
    | none => []
    | some m => m :: (if d.axState m = axGear then d.mastersUp k m else [])

/-- Would engaging n close a loop or make a chain of slaves deeper than 4 (R234)? -/
def Dev.tooDeep (d : Dev) (n : Nat) : Bool :=
  let up := d.mastersUp 129 n
  let upN := (up.filter (fun m => d.axState m = axGear)).length
  let below := d.axisList.foldl (fun k s =>
    if d.axState s = axGear then
      match (d.mastersUp 129 s).findIdx? (fun m => m = n) with
      | some i => max k (i + 1)
      | none => k
    else k) 0
  up.contains n || decide (4 < upN + 1 + below)

/-- The master position of a gear source for the setpoint being produced, Q32.32 (R234). -/
def Dev.masterPos (d : Dev) (n : Nat) : Int :=
  let i := d.get (F.TRAJ_GEAR_GSRC_SRC_IDX n)
  wrap64 (match d.get (F.TRAJ_GEAR_GSRC_SRC_TYPE n) with
    | 0 => d.gets (F.FB_QLAT_LAT i) * 2 ^ 32 + d.gets (F.FB_QSPD_SPEED i) * 2 ^ 20
    | 1 => d.gets (F.FB_ENCLAT_LAT i) * 2 ^ 32 + d.gets (F.FB_ENCSPD_SPEED i) * 2 ^ 20
    | 2 => (d.ax i).np
    | _ => d.posFb i + d.axSpd i * 2 ^ 20)

/-- Slave motion num/den (2^-32 counts) added with the remainder carried (R235): motion, remainder, its denominator. -/
def gearAdd (x : Int × Int × Int) (num den : Int) : Int × Int × Int :=
  let r := if x.2.2 = den ∨ x.2.2 = 0 then x.2.1 else (x.2.1 * den).fdiv x.2.2
  let t := r + num
  (x.1 + t.fdiv den, t.fmod den, den)

/-- The integral of the ratio from MPOS to y inside and around a ramp (R236), times 2·|M|·d0·d1. -/
def rampInt (n0 d0 n1 d1 mdist y : Int) : Int :=
  let m := mdist * 2 ^ 32
  let s := sgn m
  let m := s * m
  let z := s * y
  let lin0 := fun (z : Int) => 2 * m * d1 * n0 * z
  let quad := fun (z : Int) => (n1 * d0 - n0 * d1) * z * z
  s * (if z ≤ 0 then lin0 z else if z ≤ m then lin0 z + quad z
       else lin0 m + quad m + 2 * m * d0 * n1 * (z - m))

/-- The ratio in force where the master stands y beyond MPOS in a ramp: linear in y between n0/d0 and n1/d1 (R236). -/
def rampRatio (n0 d0 n1 d1 mdist y : Int) : Int × Int :=
  let m := (mdist * 2 ^ 32).natAbs
  let z := clampI 0 m (sgn mdist * y)
  (n0 * d1 * (m - z) + n1 * d0 * z, d0 * d1 * m)

/-- CUR_NUM and CUR_DEN show a ratio num/den, the numerator nearest it for the denominator shown. Which of the fractions a ramp shows is
not stated: the denominator is free in the upper half of those that leave NUM in its 32 bits (log entry 81). -/
def Dev.showRatio (n : Nat) (num den : Int) (d : Dev) : Dev :=
  let top := min (2 ^ 32 - 1) (max 1 ((2 ^ 31 - 1) * den.natAbs / max 1 num.natAbs))
  let (k, d) := d.draw (top / 2 + 1)
  let q : Int := (top - k : Nat)
  (d.puts (F.TRAJ_GEAR_CUR_NUM_CUR_NUM n) ((2 * num * q + den).fdiv (2 * den))).put (F.TRAJ_GEAR_CUR_DEN_CUR_DEN n) q.toNat

/-- One step of a ramp: the master moves from y to y'. -/
def Dev.gearRamp (n : Nat) (c : GearChg) (y y' n0 d0 : Int) (x : Int × Int × Int) (d : Dev) : (Int × Int × Int) × Dev :=
  let m := (c.mdist * 2 ^ 32 : Int)
  let x := gearAdd x (rampInt n0 d0 c.num c.den c.mdist y' - rampInt n0 d0 c.num c.den c.mdist y) (2 * m.natAbs * d0 * c.den)
  if (m.natAbs : Int) ≤ sgn m * y' then
    let d := ((d.puts (F.TRAJ_GEAR_CUR_NUM_CUR_NUM n) c.num).put (F.TRAJ_GEAR_CUR_DEN_CUR_DEN n) c.den)
    let d := (d.modAx n (fun a => { a with ramp := none })).up (F.TRAJ_AX_STS_GEAR_RAMP n) false
    (x, if c.off then d.toState n axHold else d)
  else
    let r := rampRatio n0 d0 c.num c.den c.mdist y'
    let d := if sgn m * y' ≤ 0 then (d.puts (F.TRAJ_GEAR_CUR_NUM_CUR_NUM n) n0).put (F.TRAJ_GEAR_CUR_DEN_CUR_DEN n) d0.toNat
      else d.showRatio n r.1 r.2
    (x, (d.modAx n (fun a => { a with ramp := some (c, y', n0, d0) })).up (F.TRAJ_AX_STS_GEAR_RAMP n) true)

/-- The armed change fires in this master interval (R236). -/
def gearFires (c : GearChg) (da dx : Int) : Bool :=
  c.imm || (decide ((da < 0 ∧ 0 ≤ da + dx) ∨ (0 < da ∧ da + dx ≤ 0))
    && (!c.ramp || decide (c.mdist = 0) || decide (sgn dx = sgn c.mdist)))

/-- One step of a geared axis: its motion in Q32.32, with the changes that fire or complete in it, an event for each (R236). -/
def Dev.gearStep (n : Nat) (d : Dev) : Int × Dev :=
  let a := d.ax n
  let pos := d.masterPos n
  let prev := a.xPrev.getD pos
  let dx := wrap64 (pos - prev)
  let x : Int × Int × Int := (0, a.rem, a.remDen)
  let n0 := d.gets (F.TRAJ_GEAR_CUR_NUM_CUR_NUM n)
  let d0 : Int := d.get (F.TRAJ_GEAR_CUR_DEN_CUR_DEN n)
  let (x, d) :=
    match a.ramp with
    | some (c, y, n0, d0) =>
      let (x, d') := d.gearRamp n c y (y + dx) n0 d0 x
      (x, if (d'.ax n).ramp.isNone then d'.event0 (F.TRAJ_AX_EVT_GEAR_EVT n) else d')
    | none =>
      match a.armed with
      | none => (gearAdd x (n0 * dx) d0, d)
      | some c =>
        let da := if c.imm then 0 else wrap64 (prev - c.mpos * 2 ^ 32)
        if gearFires c da dx then
          let d := (d.modAx n (fun a => { a with armed := none })).up (F.TRAJ_AX_STS_GEAR_ARMED n) false
          let x := gearAdd x (n0 * (-da)) d0
          if c.ramp ∧ c.mdist ≠ 0 then
            let (x, d) := d.gearRamp n c 0 (da + dx) n0 d0 x
            let d' := d.event0 (F.TRAJ_AX_EVT_GEAR_EVT n)
            (x, if (d.ax n).ramp.isNone then d'.event0 (F.TRAJ_AX_EVT_GEAR_EVT n) else d')
          else
            let d := (d.puts (F.TRAJ_GEAR_CUR_NUM_CUR_NUM n) c.num).put (F.TRAJ_GEAR_CUR_DEN_CUR_DEN n) c.den
            let d := (d.event0 (F.TRAJ_AX_EVT_GEAR_EVT n)).event0 (F.TRAJ_AX_EVT_GEAR_EVT n)
            (gearAdd x (c.num * (da + dx)) c.den, if c.off then d.toState n axHold else d)
        else (gearAdd x (n0 * dx) d0, d)
  (x.1, d.modAx n (fun a => { a with rem := x.2.1, remDen := x.2.2 }))

/-! Decision of an axis command (Tables 9.3 and 9.4). -/

/-- Table 9.3's allowed states. -/
def opAllowed (op st : Nat) : Bool :=
  match op with
  | 1 | 2 | 3 | 4 => st == axHold || st == axProfile || st == axStopping
  | 5 => st == axProfile || st == axGear
  | 6 => st == axHold
  | 7 => st == axProfile || st == axStopping
  | 8 | 11 => st == axHold
  | _ => st == axGear

/-- The target of a MOVE or RESUME that starts from the exact state x. -/
def Dev.moveTarget (d : Dev) (n : Nat) (c : AxCmd) (x : Int × Int × Int) : Option Int :=
  let a := d.ax n
  match c.op with
  | 1 => some c.tgt
  | 2 =>
    let start := shrI x.1 64
    let base := if d.axState n = axProfile then ((a.prof.bind (·.target)).getD start)
      else if d.axState n = axStopping then ((a.kept.map (·.1)).getD start) else start
    some (wrap64 (base + c.tgt))
  | 6 => a.kept.map (·.1)
  | _ => none

/-- The result code of a command from the exact state x, in the order of Table 9.4. -/
def Dev.axCheck (d : Dev) (n : Nat) (c : AxCmd) (x : Int × Int × Int) : Nat :=
  let st := d.axState n
  let a := d.ax n
  let (v, ac, e, j) := if c.op = 6 then (match a.kept with | some k => k.2 | none => (1, 1, 1, 1)) else d.effLimits n c
  if c.op = 0 then 0
  else if st = axOff then 2
  else if st = axFaultStop ∨ d.uncleared n then 3
  else if opAllowed c.op st = false ∨ d.grMode ((d.groupOf n).getD 0) ≠ 0
      ∨ (8 ≤ c.op ∧ c.op ≤ 10 ∧ d.flag (F.TRAJ_GEAR_GSRC_SRC_EN n) = false) then 4
  else if ((1 ≤ c.op ∧ c.op ≤ 4) ∨ c.op = 6 ∨ c.op = 7) ∧ (v = 0 ∨ ac = 0 ∨ e = 0 ∨ j = 0) then 5
  else if c.op = 5 ∧ st = axGear ∧ ((d.axLimits n).2.2.1 = 0 ∨ (d.axLimits n).2.2.2 = 0) then 5
  else if (match d.moveTarget n c x with | some t => distFar t x.1 | none => false) then 5
  else if c.op = 6 ∧ d.flag (F.TRAJ_AX_STS_REMAIN_VALID n) = false then 6
  else if c.op = 8 ∧ d.tooDeep n then 7
  else if (c.op = 9 ∨ c.op = 10) ∧ a.ramp.isSome then 8
  else if c.op = 11 ∧ (a.nv ≠ 0 ∨ a.na ≠ 0) then 9
  else 0

/-- What an accepted command does; x is the exact state the axis has at the next CYC_START. -/
def Dev.axApply (n : Nat) (c : AxCmd) (x : Int × Int × Int) (d : Dev) : Dev :=
  let a := d.ax n
  let st := d.axState n
  let eff := d.effLimits n c
  let decOld := if st = axProfile ∨ st = axStopping then (a.prof.map (·.decUse)).getD 0 else 0
  let d := (d.up (F.TRAJ_AX_STS_ACCEL_CLAMPED n) false).up (F.TRAJ_AX_STS_REVERSAL_PLANNED n) false
  let d := if c.op = 11 then d else (d.up (F.TRAJ_AX_STS_REMAIN_VALID n) false)
  let d := if ((1 ≤ c.op ∧ c.op ≤ 4) ∨ c.op = 7) ∧ d.clips n c then d.event0 (F.TRAJ_AX_EVT_LIMIT_CLIP_EVT n) else d
  let tgt := d.moveTarget n c x
  let forget := fun (d : Dev) => d.modAx n (fun a => { a with kept := none })
  let arm := fun (num : Int) (den : Nat) (off : Bool) (d : Dev) =>
    (d.modAx n (fun a => { a with armed := some ⟨num, den, c.imm, c.ramp, c.mpos, c.mdist, off⟩ })).up (F.TRAJ_AX_STS_GEAR_ARMED n) true
  match c.op with
  | 1 => (forget d).startMove n x (tgt.getD 0) eff decOld
  | 2 => (forget d).startMove n x (tgt.getD 0) eff decOld
  | 3 => (forget d).startJog n x 1 eff
  | 4 => (forget d).startJog n x (-1) eff
  | 5 =>
    if st = axGear then
      let (_, _, dm, jm) := d.axLimits n
      ((((forget d).startStop n axStopping x (0, 0, dm, jm)).up (F.TRAJ_AX_STS_GEAR_ARMED n) false).up (F.TRAJ_AX_STS_GEAR_RAMP n) false)
        |> fun d => (d.put (F.TRAJ_GEAR_CUR_NUM_CUR_NUM n) 0).put (F.TRAJ_GEAR_CUR_DEN_CUR_DEN n) 1
    else match a.prof with
      | some f => (d.modAx n (fun a => { a with kept := f.keep })).startStop n axStopping x (f.vel, f.acc, f.dec, f.jerk)
      | none => d.startStop n axStopping x eff
  | 6 => match a.kept with
    | some k => (forget d).startMove n x k.1 k.2 0
    | none => d
  | 7 => match a.prof with
    | some f =>
      if st = axStopping then
        let d := d.modAx n (fun a => { a with kept := a.kept.map (fun k => (k.1, eff)) })
        d.startStop n axStopping x (f.vel, f.acc, max f.dec eff.2.2.1, max f.jerk eff.2.2.2)
      else match f.target with
        | some t => d.startMove n x t eff decOld
        | none => d.startJog n x f.jog eff
    | none => d
  | 8 => (((arm c.num c.den false (forget d)).put (F.TRAJ_GEAR_CUR_NUM_CUR_NUM n) 0).put (F.TRAJ_GEAR_CUR_DEN_CUR_DEN n) 1
      |>.modAx n (fun a => { a with rem := 0, remDen := 1, ramp := none })).toState n axGear
  | 9 => arm c.num c.den false d
  | 10 => arm 0 1 true d
  | _ =>
    let ofs := wrap64 (c.tgt - a.np)
    d.modAx n (fun a => { a with setOfs := some ofs, np := c.tgt, kept := a.kept.map (fun k => (wrap64 (k.1 + ofs), k.2)) })

/-- Decide the pending command of an axis. -/
def Dev.axDecide (n : Nat) (x : Int × Int × Int) (d : Dev) : Dev :=
  match (d.ax n).pend with
  | none => d
  | some c =>
    let r := d.axCheck n c x
    let d := d.dropPend n
    (if r = 0 ∧ c.op ≠ 0 then d.axApply n c x else d).axResult n r

/-! The step (TRAJ_START to TRAJ_END). -/

/-- An axis that LOOP reports de-energised (R212). A linked axis whose ENERGISE is already sent stands still, so a fault of class F2 or F3
takes it back at once (01 R36). -/
def Dev.axOffStep (n : Nat) (d : Dev) : Dev :=
  let p := d.posFb n
  let d := if 2 ≤ (d.ax n).react ∧ (tget d.loop.ax n).energise = true then d.deenergise n else d
  let d := if d.axState n = axOff then d else
    let d := ((d.toState n axOff).up (F.TRAJ_AX_STS_REMAIN_VALID n) false).up (F.TRAJ_AX_STS_ACCEL_CLAMPED n) false
    ((d.up (F.TRAJ_AX_STS_REVERSAL_PLANNED n) false).up (F.TRAJ_AX_STS_GEAR_ARMED n) false).up (F.TRAJ_AX_STS_GEAR_RAMP n) false
  let d := (d.put (F.TRAJ_ST_TLEFT_TLEFT n) 0).modAx n (fun a => { a with
    np := p, nv := 0, na := 0, prof := none, kept := none, armed := none, ramp := none, react := 0, reactTaken := false,
    stopLeft := 0, doneNext := false, moved := false })
  d.axDecide n (p * 2 ^ 64, 0, 0)

/-- A fault of the axis is taken (R224): it stops with DEC_STOP and JERK_STOP; a move's target is kept (R225). -/
def Dev.axFaultStep (n : Nat) (x : Int × Int × Int) (d : Dev) : Dev :=
  let a := d.ax n
  if a.react = 0 ∨ a.reactTaken then d
  else
    let kept := if d.axState n = axProfile then (a.prof.bind Profile.keep) else a.kept
    let d := d.modAx n (fun a => { a with
      reactTaken := true, kept := kept, stopLeft := d.get (F.TRAJ_LIM_STOP_TMAX_STOP_TMAX n) })
    let d := (d.up (F.TRAJ_AX_STS_GEAR_ARMED n) false).up (F.TRAJ_AX_STS_GEAR_RAMP n) false
    d.startStop n axFaultStop x (0, 0, d.get64 (R.TRAJ_LIM_DEC_STOP_LO n), d.get64 (R.TRAJ_LIM_JERK_STOP_LO n))

/-- GEAR_SCALE_STOP (R226): the group's limit is below 1.0 and the master is no axis of the same group. -/
def Dev.gearScaleStop (n : Nat) (d : Dev) : Dev :=
  let g := (d.groupOf n).getD 0
  let same := match d.masterAxis n with | some m => d.groupOf m == some g | none => false
  if d.axState n = axGear ∧ d.get (F.TRAJ_G_SCALE_SCALE_LIM g) < 0x8000 ∧ same = false then
    (d.raise (F.TRAJ_AX_EVT_GEAR_SCALE_STOP_EVT n)).fault .gearScaleStop n 1 (2 ^ n) false (some (F.TRAJ_AX_EVT_GEAR_SCALE_STOP_EVT n))
  else d

/-- F2: the stop time passes STOP_TMAX (R224, 01 R36). -/
def Dev.stopTime (n : Nat) (d : Dev) : Dev :=
  let a := d.ax n
  if a.reactTaken ∧ 0 < a.react then
    if a.stopLeft ≤ 1 then (if 2 ≤ a.react then (d.deenergise n).modAx n (fun a => { a with stopLeft := 0 }) else d)
    else d.modAx n (fun a => { a with stopLeft := a.stopLeft - 1 })
  else d

/-- The setpoint the axis gets: exact state in profile or plan time, scaled by s (R226). -/
def Dev.produce (n g : Nat) (scaled : Bool) (x : Int × Int × Int) (d : Dev) : Dev :=
  let s : Int := d.get (F.TRAJ_G_SCALE_SCALE g)
  let (v, a) := if scaled then
      (shrI (s * x.2.1) 15, shrI (s * s * x.2.2) 30 + shrI ((d.gr g).ds * x.2.1) 15)
    else (x.2.1, x.2.2)
  let (p, d) := d.quant 64 x.1
  let (v, d) := d.quant 48 v
  let (a, d) := d.quant 48 a
  d.modAx n (fun y => { y with np := wrap64 p, nv := v, na := a })

/-- TLEFT (Table 9.10). -/
def Dev.showLeft (n : Nat) (d : Dev) : Dev :=
  match (if d.axState n = axProfile then (d.ax n).prof else none) with
  | some f =>
    let (t, d) := d.quant 88 (max 0 (segsTime f.segs - (f.t * 2 ^ 81 : Nat)))
    d.put (F.TRAJ_ST_TLEFT_TLEFT n) (min t.toNat (2 ^ 32 - 1))
  | none => d.put (F.TRAJ_ST_TLEFT_TLEFT n) 0

/-- One configured axis at TRAJ_START, after its group. -/
def Dev.axStep (m : Memory) (n : Nat) (d : Dev) : Dev :=
  let g := (d.groupOf n).getD 0
  if d.energised n = false then d.axOffStep n
  else
    let d := d.stopTime n
    if d.energised n = false then d.axOffStep n
    else
      let d := if d.axState n = axOff then d.toState n axHold else d
      if d.grMode g ≠ 0 ∧ 4 ≤ d.axState n then
        let x := d.pathNow m g (d.slotOf n) n
        let d := (d.produce n g true x).modAx n (fun a => { a with prof := none, doneNext := false, moved := (d.gr g).hasPlan })
        (d.axDecide n x).put (F.TRAJ_ST_TLEFT_TLEFT n) 0
      else
        let a := d.ax n
        let s := d.get (F.TRAJ_G_SCALE_SCALE g)
        let d := d.modAx n (fun a => { a with prof := a.prof.map (fun f => { f with t := f.t + s }) })
        let d := d.gearScaleStop n
        let geared := decide (d.axState n = axGear)
        let (x, d) : (Int × Int × Int) × Dev :=
          if geared then
            let (dp, d) := d.gearStep n
            let v := dp * 2 ^ 16
            let ovr := decide ((d.get64 (R.TRAJ_LIM_VMAX_LO n) : Int) < v.natAbs)
            let d := if ovr then (d.raise (F.TRAJ_AX_EVT_OVERSPEED_EVT n)).fault .gearOverspeed n 1 (2 ^ n) false
              (some (F.TRAJ_AX_EVT_OVERSPEED_EVT n)) else d
            (((a.np + dp) * 2 ^ 64, fromQ48 v, fromQ48 (v - a.nv)), d)
          else match (d.ax n).prof with
            | some f => (if f.ended then (match f.target with
                | some t => (t * 2 ^ 64, 0, 0)
                | none => ((runSegs (f.p0, f.v0, f.a0) f.segs).1, 0, 0)) else f.at, d)
            | none => ((a.np * 2 ^ 64, 0, 0), d)
        let d := d.axFaultStep n x
        let d := d.modAx n (fun a => { a with moved := a.prof.isSome || geared })
        let d := d.produce n g (!geared) x
        let d := d.axDecide n x
        let d := d.modAx n (fun a => { a with doneNext := match a.prof with | some f => f.ended | none => false })
        d.showLeft n

/-- Where each gear source stands once every axis has its setpoint: the next step's increments count from here (R234). -/
def Dev.gearSample (d : Dev) : Dev :=
  Dev.each d.axisList (fun n d => d.modAx n (fun a =>
    { a with xPrev := if d.flag (F.TRAJ_GEAR_GSRC_SRC_EN n) then some (d.masterPos n) else none })) d

/-- How many setpoint masters an axis follows, one above the other, by the slaves that are engaged (masters before slaves, R234). -/
def Dev.setDepth (d : Dev) : Nat → Nat → Nat
  | 0, _ => 0
  | k + 1, n => if d.axState n = axGear ∧ d.flag (F.TRAJ_GEAR_GSRC_SRC_EN n) ∧ d.get (F.TRAJ_GEAR_GSRC_SRC_TYPE n) = 2
    then 1 + d.setDepth k (d.get (F.TRAJ_GEAR_GSRC_SRC_IDX n)) else 0

/-- The configured axes, masters first. -/
def Dev.axOrder (d : Dev) : List Nat :=
  let l := d.axisList.map (fun n => (n, d.setDepth 128 n))
  (List.range 129).flatMap (fun k => (l.filter (fun x => x.2 = k)).map (·.1))

/-- TRAJ_START, first part: faults of PATH groups, group commands, the speed scales and σ. -/
def Dev.trajGroups (d : Dev) : Dev :=
  let d := Dev.each (List.range 16) Dev.grFaults d
  let d := Dev.each (List.range 16) Dev.grDecide d
  let d := Dev.each (List.range 16) (fun g d => if (d.groupAxes g).isEmpty then d else (d.grScale g).grAdvance g) d
  Dev.each (List.range 16) (fun g d => if (d.gr g).bound = 2 ∧ d.time.planPh + 1 = d.time.m then
    d.modGr g (fun x => { x with bound := 3 }) else d) d

/-- TRAJ_START, second part: every axis. Commands of axes that no section configures end with DISABLED (R212: they are OFF). -/
def Dev.trajAxes (m : Memory) (d : Dev) : Dev :=
  let d := (Dev.each d.axOrder (Dev.axStep m) d).gearSample
  let conf := d.axisList
  Dev.each ((d.traj.ax.map (·.1)).filter (fun n => !conf.contains n)) (fun n d => d.axDecide n (0, 0, 0)) d

/-- An axis at TRAJ_END (R218, R223 to R225). -/
def Dev.axEnd (n : Nat) (d : Dev) : Dev :=
  let a := d.ax n
  let st := d.axState n
  let rest := fun (d : Dev) => d.modAx n (fun a => { a with prof := none, doneNext := false })
  let clear := fun (d : Dev) => (d.up (F.TRAJ_AX_STS_ACCEL_CLAMPED n) false).up (F.TRAJ_AX_STS_REVERSAL_PLANNED n) false
  let remain := fun (d : Dev) => match a.kept with
    | some k => (d.puts64 (R.TRAJ_AX_REMAIN_LO n) (wrap64 (k.1 - a.np))).up (F.TRAJ_AX_STS_REMAIN_VALID n) true
    | none => d
  let d := if a.doneNext = false then d
    else if st = axProfile then (((rest d).toState n axHold).modAx n (fun a => { a with kept := none })
      |> clear).event0 (F.TRAJ_AX_EVT_DONE_EVT n)
    else if st = axStopping then (remain (clear ((rest d).toState n axHold))).event0 (F.TRAJ_AX_EVT_DONE_EVT n)
    else if st = axFaultStop ∧ a.react ≤ 1 then
      (remain (clear ((rest d).toState n axHold)) |>.modAx n (fun a => { a with react := 0, reactTaken := false })).event0 (F.TRAJ_AX_EVT_DONE_EVT n)
    else if st = axFaultStop then (rest d).event0 (F.TRAJ_AX_EVT_DONE_EVT n) else d
  d.showStill n

/-- A group at TRAJ_END: the end of a path stop (R231, R232); HELD stays 0 where a group that no context serves has exhausted its plan
(12 R306). -/
def Dev.grEnd (g : Nat) (d : Dev) : Dev :=
  if d.get (F.TRAJ_G_SCALE_SCALE g) ≠ 0 ∨ (d.gr g).pathStop = 0 then d
  else if d.grMode g = 1 then
    let d := Dev.each (d.groupAxes g) (fun n d => if (d.ax n).react ≤ 1 then
      d.modAx n (fun a => { a with react := 0, reactTaken := false }) else d) d
    let held := decide ((d.gr g).pathStop ≠ 3) || (d.gr g).hasPlan
    (d.up (F.TRAJ_G_STS_HELD g) held).grShow g [axStopping, axFaultStop] axPath
  else if d.grMode g = 2 then
    let d := (d.put (F.TRAJ_G_STS_MODE g) 0).up (F.TRAJ_G_STS_HELD g) false
    let d := d.modGr g (fun x => { x with pathStop := 0, hasPlan := false, bound := 0, delta := [], exhausted := false, next := none })
    let d := Dev.each (d.groupAxes g) (fun n d => if (d.ax n).react ≤ 1 then
      d.modAx n (fun a => { a with react := 0, reactTaken := false }) else d) d
    d.grShow g [axPath, axStopping, axFaultStop] axHold
  else d

/-- TRAJ_END: what the setpoints just produced complete; a late group is in time again (01 R35). -/
def Dev.trajEnd (d : Dev) : Dev :=
  let d := Dev.each (List.range 16) (fun g => Dev.causeOff .trajLate g) d
  Dev.each (List.range 16) Dev.grEnd (Dev.each d.axisList Dev.axEnd d)

/-- CYC_START: the setpoints produced become current; SET_POS acts on the feedback (R222, 10 R265); an F2 axis at rest is
de-energised (01 R36). -/
def Dev.trajCycle (d : Dev) : Dev :=
  Dev.each d.axisList (fun n d =>
    let a := d.ax n
    let d := d.modAx n (fun a => { a with p := a.np, v := a.nv, a := a.na, setOfs := none, stepFrom := a.p, stepTo := a.np })
    let d := ((d.puts64 (R.TRAJ_ST_POS_LO n) a.np).puts64 (R.TRAJ_ST_VEL_LO n) a.nv).puts64 (R.TRAJ_ST_ACC_LO n) a.na
    let d := match a.setOfs with
      | some o =>
        let x := wrap64 ((tget d.loop.ax n).posOfs + o)
        { d with loop := { d.loop with ax := tmod d.loop.ax n (fun l => { l with posOfs := x }) } }.puts (F.LOOP_POS_OFS_POS_OFS n) (shrI x 32)
      | none => d
    if 2 ≤ a.react ∧ a.reactTaken ∧ a.nv = 0 ∧ a.na = 0 then d.deenergise n else d) d

/-- PLAN event (R232, 12 R306): a group in PATH counts it towards its first plan boundary. -/
def Dev.grPlan (d : Dev) : Dev :=
  Dev.each (List.range 16) (fun g d => if (d.gr g).bound = 1 then d.modGr g (fun x => { x with bound := 2 }) else d) d

/-- Has σ reached the last knot without a take-over (R230), or has a group without a plan come to its first plan boundary (12 R306)? -/
def Dev.exhaustDue (d : Dev) (g : Nat) : Bool :=
  let x := d.gr g
  if x.hasPlan then d.grMode g != 0 && x.next.isNone && !x.exhausted && decide (d.lastSigma g ≤ d.get (F.TRAJ_G_SIGMA_SIGMA g))
  else d.grMode g == 1 && x.bound == 3

/-- PLAN_EXHAUSTED (R230, 12 R306): a path stop starts, unless one is in progress. -/
def Dev.planExhausted (g : Nat) (d : Dev) : Dev :=
  if d.exhaustDue g then
    let d := (d.modGr g (fun x => { x with
      pathStop := if x.pathStop = 0 then 3 else x.pathStop, bound := 0, exhausted := true })).raise (F.TRAJ_G_EVT_EXHAUSTED_EVT g)
    d.fault .planExhausted g 1 (maskOf (d.groupAxes g)) false (some (F.TRAJ_G_EVT_EXHAUSTED_EVT g))
  else d

/-- TRAJ_LATE (01 Table 1.9): class F2 for the group; its setpoints are extrapolated from the previous ones. How the
extrapolation treats the acceleration is not stated: the free value says (log entry 21). -/
def Dev.trajLate (g : Nat) (d : Dev) : Dev :=
  let d := d.fault .trajLate g 2 (maskOf (d.groupAxes g)) true none
  Dev.each (d.groupAxes g) (fun n d =>
    let a := d.ax n
    let (k, d) := d.fresh
    let w : Int := (freeNat k % 2 : Nat)
    d.modAx n (fun x => { x with
      np := wrap64 (a.p + shrI a.v 16 + w * shrI a.a 17), nv := a.v + w * a.a, na := w * a.a, doneNext := false })) d

/-! Step generation (R239 to R242). -/

/-- The line's position at TIME_NOW, in fine units (floor), Q32.32 inside. -/
def Dev.stepLine (d : Dev) (n : Nat) : Int :=
  let a := d.ax n
  let t := min d.time.tb (d.nowNs - d.time.cycStart)
  a.stepFrom + (wrap64 (a.stepTo - a.stepFrom) * t).fdiv (max 1 d.time.tb)

/-- The row for speed |v| (fine units per Tb, Q20.4), from the row in force (R241); HYST counts whole fine units (Table 9.12). -/
def Dev.stepRow (d : Dev) (n v row : Nat) : Nat :=
  let top := d.get (F.TRAJ_STEP_CFG_ROWS n)
  let vth := fun i => d.get (F.TRAJ_STEP_ROW_VTH n i)
  let up := ((List.range (top + 1)).filter (fun i => decide (i ≠ 0) && decide (vth i ≤ v))).foldl max 0
  if row ≤ up then up
  else ((List.range (row + 1)).filter (fun i => decide (i = 0) || decide (vth i - 16 * d.get (F.TRAJ_STEP_CFG_HYST n) ≤ v))).foldl max 0

/-- RES_LOG and MS_CODE of a row. -/
def Dev.rowRes (d : Dev) (n row : Nat) : Nat × Nat :=
  (min 8 (d.get (F.TRAJ_STEP_ROW_RES_LOG n row)), d.get (F.TRAJ_STEP_ROW_MS_CODE n row))

/-- The row follows the speed; a change of the row, or of the row's values by a patch, waits for a full step, and then the resolution pins
take MS_CODE (R241). -/
def Dev.stepRes (n : Nat) (d : Dev) : Dev :=
  let v := (d.ax n).v.natAbs / 2 ^ 44
  let row := d.get (F.TRAJ_STEP_STS_ROW n)
  let want := d.stepRow n v row
  let (res, code) := d.rowRes n want
  let same := decide ((d.ax n).resLog = res ∧ d.get (F.TRAJ_STEP_STS_MS_CODE n) = code)
  if want = row ∧ same then d.up (F.TRAJ_STEP_STS_ROW_PEND n) false
  else if (d.ax n).stepPos % 256 = 0 then
    (((d.put (F.TRAJ_STEP_STS_ROW n) want).up (F.TRAJ_STEP_STS_ROW_PEND n) false).put (F.TRAJ_STEP_STS_MS_CODE n) code).modAx n
      (fun a => { a with resLog := res, resClk := if d.get (F.TRAJ_STEP_STS_MS_CODE n) = code then a.resClk else d.sysClk })
  else d.up (F.TRAJ_STEP_STS_ROW_PEND n) true

/-- Lag of the emitted position behind the line, fine units (R242). -/
def Dev.stepLag (n : Nat) (d : Dev) : Dev :=
  let lag := (wrap64 (d.stepLine n - (d.ax n).stepPos * 2 ^ 32)).natAbs
  let ovr := decide (512 * 2 ^ 32 < lag)
  if ovr == d.flag (F.TRAJ_AX_STS_STEP_LAG n) then d
  else if ovr then
    ((d.up (F.TRAJ_AX_STS_STEP_LAG n) true).raise (F.TRAJ_AX_EVT_STEP_LAG_EVT n)).fault .stepLag n 2 (2 ^ n) true
      (some (F.TRAJ_AX_EVT_STEP_LAG_EVT n))
  else (d.up (F.TRAJ_AX_STS_STEP_LAG n) false).causeOff .stepLag n

/-- The step size in force, 256 / 2^RES_LOG fine units (R239). -/
def AxisSt.stepSize (a : AxisSt) : Int := 2 ^ (8 - min 8 a.resLog)

/-- May a step pulse begin at a SYS clock: the last one has been high and low for STEP_W each, and DIR and the resolution pins have stood
for DIR_SU and RES_SU (R240)? -/
def Dev.stepReady (d : Dev) (n clk : Nat) : Bool :=
  let a := d.ax n
  let w := d.get (F.TRAJ_STEP_CFG_STEP_W n)
  (match a.stepClk with | some c => decide (c + 2 * w ≤ clk) | none => true)
    && decide (a.dirClk + d.get (F.TRAJ_STEP_CFG_DIR_SU n) ≤ clk) && decide (a.resClk + d.get (F.TRAJ_STEP_CFG_RES_SU n) ≤ clk)

/-- The next step in a direction: DIR turns first where it must, high for a rising position as R180 reads it (PRESUMED, log entry 81); the
pulse begins once R240's times have passed. -/
def Dev.stepOnce (n : Nat) (up : Bool) (d : Dev) : Dev :=
  let a := d.ax n
  let clk := d.sysClk
  let d := if a.dirHigh == up then d else d.modAx n (fun a => { a with dirHigh := up, dirClk := clk })
  if d.stepReady n clk then
    let pos := a.stepPos + (if up then a.stepSize else -a.stepSize)
    ((d.modAx n (fun a => { a with stepPos := pos, stepClk := some clk })).puts (F.TRAJ_STEP_POS_STEP_POS n) pos).stepRes n
  else d

/-- The step generator at TIME ns t: when the line has crossed the next multiple of the step size, a step (R239). -/
def Dev.stepEmit (n t : Nat) (d : Dev) : Dev :=
  let d := d.runTo t
  if d.flag (F.TRAJ_STEP_CFG_EN n) = false then d
  else
    let d := d.stepRes n
    let size := (d.ax n).stepSize * 2 ^ 32
    let gap := wrap64 (d.stepLine n - (d.ax n).stepPos * 2 ^ 32)
    let d := if size ≤ gap then d.stepOnce n true else if gap ≤ -size then d.stepOnce n false else d
    d.stepLag n

/-- The step axes at CYC_START: the row follows the new speed. -/
def Dev.stepCycle (d : Dev) : Dev :=
  Dev.each (List.range 32) (fun n d => if d.flag (F.TRAJ_STEP_CFG_EN n) then d.stepRes n else d) d

/-! The commands. -/

/-- NOP (R215, R216): an accepted CMD write with this OP waits for the next TRAJ_START. -/
def execTrajNop (n : Fin 128) (imm ramp : Bool) (s : State) : Host.Outcome State Fault Refusal :=
  onDev (Dev.guarded (R.TRAJ_AX_CMD n) (Dev.axCmd n 0 imm ramp)) s

/-- MOVE_ABS (R215, R216): an accepted CMD write with this OP waits for the next TRAJ_START. -/
def execMoveAbs (n : Fin 128) (imm ramp : Bool) (s : State) : Host.Outcome State Fault Refusal :=
  onDev (Dev.guarded (R.TRAJ_AX_CMD n) (Dev.axCmd n 1 imm ramp)) s

/-- MOVE_REL (R215, R216): an accepted CMD write with this OP waits for the next TRAJ_START. -/
def execMoveRel (n : Fin 128) (imm ramp : Bool) (s : State) : Host.Outcome State Fault Refusal :=
  onDev (Dev.guarded (R.TRAJ_AX_CMD n) (Dev.axCmd n 2 imm ramp)) s

/-- JOG_POS (R215, R216): an accepted CMD write with this OP waits for the next TRAJ_START. -/
def execJogPos (n : Fin 128) (imm ramp : Bool) (s : State) : Host.Outcome State Fault Refusal :=
  onDev (Dev.guarded (R.TRAJ_AX_CMD n) (Dev.axCmd n 3 imm ramp)) s

/-- JOG_NEG (R215, R216): an accepted CMD write with this OP waits for the next TRAJ_START. -/
def execJogNeg (n : Fin 128) (imm ramp : Bool) (s : State) : Host.Outcome State Fault Refusal :=
  onDev (Dev.guarded (R.TRAJ_AX_CMD n) (Dev.axCmd n 4 imm ramp)) s

/-- STOP (R215, R216): an accepted CMD write with this OP waits for the next TRAJ_START. -/
def execAxisStop (n : Fin 128) (imm ramp : Bool) (s : State) : Host.Outcome State Fault Refusal :=
  onDev (Dev.guarded (R.TRAJ_AX_CMD n) (Dev.axCmd n 5 imm ramp)) s

/-- RESUME (R215, R216): an accepted CMD write with this OP waits for the next TRAJ_START. -/
def execAxisResume (n : Fin 128) (imm ramp : Bool) (s : State) : Host.Outcome State Fault Refusal :=
  onDev (Dev.guarded (R.TRAJ_AX_CMD n) (Dev.axCmd n 6 imm ramp)) s

/-- LIMITS (R215, R216): an accepted CMD write with this OP waits for the next TRAJ_START. -/
def execAxisLimits (n : Fin 128) (imm ramp : Bool) (s : State) : Host.Outcome State Fault Refusal :=
  onDev (Dev.guarded (R.TRAJ_AX_CMD n) (Dev.axCmd n 7 imm ramp)) s

/-- GEAR_ENGAGE (R215, R216): an accepted CMD write with this OP waits for the next TRAJ_START. -/
def execGearEngage (n : Fin 128) (imm ramp : Bool) (s : State) : Host.Outcome State Fault Refusal :=
  onDev (Dev.guarded (R.TRAJ_AX_CMD n) (Dev.axCmd n 8 imm ramp)) s

/-- GEAR_CHANGE (R215, R216): an accepted CMD write with this OP waits for the next TRAJ_START. -/
def execGearChange (n : Fin 128) (imm ramp : Bool) (s : State) : Host.Outcome State Fault Refusal :=
  onDev (Dev.guarded (R.TRAJ_AX_CMD n) (Dev.axCmd n 9 imm ramp)) s

/-- GEAR_OFF (R215, R216): an accepted CMD write with this OP waits for the next TRAJ_START. -/
def execGearOff (n : Fin 128) (imm ramp : Bool) (s : State) : Host.Outcome State Fault Refusal :=
  onDev (Dev.guarded (R.TRAJ_AX_CMD n) (Dev.axCmd n 10 imm ramp)) s

/-- SET_POS (R215, R216): an accepted CMD write with this OP waits for the next TRAJ_START. -/
def execSetPos (n : Fin 128) (imm ramp : Bool) (s : State) : Host.Outcome State Fault Refusal :=
  onDev (Dev.guarded (R.TRAJ_AX_CMD n) (Dev.axCmd n 11 imm ramp)) s

/-- PATH_ON (R232): an accepted group CMD write waits for the next TRAJ_START. -/
def execPathOn (g : Fin 16) (s : State) : Host.Outcome State Fault Refusal := onDev (Dev.guarded (R.TRAJ_G_CMD g) (Dev.grCmd g 1)) s

/-- PATH_OFF (R232): an accepted group CMD write waits for the next TRAJ_START. -/
def execPathOff (g : Fin 16) (s : State) : Host.Outcome State Fault Refusal := onDev (Dev.guarded (R.TRAJ_G_CMD g) (Dev.grCmd g 2)) s

/-- STOP of a group (R232): an accepted group CMD write waits for the next TRAJ_START. -/
def execGroupStop (g : Fin 16) (s : State) : Host.Outcome State Fault Refusal := onDev (Dev.guarded (R.TRAJ_G_CMD g) (Dev.grCmd g 3)) s

/-- RESUME of a group (R232): an accepted group CMD write waits for the next TRAJ_START. -/
def execGroupResume (g : Fin 16) (s : State) : Host.Outcome State Fault Refusal := onDev (Dev.guarded (R.TRAJ_G_CMD g) (Dev.grCmd g 4)) s

/-- PLAN_EXHAUSTED (R230). -/
def execPlanExhausted (g : Fin 16) (s : State) : Host.Outcome State Fault Refusal := onDev (Dev.planExhausted g) s

/-- TRAJ_LATE (01 R35). -/
def execTrajLate (g : Fin 16) (s : State) : Host.Outcome State Fault Refusal := onDev (Dev.trajLate g) s

/-- STEP_EMIT (R239). -/
def execStepEmit (n : Fin 32) (t : Nat) (s : State) : Host.Outcome State Fault Refusal := onDev (Dev.stepEmit n t) s

end Sys2Proof.Machine
end

