-- ==== Sys2Proof/Machine/Loop.lean ====
section
/-! DEFINITION. LOOP (chapter 10): the control cascade of every axis, PWM, trips, energising, and the companion frames. -/
namespace Sys2Proof.Machine
open Sys2Proof.Config

def Dev.modLoop (n : Nat) (f : LoopAx → LoopAx) (d : Dev) : Dev := { d with loop := { d.loop with ax := tmod d.loop.ax n f } }
def Dev.lax (d : Dev) (n : Nat) : LoopAx := tget d.loop.ax n

/-- TOPO (Table 10.1). -/
def Dev.topo (d : Dev) (n : Nat) : Nat := d.get (F.LOOP_CFG_TOPO n)

/-- The direct servo axes. -/
def Dev.servoAxes (d : Dev) : List Nat := (List.range 32).filter (fun n => d.topo n == 1)

/-! Arithmetic (R246, R247). -/

def sat64 (i : Int) : Int := satI 64 i
def sat32 (i : Int) : Int := satI 32 i

/-- A term of a coefficient pair (C, S). -/
def coefTerm (c s x : Int) : Int :=
  let p := c * x
  if 0 ≤ s then sat64 (p * 2 ^ s.toNat) else rshrI p (-s).toNat

/-- The output of an accumulator. -/
def accOut (acc : Int) : Int := sat32 (rshrI acc 16)

/-- The term of coefficient i of axis n (Table 10.11). -/
def Dev.term (d : Dev) (n i : Nat) (x : Int) : Int := coefTerm (d.gets (F.LOOP_C_C n i)) (d.gets (F.LOOP_SH_S n i)) x

/-- Terms added in order, saturating. -/
def accSum (acc : Int) (l : List Int) : Int := l.foldl (fun a t => sat64 (a + t)) acc

/-- A biquad (R250): output and its new delay elements. -/
def Dev.biquad (d : Dev) (n base : Nat) (q : Int × Int × Int × Int) (x : Int) : Int × (Int × Int × Int × Int) :=
  let (x1, x2, y1, y2) := q
  let t := d.term n
  let y := accOut (accSum 0 [t base x, t (base + 1) x1, t (base + 2) x2, -(t (base + 3) y1), -(t (base + 4) y2)])
  (y, x, x1, y, y1)

/-- VBUS in Q16.16 V from 10 mV units. -/
def voltQ16 (u : Nat) : Int := rshrI (u * 2 ^ 17 / 100 : Nat) 1

/-! Faults with a standing cause (R266): raised when the cause comes, gone when it goes. -/

/-- A fault follows its condition; the event bit sets when it rises. -/
def Dev.follow (c : Bool) (k : FaultKind) (idx cls axes : Nat) (own : Fld) (d : Dev) : Dev :=
  if c then (if d.causeOn k idx then d else (d.raise own).fault k idx cls axes true (some own)) else d.causeOff k idx

/-! Feedback (R249, R252, R259). -/

/-- Is the position source of an axis VALID (07 R174, Table 7.9; 06 R162)? -/
def Dev.srcValid (d : Dev) (n : Nat) : Bool :=
  match d.srcOf n with
  | .chan c => (tget d.fb.chans c).valid && decide (d.chanMode c ≠ 0)
  | .enc j => d.flag (F.FB_ENCSTS_VALID j)
  | .linked j _ => (d.streamBody j).isSome
  | .none => d.topo n == 3

/-- r follows a latch of the position source (R252); the source may have become VALID with it. -/
def Dev.latched (n : Nat) (d : Dev) : Dev :=
  let v := d.srcValid n
  let d := if v then d.modLoop n (fun a => { a with everValid := true }) else d
  let lat := uNat 32 (d.axLat n)
  let e := d.get (F.LOOP_ELEC_CNT_ELEC_CNT n)
  if e = 0 then d
  else d.modLoop n (fun a =>
    let delta := sInt 32 (uNat 32 ((lat : Int) - a.rLat))
    if v && !a.rValid then { a with r := ((sInt 32 lat).emod e).toNat, rLat := lat, rValid := true }
    else { a with r := ((a.r + delta).emod e).toNat, rLat := lat, rValid := v })

/-- After CYC_START's latch: the axes on count channels. -/
def Dev.loopCycle (d : Dev) : Dev :=
  let d := { d with loop := { d.loop with atHalf := false, centre := d.sysClk } }
  Dev.each d.axisList (fun n d => match d.srcOf n with | .chan _ => d.latched n | _ => d) d

/-- The latest complete feedback at IN_CUT: encoder words and the FEEDBACK streams of linked axes. -/
def Dev.takeFeedback (d : Dev) : Dev :=
  Dev.each d.axisList (fun n d => match d.srcOf n with
    | .enc _ => d.latched n
    | .linked j a =>
      match d.streamBody j with
      | some b => d.modLoop n (fun x => { x with
          everValid := true, lat := (b.getD (4 + 2 * a) 0).toNat, spd := sInt 32 (b.getD (5 + 2 * a) 0).toNat })
      | none => d
    | _ => d) d

/-- The masks of a FEEDBACK frame delivered on stream j (Table 10.4): ENERGISED and the companion's faults. -/
def Dev.feedbackMasks (j : Nat) (b : List Word) (d : Dev) : Dev :=
  let w0 := (b.getD 0 0).toNat
  let trip := bitsOf (b.getD 2 0).toNat 15 0
  Dev.each (d.traj.axes.filter (fun x => match x.src with | .linked i _ => i == j | _ => false)) (fun x d =>
    match x.src with
    | .linked _ a =>
      let n := x.axis
      let d := (d.up (F.LOOP_STS_TRIP n) (bitOf trip a)).follow (bitOf w0 a) .companion n 3 (2 ^ n) (F.LOOP_EVT_COMP_FAULT_EVT n)
      if bitOf w0 (16 + a) then
        (d.up (F.LOOP_STS_ENERGISED n) true).modLoop n (fun l => { l with intReset := false, compWait := 0 })
      else d.energOff n
    | _ => d) d

/-! Position and velocity stages (R244, R246, R249, R250). -/

/-- The position stage of an axis. -/
def Dev.posStage (n : Nat) (d : Dev) : Dev :=
  let ep := satI 32 (rshrI (wrap64 ((d.ax n).p - d.posFb n)) 24)
  let d := d.puts (F.LOOP_EP_EP n) ep
  let fe := d.get (F.LOOP_FE_MAX_FE_MAX n)
  let d := d.follow (decide (fe ≠ 0 ∧ fe < ep.natAbs)) .followErr n 2 (2 ^ n) (F.LOOP_EVT_FE_EVT n)
  let v := accOut (d.term n 0 ep)
  d.modLoop n (fun a => { a with vcorr := v })

/-- The velocity stage of an axis. -/
def Dev.velStage (n : Nat) (d : Dev) : Dev :=
  let a := d.lax n
  let t := d.term n
  let vset := sat32 (rshrI (d.ax n).v 36)
  let aset := sat32 (rshrI (d.ax n).a 32)
  let vfb := d.axSpd n
  let vref := accOut (accSum (a.vcorr * 2 ^ 16) [t 1 vset])
  let ev := sat32 (vref - vfb)
  let i := sat64 (a.iInt + t 3 ev)
  let u := accOut (accSum i [t 2 ev, t 5 aset])
  let (u, q0) := if bitOf (d.get (F.LOOP_CFG_BQ_EN n)) 0 then d.biquad n 6 a.bq0 u else (u, a.bq0)
  let (u, q1) := if bitOf (d.get (F.LOOP_CFG_BQ_EN n)) 1 then d.biquad n 11 a.bq1 u else (u, a.bq1)
  let lim := d.gets (F.LOOP_ILIM_ILIM n)
  let iq := clampI (-lim) lim u
  let i := sat64 (i + t 4 (iq - u))
  let sat := decide (iq ≠ u)
  let idr := d.gets (F.LOOP_ID_REF_ID_REF n)
  let d := if sat ∧ d.flag (F.LOOP_STS_SAT n) = false then d.event0 (F.LOOP_EVT_SAT_EVT n) else d
  let d := ((d.up (F.LOOP_STS_SAT n) sat).puts (F.LOOP_VREF_VREF n) vref).puts (F.LOOP_IQREF_IQREF n) iq
  d.modLoop n (fun x => { x with
    iInt := i, bq0 := q0, bq1 := q1, prevIq := x.iqRef, prevFfD := x.ffD, prevFfQ := x.ffQ, iqRef := iq,
    ffD := accOut (t 23 idr), ffQ := accOut (accSum (t 21 vfb) [t 22 iq]) })

/-! Energising (R263, R264). -/

/-- The filtered trips latched that cover a direct axis. -/
def Dev.tripped (d : Dev) (n : Nat) : Bool := d.flag (F.LOOP_STS_TRIP n)

/-- Table 10.7 for EN = 1, in order; the companion's code comes later. -/
def Dev.energCheck (d : Dev) (n : Nat) : Nat :=
  if d.topo n = 0 then 1
  else if d.uncleared n then 2
  else if bitOf d.safe.permit n = false then 3
  else if d.tripped n then 4
  else if n < 32 ∧ d.get F.ADC_VBUS_VOLT < d.get F.LOOP_GCFG_VBUS_MIN then 5
  else if (match d.srcOf n with
      | .linked j _ => d.flag (F.LINK_STRM_STALE j) || !d.srcValid n
      | _ => !d.srcValid n) then 6
  else 0

/-- An accepted EN = 1 by topology (R264). -/
def Dev.energStart (n : Nat) (d : Dev) : Dev :=
  match d.topo n with
  | 1 =>
    let boot := d.get (F.LOOP_PCFG_BOOT n)
    let d := (d.up (F.LOOP_STS_ENERGISED n) true).up (F.LOOP_STS_BOOTING n) (boot != 0)
    d.modLoop n (fun a => { a with
      vcorr := 0, iInt := 0, intD := 0, intQ := 0, bq0 := (0, 0, 0, 0), bq1 := (0, 0, 0, 0), bootLeft := 2 * boot, ocRun := 0,
      shadow := if boot = 0 then none else some [0, 0, 0, 0] })
  | 2 => d.modLoop n (fun a => { a with energise := true, intReset := true, compWait := 0 })
  | _ => d.up (F.LOOP_STS_ENERGISED n) true

/-- The decision of a pending EN write at IN_CUT. -/
def Dev.energDecide (n : Nat) (d : Dev) : Dev :=
  match (d.lax n).pendEn with
  | none => d
  | some en =>
    let d := (d.modLoop n (fun a => { a with pendEn := none })).up (F.LOOP_STS_PEND n) false
    if en then
      let r := d.energCheck n
      let d := d.put (F.LOOP_EVT_RESULT n) r
      if r = 0 then d.energStart n else d
    else (d.put (F.LOOP_EVT_RESULT n) 0).deenergise n

/-- An accepted EN write (R263). -/
def Dev.energWrite (n : Nat) (en : Bool) (d : Dev) : Dev :=
  ((d.up (F.LOOP_CTL_EN n) en).up (F.LOOP_STS_PEND n) true).modLoop n (fun a => { a with pendEn := some en })

/-- COMP_TIMEOUT (R264): the companion has not reported ENERGISED within 4 cycles. -/
def Dev.compTimeout (n : Nat) (d : Dev) : Dev :=
  let a := d.lax n
  if a.energise ∧ a.intReset ∧ d.energised n = false ∧ 4 ≤ a.compWait then
    (((d.up (F.LOOP_CTL_EN n) false).put (F.LOOP_EVT_RESULT n) 7).modLoop n (fun a =>
      { a with energise := false, intReset := false, compWait := 0 }))
  else d

/-- BOOT_END (R264): the 2·BOOT stages have passed. -/
def Dev.bootEnd (n : Nat) (d : Dev) : Dev := if (d.lax n).bootLeft = 0 then d.up (F.LOOP_STS_BOOTING n) false else d

/-- LOOP's work at IN_CUT: feedback, position stages, velocity stages, then the energise decisions. -/
def Dev.loopInCut (d : Dev) : Dev :=
  let d := d.takeFeedback
  let run := (d.axisList.mergeSort (· ≤ ·)).filter (fun n => d.topo n == 1 || d.topo n == 2)
  let d := Dev.each run (fun n d => if d.time.cycPh % (d.get (F.LOOP_CFG_NPOS n) + 1) = 0 then d.posStage n else d) d
  let d := Dev.each run Dev.velStage d
  let d := Dev.each run (fun n d => d.modLoop n (fun a => { a with compWait := if a.intReset then min 255 (a.compWait + 1) else 0 })) d
  Dev.each (List.range 128) Dev.energDecide d

/-! Current stage (R251 to R254). -/

/-- π in the planner's unit: floor(π · 2^96). -/
def piF : Int := 248902613312231085230521944622

/-- Sine of an angle in [0, π/2], by its series, in the planner's unit. -/
def sinSeries (x : Int) : Int :=
  let x2 := fMul x x
  ((List.range 14).foldl (fun (acc : Int × Int) (k : Nat) =>
    (acc.1 + acc.2, -(fMul acc.2 x2) / (((2 * k + 2) * (2 * k + 3) : Nat) : Int))) (0, x)).1

/-- Sine of θ in 2^-40, with its free error of at most 2^-24 (R252). -/
def sinTheta (th : Nat) : Int :=
  let q := th % 2 ^ 32 / 2 ^ 30
  let f := th % 2 ^ 30
  let x : Int := piF * (if q % 2 = 1 then (2 ^ 30 - f : Nat) else f) / 2 ^ 31
  let s := sinSeries x
  let s := rshrI (if 2 ≤ q then -s else s) 56
  s + ((trigError (th % 2 ^ 32) % (2 ^ 17 - 1) : Nat) : Int) - (2 ^ 16 - 1)

/-- Cosine. -/
def cosTheta (th : Nat) : Int := sinTheta (th + 2 ^ 30)

/-- x·c + y·s with c and s in 2^-40, rounded half up, as a 32-bit signal. -/
def rotate (x c y s : Int) : Int := sat32 (rshrI (x * c + y * s) 40)

/-- x·2^k/√3, rounded half up. -/
def overSqrt3 (x : Int) : Int :=
  let m := (isqrt 64 (4 * x.natAbs * x.natAbs / 3) : Nat)
  let m : Int := ((m + 1) / 2 : Nat)
  if x < 0 then -m else m

/-- floor(√3·x). -/
def timesSqrt3 (x : Int) : Int :=
  let m := isqrt 64 (3 * x.natAbs * x.natAbs)
  if x < 0 then -((if m * m = 3 * x.natAbs * x.natAbs then m else m + 1 : Nat) : Int) else (m : Nat)

/-- Sensed phase currents and the over-current flag (R251). -/
def Dev.phaseCurrents (d : Dev) (n : Nat) : List Int × Bool :=
  let ph := ((d.loop.cfg.find? (fun c => c.axis == n)).map (·.phases)).getD []
  let ofs := fun (j : Nat) => if j = 0 then d.gets (F.LOOP_OFS01_OFS0 n) else if j = 1 then d.gets (F.LOOP_OFS01_OFS1 n)
    else d.gets (F.LOOP_OFS2_OFS2 n)
  let ioc := d.gets (F.LOOP_IOC_IOC n)
  let l := (ph.take (d.get (F.LOOP_CFG_NSENSE n))).zipIdx.map (fun p =>
    let w := (d.rd (R.ADC_RES p.1.1 p.1.2.1 p.1.2.2)).toNat
    let i := accOut (d.term n (24 + p.2) (sInt 16 w - ofs p.2))
    (i, bitOf w 16 || decide (ioc < i.natAbs)))
  (l.map (·.1), l.any (·.2))

/-- θ advanced by the latched speed over num/8 of Tb, rounded half up. -/
def Dev.advTheta (d : Dev) (n th num : Nat) : Nat :=
  let e : Int := max 1 (d.get (F.LOOP_ELEC_CNT_ELEC_CNT n))
  uNat 32 (th + (2 * (d.axSpd n * num * 2 ^ 32) + e * 2 ^ 15).fdiv (2 * e * 2 ^ 15))

/-- θ of this stage (R252). -/
def Dev.stageTheta (d : Dev) (n : Nat) : Nat :=
  let e := max 1 (d.get (F.LOOP_ELEC_CNT_ELEC_CNT n))
  let th := (2 ^ 32 * (d.lax n).r / e + d.get (F.LOOP_ANG_ANG_OFS n)) % 2 ^ 32
  if d.loop.atHalf then d.advTheta n th 4 else th

/-- VBUS as the stage uses it, Q16.16 V: not below VBUS_MIN (R254). -/
def Dev.vbusEff (d : Dev) : Int := voltQ16 (max (d.get F.LOOP_GCFG_VBUS_MIN) (d.get F.ADC_VBUS_VOLT))

/-- A duty 0.5 + num/(den · vbus), Q1.15 half up, clamped. -/
def dutyOf (num den : Int) : Int := clampI 0 0x8000 (0x4000 + (2 * num * 0x8000 + den).fdiv (2 * den))

/-- A PI controller of R253: its new integrator and output before the limit. -/
def Dev.piStage (d : Dev) (n kp ki : Nat) (int e ff : Int) : Int × Int :=
  let i := sat64 (int + d.term n ki e)
  (i, accOut (accSum i [d.term n kp e, ff]))

/-- The current stage of a direct servo axis: measurement, controllers, duties (R251 to R254). -/
def Dev.currentStage (n : Nat) (d : Dev) : Dev :=
  let a := d.lax n
  let motor := let m := d.get (F.LOOP_CFG_MOTOR n); if m = 3 then 0 else m
  let (is, ovr) := d.phaseCurrents n
  let run := if ovr then min 15 (a.ocRun + 1) else 0
  let d := d.modLoop n (fun a => { a with ocRun := run })
  let d := d.follow (decide (max 1 (d.get (F.LOOP_CFG_OC_N n)) ≤ run)) .overcurrent n 3 (2 ^ n) (F.LOOP_EVT_OC_EVT n)
  let ia := is.getD 0 0
  let ib := is.getD 1 0
  let th := d.stageTheta n
  let (al, be) := if motor = 0 then (ia, sat32 (overSqrt3 (ia + 2 * ib))) else (ia, ib)
  let (idm, iq) := if motor = 2 then (0, ia)
    else (rotate al (cosTheta th) be (sinTheta th), rotate be (cosTheta th) al (-(sinTheta th)))
  let idr := d.gets (F.LOOP_ID_REF_ID_REF n)
  let t := d.term n
  let ffq := accSum (t 21 (d.axSpd n)) [t 22 a.iqRef]
  let (nd, ud) := if motor = 2 then (0, 0) else d.piStage n 16 17 a.intD (sat32 (idr - idm)) (t 23 idr)
  let (nq, uq) := d.piStage n 18 19 a.intQ (sat32 (a.iqRef - iq)) ffq
  let vb := d.vbusEff
  let lim := (d.get (F.LOOP_LIMV_VLIMF n) : Int) * vb
  let r : Int := if motor = 0 then (isqrt 64 (lim.natAbs * lim.natAbs / (3 * 2 ^ 30)) : Nat) else lim / 2 ^ 15
  let vd := if motor = 2 then 0 else clampI (-r) r ud
  let rq : Int := (isqrt 64 (r * r - vd * vd).toNat : Nat)
  let vq := clampI (-rq) rq uq
  let nd := sat64 (nd + t 20 (vd - ud))
  let nq := sat64 (nq + t 20 (vq - uq))
  let d := (((d.puts (F.LOOP_IQ_IQ n) iq).puts (F.LOOP_ID_ID n) idm).puts (F.LOOP_VQ_VQ n) vq).puts (F.LOOP_VD_VD n) vd
  let d := d.put (F.LOOP_THETA_THETA n) th
  let th2 := d.advTheta n th (if d.get (F.LOOP_PCFG_K n) = 2 then 3 else 4)
  let c := cosTheta th2
  let s := sinTheta th2
  let va := rotate vd c vq (-s)
  let vbeta := rotate vd s vq c
  let bridge := fun (v : Int) => [dutyOf v (2 * vb), dutyOf (-v) (2 * vb)]
  let (duty, d) : List Int × Dev :=
    if vb ≤ 0 then
      let (k, d) := d.fresh
      (List.replicate 4 ((freeNat k % 0x8001 : Nat) : Int), d)
    else match motor with
    | 0 =>
      let (a1, b1, c1) := (va, (-va + timesSqrt3 vbeta + 1).fdiv 2, (-va + timesSqrt3 (-vbeta) + 1).fdiv 2)
      let mid := max a1 (max b1 c1) + min a1 (min b1 c1)
      ([a1, b1, c1].map (fun v => dutyOf (2 * v - mid) (2 * vb)), d)
    | 1 => (bridge va ++ bridge vbeta, d)
    | _ => (bridge vq, d)
  d.modLoop n (fun a => { a with intD := nd, intQ := nq, shadow := some (duty.map Int.toNat) })

/-- The axes of a recorded fault. -/
def Dev.faultAxes (d : Dev) (k : FaultKind) (idx : Nat) : Nat :=
  ((d.faults.find? (fun r => r.kind = k && r.idx = idx)).map (·.axes)).getD 0

/-- CURRENT_STAGE (R244, R266): every direct servo axis whose sequence has written its last result, in ascending order; VBUS. -/
def Dev.currentStages (d : Dev) : Dev :=
  let axs := d.servoAxes.filter (fun n => (d.lax n).stageReady)
  if axs = [] ∨ d.inPark then d
  else
    let d := Dev.each axs (fun n d =>
      let d := d.modLoop n (fun a => { a with stageReady := false })
      if (d.lax n).bootLeft ≠ 0 then d.modLoop n (fun a => { a with bootLeft := a.bootLeft - 1 }) else d.currentStage n) d
    let live := d.servoAxes.filter d.energised
    let v := d.get F.ADC_VBUS_VOLT
    let low := decide (v < d.get F.LOOP_GCFG_VBUS_MIN)
    let d := { d with loop := { d.loop with vbusLowRun := if low ∧ live ≠ [] then min 16 (d.loop.vbusLowRun + 1) else 0 } }
    let d := if low then d else d.causeOff .vbusLow 0
    if v ≤ d.get F.LOOP_GCFG_VBUS_MAX then d.causeOff .vbusHigh 0
    else if d.causeOn .vbusHigh 0 ∧ live = [] then d
    else (d.raise F.LOOP_GEVT_VBUS_HIGH_EVT).fault .vbusHigh 0 3 (maskOf live ||| d.faultAxes .vbusHigh 0) true (some F.LOOP_GEVT_VBUS_HIGH_EVT)

/-- VBUS_LOW (R266). -/
def Dev.vbusLow (d : Dev) : Dev :=
  if d.loop.vbusLowRun = 16 then d.follow true .vbusLow 0 2 (maskOf d.servoAxes) F.LOOP_GEVT_VBUS_LOW_EVT else d

/-- LOOP_OVERRUN (01 Table 1.9): the late stage's outputs are discarded, and the previous outputs hold. -/
def Dev.loopOverrun (cur : Bool) (d : Dev) : Dev :=
  let d := if cur then Dev.each d.servoAxes (fun n d => d.modLoop n (fun a => { a with shadow := none })) d
    else Dev.each d.axisList (fun n d => d.modLoop n (fun a => { a with iqRef := a.prevIq, ffD := a.prevFfD, ffQ := a.prevFfQ })) d
  (d.raise F.LOOP_GEVT_OVERRUN_EVT).fault .loopOverrun 0 3 allAxes false (some F.LOOP_GEVT_OVERRUN_EVT)

/-! PWM and trips (R255 to R258). -/

/-- The ramp lengths of a half cycle of H clocks in k ramps (R255). -/
def rampLens (h k : Nat) : List Nat := (List.range k).map (fun i => h / k + (if k - h % k ≤ i then 1 else 0))

/-- CMP of a duty in a ramp, with the pulse rule of R257. -/
def cmpOf (duty len minp : Nat) : Nat :=
  let c := (duty * len + 0x4000) / 0x8000
  let lo := (minp + 1) / 2
  if c < lo then 0 else if len < c + lo then len else c

/-- The ramps of an axis's half cycle: k of them (R255). -/
def Dev.pwmK (d : Dev) (n : Nat) : Nat := if d.get (F.LOOP_PCFG_K n) = 2 then 4 else 2
def Dev.pwmLens (d : Dev) (n : Nat) : List Nat := rampLens (d.time.tb / 5) (d.pwmK n)

/-- The SYS clock of the first valley at or after now: a valley ends every rising ramp. -/
def Dev.nextValley (d : Dev) (n : Nat) : Nat :=
  let l := d.pwmLens n
  let v := [l.getD 0 0, l.getD 0 0 + l.getD 1 0 + l.getD 2 0].take (d.pwmK n / 2)
  match v.find? (fun x => decide (d.sysClk ≤ d.loop.centre + x)) with
  | some x => d.loop.centre + x
  | none => d.loop.centre + d.time.tb / 5 + l.getD 0 0

/-- A PWM valley, the first after the current stage: the duty shadows load (R256). -/
def Dev.pwmValley (n : Nat) (d : Dev) : Dev :=
  match (d.lax n).shadow with
  | none => d
  | some l =>
    let clk := d.nextValley n
    let d := d.tick ((clk + 1) / 2 - d.time.ticks)
    let d := ((d.put (F.LOOP_DUTY01_DUTY0 n) (l.getD 0 0)).put (F.LOOP_DUTY01_DUTY1 n) (l.getD 1 0))
    let d := (d.put (F.LOOP_DUTY23_DUTY2 n) (l.getD 2 0)).put (F.LOOP_DUTY23_DUTY3 n) (l.getD 3 0)
    let lens := d.pwmLens n
    let minp := d.get (F.LOOP_PCFG_DT n) + d.get (F.LOOP_PCFG_MINP n)
    let live := d.energised n
    d.modLoop n (fun a => { a with
      shadow := none, loadClk := clk, cmpOld := a.cmp, cmp := l.flatMap (fun x => lens.map (fun len => cmpOf x len minp)), off := !live })

/-- The ramp, counted from r, in which clock x of a half cycle lies, and its place there; the last ramp takes all that follows. -/
def rampAt (r : Nat) : List Nat → Nat → Nat × Nat
  | l :: m :: t, x => if x < l then (r, x) else rampAt (r + 1) (m :: t) (x - l)
  | _, x => (r, x)

/-- Is the high side of half-bridge b commanded on in a SYS clock (R255, R256)? The ramps rise and fall in turn from the centre on, and the
high side is on for the CMP clocks nearest each valley. A clock before the centre belongs to the half cycle before it. -/
def Dev.pwmHigh (d : Dev) (n b clk : Nat) : Bool :=
  let lens := d.pwmLens n
  let x := if d.loop.centre ≤ clk then clk - d.loop.centre else clk + d.time.tb / 5 - d.loop.centre
  let (r, y) := rampAt 0 lens x
  let l := if (d.lax n).loadClk ≤ clk then (d.lax n).cmp else (d.lax n).cmpOld
  let c := l.getD (b * lens.length + r) 0
  if r % 2 = 0 then decide (lens.getD r 0 ≤ y + c) else decide (y < c)

/-- Are the high and the low side of half-bridge b switched on in a SYS clock, by pin mode (R257, R258)? In COMPL each rising edge comes DT
clocks late; in SINGLE the one pin carries the command. In the off pattern neither is. -/
def Dev.pwmOn (d : Dev) (n b clk : Nat) : Bool × Bool :=
  if (d.lax n).off then (false, false)
  else if d.flag (F.LOOP_PCFG_PINMODE n) then (d.pwmHigh n b clk, false)
  else
    let past := (List.range (d.get (F.LOOP_PCFG_DT n) + 1)).map (fun i => d.pwmHigh n b (clk - i))
    (past.all id, past.all not)

/-- The level of a PWM pin of direct axis n in a SYS clock: POL_H and POL_L give the active level (R257). -/
def Dev.pwmLevel (d : Dev) (n b : Nat) (high : Bool) (clk : Nat) : Bool :=
  if high then (d.pwmOn n b clk).1 != d.flag (F.LOOP_PCFG_POL_H n) else (d.pwmOn n b clk).2 != d.flag (F.LOOP_PCFG_POL_L n)

/-- A filtered TRIP input changes (R258). -/
def Dev.tripInput (j : Nat) (high : Bool) (d : Dev) : Dev :=
  if d.flag (F.LOOP_TCFG_EN j) = false then d
  else
    let act := high == d.flag (F.LOOP_TCFG_TPOL j)
    let d := { d with loop := { d.loop with tripIn := setBit d.loop.tripIn j act } }
    if act = false ∨ bitOf (d.get F.LOOP_TRIP_STS_TRIP) j then d
    else
      let d := d.put F.LOOP_TRIP_STS_TRIP (setBit (d.get F.LOOP_TRIP_STS_TRIP) j true)
      Dev.each (onesBelow 32 (d.get (F.LOOP_TAXES_AXES j))) (fun n d =>
        ((d.up (F.LOOP_STS_TRIP n) true).raise (F.LOOP_EVT_TRIP_EVT n)).fault .trip (j * 128 + n) 3 (2 ^ n) true
          (some (F.LOOP_EVT_TRIP_EVT n))) d

/-- A TRIP input takes the sample of a SYS clock; its filter passes TFILT samples in a row. -/
def Dev.tripSample (j : Nat) (x : Bool) (d : Dev) : Dev :=
  let clk := tget d.loop.tripClk j
  let (f, e) := (tget d.loop.tripF j).sample (min 16 (max 1 (tget d.loop.tripN j))) clk x
  let d := { d with loop := { d.loop with tripF := tput d.loop.tripF j f, tripClk := tput d.loop.tripClk j (clk + 1) } }
  if e.isSome then d.tripInput j f.lvl else d

/-- Samples of a TRIP input from a SYS clock on; since the last ones it has kept its level. -/
def Dev.tripSamples (j : Nat) (xs : List Bool) (clk : Nat) (d : Dev) : Dev :=
  let was := tget d.loop.tripClk j
  let d := Dev.each (List.replicate (min 16 (clk - was)) (tget d.loop.tripF j).raw) (Dev.tripSample j) d
  Dev.each xs (Dev.tripSample j) { d with loop := { d.loop with tripClk := tput d.loop.tripClk j (max was clk) } }

/-- CLR of latched trips (R258): only while the filtered input is inactive. -/
def Dev.tripClr (m : Nat) (d : Dev) : Dev :=
  let gone := (onesBelow 16 m).filter (fun j => bitOf (d.get F.LOOP_TRIP_STS_TRIP) j && !bitOf d.loop.tripIn j)
  let d := Dev.each gone (fun j d =>
    let d := d.put F.LOOP_TRIP_STS_TRIP (setBit (d.get F.LOOP_TRIP_STS_TRIP) j false)
    Dev.each (onesBelow 32 (d.get (F.LOOP_TAXES_AXES j))) (fun n => Dev.causeOff .trip (j * 128 + n)) d) d
  Dev.each (List.range 32) (fun n d => d.up (F.LOOP_STS_TRIP n)
    ((onesBelow 16 (d.get F.LOOP_TRIP_STS_TRIP)).any (fun j => bitOf (d.get (F.LOOP_TAXES_AXES j)) n))) d

/-! SETPOINT frames (R260, R261). -/

/-- The mantissa of x at exponent e. -/
def bfpMant (e : Nat) (x : Int) : Int := if e = 0 then x else rshrI x e

/-- The smallest exponent from 0 to 14 at which every value rounds into 18 bits. -/
def bfpExp (l : List Int) : Nat :=
  ((List.range 15).find? (fun e => l.all (fun x => decide (satI 18 (bfpMant e x) = bfpMant e x)))).getD 14

/-- The SETPOINT frame for the companion whose FEEDBACK stream is j; claim is this device's CLAIM word. -/
def Dev.setpointBody (j : Nat) (claim : Word) (d : Dev) : List Word :=
  let axs := d.traj.axes.filterMap (fun x => match x.src with
    | .linked i a => if i = j then some (a, x.axis) else none
    | _ => none)
  let slots := axs.foldl (fun m x => max m (x.1 + 1)) 0
  let at_ := fun (a : Nat) => (axs.find? (fun x => x.1 == a)).map (·.2)
  let iq := fun a => match at_ a with | some n => (d.lax n).iqRef | none => 0
  let idr := fun a => match at_ a with | some n => d.gets (F.LOOP_ID_REF_ID_REF n) | none => 0
  let fd := fun a => match at_ a with | some n => (d.lax n).ffD | none => 0
  let fq := fun a => match at_ a with | some n => (d.lax n).ffQ | none => 0
  let l := List.range slots
  let ei := bfpExp (l.flatMap (fun a => [iq a, idr a]))
  let ev := bfpExp (l.flatMap (fun a => [fd a, fq a]))
  let mant := fun e x => uNat 18 (satI 18 (bfpMant e x))
  let mask := fun (f : LoopAx → Bool) => l.foldl (fun m a => match at_ a with
    | some n => setBit m a (f (d.lax n)) | none => m) 0
  let bits := l.foldl (fun s a =>
    s + 2 ^ (72 * a) * (mant ei (iq a) + 2 ^ 18 * mant ei (idr a) + 2 ^ 36 * mant ev (fq a) + 2 ^ 54 * mant ev (fd a))) 0
  let ilim := l.foldl (fun s a => match at_ a with
    | some n => s + 2 ^ (8 * a) * (((min (2 ^ 31 - 1) (d.get (F.LOOP_ILIM_ILIM n))) * 256 + 2 ^ 31 - 1) / 2 ^ 31 - 1)
    | none => s) 0
  let w := fun (v : Nat) => (BitVec.ofNat 32 v : Word)
  [w (ei * 2 ^ 26 + ev * 2 ^ 20 + mask (·.energise)), claim, w (d.time.cycno + 1), w (mask (·.intReset))]
    ++ (List.range 4).map (fun i => w (ilim / 2 ^ (32 * i)))
    ++ (List.range ((9 * slots + 3) / 4)).map (fun i => w (bits / 2 ^ (32 * i)))

/-! The commands. -/

/-- CURRENT_STAGE (R244). -/
def execCurrentStage (s : State) : Host.Outcome State Fault Refusal := onDev Dev.currentStages s

/-- VBUS_LOW (R266). -/
def execVbusLow (s : State) : Host.Outcome State Fault Refusal := onDev Dev.vbusLow s

/-- ENERGISE (R263): an accepted EN = 1. -/
def execEnergise (n : Fin 128) (s : State) : Host.Outcome State Fault Refusal := onDev (Dev.guarded (R.LOOP_CTL n) (Dev.energWrite n true)) s

/-- DEENERGISE (R264): an accepted EN = 0. -/
def execDeenergise (n : Fin 128) (s : State) : Host.Outcome State Fault Refusal := onDev (Dev.guarded (R.LOOP_CTL n) (Dev.energWrite n false)) s

/-- BOOT_END (R264). -/
def execBootEnd (n : Fin 32) (s : State) : Host.Outcome State Fault Refusal := onDev (Dev.bootEnd n) s

/-- COMP_TIMEOUT (R264). -/
def execCompTimeout (n : Fin 128) (s : State) : Host.Outcome State Fault Refusal := onDev (Dev.compTimeout n) s

/-- TRIP_INPUT (R258). -/
def execTripInput (j : Fin 16) (x : LineRun) (s : State) : Host.Outcome State Fault Refusal := onDev (Dev.tripSamples j x.lvls x.clk) s

/-- TRIP_CLR (R258). -/
def execTripClr (m : BitVec 16) (s : State) : Host.Outcome State Fault Refusal := onDev (Dev.tripClr m.toNat) s

/-- PWM_VALLEY (R256). -/
def execPwmValley (n : Fin 32) (s : State) : Host.Outcome State Fault Refusal := onDev (Dev.pwmValley n) s

end Sys2Proof.Machine
end

