-- ==== Sys2Proof/Machine/Arb.lean ====
section
/-! DEFINITION. The workspace arbiter (chapter 13): reservations, the decision at the tick, messages between homes and holders,
retries, orphans and RESTORE. -/
namespace Sys2Proof.Machine
open Sys2Proof.Config

/-! Time (R313). -/

/-- UT: microseconds of TIME_NOW modulo 2^32. -/
def Dev.ut (d : Dev) : Nat := d.nowNs / 1000 % 2 ^ 32

/-- (b - a) mod 2^32. -/
def utDiff (a b : Nat) : Nat := (b + 2 ^ 32 - a % 2 ^ 32) % 2 ^ 32

/-- Is time a before time b? -/
def utBefore (a b : Nat) : Bool := decide (1 ≤ utDiff a b ∧ utDiff a b < 2 ^ 31)

/-- The distance of a time from a base, signed. -/
def utRel (base x : Nat) : Int := sInt 32 (utDiff base x)

/-! Tables (R315, Table 13.2). -/

abbrev arbHeld : Nat := 0x1400000
abbrev arbHome : Nat := 0x1404000
abbrev arbGeo : Nat := 0x1414000

/-- A VALID entry of the home or held table. -/
structure ArbEnt where
  idx : Nat
  orphan : Bool
  grp : Nat
  block : Nat
  handle : Nat
  ts : Nat
  te : Nat
  deriving DecidableEq, Repr, Inhabited

/-- Entry i of the table at base. -/
def Memory.arbEnt (m : Memory) (base i : Nat) : ArbEnt :=
  let w := fun k => (m.word (base + 16 * i + 4 * k)).toNat
  ⟨i, bitOf (w 0) 30, bitsOf (w 0) 21 13, bitsOf (w 0) 9 0, w 1, w 2, w 3⟩

/-- The VALID entries of the table of n entries at base, by rising index. -/
def Memory.arbEnts (m : Memory) (base n : Nat) : List ArbEnt :=
  (m.filter (fun c => decide (base ≤ c.1 ∧ c.1 < base + 16 * n ∧ (c.1 - base) % 16 = 3 ∧ 128 ≤ c.2.toNat))).map
    (fun c => m.arbEnt base ((c.1 - base) / 16))

/-- Write an entry, VALID. -/
def Memory.arbPut (m : Memory) (base : Nat) (e : ArbEnt) : Memory :=
  m.putWords (base + 16 * e.idx) [BitVec.ofNat 32 (2 ^ 31 + b2n e.orphan * 2 ^ 30 + e.grp % 512 * 2 ^ 13 + e.block % 1024),
    BitVec.ofNat 32 e.handle, BitVec.ofNat 32 e.ts, BitVec.ofNat 32 e.te]

/-- Clear VALID, and ORPHAN with it. -/
def Memory.arbDrop (m : Memory) (base i : Nat) : Memory :=
  let w := (m.word (base + 16 * i)).toNat
  m.putWord (base + 16 * i) (BitVec.ofNat 32 (w % 2 ^ 30))

def State.homeEnts (s : State) : List ArbEnt := s.mem.arbEnts arbHome 4096
def State.heldEnts (s : State) : List ArbEnt := s.mem.arbEnts arbHeld 1024
def State.setMem (m : Memory) (s : State) : State := { s with mem := m }
def State.upd (f : Dev → Dev) (s : State) : State := { s with dev := f s.dev }
def Dev.modArb (f : ArbSt → ArbSt) (d : Dev) : Dev := { d with arb := f d.arb }

/-- The lowest index below n that no entry has. -/
def freeIdx (n : Nat) (l : List ArbEnt) : Option Nat := (List.range n).find? (fun i => !l.any (fun e => e.idx == i))

/-- The counts of ARB_STS and of the request ports (Tables 13.6 and 13.8). -/
def State.arbShow (s : State) : State :=
  let held := s.heldEnts
  s.upd (fun d =>
    let d := (d.put F.ARB_STS_LIVE s.homeEnts.length).put F.ARB_STS_HELD held.length
    Dev.each (List.range 16) (fun g d =>
      let d := d.put (F.ARB_G_STS_HELD g) (held.filter (fun e => e.grp % 16 == g)).length
      d.put (F.ARB_G_STS_PENDING g) ((List.range 8).filter (fun i => d.flag (F.ARB_RS_PENDING g i))).length) d)

/-! Messages (Tables 13.4 and 13.5). -/

/-- A message's five words. -/
def ArbMsg.pack (x : ArbMsg) : List Word :=
  [BitVec.ofNat 32 (x.msg % 16 * 2 ^ 28 + x.rseq % 16 * 2 ^ 24 + b2n x.auto * 2 ^ 23 + x.grp % 512 * 2 ^ 13 + x.block % 1024),
    BitVec.ofNat 32 x.handle, BitVec.ofNat 32 x.ta, BitVec.ofNat 32 x.tb,
    BitVec.ofNat 32 (x.tag % 2 ^ 16 * 2 ^ 16 + x.prec % 256 * 256 + x.code % 256)]

/-- The message that five words spell. -/
def arbUnpack (l : List Word) : ArbMsg :=
  let w := fun k => (l.getD k 0).toNat
  ⟨bitsOf (w 0) 31 28, bitsOf (w 0) 27 24, bitOf (w 0) 23, bitsOf (w 0) 21 13, bitsOf (w 0) 9 0, w 1, w 2, w 3,
    bitsOf (w 4) 31 16, bitsOf (w 4) 15 8, bitsOf (w 4) 7 0⟩

/-- Put a message in the queue for a node. It holds 64; a message that is not refused with QUEUE waits behind it until there is room, so
that none is lost (DESIGN CHOICE, log entry 82). -/
def Dev.arbSend (dest : Nat) (x : ArbMsg) (d : Dev) : Dev :=
  if 64 ≤ (tget d.arb.queues dest).length then d.modArb (fun a => { a with spill := tmod a.spill dest (· ++ [x]) })
  else d.modArb (fun a => { a with queues := tmod a.queues dest (· ++ [x]) })

/-- The nodes this device has an ARB stream to (R324). -/
def Dev.arbDests (d : Dev) : List Nat := (d.link.cfg.tx.filter (fun x => x.typ == 5)).map (·.arg)

/-- Has the ARB stream from a node FAULT? -/
def Dev.arbFaulted (d : Dev) (node : Nat) : Bool :=
  d.link.cfg.rx.zipIdx.any (fun x => x.1.typ == 5 && x.1.arg == node && d.flag (F.LINK_STRM_FAULT x.2))

/-- The ARB frame for a node (R324): up to 12 messages in queue order; requests sent now start their 4·Tb (R326). -/
def Dev.arbBody (dest : Nat) (d : Dev) : List Word × Dev :=
  let all := tget d.arb.queues dest ++ tget d.arb.spill dest
  let out := (tget d.arb.queues dest).take 12
  let body := [BitVec.ofNat 32 (2 ^ 24 + b2n (d.flag F.ARB_STS_RESTORE) * 256 + out.length)]
    ++ out.flatMap ArbMsg.pack ++ List.replicate (60 - 5 * out.length) 0
  (body, d.modArb (fun a => { a with
    queues := tput a.queues dest ((all.drop out.length).take 64), spill := tput a.spill dest (all.drop (out.length + 64)),
    outs := a.outs.map (fun o => if o.dest = dest ∧ out.contains o.m then { o with sent := some d.nowNs } else o) }))

/-! Results (Table 13.9, R325). -/

/-- A held entry's window ends at te; at its start it is deleted. -/
def State.heldEnd (handle te : Nat) (s : State) : State :=
  match s.heldEnts.find? (fun e => e.handle == handle) with
  | none => s
  | some e => s.setMem (if te = e.ts then s.mem.arbDrop arbHeld e.idx else s.mem.arbPut arbHeld { e with te := te })

/-- What a result does to the held table (R325): a grant makes an entry while one is free. -/
def State.heldResult (r : ArbMsg) (s : State) : State :=
  match r.code with
  | 0x00 =>
    match freeIdx 1024 s.heldEnts with
    | some i => s.setMem (s.mem.arbPut arbHeld ⟨i, false, r.grp, r.block, r.handle, r.ta, r.tb⟩)
    | none => s
  | 0x0D => s.heldEnd r.handle r.tb
  | 0x0C => s.heldEnd r.handle r.tb
  | _ => s

/-- A result of a local group's request: slot, held table and RESULT_EVT; a refused automatic EXTEND raises AUTO_FAIL_EVT. -/
def State.arbResult (r : ArbMsg) (s : State) : State :=
  let g := r.grp % 16
  let i := r.rseq % 8
  let s := s.heldResult r
  if r.auto then
    (if r.code = 0x0D then s else s.upd (fun d => d.event0 (F.ARB_G_EVT_AUTO_FAIL_EVT g)))
  else s.upd (fun d =>
    let d := (d.up (F.ARB_RS_PENDING g i) false).put (F.ARB_RS_CODE g i) r.code
    let d := ((d.put (F.ARB_RS_HDL_HANDLE g i) r.handle).put (F.ARB_RS_TA_T_A g i) r.ta).put (F.ARB_RS_TB_T_B g i) r.tb
    d.event0 (F.ARB_G_EVT_RESULT_EVT g))

/-- A refusal's words: the manual states none but a CONFLICT's, so they are free. -/
def refusal (x : ArbMsg) (code : Nat) (d : Dev) : ArbMsg × Dev :=
  let (h, d) := d.drawW
  let (a, d) := d.drawW
  let (b, d) := d.drawW
  ({ x with msg := 8, handle := h, ta := a, tb := b, tag := 0, prec := 0, code := code }, d)

/-- A local refusal of a request (R318). -/
def State.arbRefuse (x : ArbMsg) (code : Nat) (s : State) : State :=
  let (r, d) := refusal x code s.dev
  { s with dev := d }.arbResult r

/-! The home's decisions (R319 to R323). -/

/-- Do two half-open windows overlap? -/
def utOverlap (a b c e : Nat) : Bool := utBefore a e && utBefore c b

/-- The entries of a block that overlap a window. An orphan never expires: it blocks from its T_START on, beyond its T_END (R330). -/
def overlaps (l : List ArbEnt) (block ts te : Nat) : List ArbEnt :=
  l.filter (fun e => e.block == block && (utOverlap e.ts e.te ts te || (e.orphan && utBefore e.ts te)))

/-- The first of a list in ascending T_START, seen from ts. -/
def firstEnt (ts : Nat) (l : List ArbEnt) : Option ArbEnt :=
  l.foldl (fun b e => match b with | none => some e | some x => if utRel ts e.ts < utRel ts x.ts then some e else b) none

/-- NEXT_FREE (R321): the earliest time from ts at which a window of the length overlaps nothing on the block; none where an orphan leaves
no such time. -/
def nextFree (l : List ArbEnt) (block ts len : Nat) : Option Nat :=
  let on := l.filter (fun e => e.block == block)
  let cand := (ts :: on.map (·.te)).filter (fun t => decide (0 ≤ utRel ts t) && (overlaps on block t ((t + len) % 2 ^ 32)).isEmpty)
  cand.head?.map (fun c => cand.foldl (fun b t => if utRel ts t < utRel ts b then t else b) c)

/-- The cut of R322: the entry that remains, or none. -/
def arbCut (ut t : Nat) (e : ArbEnt) : Option ArbEnt :=
  if !utBefore t e.te then some e
  else if !utBefore e.ts t then none
  else if !utBefore ut t then some { e with te := (ut + 1) % 2 ^ 32 }
  else some { e with te := t }

/-- Put back a home entry, or delete it. -/
def State.homePut (i : Nat) (e : Option ArbEnt) (s : State) : State :=
  s.setMem (match e with | some x => s.mem.arbPut arbHome x | none => s.mem.arbDrop arbHome i)

/-- The home entry a handle names, if VALID with that handle. -/
def State.homeOf (s : State) (handle : Nat) : Option ArbEnt :=
  s.homeEnts.find? (fun e => e.idx == handle % 4096 && e.handle == handle)

/-- A NOTICE for a holder: a held entry of this device's own groups changes at once (R323). -/
def State.notice (code grp block handle ta : Nat) (s : State) : State :=
  if grp / 16 = s.dev.nodeId then
    (if code = 1 ∧ (s.heldEnts.any (fun e => e.handle == handle))
     then (s.heldEnd handle ta).upd (fun d => d.event0 (F.ARB_G_EVT_NOTICE_EVT (grp % 16))) else s)
  else
    let (b, d) := s.dev.drawW
    { s with dev := d.arbSend (grp / 16) ⟨9, 0, false, grp, block, handle, ta, b, 0, 0, code⟩ }

/-- A revocation (R323): cut as a RELEASE; ORPHAN clears; the holder has a NOTICE. -/
def State.arbRevokeOne (i gen t : Nat) (s : State) : State :=
  match s.homeEnts.find? (fun e => e.idx == i && e.handle / 2 ^ 24 == gen) with
  | none => s
  | some e =>
    let r := (arbCut s.dev.ut t e).map (fun x => { x with orphan := false })
    (s.homePut i r).notice 1 e.grp e.block e.handle ((r.map (·.te)).getD e.ts)

/-- A request at the home: where it came from (none: here) and its message. -/
abbrev ArbJob := Option Nat × ArbMsg

/-- A home result: GRANTED and EXTENDED count GRANTS, refusals count REFUSALS, FULL raises FULL_EVT. -/
def Dev.homeCount (code : Nat) (d : Dev) : Dev :=
  if code = 0 ∨ code = 0x0D then d.cnt F.ARB_CNT0_GRANTS
  else if code = 0x0C then d
  else
    let d := d.cnt F.ARB_CNT0_REFUSALS
    if code = 2 then d.event0 F.ARB_EVT_FULL_EVT else d

/-- A home refusal. -/
def State.homeRefuse (x : ArbMsg) (code : Nat) (s : State) : ArbMsg × State :=
  let (r, d) := refusal x code s.dev
  (r, { s with dev := d.homeCount code })

/-- A CONFLICT: the blocker's handle; NEXT_FREE is filled in after the tick, for the window length kept in tag and prec. -/
def State.conflict (x : ArbMsg) (blockers : List ArbEnt) (ts : Nat) (s : State) : ArbMsg × State :=
  let (r, s) := s.homeRefuse x 1
  ({ r with handle := ((firstEnt ts blockers).map (·.handle)).getD 0, ta := ts }, s)

/-- A RELEASE at the home (R322). -/
def State.homeRelease (x : ArbMsg) (s : State) : ArbMsg × State :=
  match s.homeOf x.handle with
  | none => s.homeRefuse x 7
  | some e =>
    if e.grp ≠ x.grp then s.homeRefuse x 7
    else
      let r := arbCut s.dev.ut x.ta e
      ({ x with msg := 8, ta := e.ts, tb := (r.map (·.te)).getD e.ts, tag := 0, prec := 0, code := 0x0C },
        (s.homePut e.idx r).upd (Dev.homeCount 0x0C))

/-- A RESERVE at the home, checked against the table as it stands (R320). -/
def State.homeReserve (x : ArbMsg) (s : State) : ArbMsg × State :=
  let d := s.dev
  let ents := s.homeEnts
  let geo := d.arb.geo.find? (fun q => q.1 == x.block)
  if d.flag F.ARB_STS_RESTORE then s.homeRefuse x 9
  else if (geo.map (·.2.2)) ≠ some x.tag then s.homeRefuse x 6
  else if !utBefore d.ut x.tb then s.homeRefuse x 4
  else match freeIdx 4096 ents with
    | none => s.homeRefuse x 2
    | some i =>
      let ov := overlaps ents x.block x.ta x.tb
      if !ov.isEmpty then s.conflict x ov x.ta
      else
        let gen := ((s.mem.word (arbHome + 16 * i + 4)).toNat / 2 ^ 24 + 1) % 256
        let h := gen * 2 ^ 24 + d.nodeId % 32 * 2 ^ 16 + i
        let s := s.setMem (s.mem.arbPut arbHome ⟨i, false, x.grp, x.block, h, x.ta, x.tb⟩)
        ({ x with msg := 8, handle := h, tag := 0, prec := 0, code := 0 },
          s.upd (fun d => (d.modArb (fun a => { a with lastWin := tput a.lastWin x.grp (some d.time.cycno) })).homeCount 0))

/-- An EXTEND at the home: only the added part is checked (R320). -/
def State.homeExtend (x : ArbMsg) (s : State) : ArbMsg × State :=
  let d := s.dev
  if d.flag F.ARB_STS_RESTORE then s.homeRefuse x 9
  else match s.homeOf x.handle with
    | none => s.homeRefuse x 7
    | some e =>
      if e.grp ≠ x.grp then s.homeRefuse x 7
      else if !utBefore d.ut x.tb then s.homeRefuse x 4
      else
        let ov := (overlaps s.homeEnts e.block e.te x.tb).filter (fun o => o.idx != e.idx)
        if !ov.isEmpty then s.conflict { x with block := e.block } ov e.te
        else ({ x with msg := 8, ta := e.ts, tag := 0, prec := 0, code := 0x0D },
          (s.setMem (s.mem.arbPut arbHome { e with te := x.tb })).upd (Dev.homeCount 0x0D))

/-- A REASSERT at the home: of an orphan (R331), and in RESTORE of any reservation, unless its entry is VALID with another handle or its
window overlaps another reservation (R332). -/
def State.homeReassert (x : ArbMsg) (s : State) : State :=
  let i := x.handle % 4096
  let e := s.homeEnts.find? (fun e => e.idx == i)
  let same := e.map (·.handle) == some x.handle
  if s.dev.flag F.ARB_STS_RESTORE then
    let others := s.homeEnts.filter (fun o => o.idx != i)
    if (e.isNone || same) && (overlaps others x.block x.ta x.tb).isEmpty
    then s.setMem (s.mem.arbPut arbHome ⟨i, false, x.grp, x.block, x.handle, x.ta, x.tb⟩)
    else s.notice 1 x.grp x.block x.handle x.ta
  else match e with
    | some e => if same && e.orphan then s.setMem (s.mem.arbPut arbHome { e with orphan := false, te := x.tb }) else s
    | none => s

/-- A decided request: the job, its result, and for a CONFLICT the length whose NEXT_FREE is wanted. -/
abbrev ArbDone := ArbJob × ArbMsg × Option Nat

/-- The recorded result of a request seen before (R326). -/
def Dev.recorded (d : Dev) (x : ArbMsg) : Option ArbMsg :=
  if x.auto then none
  else ((tget d.arb.records x.grp).find? (fun r => r.1 == x.msg && r.2.rseq == x.rseq)).map (·.2)

/-- Keep a remote request's result among the last 16 of its GRP. -/
def Dev.keepRecord (x r : ArbMsg) (d : Dev) : Dev :=
  if x.auto then d
  else d.modArb (fun a => { a with records := tmod a.records x.grp (fun l =>
    ((x.msg, r) :: l.filter (fun y => y.2.rseq != x.rseq)).take 16) })

/-- Decide one request. -/
def State.homeDecide (j : ArbJob) (s : State) : ArbDone × State :=
  let x := j.2
  match (if j.1.isSome then s.dev.recorded x else none) with
  | some r => ((j, r, none), s)
  | none =>
    match x.msg with
    | 1 =>
      let (r, s) := s.homeReserve x
      ((j, r, if r.code = 1 then some (utDiff x.ta x.tb) else none), s)
    | 2 =>
      let (r, s) := s.homeExtend x
      ((j, r, if r.code = 1 then some (utDiff r.ta x.tb) else none), s)
    | _ =>
      let (r, s) := s.homeRelease x
      ((j, r, none), s)

/-- Decide requests in order. -/
def State.homeAll : List ArbJob → State → List ArbDone × State
  | [], s => ([], s)
  | j :: js, s =>
    let (r, s) := s.homeDecide j
    let (rs, s) := s.homeAll js
    (r :: rs, s)

/-- The order of R320 within a block: PREC, the group that won least recently (never: first), GRP, RSEQ. -/
def arbLe (win : Nat → Option Nat) (cyc : Nat) (a b : ArbJob) : Bool :=
  let x := a.2
  let y := b.2
  let age : Nat → Nat := fun g => match win g with | none => 2 ^ 40 | some w => utDiff w cyc
  if x.block ≠ y.block then decide (x.block < y.block)
  else if x.prec ≠ y.prec then decide (x.prec < y.prec)
  else if age x.grp ≠ age y.grp then decide (age y.grp < age x.grp)
  else if x.grp ≠ y.grp then decide (x.grp < y.grp)
  else if x.auto ≠ y.auto then y.auto
  else decide ((y.rseq + 16 - x.rseq % 16) % 16 < 8)

/-- A result leaves: to its slot, or into the queue for the device that asked, with its record. NEXT_FREE is that of the table
after the tick (R321). -/
def State.homeAnswer (x : ArbDone) (s : State) : State :=
  let (j, r, len) := x
  let (r, s) := match len with
    | some n => (match nextFree s.homeEnts r.block r.ta n with
      | some t => ({ r with ta := t }, s)
      | none => let (w, d) := s.dev.drawW; ({ r with ta := w }, { s with dev := d }))
    | none => (r, s)
  match j.1 with
  | none => s.arbResult r
  | some node => s.upd (fun d => (d.keepRecord j.2 r).arbSend node r)

/-! The requester's side (R317, R318). -/

/-- An accepted CMD (R317); refused as ILLEGAL while its slot is PENDING. -/
def State.arbCmd (p : Port) (g op : Nat) (s : State) : State :=
  let d := s.dev
  let q := d.get (F.ARB_G_STS_NEXT_RSEQ g)
  if d.flag (F.ARB_RS_PENDING g (q % 8)) then s.upd (Dev.illegal p (R.ARB_G_CMD g))
  else
    let hdl := d.get (F.ARB_G_HDL_HANDLE g)
    let ent := s.heldEnts.find? (fun e => e.handle == hdl && e.grp % 16 == g)
    let (fb, d) := d.draw 1024
    let blk := if op = 1 then d.get (F.ARB_G_BLK_BLOCK g) else match ent with | some e => e.block | none => fb
    let i := q % 8
    let d := (((d.up (F.ARB_RS_PENDING g i) true).put (F.ARB_RS_RSEQ g i) q).put (F.ARB_RS_OP g i) op).put (F.ARB_RS_BLOCK g i) blk
    let d := d.put (F.ARB_G_STS_NEXT_RSEQ g) (q + 1)
    let r : ArbReq := ⟨g, q, op, blk, hdl, d.get (F.ARB_G_TA_T_A g), d.get (F.ARB_G_TB_T_B g)⟩
    State.arbShow { s with dev := d.modArb (fun a => { a with reqs := a.reqs ++ [r] }) }

/-- The limits of a RESERVE or EXTEND (Table 13.3, LIMIT): window ts to te; old is the present end of an EXTEND. -/
def Dev.arbLimit (d : Dev) (g ts te : Nat) (old : Option Nat) : Bool :=
  !utBefore ts te || decide (d.get (F.ARB_WIN_WIN_MAX g) < utDiff ts te)
    || (utBefore d.ut ts && decide (d.get (F.ARB_LEAD_LEAD_MAX g) < utDiff d.ut ts))
    || (match old with | some o => !utBefore o te | none => false)

/-- Routing of a checked request (R318): decided here, refused, or queued for its home. -/
def State.arbRoute (home : Nat) (x : ArbMsg) (s : State) : Option ArbJob × State :=
  if home = s.dev.nodeId then (some (none, x), s)
  else if s.dev.arbFaulted home ∨ !s.dev.arbDests.contains home then (none, s.arbRefuse x 8)
  else if 64 ≤ (tget s.dev.arb.queues home).length then (none, s.arbRefuse x 0x0B)
  else (none, s.upd (fun d =>
    let d := d.arbSend home x
    if x.auto then d else d.modArb (fun a => { a with outs := a.outs ++ [⟨x, home, none, 0⟩] })))

/-- The local checks of Table 13.3 on one request. -/
def State.arbCheck (r : ArbReq) (s : State) : Option ArbJob × State :=
  let d := s.dev
  let grp := d.nodeId * 16 + r.g
  let x : ArbMsg := ⟨r.op, r.rseq, false, grp, r.blk, r.hdl, r.ta, r.tb, 0, d.get (F.ARB_PAR0_PREC r.g), 0⟩
  if r.op = 1 then
    match d.arb.geo.find? (fun q => q.1 == r.blk) with
    | none => (none, s.arbRefuse x 5)
    | some (_, home, tag) =>
      if d.arbLimit r.g r.ta r.tb none then (none, s.arbRefuse x 3)
      else s.arbRoute home { x with handle := 0, tag := tag } 
  else
    match s.heldEnts.find? (fun e => e.handle == r.hdl && e.grp == grp) with
    | none => (none, s.arbRefuse x 7)
    | some e =>
      let home := bitsOf r.hdl 20 16
      let x := { x with block := e.block }
      if r.op = 2 then
        (if d.arbLimit r.g e.ts r.tb (some e.te) then (none, s.arbRefuse x 3)
         else s.arbRoute home { x with ta := e.ts })
      else
        let (b, d) := d.drawW
        State.arbRoute home { x with tb := b, prec := 0 } { s with dev := d }

/-- Check every accepted request in order; those decided here are collected. -/
def State.arbChecks : List ArbReq → State → List ArbJob × State
  | [], s => ([], s)
  | r :: rs, s =>
    let (j, s) := s.arbCheck r
    let (js, s) := s.arbChecks rs
    (j.toList ++ js, s)

/-- Automatic EXTENDs of HELD groups with AUTO_KEEP (R328). -/
def State.arbAutos (s : State) : List ArbMsg :=
  let d := s.dev
  let ut := d.ut
  s.heldEnts.filterMap (fun e =>
    let g := e.grp % 16
    let ka := d.get (F.ARB_KEEP_KEEP_AHEAD g)
    if d.flag (F.TRAJ_G_STS_HELD g) && d.flag (F.ARB_PAR0_AUTO_KEEP g) && !utBefore ut e.ts && utBefore e.te ((ut + ka) % 2 ^ 32)
    then some ⟨2, 0, true, e.grp, e.block, e.handle, e.ts, (ut + 2 * ka) % 2 ^ 32, 0, d.get (F.ARB_PAR0_PREC g), 0⟩
    else none)

/-- Route automatic EXTENDs. -/
def State.arbAutoRoute : List ArbMsg → State → List ArbJob × State
  | [], s => ([], s)
  | x :: xs, s =>
    let (j, s) := s.arbRoute (bitsOf x.handle 20 16) x
    let (js, s) := s.arbAutoRoute xs
    (j.toList ++ js, s)

/-- The tick of ARB (R318, R319, R328). -/
def State.arbTick (s : State) : State :=
  let a := s.dev.arb
  let win := fun g => tget a.lastWin g
  let cyc := s.dev.time.cycno
  let s := s.upd (Dev.modArb (fun a => { a with reqs := [], inbox := [], revokes := [] }))
  let s := a.revokes.foldl (fun s r => s.arbRevokeOne r.1 r.2.1 r.2.2) s
  let (j1, s) := s.arbChecks a.reqs
  let (j2, s) := s.arbAutoRoute s.arbAutos
  let jobs := j1 ++ j2 ++ a.inbox.map (fun x => (some x.1, x.2))
  let (d1, s) := s.homeAll (jobs.filter (fun j => j.2.msg == 3))
  let s := (jobs.filter (fun j => j.2.msg == 4)).foldl (fun s j => s.homeReassert j.2) s
  let (d2, s) := s.homeAll ((jobs.filter (fun j => j.2.msg == 1 || j.2.msg == 2)).mergeSort (arbLe win cyc))
  ((d1 ++ d2).foldl (fun s x => s.homeAnswer x) s).arbShow

/-! Messages received (R325, R329 to R332). -/

/-- A REASSERT of a held reservation. -/
def Dev.reassert (dest : Nat) (e : ArbEnt) (d : Dev) : Dev :=
  d.arbSend dest ⟨4, 0, false, e.grp, e.block, e.handle, e.ts, e.te, 0, 0, 0⟩

/-- A RESULT at the requester: of an outstanding request, or of an automatic EXTEND. -/
def State.resultIn (x : ArbMsg) (s : State) : State :=
  if x.auto then s.arbResult x
  else if s.dev.arb.outs.any (fun o => o.m.grp == x.grp && o.m.rseq == x.rseq) then
    (s.upd (Dev.modArb (fun a => { a with
      outs := a.outs.filter (fun o => !(o.m.grp == x.grp && o.m.rseq == x.rseq)) }))).arbResult x
  else s

/-- A NOTICE at the holder. -/
def State.noticeIn (src : Nat) (x : ArbMsg) (s : State) : State :=
  match x.code with
  | 1 => if x.grp / 16 = s.dev.nodeId then s.notice 1 x.grp x.block x.handle x.ta else s
  | 2 => match s.heldEnts.find? (fun e => e.handle == x.handle) with
    | some e => s.upd (Dev.reassert src e)
    | none => s
  | 3 => (s.heldEnts.filter (fun e => bitsOf e.handle 20 16 == src)).foldl (fun s e => s.upd (Dev.reassert src e)) s
  | _ => s

/-- One message of a frame from src. -/
def State.msgIn (src : Nat) (x : ArbMsg) (s : State) : State :=
  match x.msg with
  | 8 => s.resultIn x
  | 9 => s.noticeIn src x
  | 0 => s
  | _ => if x.msg ≤ 4 then s.upd (Dev.modArb (fun a => { a with inbox := a.inbox ++ [(src, x)] })) else s

/-- The stream from a node returns to good frames: NOTICE ORPHANED for each orphan of its groups (R331). -/
def State.orphansBack (src : Nat) (s : State) : State :=
  if s.dev.arb.down.contains src then
    let s := s.upd (Dev.modArb (fun a => { a with down := a.down.filter (· != src) }))
    (s.homeEnts.filter (fun e => e.orphan && e.grp / 16 == src)).foldl (fun s e => s.notice 2 e.grp e.block e.handle e.te) s
  else s

/-- A delivered ARB frame (R324). -/
def State.arbFrame (src : Nat) (body : List Word) (s : State) : State :=
  let s := s.orphansBack src
  let w0 := (body.getD 0 0).toNat
  if bitsOf w0 31 24 ≠ 1 then s
  else
    let n := min 12 (bitsOf w0 3 0)
    ((List.range n).foldl (fun s i => s.msgIn src (arbUnpack ((body.drop (1 + 5 * i)).take 5))) s).arbShow

/-- The ARB stream from a node gains FAULT: the home it is is down (R329), and its groups' reservations here become orphans (R330). -/
def State.arbDown (node : Nat) (s : State) : State :=
  let s := s.upd (fun d =>
    let d := d.modArb (fun a => { a with down := if a.down.contains node then a.down else node :: a.down })
    if d.arb.geo.any (fun q => q.2.1 == node) then d.event0 F.ARB_EVT_HOME_DOWN_EVT else d)
  let l := s.homeEnts.filter (fun e => e.grp / 16 == node)
  if l.isEmpty then s
  else (l.foldl (fun s e => s.setMem (s.mem.arbPut arbHome { e with orphan := true })) s).upd
    (fun d => d.event0 F.ARB_EVT_ORPHAN_EVT)

/-- Is this device a home? -/
def Dev.isHome (d : Dev) : Bool := d.arb.geo.any (fun q => q.2.1 == d.nodeId)

/-- The home enters RESTORE (R332). -/
def Dev.arbRestore (d : Dev) : Dev :=
  if !d.isHome then d else
  let d := (d.up F.ARB_STS_RESTORE true).event0 F.ARB_EVT_RESTORE_EVT
  let d := d.modArb (fun a => { a with records := [], restoreLeft := d.get F.ARB_CFG_RESTORE_T })
  Dev.each d.arbDests (fun n d =>
    let (g, d) := d.draw 512
    let (b, d) := d.draw 1024
    let (h, d) := d.drawW
    let (x, d) := d.drawW
    let (y, d) := d.drawW
    d.arbSend n ⟨9, 0, false, g, b, h, x, y, 0, 0, 3⟩) d

/-- A cycle of RESTORE passes. -/
def Dev.arbCycle (d : Dev) : Dev := d.modArb (fun a => { a with restoreLeft := a.restoreLeft - 1 })

/-- RESTORE ends after RESTORE_T cycles. -/
def Dev.arbRestoreEnd (d : Dev) : Dev := if d.arb.restoreLeft = 0 then d.up F.ARB_STS_RESTORE false else d

/-- Reservations whose T_END UT has reached expire at the home and the holder (R316). -/
def State.arbExpire (s : State) : State :=
  let ut := s.dev.ut
  let m := (s.homeEnts.filter (fun e => !e.orphan && !utBefore ut e.te)).foldl (fun m e => m.arbDrop arbHome e.idx) s.mem
  let m := (s.heldEnts.filter (fun e => !utBefore ut e.te)).foldl (fun m e => m.arbDrop arbHeld e.idx) m
  (s.setMem m).arbShow

/-- No result 4·Tb after the message was sent (R326). -/
def State.arbRetry (g rseq : Nat) (s : State) : State :=
  let grp := s.dev.nodeId * 16 + g
  match s.dev.arb.outs.find? (fun o => o.m.grp == grp && o.m.rseq == rseq) with
  | none => s
  | some o =>
    match o.sent with
    | none => s
    | some t =>
      let s := s.upd (fun d => d.runTo (t + 4 * d.time.tb))
      if o.tries < s.dev.get F.ARB_CFG_RETRIES then
        s.upd (fun d =>
          let d := (d.cnt F.ARB_CNT1_RESENT).modArb (fun a => { a with
            outs := a.outs.map (fun q => if q = o then { q with sent := none, tries := q.tries + 1 } else q) })
          d.arbSend o.dest o.m)
      else
        let s := s.upd (fun d => (d.cnt F.ARB_CNT1_RETRY_CNT).modArb (fun a => { a with outs := a.outs.filter (· != o) }))
        (s.arbRefuse o.m 0x0A).arbShow

/-- A write of ARB_REVOKE (R323). -/
def State.arbRevokeCmd (p : Port) (w : Word) (s : State) : State :=
  let i := bitsOf w.toNat 11 0
  let gen := bitsOf w.toNat 31 24
  if bitsOf w.toNat 23 12 = 0 ∧ s.homeEnts.any (fun e => e.idx == i && e.handle / 2 ^ 24 == gen)
  then s.upd (fun d => d.modArb (fun a => { a with revokes := a.revokes ++ [(i, gen, d.get F.ARB_REVOKE_T_T_REV)] }))
  else s.upd (Dev.illegal p R.ARB_REVOKE)

/-! The commands. -/

/-- RESERVE (R317, R320). -/
def execArbReserve (p : Port) (g : Fin 16) (s : State) : Host.Outcome State Fault Refusal := done (s.guarded (R.ARB_G_CMD g) (State.arbCmd p g 1))

/-- EXTEND (R317, R320). -/
def execArbExtend (p : Port) (g : Fin 16) (s : State) : Host.Outcome State Fault Refusal := done (s.guarded (R.ARB_G_CMD g) (State.arbCmd p g 2))

/-- RELEASE (R317, R322). -/
def execArbRelease (p : Port) (g : Fin 16) (s : State) : Host.Outcome State Fault Refusal := done (s.guarded (R.ARB_G_CMD g) (State.arbCmd p g 3))

/-- ARB_REVOKE (R323). -/
def execArbRevoke (p : Port) (w : Word) (s : State) : Host.Outcome State Fault Refusal := done (s.guarded R.ARB_REVOKE (State.arbRevokeCmd p w))

/-- ARB_FRAME_RECEIVE (R324). -/
def execArbFrameReceive (p : Fin 8) (f : Frame) (stamp : Nat) (s : State) : Host.Outcome State Fault Refusal :=
  let (d, here) := s.dev.frameIn p f stamp
  let s := { s with dev := d }
  match d.link.cfg.rx.find? (fun x => x.typ == 5 && x.stream == f.stream) with
  | some x => done (if here && f.typ == 5 then s.arbFrame x.arg f.body else s)
  | none => done s

/-- RESERVATION_EXPIRE (R316). -/
def execReservationExpire (s : State) : Host.Outcome State Fault Refusal := done s.arbExpire

/-- ARB_RETRY_TIMEOUT (R326). -/
def execArbRetryTimeout (g q : Fin 16) (s : State) : Host.Outcome State Fault Refusal := done (s.arbRetry g q)

/-- RESTORE_END (R332). -/
def execRestoreEnd (s : State) : Host.Outcome State Fault Refusal := onDev Dev.arbRestoreEnd s

end Sys2Proof.Machine
end

