-- ==== Sys2Proof/Machine/Solv.lean ====
section
/-! DEFINITION. The Horizon solver (chapters 11 and 12): schedules, the snapshot, assembly, lane programs, one solve, deadlines,
results, the take-over into TRAJ and peer plans. -/
namespace Sys2Proof.Machine
open Sys2Proof.Config

def Dev.modSolv (f : SolvSt → SolvSt) (d : Dev) : Dev := { d with solv := f d.solv }
def Dev.sctx (d : Dev) (c : Nat) : SolvCtx := tget d.solv.ctx c
def Dev.modCtx (c : Nat) (f : SolvCtx → SolvCtx) (d : Dev) : Dev :=
  d.modSolv (fun q => { q with ctx := tmod q.ctx c f })

/-! The context map and the schedules (R270, R277 to R279). -/

/-- Is a context enabled; its group; its schedule. -/
def Dev.ctxEn (d : Dev) (c : Nat) : Bool := d.flag (F.SOLV_C_CFG_EN c)
def Dev.ctxGroup (d : Dev) (c : Nat) : Nat := d.get (F.SOLV_C_CFG_GROUP c)
def Dev.ctxSched (d : Dev) (c : Nat) : SolvSched := tget d.solv.scheds (d.get (F.SOLV_C_CFG_SCHED c))

/-- The enabled context that serves a group. -/
def Dev.ctxOf (d : Dev) (g : Nat) : Option Nat := (List.range 16).find? (fun c => d.ctxEn c && d.ctxGroup c == g)

/-- Region size of a class (Table 11.1). -/
def classRegion (cls : Nat) : Nat := match cls with | 0 => 72 * 1024 | 1 => 256 * 1024 | _ => 896 * 1024

/-- n rounded up to a multiple of 16. -/
def up16 (n : Nat) : Nat := (n + 15) / 16 * 16

/-- Word offsets at which sections 1 to 10 of Table 11.3 start. -/
def SolvSched.secs (q : SolvSched) : List Nat :=
  let l := q.nnzL + q.n + q.m
  ([q.nnzP, q.nnzA, q.n, q.m, q.m, q.n + 2 * q.m, q.n + 2 * q.m + 4, 2 * (q.n + q.m), l, l].foldl
    (fun (r : List Nat × Nat) w => (r.1 ++ [r.2], up16 (r.2 + w))) ([], 0)).1

/-- The start of section i (1 to 10). -/
def SolvSched.sec (q : SolvSched) (i : Nat) : Nat := q.secs.getD (i - 1) 0

/-- The section a word offset lies in; 0 outside every section. -/
def SolvSched.secOf (q : SolvSched) (a : Nat) : Nat :=
  let l := q.nnzL + q.n + q.m
  let len := fun i => [q.nnzP, q.nnzA, q.n, q.m, q.m, q.n + 2 * q.m, q.n + 2 * q.m + 4, 2 * (q.n + q.m), l, l].getD (i - 1) 0
  ((List.range 10).map (· + 1)).find? (fun i => decide (q.sec i ≤ a ∧ a < q.sec i + len i)) |>.getD 0

/-- The array i of a schedule (R278: 0 block table, 1 to 4 pointers and indices, 5 value image, 6 fill map, 7 output map, 8 tool
map, 9 block slots, 10 lane program), as a BAR2 offset. -/
def SolvSched.arr (q : SolvSched) (i : Nat) : Nat := q.base + q.offs.getD i 0

/-- ASM and OUT (R289). -/
def SolvSched.asm (q : SolvSched) : Nat := 600 + q.nfill + 4 * q.nair
def SolvSched.out (q : SolvSched) : Nat := 100 + 6 * q.na * (q.k + 1)

/-- Block kinds that a word's place admits (R278). -/
def SolvSched.kindOf (q : SolvSched) (a : Nat) : Nat :=
  match q.secOf a with
  | 1 => 4
  | 2 => 5
  | 3 => 6
  | 4 => 2
  | 5 => 2
  | 6 => let i := a - q.sec 6; if i < q.n then 1 else if i < q.n + q.m then 2 else 3
  | 7 => let i := a - q.sec 7; if i < q.n then 1 else if i < q.n + q.m then 2 else 3
  | 9 => if a - q.sec 9 < q.nnzL then 7 else 8
  | 10 => if a - q.sec 10 < q.nnzL then 7 else 8
  | _ => 9

/-- R and F of a block. -/
def SolvSched.range (q : SolvSched) (m : Memory) (b : Nat) : Nat := (m.word (q.arr 0 + 8 * b)).toNat
def SolvSched.fmt (q : SolvSched) (m : Memory) (b : Nat) : Nat := bitsOf (m.word (q.arr 0 + 8 * b + 4)).toNat 4 0

/-- The block a word of the context region belongs to (R285). -/
def SolvSched.block (q : SolvSched) (m : Memory) (a : Nat) : Nat :=
  let l := (List.range q.nblk).filter (fun b => bitsOf (m.word (q.arr 0 + 8 * b + 4)).toNat 15 8 == q.kindOf a)
  if l.isEmpty then 0 else l.getD (blockPick q.id a % l.length) 0

/-! Words of a context region and the guards (R286, R287). -/

/-- A signed word of a context region. -/
def rgGet (m : Memory) (base a : Nat) : Int := sInt 32 (m.word (base + 4 * a)).toNat

/-- Put a word of a context region. -/
def rgPut (base a : Nat) (v : Int) (m : Memory) : Memory := m.putWord (base + 4 * a) (BitVec.ofInt 32 v)

/-- A run of SOLV: memory, accumulators, counts and the device that supplies free values. -/
structure SolvRun where
  m : Memory
  acc : List (Int × Bool)
  hits : Nat
  blk : Option Nat
  pivots : Nat
  dev : Dev

/-- A guard hit on a block. -/
def SolvRun.hit (b : Nat) (r : SolvRun) : SolvRun :=
  { r with hits := r.hits + 1, blk := some (r.blk.getD b) }

/-- The range guard of block b. -/
def SolvRun.guard (q : SolvSched) (b : Nat) (v : Int) (r : SolvRun) : Int × SolvRun :=
  let lim : Int := q.range r.m b
  if lim < v then (lim, r.hit b) else if v < -lim then (-lim, r.hit b) else (v, r)

/-- Put a guarded value at a word. -/
def SolvRun.putG (q : SolvSched) (base a : Nat) (v : Int) (r : SolvRun) : SolvRun :=
  let (v, r) := r.guard q (q.block r.m a) v
  { r with m := rgPut base a v r.m }

/-! The lanes (R281, R287, R296, R298). -/

/-- Lane addresses in section 9 fall in section 10 while that buffer is meant (R296). -/
def SolvSched.place (q : SolvSched) (buf a : Nat) : Nat :=
  if buf = 1 ∧ q.secOf a = 9 then a + (q.sec 10 - q.sec 9) else a

/-- One lane operation; memory is read as it stood before the bundle (old). pmin and preg are PIVOT_MIN and PIVOT_REG. -/
def laneOp (q : SolvSched) (base buf : Nat) (pmin preg : Int) (old : Memory) (i : Nat) (w : Nat) (r : SolvRun) : SolvRun :=
  let sh := bitsOf w 59 55
  let a := q.place buf (bitsOf w 54 36)
  let b := q.place buf (bitsOf w 35 17)
  let rd := rgGet old base
  let (acc, sat) := r.acc.getD i (0, false)
  let setAcc := fun (x : Int) (s : Bool) => { r with acc := r.acc.set i (x, s) }
  let sat64 := fun (x : Int) (s : Bool) => setAcc (satI 64 x) (s || decide (satI 64 x ≠ x))
  match bitsOf w 63 60 with
  | 1 => setAcc 0 false
  | 2 => sat64 (acc + rd a * rd b) sat
  | 3 => sat64 (acc - rd a * rd b) sat
  | 4 => sat64 (rd a * 2 ^ sh) false
  | 5 =>
    let blk := bitsOf w 35 17
    let r := if sat then (setAcc acc false).hit blk else r
    let (v, r) := r.guard q blk (rshrI acc sh)
    { r with m := rgPut base a v r.m }
  | 6 =>
    let d := rd b
    let small := decide ((d.natAbs : Int) < pmin)
    let neg := decide (d < 0) || (decide (d = 0) && decide (q.n ≤ bitsOf w 54 36 - (q.sec 9 + q.nnzL)))
    let d := if small then (if neg then -preg else preg) else d
    let r := if small then { r with pivots := r.pivots + 1 } else r
    let ba := q.block old (bitsOf w 54 36)
    let num : Int := 2 ^ (q.fmt old (q.block old (bitsOf w 35 17)) + q.fmt old ba)
    let (k, dev) := r.dev.fresh
    let v := if d = 0 then sInt 32 (freeNat k) else if num % d = 0 then num / d else num.fdiv d + (freeNat k % 2 : Nat)
    let (v, r) := { r with dev := dev }.guard q ba v
    { r with m := rgPut base a v r.m }
  | 7 => setAcc (max acc ((rd a).natAbs * 2 ^ sh)) sat
  | _ => r

/-- A 64-bit word of the lane program. -/
def SolvSched.lane (q : SolvSched) (m : Memory) (i : Nat) : Nat :=
  (m.word (q.arr 10 + 8 * i)).toNat + 2 ^ 32 * (m.word (q.arr 10 + 8 * i + 4)).toNat

/-- Bundles from 64-bit word i up to below stop; at most k of them. -/
def runLanes (q : SolvSched) (base buf : Nat) (pmin preg : Int) : Nat → Nat → Nat → SolvRun → SolvRun
  | 0, _, _, r => r
  | k + 1, i, stop, r =>
    if stop ≤ i then r
    else
      let nops := min 96 (bitsOf (q.lane r.m i) 63 56)
      let old := r.m
      let r := (List.range nops).foldl (fun r j => laneOp q base buf pmin preg old j (q.lane old (i + 1 + j)) r) r
      runLanes q base buf pmin preg k (i + 1 + nops) stop r

/-- Part 0 FACT, 1 ITER, 2 CHECK of a lane program on the given factor buffer. -/
def SolvSched.runPart (q : SolvSched) (part base buf : Nat) (pmin preg : Int) (r : SolvRun) : SolvRun :=
  let (a, b, e) := laneParts q.id
  let e := min e ((q.size - q.offs.getD 10 0) / 8)
  let (i, stop) := match part with | 0 => (0, min a e) | 1 => (a, min b e) | _ => (b, e)
  runLanes q base buf pmin preg (stop - i + 1) i stop r

/-! The PLAN event (R271, R288, R302, R233). -/

/-- Goal and parameter words of the copy in use. -/
def SolvCtx.goal (x : SolvCtx) (i : Nat) : Int := sInt 32 (x.copy.getD i 0).toNat
def SolvCtx.param (x : SolvCtx) (i : Nat) : Int := sInt 32 (x.copy.getD (256 + i) 0).toNat

/-- The state of an axis slot at the next plan boundary, from the present plan at the present s (R233). -/
def Dev.planState (d : Dev) (m : Memory) (g slot : Nat) : Int × Int × Int :=
  let n := ((d.traj.axes.find? (fun a => a.group == g && a.slot == slot)).map (·.axis)).getD 0
  if (d.gr g).hasPlan then
    d.pathState m g slot (min (d.lastSigma g) (d.get (F.TRAJ_G_SIGMA_SIGMA g) + 2 * d.get (F.TRAJ_G_SCALE_SCALE g) * d.time.m))
  else ((d.ax n).np * 2 ^ 64, 0, 0)

/-- The deadline of R302, in 1/12 ns from the PLAN event. -/
def Dev.solvDl (d : Dev) (c : Nat) : Nat :=
  12 * d.time.tb * (d.time.m - 1 - min (d.get (F.SOLV_CTX_POL_DL_EARLY c)) (d.time.m - 2))

/-- The snapshot of a context, and its release. -/
def State.solvSnap (c : Nat) (s : State) : State :=
  let d := s.dev
  if !d.ctxEn c then s
  else
    let g := d.ctxGroup c
    let q := d.ctxSched c
    let flip := d.flag (F.SOLV_C_IN_PUBLISH c)
    let d := if flip then (d.put (F.SOLV_C_IN_CUR c) (1 - d.get (F.SOLV_C_IN_CUR c))).up (F.SOLV_C_IN_PUBLISH c) false else d
    let held := (s.heldEnts.filter (fun e => e.grp % 16 == g)).map (fun e => (e.block, e.ts, e.te))
    let rel := decide (d.grMode g ≠ 0)
    let pol := d.rd (R.SOLV_CTX_POL c)
    let stale := d.flag (F.SOLV_CTX_POL_PEER_EN c) && d.flag (F.LINK_STRM_FAULT (d.get (F.SOLV_CTX_POL_PEER_IDX c)))
    { s with dev := d.modCtx c (fun x => { x with
        snap := (List.range q.na).map (d.planState s.mem g), grants := held,
        copy := s.mem.words (d.get (F.SOLV_C_IN_ADDR_IN_ADDR c) + 0x800 * d.get (F.SOLV_C_IN_CUR c)) 512,
        tb := d.time.cycStart + d.time.m * d.time.tb, deadline := d.solvDl c, pol := pol, peer := stale,
        stage := if rel then .waiting else .idle, fresh := false }) }

/-- The PLAN event at the CYC_START with PLAN_PH 0. -/
def State.solvPlan (s : State) : State :=
  let s := s.upd Dev.grPlan
  if !s.dev.solv.on then s
  else
    let s := s.upd (fun d => d.modSolv (fun q => { q with now := 24000, planNs := d.time.cycStart, planCyc := d.time.cycno }))
    (List.range 16).foldl (fun s c => s.solvSnap c) s

/-! Airspace rows and the tool map (R274, R275, R278). -/

/-- An entry of the tool map: coordinate c, j = 0 for C0 or 1 + slot for K. -/
def SolvSched.tool (q : SolvSched) (m : Memory) (x : SolvCtx) (c j : Nat) : Int :=
  let o := q.arr 8 + 8 * (17 * c + j)
  let w := (m.word (o + 4)).toNat
  if bitOf w 31 then x.param (bitsOf w 8 0 % 256) else sInt 32 (m.word o).toNat

/-- The tool point of positions (each in 2^-96 counts), in 2^-120 µm. -/
def SolvSched.toolPt (q : SolvSched) (m : Memory) (x : SolvCtx) (ps : List Int) : Int × Int × Int :=
  let f := fun c => q.tool m x c 0 * 2 ^ 120 + (ps.zipIdx.foldl (fun s p => s + q.tool m x c (1 + p.2) * p.1) 0)
  (f 0, f 1, f 2)

/-- The reference point ρ_i (R275 step 1). -/
def Dev.solvRef (d : Dev) (m : Memory) (c i : Nat) : Int × Int × Int :=
  let x := d.sctx c
  let q := d.ctxSched c
  let g := d.ctxGroup c
  let ps := if (d.gr g).hasPlan then
      (List.range q.na).map (fun k => (d.pathState m g k (min (d.lastSigma g) ((d.time.m + i * q.h) * 2 ^ 16))).1)
    else x.snap.map (·.1)
  q.toolPt m x ps

/-- The geometry of a block in SRAM, in BLOCK order (13 R315): the six bounds (Table 13.1). -/
def blockBox (m : Memory) (b : Nat) : List Int :=
  (List.range 6).map (fun k => sInt 32 (m.word (arbGeo + 32 * b + 4 * k)).toNat)

/-- The face and its coordinate plane that an airspace row uses: coordinate, sign (true: +), d without sign in µm; and whether the
reference point is inside. -/
structure AirFace where
  c : Nat
  pos : Bool
  d : Int
  inside : Bool
  deriving DecidableEq, Repr, Inhabited

/-- R275 steps 3 and 4. -/
def Dev.airFace (d : Dev) (m : Memory) (c row : Nat) : AirFace :=
  let q := d.ctxSched c
  let b := row / q.k
  let i := row % q.k + 1
  let o := q.arr 9 + 8 * b
  let clr : Int := bitsOf (m.word (o + 4)).toNat 15 0
  let box := blockBox m (bitsOf (m.word o).toNat 9 0)
  let (rx, ry, rz) := d.solvRef m c i
  let r := fun (k : Nat) => match k with | 0 => rx | 1 => ry | _ => rz
  let plane := fun (f : Nat) => if f % 2 = 0 then box.getD f 0 - clr else box.getD f 0 + clr
  let margin := fun (f : Nat) => if f % 2 = 0 then plane f * 2 ^ 120 - r (f / 2) else r (f / 2) - plane f * 2 ^ 120
  let best := (List.range 6).foldl (fun f j => if margin f < margin j then j else f) 0
  ⟨best / 2, best % 2 == 1, plane best, decide (margin best < 0)⟩

/-- Is an airspace row inactive (R274, R327): does one grant cover the knots around i? -/
def airIdle (q : SolvSched) (m : Memory) (x : SolvCtx) (tbase : Nat) (row : Nat) : Bool :=
  let b := bitsOf (m.word (q.arr 9 + 8 * (row / q.k))).toNat 9 0
  let i := row % q.k + 1
  let us := fun (j : Nat) => (x.tb + j * q.h * tbase : Nat)
  let le := fun (u ns : Nat) => decide (1000 * utRel (ns / 1000 % 2 ^ 32) u ≤ (ns % 1000 : Nat))
  let ge := fun (u ns : Nat) => decide (((ns % 1000 : Nat) : Int) ≤ 1000 * utRel (ns / 1000 % 2 ^ 32) u)
  x.grants.any (fun g => g.1 == b && le g.2.1 (us (i - 1)) && ge g.2.2 (us (i + 1)))

/-! Fill slots (R280). -/

/-- src of a fill slot, scaled by 2^24; none: the word 0x8000_0000 of an inactive row. -/
def Dev.fillSrc (d : Dev) (m : Memory) (c kind a b : Nat) : Option Int × Dev :=
  let x := d.sctx c
  let q := d.ctxSched c
  let g := d.ctxGroup c
  let n := ((d.traj.axes.find? (fun y => y.group == g && y.slot == a)).map (·.axis)).getD 0
  let word := fun (v : Int) => (some (v * 2 ^ 24), d)
  match kind with
  | 0 => word 0
  | 1 =>
    let (p, v, ac) := x.snap.getD a (0, 0, 0)
    let (r, d) := match b with
      | 0 => d.quant 88 (p - x.origins.getD a 0 * fOne)
      | 1 => d.quant 84 v
      | _ => d.quant 80 ac
    (some (r * 2 ^ 24), d)
  | 2 => word (x.origins.getD a 0)
  | 3 => word (x.goal a - (if b = 0xFFFF then 0 else x.origins.getD b 0))
  | 4 => word (x.param a)
  | 5 =>
    let (vm, am, dm, jm) := d.axLimits n
    let l := match b % 4 with | 0 => vm | 1 => am | 2 => dm | _ => jm
    word (min (2 ^ 31 - 1) (l / 2 ^ (b / 4 % 64)))
  | 6 =>
    let f := d.airFace m c a
    let k := q.tool m x f.c (1 + b)
    word (if f.pos then k else -k)
  | _ =>
    if airIdle q m x d.time.tb a then (none, d)
    else
      let f := d.airFace m c a
      let s := (q.tool m x f.c 0 - f.d) * 2 ^ 24
        + (x.origins.zipIdx.foldl (fun s o => s + q.tool m x f.c (1 + o.2) * o.1) 0)
      (some (if f.pos then -s else s), d)

/-- The sections a fill slot writes (SECT). -/
def fillSecs (sect : Nat) : List Nat := match sect with | 5 => [4, 5] | k => [k + 1]

/-- One fill slot: its writes to P and A are reported (R297). -/
def SolvRun.fill (c base i : Nat) (w : SolvRun × List (Nat × Int)) : SolvRun × List (Nat × Int) :=
  let (r, ws) := w
  let q := r.dev.ctxSched c
  let o := q.arr 6 + 16 * i
  let w0 := (r.m.word o).toNat
  let w1 := (r.m.word (o + 4)).toNat
  let msh := sInt 5 (bitsOf w0 23 19)
  let idx := bitsOf w0 18 0
  let (src, dev) := r.dev.fillSrc r.m c (bitsOf w0 27 24) (bitsOf w1 31 16) (bitsOf w1 15 0)
  let r := { r with dev := dev }
  (fillSecs (bitsOf w0 31 28)).foldl (fun (y : SolvRun × List (Nat × Int)) sec =>
    let (r, ws) := y
    let a := q.sec sec + idx
    match src with
    | none => ({ r with m := rgPut base a (-2 ^ 31) r.m }, if sec ≤ 2 then (a, -2 ^ 31) :: ws else ws)
    | some v =>
      let x := rshrI (sInt 32 (r.m.word (o + 8)).toNat * v) (40 - msh).toNat + sInt 32 (r.m.word (o + 12)).toNat
      let r := r.putG q base a x
      (r, if sec ≤ 2 then (a, rgGet r.m base a) :: ws else ws)) (r, ws)

/-- The stored P and A words. -/
def SolvSched.paWords (q : SolvSched) (m : Memory) (base : Nat) : List Word :=
  m.words (base + 4 * q.sec 1) q.nnzP ++ m.words (base + 4 * q.sec 2) q.nnzA

/-- The place of a P or A word among the stored ones. -/
def SolvSched.paIdx (q : SolvSched) (a : Nat) : Nat := if q.secOf a = 2 then q.nnzP + (a - q.sec 2) else a

/-- Restore the value image: sections 1 to 5 (R278). The image holds the sections' words one after another. -/
def SolvSched.restore (q : SolvSched) (base : Nat) (m : Memory) : Memory :=
  ((List.range 5).foldl (fun (y : Memory × Nat) i =>
    let len := [q.nnzP, q.nnzA, q.n, q.m, q.m].getD i 0
    (y.1.putWords (base + 4 * q.sec (i + 1)) (y.1.words (q.arr 5 + 4 * y.2) len), y.2 + len)) (m, 0)).1

/-! The start of a solve (R292 to R294, R297, R299, R300). -/

/-- The SOLV clock in 1/12 ns: 1.25 ns at PERF0, 1.667 ns at PERF1 (R289). -/
def Dev.solvTick (d : Dev) : Nat := if d.flag F.CLK_STS_SOLV_DIV8 then 20 else 15

/-- Index of the output map's variable: kind 0 p, 1 v, 2 a. -/
def SolvSched.outVar (q : SolvSched) (m : Memory) (i a kind : Nat) : Nat :=
  let o := q.arr 7 + 8 * (i * q.na + a)
  let w := (m.word o).toNat + 2 ^ 32 * (m.word (o + 4)).toNat
  bitsOf w (16 * kind + 15) (16 * kind)

/-- The zero start. -/
def SolvSched.zeroStart (q : SolvSched) (base : Nat) (m : Memory) : Memory :=
  m.putWords (base + 4 * q.sec 6) (List.replicate (q.n + 2 * q.m) 0)

/-- The shifted warm start (R300). -/
def SolvRun.warmStart (c base : Nat) (r : SolvRun) : SolvRun :=
  let d := r.dev
  let q := d.ctxSched c
  let x := d.sctx c
  let s := d.time.m / q.h
  let st := fun (v : Nat) => rgGet r.m base (q.sec 7 + v)
  let m := r.m.putWords (base + 4 * q.sec 6) (r.m.words (base + 4 * q.sec 7) (q.n + 2 * q.m))
  (List.range (q.k + 1)).foldl (fun r i => (List.range q.na).foldl (fun r a =>
    let j := min (i + s) q.k
    let r := (List.range 2).foldl (fun (r : SolvRun) t =>
      { r with m := rgPut base (q.sec 6 + q.outVar r.m i a (t + 1)) (st (q.outVar r.m j a (t + 1))) r.m }) r
    let v := q.outVar r.m i a 0
    let b := q.block r.m (q.sec 6 + v)
    let dO := ((x.warmOrg.getD []).getD a 0 - x.origins.getD a 0) * 2 ^ (q.fmt r.m b)
    r.putG q base (q.sec 6 + v) (st (q.outVar r.m j a 0) + dO)) r) { r with m := m }

/-- ρ and ρ⁻¹ into work words 2 and 3 at the start of a factorisation (R293). -/
def SolvRun.putRho (c base : Nat) (r : SolvRun) : SolvRun :=
  let q := r.dev.ctxSched c
  let x := r.dev.sctx c
  let k := r.dev.get (F.SOLV_CTX_RHO_RHO_IDX c)
  let r := r.putG q base (q.sec 8 + 2) (x.param 252 * 4 ^ k)
  r.putG q base (q.sec 8 + 3) (rshrI (x.param 253) (2 * k))

/-- Begin a run for a context. -/
def State.solvRun (s : State) (c : Nat) : SolvRun :=
  let x := s.dev.sctx c
  ⟨s.mem, s.dev.solv.acc, x.hits, x.blk, x.pivots, s.dev⟩

/-- The end of a run: counts, flags and accumulators go back. -/
def SolvRun.close (c : Nat) (r : SolvRun) (s : State) : State :=
  let p := decide ((r.dev.sctx c).pivots < r.pivots)
  { s with mem := r.m, dev := ((r.dev.modSolv (fun q => { q with acc := r.acc })).modCtx c (fun x => { x with
      hits := r.hits, blk := r.blk, pivots := r.pivots, rangeF := x.rangeF || decide (x.hits < r.hits),
      pivotF := x.pivotF || p })) }

/-- A factorisation starts: NFACT, ρ. -/
def State.startFactor (c : Nat) (s : State) : State :=
  let base := s.dev.get (F.SOLV_C_BASE_BASE c)
  let r := (s.solvRun c).putRho c base
  (r.close c s).upd (Dev.modCtx c (fun x => { x with nfact := x.nfact + 1, stage := .factor }))

/-- A solve ends (R305): STS and the other registers of the last completed solve, DONE_EVT. -/
def Dev.solvEnd (c code reason : Nat) (d : Dev) : Dev :=
  let x := d.sctx c
  let d := (d.put (F.SOLV_CTX_STS_CODE c) code).put (F.SOLV_CTX_STS_NR_REASON c) reason
  let d := (d.up (F.SOLV_CTX_STS_RES_VALID c) x.resValid).up (F.SOLV_CTX_STS_PEER_STALE c) x.peer
  let d := (d.up (F.SOLV_CTX_STS_INSIDE c) x.inside).up (F.SOLV_CTX_STS_RANGE_SAT_F c) x.rangeF
  let d := (d.up (F.SOLV_CTX_STS_PIVOT_REG_F c) x.pivotF).up (F.SOLV_CTX_STS_WARM_REJECT_F c) x.warmF
  let d := d.up (F.SOLV_CTX_STS_BUSY c) false
  let d := if x.resValid then (d.puts (F.SOLV_CTX_RESP_R_P c) x.rp).puts (F.SOLV_CTX_RESD_R_D c) x.rd else d
  let d := ((d.put (F.SOLV_CTX_CNT_ITERS c) x.iters).put (F.SOLV_CTX_CNT_NFACT c) (min 31 x.nfact)).put
    (F.SOLV_CTX_CNT_PIVOTS c) (min 65535 x.pivots)
  let d := (d.put (F.SOLV_CTX_CLK_CLOCKS c) ((d.solv.now - x.start) / d.solvTick)).put (F.SOLV_CTX_CYC_PLAN_CYC c) d.solv.planCyc
  let d := (d.put (F.SOLV_C_RG_HITS c) (min 65535 x.hits)).put (F.SOLV_C_RG_BLOCK c) (x.blk.getD 0xFF)
  (d.modCtx c (fun x => { x with stage := .idle, fresh := true })).event0 (F.SOLV_CTX_EVT_DONE_EVT c)

/-- TIME runs to an instant of the solver's clock. -/
def Dev.solvTime (now : Nat) (d : Dev) : Dev :=
  (d.runTo (d.solv.planNs + (now + 11) / 12)).modSolv (fun q => { q with now := now })

/-- The context that is running. -/
def Dev.solvBusy (d : Dev) : Option Nat := (List.range 16).find? (fun c =>
  !(d.sctx c).stage == .idle && !(d.sctx c).stage == .waiting)

/-- The waiting contexts by the order of R303: deadline, then index. -/
def Dev.solvNext (d : Dev) : Option Nat :=
  (List.range 16).foldl (fun b c =>
    if (d.sctx c).stage = .waiting ∧ d.solv.now ≤ (d.sctx c).deadline then
      (match b with
       | some x => if (d.sctx c).deadline < (d.sctx x).deadline then some c else b
       | none => some c)
    else b) none

/-- Are the settings of Table 12.1 usable? -/
def SolvCtx.settingsOk (x : SolvCtx) : Bool :=
  decide (0 < x.param 248 ∧ 0 < x.param 249 ∧ 0 ≤ x.param 250 ∧ 0 < x.param 251 ∧ 0 < x.param 252 ∧ 0 < x.param 253)

/-- The assembly of a solve: the value image, the fill slots with their writes to P and A, the airspace rows, and the start. -/
def State.assembly (c : Nat) (s : State) : SolvRun × List (Nat × Int) :=
  let base := s.dev.get (F.SOLV_C_BASE_BASE c)
  let q := s.dev.ctxSched c
  let r := { (s.solvRun c) with m := q.restore base s.mem }
  let (r, ws) := (List.range q.nfill).foldl (fun y i => SolvRun.fill c base i y) (r, [])
  let rows := List.range q.nair
  let r := { r with dev := r.dev.modCtx c (fun x => { x with inside := rows.any (fun row => (s.dev.airFace s.mem c row).inside) }) }
  let x := r.dev.sctx c
  let tag := (r.m.word (base + 4 * (q.sec 7 + q.n + 2 * q.m))).toNat + 2 ^ 32 * (r.m.word (base + 4 * (q.sec 7 + q.n + 2 * q.m + 1))).toNat
  let cold := r.dev.flag (F.SOLV_CTX_CMD_COLD c) || !bitOf x.run.toNat 6
  let zero := fun (r : SolvRun) => { r with
    m := q.zeroStart base r.m, dev := r.dev.put (F.SOLV_CTX_RHO_RHO_IDX c) (bitsOf x.run.toNat 9 7) }
  let r := if cold then
      let r := zero r
      { r with dev := r.dev.up (F.SOLV_CTX_CMD_COLD c) false }
    else if tag = 0 then zero r
    else if tag = q.id then r.warmStart c base
    else
      let r := zero r
      { r with dev := r.dev.modCtx c (fun x => { x with warmF := true }) }
  (r, ws)

/-- Steps 1 to 4 of a solve up to its factorisation or first iteration. -/
def State.solveAssemble (c : Nat) (s : State) : State :=
  let d := s.dev
  let q := d.ctxSched c
  let s := s.upd (Dev.solvTime (d.solv.now + q.asm * d.solvTick))
  let (r, ws) := s.assembly c
  let x := r.dev.sctx c
  let s := r.close c s
  let reuse := s.dev.flag (F.SOLV_CTX_STS_FVALID c) && s.dev.get (F.SOLV_CTX_RHO_RHO_IDX c) == x.fk
    && ws.all (fun w => sInt 32 (x.fpa.getD (q.paIdx w.1) 0).toNat == w.2)
  if reuse then s.upd (Dev.modCtx c (fun x => { x with stage := .iterate })) else s.startFactor c

/-- SOLVE_START (R303): the first waiting context in order. -/
def State.solveStart (s : State) : State :=
  let d := s.dev
  if !d.solv.on || d.solvBusy.isSome then s
  else match d.solvNext with
    | none => s
    | some c =>
      let q := d.ctxSched c
      let d := d.solvTime d.solv.now
      let org := (d.sctx c).snap.map (fun p => rshrI p.1 96)
      let d := (d.modCtx c (fun x => { x with
        run := d.rd (R.SOLV_CTX_RUN c), pol := d.rd (R.SOLV_CTX_POL c), origins := org, iters := 0, nfact := 0, pivots := 0,
        hits := 0, blk := none, rangeF := false, pivotF := false, warmF := false, inside := false, checks := [],
        resValid := false, code := 0, start := d.solv.now })).up (F.SOLV_CTX_STS_BUSY c) true
      if !(d.sctx c).settingsOk then
        let (k, d) := d.draw (q.asm + 1)
        { s with dev := (d.solvTime (d.solv.now + k * d.solvTick)).solvEnd c 4 3 }
      else if (d.sctx c).deadline < d.solv.now + q.asm * d.solvTick then
        { s with dev := d.modCtx c (fun x => { x with stage := .assembly }) }
      else State.solveAssemble c { s with dev := d }

/-! Factorisation, iteration and check (R294 to R298). -/

/-- Does the running context's present step complete by its deadline? Its completion instant. -/
def Dev.stepDone (d : Dev) (stage : SolvStage) (clocks : SolvSched → Nat) : Option (Nat × Nat) :=
  match d.solvBusy with
  | some c =>
    let t := d.solv.now + clocks (d.ctxSched c) * d.solvTick
    if (d.sctx c).stage = stage ∧ (stage = .output ∨ t ≤ (d.sctx c).deadline) then some (c, t) else none
  | none => none

/-- Run a part of the lane program for a context. -/
def State.runPart (c part buf : Nat) (s : State) : State :=
  let x := s.dev.sctx c
  let base := s.dev.get (F.SOLV_C_BASE_BASE c)
  ((s.dev.ctxSched c).runPart part base buf (x.param 250) (x.param 251) (s.solvRun c)).close c s

/-- FACTOR_DONE (R296): the other buffer becomes current. -/
def State.factorDone (s : State) : State :=
  match s.dev.stepDone .factor SolvSched.factCyc with
  | none => s
  | some (c, t) =>
    let q := s.dev.ctxSched c
    let base := s.dev.get (F.SOLV_C_BASE_BASE c)
    let s := (s.upd (Dev.solvTime t)).runPart c 0 (1 - (s.dev.sctx c).buf)
    s.upd (fun d => (d.modCtx c (fun x => { x with
      buf := 1 - x.buf, fk := d.get (F.SOLV_CTX_RHO_RHO_IDX c), fpa := q.paWords s.mem base, onFactor := 0,
      stage := .iterate })).up (F.SOLV_CTX_STS_FVALID c) true)

/-- CHECK_K and the iteration limit in effect (R295, Table 12.4). -/
def SolvCtx.checkK (x : SolvCtx) : Nat := max 1 (bitsOf x.run.toNat 21 18)
def SolvCtx.maxIter (x : SolvCtx) : Nat := (max 1 (bitsOf x.run.toNat 31 22) + x.checkK - 1) / x.checkK * x.checkK

/-- ITERATION_DONE (R294). -/
def State.iterationDone (s : State) : State :=
  match s.dev.stepDone .iterate SolvSched.iterCyc with
  | none => s
  | some (c, t) =>
    let s := (s.upd (Dev.solvTime t)).runPart c 1 (s.dev.sctx c).buf
    s.upd (Dev.modCtx c (fun x => { x with
      iters := x.iters + 1, onFactor := x.onFactor + 1, stage := if (x.iters + 1) % x.checkK = 0 then .check else .iterate }))

/-- The decision after a check (R295): output with a code, a new k, or on. -/
inductive CheckNext where
  | output (code : Nat)
  | newK (k : Nat)
  | go
  deriving DecidableEq, Repr

/-- R295. -/
def SolvCtx.decide (x : SolvCtx) (k : Nat) : CheckNext :=
  let ak := bitsOf x.run.toNat 17 10
  if x.rp ≤ x.param 248 ∧ x.rd ≤ x.param 249 then .output 0
  else if x.maxIter ≤ x.iters then .output 1
  else if x.checks.length = 4 ∧ x.checks.all (fun c => c.1 == 7)
      ∧ (x.checks.take 3).all (fun c => Decidable.decide (7 * (x.checks.getD 3 (0, 0)).2 ≤ 8 * c.2)) then .output 8
  else if ak ≠ 0 ∧ ak ≤ x.onFactor ∧ 8 * x.rd < x.rp ∧ k < 7 then .newK (k + 1)
  else if ak ≠ 0 ∧ ak ≤ x.onFactor ∧ 8 * x.rp < x.rd ∧ 0 < k then .newK (k - 1)
  else .go

/-- CHECK_DONE (R295). -/
def State.checkDone (s : State) : State :=
  match s.dev.stepDone .check SolvSched.checkCyc with
  | none => s
  | some (c, t) =>
    let q := s.dev.ctxSched c
    let base := s.dev.get (F.SOLV_C_BASE_BASE c)
    let s := (s.upd (Dev.solvTime t)).runPart c 2 (s.dev.sctx c).buf
    let k := s.dev.get (F.SOLV_CTX_RHO_RHO_IDX c)
    let rp := rgGet s.mem base (q.sec 8)
    let rd := rgGet s.mem base (q.sec 8 + 1)
    let s := s.upd (Dev.modCtx c (fun x => { x with rp := rp, rd := rd, resValid := true, checks := ((k, rp) :: x.checks).take 4 }))
    match (s.dev.sctx c).decide k with
    | .output code => s.upd (Dev.modCtx c (fun x => { x with code := code, stage := .output }))
    | .newK k' => (s.upd (fun d => d.put (F.SOLV_CTX_RHO_RHO_IDX c) k')).startFactor c
    | .go => s.upd (Dev.modCtx c (fun x => { x with stage := .iterate }))

/-! Output (R276, R301, R305). -/

/-- A coefficient pair applied to a word, 64-bit result (R247, R276): the product keeps its 16 further bits until it is rounded, so that the
whole range of Q16.48 is reached (log entry 93). -/
def outScale (m : Memory) (o : Nat) (w : Int) : Int :=
  let p := sInt 32 (m.word o).toNat * w
  let s := sInt 5 (m.word (o + 4)).toNat
  satI 64 (rshrI (if 0 ≤ s then p * 2 ^ s.toNat else rshrI p (-s).toNat) 16)

/-- The knots of the result, into the buffer that is not ACTIVE (R276), and the positions of each knot in counts (Q32.32). -/
def State.writeKnots (c : Nat) (s : State) : State × List (List Int) :=
  let d := s.dev
  let q := d.ctxSched c
  let x := d.sctx c
  let g := d.ctxGroup c
  let base := d.get (F.SOLV_C_BASE_BASE c)
  let b := 1 - d.get (F.TRAJ_G_PLAN_ACTIVE g)
  let scales := q.arr 7 + 8 * q.na * (q.k + 1)
  (List.range (q.k + 1)).foldl (fun (y : State × List (List Int)) i =>
    let (s, ps) := y
    let (s, row) := (List.range q.na).foldl (fun (z : State × List Int) a =>
      let (s, row) := z
      let m := s.mem
      let v := fun k => rgGet m base (q.sec 6 + q.outVar m i a k)
      let f := q.fmt m (q.block m (q.sec 6 + q.outVar m i a 0))
      let p := wrap64 (x.origins.getD a 0 * 2 ^ 32 + v 0 * 2 ^ (32 - f))
      let vv := outScale m (scales + 16 * a) (v 1)
      let aa := outScale m (scales + 16 * a + 8) (v 2)
      let w64 := fun (z : Int) => [BitVec.ofNat 32 (uNat 64 z), BitVec.ofNat 32 (uNat 64 z / 2 ^ 32)]
      (s.setMem (m.putWords (knotAt g b i a) (w64 p ++ w64 vv ++ w64 aa)), row ++ [p])) (s, [])
    (s, ps ++ [row])) (s, [])

/-- A tool point in whole µm: exact, or one of the two neighbours (the manual states no rounding). -/
def Dev.toolUm (p : Int × Int × Int) (d : Dev) : (Int × Int × Int) × Dev :=
  let one := fun (v : Int) (d : Dev) => if v % 2 ^ 120 = 0 then (v / 2 ^ 120, d) else
    let (k, d) := d.draw 2
    (v / 2 ^ 120 + (k : Nat), d)
  let (x, d) := one p.1 d
  let (y, d) := one p.2.1 d
  let (z, d) := one p.2.2 d
  ((x, y, z), d)

/-- The tool points of the knots just written (R308). -/
def toolPoints (q : SolvSched) (m : Memory) (x : SolvCtx) : List (List Int) → Dev → List (Int × Int × Int) × Dev
  | [], d => ([], d)
  | ps :: t, d =>
    let (p, d) := d.toolUm (q.toolPt m x (ps.map (· * 2 ^ 64)))
    let (r, d) := toolPoints q m x t d
    (p :: r, d)

/-- The CODE of Table 12.3. -/
def SolvCtx.codeOf (x : SolvCtx) : Nat :=
  if x.code ≠ 0 then x.code else if x.rangeF then 7 else if x.pivotF then 5 else if x.warmF then 6 else 0

/-- OUTPUT_DONE (R276, R301, R305): output when an iteration has completed, then the switch. -/
def State.outputDone (s : State) : State :=
  match s.dev.stepDone .output (fun q => q.out + 100) with
  | none => s
  | some (c, t) =>
    let x := s.dev.sctx c
    let q := s.dev.ctxSched c
    let base := s.dev.get (F.SOLV_C_BASE_BASE c)
    if x.iters = 0 then s.upd (fun d => (d.solvTime (d.solv.now + 100 * d.solvTick)).solvEnd c x.codeOf 0)
    else
      let s := s.upd (Dev.solvTime t)
      let (s, ps) := s.writeKnots c
      let (pts, d) := toolPoints q s.mem x ps s.dev
      let m := s.mem.putWords (base + 4 * q.sec 7) (s.mem.words (base + 4 * q.sec 6) (q.n + 2 * q.m)
        ++ [BitVec.ofNat 32 q.id, BitVec.ofNat 32 (q.id / 2 ^ 32), 0, 0])
      let d := d.modCtx c (fun x => { x with warmOrg := some x.origins, newPts := pts, newCode := x.codeOf })
      { s with mem := m, dev := d.solvEnd c x.codeOf 0 }

/-! Deadlines (R304). -/

/-- Clocks of the step in progress. -/
def Dev.stepClocks (d : Dev) (c : Nat) : Nat :=
  let q := d.ctxSched c
  match (d.sctx c).stage with
  | .assembly => q.asm
  | .factor => q.factCyc
  | .iterate => q.iterCyc
  | .check => q.checkCyc
  | _ => 0

/-- A step that the deadline cuts, which would have run to r: what it had counted and flagged by then counts for the solve (R287, R305),
and is free up to what the whole of it counts and flags. -/
def Dev.cutStep (c : Nat) (r : SolvRun) (d : Dev) : Dev :=
  let x := d.sctx c
  let y := r.dev.sctx c
  let (p, d) := d.draw (r.pivots - x.pivots + 1)
  let (h, d) := d.draw (r.hits - x.hits + 1)
  let (i, d) := d.draw 2
  let (w, d) := d.draw 2
  d.modCtx c (fun x => { x with
    pivots := x.pivots + p, hits := x.hits + h, pivotF := x.pivotF || decide (0 < p), rangeF := x.rangeF || decide (0 < h),
    blk := if h = 0 then x.blk else r.blk, inside := x.inside || (y.inside && decide (i = 1)), warmF := x.warmF || (y.warmF && decide (w = 1)) })

/-- Part of the lane program as the running context would run it. -/
def State.tryPart (c part buf : Nat) (s : State) : SolvRun :=
  let x := s.dev.sctx c
  (s.dev.ctxSched c).runPart part (s.dev.get (F.SOLV_C_BASE_BASE c)) buf (x.param 250) (x.param 251) (s.solvRun c)

/-- An abandoned factorisation (R298): the current factor and its k stay. -/
def State.abandonFactor (c : Nat) (s : State) : State :=
  let x := s.dev.sctx c
  let d := s.dev.cutStep c (s.tryPart c 0 (1 - x.buf))
  { s with dev := d.when (d.flag (F.SOLV_CTX_STS_FVALID c)) (Dev.put (F.SOLV_CTX_RHO_RHO_IDX c) x.fk) }

/-- SOLV_DEADLINE (R304): the deadline of context c arrives. -/
def State.solvDeadline (c : Nat) (s : State) : State :=
  let d := s.dev
  let x := d.sctx c
  let dl := x.deadline
  let arrive := fun (d : Dev) => (d.runTo (d.solv.planNs + (dl + 11) / 12))
  match x.stage with
  | .idle => s
  | .output => s
  | .waiting =>
    if d.solvBusy.isNone && decide (d.solv.now ≤ dl) then s
    else
      let d := (arrive d).modCtx c (fun x => { x with
        iters := 0, nfact := 0, pivots := 0, hits := 0, blk := none, rangeF := false, pivotF := false, warmF := false,
        inside := false, resValid := false, start := d.solv.now })
      { s with dev := d.solvEnd c 4 1 }
  | st =>
    if d.solv.now + d.stepClocks c * d.solvTick ≤ dl then s
    else
      let s := s.upd (fun d => (arrive d).modSolv (fun q => { q with now := max q.now dl }))
      let out := fun (code : Nat) (s : State) => s.upd (Dev.modCtx c (fun x => { x with code := code, stage := .output }))
      match st with
      | .assembly => s.upd (fun d => (d.cutStep c (s.assembly c).1).solvEnd c 4 1)
      | .factor =>
        let s := s.abandonFactor c
        if s.dev.flag (F.SOLV_CTX_STS_FVALID c) then
          (if x.iters = 0 then out 3 (s.upd (Dev.modCtx c (fun x => { x with resValid := false }))) else out 3 s)
        else s.upd (Dev.solvEnd c 4 2)
      | st => out 2 (s.upd (fun d => d.cutStep c (s.tryPart c (if st = .check then 2 else 1) (d.sctx c).buf)))

/-! The fallback chain into TRAJ (R306, R307). -/

/-- Does the result of this plan cycle pass the tests before the knots are compared? -/
def Dev.resultOk (d : Dev) (c : Nat) : Bool :=
  let x := d.sctx c
  let pol := x.pol.toNat
  let code := d.get (F.SOLV_CTX_STS_CODE c)
  let flags := (!x.rangeF || bitOf pol 15) && ((!x.pivotF && !x.warmF) || bitOf pol 16) && !x.peer
  let relax : Int := (bitsOf pol 23 20 : Nat)
  let conv := x.resValid && decide (x.rp ≤ x.param 248 ∧ x.rd ≤ x.param 249)
  let loose := decide (relax ≠ 0) && x.resValid && decide (x.rp ≤ relax * x.param 248 ∧ x.rd ≤ relax * x.param 249)
  x.fresh && code != 4 && code != 8 && decide (0 < x.iters) && flags && (conv || loose)

/-- A decision: TAKE, SHIFTS, TAKE_EVT. -/
def Dev.takeWrite (c take shifts : Nat) (d : Dev) : Dev :=
  ((d.put (F.SOLV_CTX_STS_TAKE c) take).put (F.SOLV_CTX_STS_SHIFTS c) shifts).event0 (F.SOLV_CTX_EVT_TAKE_EVT c)

/-- A take-over ends with PLAN_FAIL (R307): the fault where it is not standing, and the group's path stop where none is. -/
def Dev.planFail (c g : Nat) (d : Dev) : Dev :=
  if d.flag (F.SOLV_CTX_STS_PLAN_FAIL c) then
    (if (d.gr g).pathStop = 0 then (d.modGr g (fun x => { x with pathStop := 2 })).grShow g [axPath] axFaultStop else d)
  else
    let d := (d.up (F.SOLV_CTX_STS_PLAN_FAIL c) true).raise (F.SOLV_CTX_EVT_FAIL_EVT c)
    let d := d.fault .planFail c 1 (maskOf (d.groupAxes g)) true (some (F.SOLV_CTX_EVT_FAIL_EVT c))
    (d.modGr g (fun x => { x with pathStop := max 1 x.pathStop })).grFaults g

/-- The decision for one group in PATH that an enabled context serves. -/
def Dev.takeOver (m : Memory) (c g : Nat) (d : Dev) : Dev :=
  let x := d.sctx c
  let q := d.ctxSched c
  let (d, taken) := if d.resultOk c then d.takeKnots m g (q.k + 1) else (d, false)
  let shifts := d.get (F.SOLV_CTX_STS_SHIFTS c)
  if taken then
    ((d.takeWrite c 1 0).up (F.SOLV_CTX_STS_PLAN_FAIL c) false).causeOff .planFail c
  else if shifts < bitsOf x.pol.toNat 19 17 ∧ (d.gr g).hasPlan
      ∧ d.get (F.TRAJ_G_SIGMA_SIGMA g) + d.time.m * 2 ^ 16 ≤ d.lastSigma g then d.takeWrite c 2 (shifts + 1)
  else (d.takeWrite c 3 shifts).planFail c g

/-- The take-over at the TRAJ_START of the PLAN_DL cycle. A group whose PATH_ON came after the last PLAN event has no result due. -/
def Dev.solvTake (m : Memory) (d : Dev) : Dev :=
  if d.time.planPh + 1 ≠ d.time.m then d
  else Dev.each (List.range 16) (fun g d =>
    match d.ctxOf g with
    | none => d
    | some c =>
      if d.grMode g = 1 ∧ (d.gr g).bound ≠ 1 then (d.modGr g (fun x => { x with bound := 0 })).takeOver m c g else d) d

/-- The plan boundary: what was taken becomes ACTIVE, and with it what R308 sends of it. -/
def Dev.solvSwitch (d : Dev) : Dev :=
  Dev.each (List.range 16) (fun g d =>
    match (d.gr g).next, d.ctxOf g with
    | none, _ => d
    | some _, none => d.grSwitch g
    | some _, some c => (d.grSwitch g).modCtx c (fun x => { x with actPts := x.newPts, actCode := x.newCode, actCyc := d.time.cycno })) d

/-! Peer plans (R308, R309). -/

/-- The SOLV frame of context c (Table 12.7). -/
def Dev.solvBody (d : Dev) (c : Nat) : List Word :=
  let x := d.sctx c
  let q := d.ctxSched c
  let g := d.ctxGroup c
  let nk := if (d.gr g).hasPlan then min (q.k + 1) 20 else 0
  let pts := (List.range (min (q.k + 1) 20)).flatMap (fun i =>
    if i < nk then
      let p := x.actPts.getD i (0, 0, 0)
      [BitVec.ofInt 32 p.1, BitVec.ofInt 32 p.2.1, BitVec.ofInt 32 p.2.2]
    else [0, 0, 0])
  [BitVec.ofNat 32 (2 ^ 24 + c * 2 ^ 20 + g * 2 ^ 16 + x.actCode * 256 + nk), BitVec.ofNat 32 x.actCyc,
    BitVec.ofNat 32 (q.h * 256 + d.get (F.SOLV_CTX_STS_TAKE c))] ++ pts

/-- The area of a delivered SOLV stream in shared memory. -/
def solvArea (j : Nat) : Nat := 0x7F0000 + 0x100 * j

/-- Word 63 of a SOLV stream's area. -/
def State.solvStatus (j : Nat) (s : State) : State :=
  match s.dev.link.cfg.rx[j]? with
  | some x =>
    if x.typ = 7 then
      let d := s.dev
      s.setMem (s.mem.putWord (solvArea j + 252) (BitVec.ofNat 32 (x.stream % 2 ^ 16 * 2 ^ 16 + d.get (F.LINK_STRM_AGE j) * 256
        + d.get (F.LINK_STRM_FAULT j) * 4 + d.get (F.LINK_STRM_VALID j) * 2 + d.get (F.LINK_STRM_STALE j))))
    else s
  | none => s

/-! Loading (R277 to R283). -/

/-- A schedule's header from its payload. -/
def parseSched (base : Nat) (ws : List Word) : SolvSched :=
  let w := fun i => (ws.getD i 0).toNat
  ⟨w 0 + 2 ^ 32 * w 1, bitsOf (w 2) 7 0, bitsOf (w 2) 15 8, bitsOf (w 2) 23 16, bitsOf (w 2) 31 24, bitsOf (w 3) 15 0,
    bitsOf (w 3) 31 16, w 4, w 5, w 6, bitsOf (w 7) 15 0, bitsOf (w 7) 31 16, bitsOf (w 8) 15 0, bitsOf (w 8) 23 16,
    w 10, w 11, w 12, (List.range 11).map (fun i => w (13 + i)), base, 4 * ws.length⟩

/-- Does a schedule break a limit of its class, or does an array or a reserved code lie outside what is allowed (Table 11.6, 0x04)? -/
def SolvSched.bad (q : SolvSched) (ws : List Word) : Bool :=
  let w := fun (o : Nat) => (ws.getD (o / 4) 0).toNat
  let off := fun i => q.offs.getD i 0
  let lim := match q.cls with | 0 => (128, 256, 2048, 6000) | 1 => (384, 768, 6144, 24000) | _ => (768, 1536, 16384, 96000)
  let image := q.nnzP + q.nnzA + q.n + 2 * q.m
  let lens := [8 * q.nblk, 4 * (q.n + 1), 4 * q.nnzP, 4 * (q.n + 1), 4 * q.nnzA, 4 * image, 16 * q.nfill,
    8 * q.na * (q.k + 1) + 16 * q.na, 8 * 51, 8 * q.nbs, 0]
  let fillBad := fun i =>
    let a := w (off 6 + 16 * i)
    let b := w (off 6 + 16 * i + 4)
    let idx := bitsOf a 18 0
    let sect := bitsOf a 31 28
    let kind := bitsOf a 27 24
    let size := match sect with | 0 => q.nnzP | 1 => q.nnzA | 2 => q.n | 3 => q.m | 4 => q.m | 5 => q.m | _ => 0
    let hi := bitsOf b 31 16
    let lo := bitsOf b 15 0
    decide (size ≤ idx ∨ 8 ≤ kind) || (match kind with
      | 1 => decide (q.na ≤ hi ∨ 2 < lo)
      | 2 => decide (q.na ≤ hi)
      | 3 => decide (255 < hi ∨ (lo ≠ 0xFFFF ∧ q.na ≤ lo))
      | 4 => decide (255 < hi)
      | 5 => decide (q.na ≤ hi)
      | 6 => decide (q.nair ≤ hi ∨ q.na ≤ lo)
      | 7 => decide (q.nair ≤ hi)
      | _ => false)
  let region := classRegion q.cls / 4
  let (_, _, pend) := laneParts q.id
  let ops := (List.range (min pend ((q.size - off 10) / 8))).foldl (fun (y : Bool × Nat) i =>
    let v := w (off 10 + 8 * i) + 2 ^ 32 * w (off 10 + 8 * i + 4)
    if y.2 = 0 then (y.1 || decide (96 < bitsOf v 63 56), min 96 (bitsOf v 63 56))
    else
      let op := bitsOf v 63 60
      let a := bitsOf v 54 36
      let b := bitsOf v 35 17
      (y.1 || decide (8 ≤ op) || decide (2 ≤ op ∧ region ≤ a) || decide ((op = 2 ∨ op = 3 ∨ op = 6) ∧ region ≤ b)
        || decide (op = 5 ∧ q.nblk ≤ b), y.2 - 1)) (false, 0)
  decide (2 < q.cls ∨ q.k = 0 ∨ 31 < q.k ∨ q.h = 0 ∨ 64 < q.h ∨ q.na = 0 ∨ 16 < q.na ∨ q.nblk = 0 ∨ 255 < q.nblk ∨ 32 < q.nbs)
    || decide (lim.1 < q.n ∨ lim.2.1 < q.m ∨ lim.2.2.1 < q.nnzP + q.nnzA ∨ lim.2.2.2 < q.nnzL)
    || decide (q.nair ≠ q.nbs * q.k)
    || (List.range 11).any (fun i => decide (off i % 16 ≠ 0 ∨ q.size < off i + lens.getD i 0))
    || decide (w (off 1 + 4 * q.n) ≠ q.nnzP ∨ w (off 3 + 4 * q.n) ≠ q.nnzA)
    || (List.range q.nfill).any fillBad
    || (List.range (q.na * (q.k + 1))).any (fun i => (List.range 3).any (fun k =>
        decide (q.n ≤ bitsOf (w (off 7 + 8 * i) + 2 ^ 32 * w (off 7 + 8 * i + 4)) (16 * k + 15) (16 * k))))
    || (List.range 51).any (fun i => bitOf (w (off 8 + 8 * i + 4)) 31 && decide (255 < bitsOf (w (off 8 + 8 * i + 4)) 8 0))
    || ops.1

/-- The subcode of Table 11.6 that a SOLV section earns, if any: schedules (index, payload) and the context map. -/
def Dev.structId (d : Dev) (imgId : Nat) (l : List (Nat × List Word)) (map : List Word) : Option Nat :=
  let qs := l.map (fun x => (x.1, parseSched 0 x.2, x.2))
  let w := fun c => (map.getD (4 * c) 0).toNat
  let en := (List.range 16).filter (fun c => bitOf (w c) 31)
  let sch := fun c => qs.find? (fun x => x.1 == bitsOf (w c) 27 24)
  let ids := qs.map (fun x => x.2.1.id)
  let grp := fun c => bitsOf (w c) 19 16
  if imgId = 0 then some 1
  else if ids.contains 0 then some 2
  else if ids.eraseDups.length ≠ ids.length then some 3
  else if qs.any (fun x => x.2.1.bad x.2.2) then some 4
  else if en.any (fun c => (sch c).isNone) then some 5
  else if qs.any (fun x => (List.range x.2.1.nbs).any (fun b =>
      !d.arb.geo.any (fun g => g.1 == bitsOf (x.2.2.getD ((x.2.1.offs.getD 9 0) / 4 + 2 * b) 0).toNat 9 0))) then some 6
  else if (en.map grp).eraseDups.length ≠ en.length
      ∨ en.any (fun c => match sch c with
        | some (_, q, _) => (d.groupAxes (grp c)).length != q.na || d.get (F.TRAJ_G_PLAN_H (grp c)) != q.h
        | none => false) then some 7
  else if decide (4 * 2 ^ 20 < en.foldl (fun (t : Nat) c => t + (match sch c with | some (_, q, _) => classRegion q.cls | none => 0)) 0) then some 8
  else none

/-- The mirrors of schedule k (Table 11.7). -/
def Dev.schedRegs (k : Nat) (q : SolvSched) (d : Dev) : Dev :=
  let d := (d.put (F.SOLV_SCH_ID_LO_SCHED_ID k) q.id).put (F.SOLV_SCH_ID_HI_SCHED_ID k) (q.id / 2 ^ 32)
  let d := ((d.put (F.SOLV_SCH_DIM_CLASS k) q.cls).put (F.SOLV_SCH_DIM_M k) q.m).put (F.SOLV_SCH_DIM_N k) q.n
  let d := ((d.put (F.SOLV_SCH_DIM_K k) q.k).put (F.SOLV_SCH_DIM_NA_M1 k) (q.na - 1)).put (F.SOLV_SCH_DIM2_H k) q.h
  let d := ((d.put (F.SOLV_SCH_DIM2_NNZ_L k) q.nnzL).put (F.SOLV_SCH_FACT_FACT_CYC k) q.factCyc).put (F.SOLV_SCH_ITER_ITER_CYC k) q.iterCyc
  ((d.put (F.SOLV_SCH_CHECK_CHECK_CYC k) q.checkCyc).put (F.SOLV_SCH_ASM_ASM k) q.asm).put (F.SOLV_SCH_OUT_OUT k) q.out

/-- Load or reload the SOLV section (R279, R283, R291): schedules into SRAM in the order of their records, regions in ascending
context order, value images; RUN and POL only at the first load. -/
def State.solvLoad (first : Bool) (l : List (Nat × List Word)) (map : List Word) (s : State) : State :=
  let (s, _) := l.foldl (fun (y : State × Nat) x =>
    let (s, o) := y
    let q := parseSched o x.2
    (({ s with mem := s.mem.putWords o x.2 }).upd (fun d =>
      (d.schedRegs x.1 q).modSolv (fun v => { v with scheds := tput v.scheds x.1 q })), o + (4 * x.2.length + 15) / 16 * 16)) (s, 0x800000)
  let (s, _) := (List.range 16).foldl (fun (y : State × Nat) c =>
    let (s, o) := y
    let w := (map.getD (4 * c) 0).toNat
    let d := ((s.dev.up (F.SOLV_C_CFG_EN c) (bitOf w 31)).put (F.SOLV_C_CFG_SCHED c) (bitsOf w 27 24)).put (F.SOLV_C_CFG_GROUP c) (bitsOf w 19 16)
    let d := d.put (F.SOLV_C_IN_ADDR_IN_ADDR c) (map.getD (4 * c + 1) 0).toNat
    let d := if first then (d.wr (R.SOLV_CTX_RUN c) (map.getD (4 * c + 2) 0 &&& 0xFFFFFFC0)).wr (R.SOLV_CTX_POL c)
      (map.getD (4 * c + 3) 0 &&& 0xFFFFFFC0) else d
    if bitOf w 31 then
      let q := tget d.solv.scheds (bitsOf w 27 24)
      ({ s with dev := d.put (F.SOLV_C_BASE_BASE c) o, mem := q.restore o s.mem }, o + classRegion q.cls)
    else ({ s with dev := d }, o)) (s, 0xC00000)
  s.upd (Dev.modSolv (fun q => { q with on := true, acc := List.replicate 96 (0, false) }))

/-! The commands. -/

/-- PUBLISH (R288). -/
def execSolvPublish (c : Fin 16) (s : State) : Host.Outcome State Fault Refusal :=
  onDev (fun d => if d.solv.on then d.up (F.SOLV_C_IN_PUBLISH c) true else d) s

/-- COLD (R299). -/
def execSolvCold (c : Fin 16) (s : State) : Host.Outcome State Fault Refusal :=
  onDev (fun d => if d.solv.on then d.up (F.SOLV_CTX_CMD_COLD c) true else d) s

/-- SOLVE_START (R303). -/
def execSolveStart (s : State) : Host.Outcome State Fault Refusal := done s.solveStart

/-- FACTOR_DONE (R296). -/
def execFactorDone (s : State) : Host.Outcome State Fault Refusal := done s.factorDone

/-- ITERATION_DONE (R294). -/
def execIterationDone (s : State) : Host.Outcome State Fault Refusal := done s.iterationDone

/-- CHECK_DONE (R295). -/
def execCheckDone (s : State) : Host.Outcome State Fault Refusal := done s.checkDone

/-- OUTPUT_DONE (R294, R305). -/
def execOutputDone (s : State) : Host.Outcome State Fault Refusal := done s.outputDone

/-- SOLV_DEADLINE (R304). -/
def execSolvDeadline (c : Fin 16) (s : State) : Host.Outcome State Fault Refusal := done (s.solvDeadline c)

/-- SOLV_FRAME_RECEIVE (R309). -/
def execSolvFrameReceive (p : Fin 8) (f : Frame) (stamp : Nat) (s : State) : Host.Outcome State Fault Refusal :=
  let (d, here) := s.dev.frameIn p f stamp
  let s := { s with dev := d }
  match d.link.cfg.rx.findIdx? (fun x => x.typ == 7 && x.stream == f.stream) with
  | some j => done (if here && f.typ == 7 then (s.setMem (s.mem.putWords (solvArea j) (f.body.take 63))).solvStatus j else s)
  | none => done s

end Sys2Proof.Machine
end

