-- ==== Sys2Proof/Machine/Tasks.lean ====
section
/-! DEFINITION. The task scheduler and the contrail (chapter 15), and what an SP core does outside its instructions: events,
hand-over, HALT, RESUME and STEP (chapter 14). -/
namespace Sys2Proof.Machine
open Sys2Proof.Config

/-! Descriptors and task state (Tables 15.1 and 15.8). -/

def Dev.modSched (f : SchedSt → SchedSt) (d : Dev) : Dev := { d with sched := f d.sched }
def Dev.task (d : Dev) (i : Nat) : TaskSt := tget d.sched.tasks i
def Dev.modTask (i : Nat) (f : TaskSt → TaskSt) (d : Dev) : Dev := d.modSched (fun q => { q with tasks := tmod q.tasks i f })
def Dev.core (d : Dev) (c : Nat) : SpCore := tget d.sched.cores c
def Dev.modCore (c : Nat) (f : SpCore → SpCore) (d : Dev) : Dev := d.modSched (fun q => { q with cores := tmod q.cores c f })

/-- Word k of a task's descriptor. -/
def Dev.desc (d : Dev) (i k : Nat) : Nat := (d.rd (0x884000 + 16 * i + 4 * k)).toNat

def Dev.taskValid (d : Dev) (i : Nat) : Bool := bitOf (d.desc i 0) 31
def Dev.taskPrio (d : Dev) (i : Nat) : Nat := bitsOf (d.desc i 0) 28 24
def Dev.taskCores (d : Dev) (i : Nat) : Nat := bitsOf (d.desc i 0) 15 0
def Dev.taskTrig (d : Dev) (i : Nat) : Nat := bitsOf (d.desc i 3) 31 28
def Dev.taskVal (d : Dev) (i : Nat) : Nat := bitsOf (d.desc i 3) 23 0

/-- STATE of a core: 0 RESET, 1 RUN, 2 WAIT, 3 HALTED. -/
def Dev.coreState (d : Dev) (c : Nat) : Nat := d.get (F.SPC_STS_STATE c)

/-- Clock gating freezes the cores in IDLE (R336). -/
def Dev.frozen (d : Dev) : Bool := d.get F.PWR_STS_STATE == 1

/-- CORE clocks between two instants in ns (1.667 ns each); the grid's phase to TIME is not stated, so a fraction may count. -/
def Dev.coreClks (a b : Nat) (d : Dev) : Nat × Dev :=
  let x := (b - a) * 3
  if x % 5 = 0 then (x / 5, d) else let (k, d) := d.draw 2; (x / 5 + k, d)

/-- The counts and STATE that the registers of a task and SCHED_STS show. -/
def Dev.showTask (i : Nat) (d : Dev) : Dev :=
  let t := d.task i
  let d := d.put (F.SCHED_TSK_STATE i) (if !d.taskValid i then 3 else if t.core.isSome then 2
    else if t.ready.isSome then 1 else 0)
  let d := (d.up (F.SCHED_TSK_AFF_WAIT i) t.win.isSome).up (F.SCHED_TSK_DELAYED i) t.due.isSome
  (d.put F.SCHED_STS_READY (d.sched.tasks.filter (fun x => x.2.ready.isSome)).length).put
    F.SCHED_STS_DELAYED (d.sched.tasks.filter (fun x => x.2.due.isSome)).length

/-! The contrail (R371, R372). -/

/-- Write one entry at WPTR. -/
def State.trailPut (kind core prio id w2 : Nat) (s : State) : State :=
  let d := s.dev
  if d.flag F.SCHED_CTR_POS_LO_FULL then s
  else
    let i := d.get F.SCHED_CTR_POS_LO_WPTR
    let wr := d.get F.SCHED_CTR_POS_HI_WRAPS
    let m := s.mem.putWords (0x1000000 + 16 * i) [BitVec.ofNat 32 d.nowNs,
      BitVec.ofNat 32 (kind * 2 ^ 28 + core * 2 ^ 24 + prio * 2 ^ 19 + id), BitVec.ofNat 32 w2,
      BitVec.ofNat 32 (wr % 256 * 2 ^ 24 + d.time.cycno % 2 ^ 24)]
    let d := if i < 131071 then d.put F.SCHED_CTR_POS_LO_WPTR (i + 1)
      else if d.flag F.SCHED_CTR_CTL_STOP_FULL then d.up F.SCHED_CTR_POS_LO_FULL true
      else (d.put F.SCHED_CTR_POS_LO_WPTR 0).put F.SCHED_CTR_POS_HI_WRAPS (wr + 1)
    let a := 0x1000000 + 16 * i
    { s with dev := { d with eccBad := d.eccBad.filter (fun b => decide (b < a ∨ a + 16 ≤ b)) }, mem := m }

/-- Is a KIND recorded? -/
def Dev.trailOn (d : Dev) (kind : Nat) : Bool := d.flag F.SCHED_CTR_CTL_EN && bitOf (d.get F.SCHED_CTR_CTL_KMASK) kind

/-- The FIFO passes an entry in each SYS clock, two of them in a TIME tick (R372). -/
def Dev.trailDrain (d : Dev) : Dev :=
  d.modSched (fun q => { q with fill := q.fill - 2 * (d.time.ticks - q.fillAt), fillAt := d.time.ticks })

/-- An entry goes through the FIFO of 64: one that finds it full is dropped and counted; the next one is preceded by a LOST entry. -/
def State.trail (kind core prio id w2 : Nat) (s : State) : State :=
  let s := s.upd Dev.trailDrain
  if !s.dev.trailOn kind || s.dev.flag F.SCHED_CTR_POS_LO_FULL then s
  else if 64 ≤ s.dev.sched.fill then
    s.upd (fun d => (d.cnt F.SCHED_CNT1_CTR_LOST).modSched (fun q => { q with lost := q.lost + 1 }))
  else
    let n := s.dev.sched.lost
    let s := if n = 0 then s else
      (if s.dev.trailOn 7 then s.trailPut 7 0 0 0 n else s).upd (fun d =>
        (d.event0 F.SCHED_EVT_CTR_LOST_EVT).modSched (fun q => { q with lost := 0, fill := q.fill + 1 }))
    (s.trailPut kind core prio id w2).upd (Dev.modSched (fun q => { q with fill := q.fill + 1 }))

/-! READY, windows and requests to running cores (R363, R365, R368). -/

/-- A task becomes READY: its place in the order, its affinity window. -/
def Dev.toReady (i : Nat) (d : Dev) : Dev :=
  let w := d.get F.SCHED_CFG_AFFINITY_WAIT
  let aff := bitOf (d.desc i 0) 29
  let (win, pin) : Option Nat × Bool := match (d.task i).last with
    | some c => if aff && d.coreState c == 1 && decide (0 < w) then (some (d.nowNs + w * 5 / 3), false)
        else (none, aff && d.coreState c == 2)
    | none => (none, false)
  (d.modTask i (fun t => { t with ready := some (d.sched.seq, d.nowNs), win := win, expiring := false, pin := pin, asked := false })).showTask i

/-- Is a READY task READY for core c (R364)? -/
def Dev.readyFor (d : Dev) (i c : Nat) : Bool :=
  let t := d.task i
  t.ready.isSome && bitOf (d.taskCores i) c
    && (if t.win.isSome || (t.pin && (t.last.map d.coreState) == some 2) then t.last == some c else true)

/-- The order of R363. -/
def Dev.before (d : Dev) (i j : Nat) : Bool :=
  let a : Nat := ((d.task i).ready.map (·.1)).getD 0
  let b : Nat := ((d.task j).ready.map (·.1)).getD 0
  if d.taskPrio i ≠ d.taskPrio j then decide (d.taskPrio j < d.taskPrio i)
  else if a ≠ b then decide (a < b) else decide (i < j)

/-- READY tasks. -/
def Dev.readyIds (d : Dev) : List Nat := (d.sched.tasks.filter (fun x => x.2.ready.isSome)).map (·.1)

/-- What each waiting core receives in this clock (R364): in ascending core index, the first task READY for it and not yet given. -/
def Dev.assign (d : Dev) : List Nat → List Nat → List (Nat × Nat)
  | [], _ => []
  | c :: cs, gone =>
    let l := d.readyIds.filter (fun i => d.readyFor i c && !gone.contains i)
    match l.foldl (fun (b : Option Nat) i => match b with | none => some i | some j => if d.before i j then some i else b) none with
    | some i => (c, i) :: d.assign cs (i :: gone)
    | none => d.assign cs gone

/-- The waiting cores that have not been served. -/
def Dev.waiters (d : Dev) : List Nat := (List.range 16).filter (fun c => d.coreState c == 2 && (d.core c).got.isNone)

/-- The tasks served to a core, their hand-over on its way. -/
def Dev.given (d : Dev) : List Nat := d.sched.cores.filterMap (fun x => x.2.got.map (·.1))

/-- SCHED serves the waiting cores in the present clock (R364). -/
def Dev.serve (d : Dev) : Dev :=
  Dev.each (d.assign d.waiters d.given) (fun (x : Nat × Nat) d => d.modCore x.1 (fun y => { y with got := some (x.2, d.sched.clk.2) })) d

/-- The core that a READY task may ask (R368): the lowest PRIO held, of those the highest index. -/
def Dev.askCore (d : Dev) (i : Nat) : Option Nat :=
  let t := d.task i
  let cs := onesBelow 16 (d.taskCores i)
  if !bitOf (d.desc i 0) 30 || t.win.isSome || t.asked || d.given.contains i || cs.any (fun c => d.coreState c == 2 && d.readyFor i c) then none
  else
    let held := cs.filterMap (fun c => match (d.core c).held with
      | some j => if d.coreState c == 1 && decide (d.taskPrio j < d.taskPrio i) then some (c, d.taskPrio j) else none
      | none => none)
    (held.foldl (fun (b : Option (Nat × Nat)) x => match b with
      | none => some x
      | some y => if x.2 < y.2 ∨ (x.2 = y.2 ∧ y.1 < x.1) then some x else b) none).map (·.1)

/-- Requests to running cores. -/
def State.preempts (s : State) : State :=
  s.dev.readyIds.foldl (fun s i => match s.dev.askCore i with
    | some c =>
      let h := ((s.dev.core c).held).getD 0
      (s.upd (fun d => (d.modCore c (fun x => { x with taskLatch := true })).modTask i (fun t => { t with asked := true }))).trail
        4 c (s.dev.taskPrio i) i h
    | none => s) s

/-- The affinity windows that expire in the present clock, but for tasks served to their LAST core in it (R365, R367): an entry for each, and
READY for every core from the next clock. -/
def State.windowsEnd (s : State) : State :=
  (s.dev.sched.tasks.filter (fun x => x.2.expiring)).foldl (fun s x =>
    if s.dev.given.contains x.1 then s
    else
      let s := s.upd (fun d => (d.modTask x.1 (fun t => { t with win := none, expiring := false })).showTask x.1)
      (s.trail 5 0 (s.dev.taskPrio x.1) x.1 (((s.dev.task x.1).last).getD 0)).preempts) s

/-- The CORE clock that lies at t ns. Where it is another than the present one, that one has ended: its requests are served, and its windows
expire (R364, R365). -/
def State.newClock (t : Nat) (s : State) : State :=
  if s.dev.sched.clk = (s.dev.time.ticks, t) then s
  else ((s.upd Dev.serve).windowsEnd).upd (fun d => d.modSched (fun q => { q with seq := q.seq + 1, clk := (d.time.ticks, t) }))

/-- TIME runs to t ns, and to the CORE clock there. -/
def State.clockAt (t : Nat) (s : State) : State := (s.upd (Dev.runTo t)).newClock t

/-- The CORE clock at TIME. -/
def State.clockNow (s : State) : State := s.newClock s.dev.nowNs

/-- A task goes from IDLE to READY, or is READY again at its TDONE: entry, window. -/
def State.readyNow (src core i : Nat) (s : State) : State :=
  let s := s.upd (Dev.toReady i)
  s.trail 1 core (s.dev.taskPrio i) i (src * 2 ^ 28 + s.dev.get (F.SCHED_TSK_COUNT i))

/-- Completion of the task a core holds (R356, R366, R370). -/
def State.complete (c status : Nat) (s : State) : State :=
  match (s.dev.core c).held with
  | none => s
  | some i =>
    let (k, d) := s.dev.coreClks (s.dev.task i).since s.dev.nowNs
    let d := d.put (F.SCHED_TSK_LAST_STATUS i) status
    let d := (d.modTask i (fun t => { t with core := none, fin := some (d.sched.seq, c) })).modCore c (fun x => { x with held := none })
    let d := (d.up (F.SPC_STS_TASK c) false).showTask i
    let d := if bitOf (d.desc i 0) 23 then
        let mb := bitsOf (d.desc i 0) 22 20
        (d.put (F.SCHED_MB_DATA_DATA mb) (status * 2 ^ 24 + i)).raise (F.SCHED_MB_EVT_DONE_EVT mb)
      else d
    let s := State.trail 3 c (d.taskPrio i) i (status * 2 ^ 24 + min k (2 ^ 24 - 1)) { s with dev := d }
    if 0 < s.dev.get (F.SCHED_TSK_COUNT i) then s.readyNow 6 c i else s

/-! The state of a core (Table 14.12, R336, R351 to R355). -/

/-- A core's sr. -/
def SpCore.srv (x : SpCore) : Nat := tget x.cr 34

/-- Put sr. -/
def SpCore.setSr (v : Nat) (x : SpCore) : SpCore := { x with cr := tput x.cr 34 v }

/-! Local memories (R31, R339). -/

def xOff (c a : Nat) : Nat := 0x1600000 + c * 0x28000 + 4 * (a % 2 ^ 14)
def yOff (c a : Nat) : Nat := 0x1610000 + c * 0x28000 + 4 * (a % 2 ^ 14)
def pOff (c a : Nat) : Nat := 0x1620000 + c * 0x28000 + 4 * (a % 2 ^ 13)

/-- A word of SRAM is read with its ECC check: none where the error is uncorrectable. -/
def State.eccWord (s : State) (a : Nat) : Option Nat := if s.dev.eccBad.contains a then none else some (s.mem.word a).toNat

/-- A word of SRAM is written: it has valid ECC again. -/
def State.putMem (a : Nat) (w : Word) (s : State) : State :=
  { s with mem := s.mem.putWord a w, dev := { s.dev with eccBad := s.dev.eccBad.filter (fun b => b != a) } }

/-- A write of a core's registers takes place. -/
def SpCore.put (w : SpWrite) (x : SpCore) : SpCore :=
  match w with
  | .dreg r v _ => { x with d := tput x.d r (v % 2 ^ 32) }
  | .creg i v => { x with cr := tput x.cr i v }
  | .acc k v => if k = 0 then { x with a0 := v } else { x with a1 := v }
  | .vis k v => if k = 0 then { x with v0 := v } else { x with v1 := v }
  | .sr mask v => x.setSr (Nat.lor (x.srv - Nat.land x.srv mask) (Nat.land v mask))
  | .eie b => { x with eieVis := b }
  | .xmem _ _ => x
  | .ymem _ _ => x

/-- A write takes place, in a register or in X or Y. -/
def State.spPut (c : Nat) (w : SpWrite) (s : State) : State :=
  match w with
  | .xmem a v => s.putMem (xOff c a) (BitVec.ofNat 32 v)
  | .ymem a v => s.putMem (yOff c a) (BitVec.ofNat 32 v)
  | w => s.upd (Dev.modCore c (SpCore.put w))

/-- BUSY and WAIT count up to now: three CORE clocks in a TIME tick, none while the clock is gated (Table 14.12). -/
def Dev.clkCount (c : Nat) (d : Dev) : Dev :=
  let n := if d.frozen then 0 else 3 * (d.time.ticks - (d.core c).counted)
  let d := match d.coreState c with
    | 1 => d.put (F.SPC_BUSY_CLOCKS c) (d.get (F.SPC_BUSY_CLOCKS c) + n)
    | 2 => d.put (F.SPC_WAIT_CLOCKS c) (d.get (F.SPC_WAIT_CLOCKS c) + n)
    | _ => d
  d.modCore c (fun x => { x with counted := d.time.ticks })

/-- The same for every core. -/
def Dev.clkCounts (d : Dev) : Dev := Dev.each (List.range 16) Dev.clkCount d

/-- A core takes a STATE; PC is shown in WAIT and HALTED and is not valid, hence free, in RUN. -/
def Dev.toCore (c st : Nat) (d : Dev) : Dev :=
  let d := (d.clkCount c).put (F.SPC_STS_STATE c) st
  if st = 1 then let (k, d) := d.draw (2 ^ 13); d.put (F.SPC_STS_PC c) k
  else d.put (F.SPC_STS_PC c) (d.core c).pc

/-- A core halts (HCAUSE, HALT_EVT). -/
def Dev.halt (c cause : Nat) (d : Dev) : Dev :=
  let d := (d.modCore c (fun x => { x with stepping := false, got := none })).toCore c 3
  let d := (d.put (F.SPC_STS_HCAUSE c) cause).up (F.SPC_CTL_HALT c) false
  if cause = 2 then ((d.raise (F.SPC_EVT_HALT_EVT c)).event0 (F.SPC_EVT_DOUBLE_EVT c)) else d.raise (F.SPC_EVT_HALT_EVT c)

/-- Is a core at a boundary with no delay slot and no load gap outstanding (R351)? -/
def SpCore.atBoundary (x : SpCore) : Bool :=
  x.slot.isNone && !x.late.any (fun w => match w.2 with | .dreg _ _ l => l | _ => false)

/-- The core event that may be taken now: 8 TASK, 9 HOST. Acceptance sees EIE late (Table 14.10). -/
def SpCore.eventNow (x : SpCore) : Option Nat :=
  if x.eieVis && x.atBoundary then
    (if x.taskLatch then some 8 else if x.hostLatch then some 9 else none) else none

/-- The steps of R352, with the return address. -/
def SpCore.enter (cause epc : Nat) (x : SpCore) : SpCore :=
  let sr := x.srv
  let sr' := setBit (setBit (setBit sr 10 false) 9 false) 8 false
  { x with cr := tput (tput (tput (tput x.cr 36 epc) 37 sr) 38 cause) 34 sr', pc := 8, slot := none, eieVis := false,
           late := x.late.filter (fun w => match w.2 with | .eie _ => false | _ => true) }

/-- A core event is taken: its latch clears. A request that waits ends with it, and RFE repeats it (R355). -/
def Dev.takeEvent (c : Nat) (d : Dev) : Dev :=
  match (d.core c).eventNow with
  | none => d
  | some e =>
    let d := d.modCore c (fun x =>
      let x := x.enter e x.pc
      if e = 8 then { x with taskLatch := false } else { x with hostLatch := false })
    let d := (d.put (F.SPC_STS_ECAUSE c) e).when (e == 9) (Dev.up (F.SPC_DOOR_RING c) false)
    if d.coreState c = 2 then (d.modCore c (fun x => { x with got := none })).toCore c 1 else d

/-- An exception (R352): at once, EXC_EVT; while EIE is 0 the core halts with DOUBLE. -/
def Dev.exception (c cause : Nat) (d : Dev) : Dev :=
  let x := d.core c
  let dbl := !bitOf x.srv 10
  let d := (d.modCore c (fun x => x.enter cause x.pc)).put (F.SPC_STS_ECAUSE c) cause
  let d := d.raise (F.SPC_EVT_EXC_EVT c)
  if dbl then d.halt c 2 else d

/-- The boundary after an instruction: HALT and STEP (R354: an event goes first). -/
def Dev.boundary (c : Nat) (d : Dev) : Dev :=
  let x := d.core c
  if !x.atBoundary ∨ d.coreState c = 0 ∨ d.coreState c = 3 then d
  else if d.flag (F.SPC_CTL_HALT c) then (d.takeEvent c).halt c 1
  else if x.stepping then (d.takeEvent c).halt c 3
  else d

/-- HALT written as 1. A core frozen in IDLE is between two clocks and halts when the gating ends (R336). -/
def Dev.spHalt (c : Nat) (d : Dev) : Dev :=
  if d.coreState c = 3 then d.up (F.SPC_CTL_HALT c) false
  else
    let d := d.up (F.SPC_CTL_HALT c) true
    if d.frozen then d else d.boundary c


/-- RESUME written as 1. -/
def Dev.spResume (c : Nat) (d : Dev) : Dev := if d.coreState c = 3 then d.toCore c 1 else d

/-- STEP written as 1. -/
def Dev.spStep1 (c : Nat) (d : Dev) : Dev :=
  if d.coreState c = 3 then (d.modCore c (fun x => { x with stepping := true })).toCore c 1 else d

/-- RING written as 1. -/
def Dev.doorRing (c : Nat) (d : Dev) : Dev := (d.modCore c (fun x => { x with hostLatch := true })).up (F.SPC_DOOR_RING c) true

/-- A core's start (R336): pc 0, every register 0, no task. -/
def SpCore.start : SpCore := { (default : SpCore) with d := [], cr := [] }

/-- The device enters RUN: enabled cores leave RESET (R336); PERIOD tasks' first due time (R362). -/
def Dev.spRun (d : Dev) : Dev :=
  let d := Dev.each (List.range 16) (fun c d =>
    if d.flag (F.SPC_CFG_EN c) then ((d.modCore c (fun _ => SpCore.start)).toCore c 1) else d) d
  Dev.each d.sched.ids (fun i d =>
    if d.taskTrig i = 1 then (d.modTask i (fun t => { t with due := some ((d.ut + 1) % 2 ^ 32) })).showTask i else d) d

/-- The hand-over to core c of the task it was served, not before the 4th clock after that, 6.67 ns (R355, R364). -/
def State.handover (c t : Nat) (s : State) : State :=
  let s := s.clockAt t
  if s.dev.coreState c ≠ 2 ∨ s.dev.frozen then s
  else match (s.dev.core c).got with
    | none => s
    | some (i, u) =>
      let s := s.clockAt (max t (u + 6))
      let d := s.dev
      let t := d.task i
      let (k, d) := d.coreClks ((t.ready.map (·.2)).getD 0) d.nowNs
      let word := d.taskPrio i * 2 ^ 16 + i
      let d := (d.put (F.SCHED_TSK_COUNT i) (d.get (F.SCHED_TSK_COUNT i) - 1)).put (F.SCHED_TSK_LAST_CORE i) c
      let d := (d.modTask i (fun t => { t with
        core := some c, since := d.nowNs, ready := none, win := none, expiring := false, pin := false, last := some c })).showTask i
      let d := d.modCore c (fun x => { x with
        d := tput (tput x.d 0 word) 1 (d.desc i 2), cr := tput x.cr 34 (setBit (setBit x.srv 9 false) 8 false),
        pc := bitsOf (d.desc i 1) 12 0, held := some i, got := none, late := [], slot := none })
      let d := (d.up (F.SPC_STS_TASK c) true).toCore c 1
      State.trail 2 c (d.taskPrio i) i (b2n t.win.isSome * 2 ^ 31 + min k 65535) { s with dev := d.boundary c }

/-- The core, if any, to which the hand-over of a task falls into the present clock. -/
def Dev.handDue (d : Dev) (i : Nat) : Option Nat :=
  (d.sched.cores.find? (fun x => match x.2.got with | some (j, u) => j == i && decide (u + 6 ≤ d.sched.clk.2) | none => false)).map (·.1)

/-- Where a hand-over of a task falls into the present clock it comes before a post that would find COUNT at 255: Table 15.2 takes the one
off and adds the other (log entry 84). -/
def State.handFirst (i : Nat) (s : State) : State :=
  match s.dev.handDue i with
  | some c => if s.dev.get (F.SCHED_TSK_COUNT i) = 255 then s.handover c s.dev.sched.clk.2 else s
  | none => s

/-- A post (R359, R360). In the clock of the task's TDONE it counts before it: the task is READY again by that TDONE (R367). -/
def State.post (src core i : Nat) (s : State) : State :=
  let s := if s.dev.taskValid i then s.handFirst i else s
  let d := s.dev
  if !d.taskValid i then s.upd (fun d => (d.cnt F.SCHED_CNT0_BAD_POST).event0 F.SCHED_EVT_BAD_POST_EVT)
  else if d.get (F.SCHED_TSK_COUNT i) = 255 then
    (s.upd (fun d => (d.cnt F.SCHED_CNT0_POST_OVF).event0 F.SCHED_EVT_POST_OVF_EVT)).trail 6 core (d.taskPrio i) i 0
  else
    let s := s.upd (fun d => d.put (F.SCHED_TSK_COUNT i) (d.get (F.SCHED_TSK_COUNT i) + 1))
    if (d.task i).core.isSome ∨ (d.task i).ready.isSome then s
    else match (d.task i).fin with
      | some (q, c) => if q = d.sched.seq then s.readyNow 6 c i else s.readyNow src core i
      | none => s.readyNow src core i

/-- A core that waits or is halted has let every instruction through (log entry 72). -/
def State.spDrain (c : Nat) (s : State) : State :=
  if s.dev.coreState c < 2 then s
  else
    let l := (s.dev.core c).late
    l.foldl (fun s w => s.spPut c w.2) (s.upd (Dev.modCore c (fun x => { x with late := [] })))

/-- A core's state may have changed outside its instructions: what it had on the way lands, and a READY task may now have to ask a
running core (R368). -/
def State.spMoved (c : Nat) (s : State) : State := (s.spDrain c).preempts

/-- The gating of IDLE has ended: a HALT that was asked for meanwhile is at its boundary (R336, R354). -/
def State.spThaw (s : State) : State :=
  (List.range 16).foldl (fun s c => if s.dev.flag (F.SPC_CTL_HALT c) then (s.upd (Dev.boundary c)).spMoved c else s) s

/-! Delays, periods, triggers and windows (R360 to R362, R365). -/

/-- By how many µs a delay-list entry is due, 0 at its US_TICK; none where it is not. -/
def Dev.lateBy (d : Dev) (i : Nat) : Option Nat :=
  match (d.task i).due with
  | some u => if utDiff u d.ut < 2 ^ 31 then some (utDiff u d.ut) else none
  | none => none

/-- A due entry posts: it is removed, or takes its next due time for a PERIOD task (R361, R362). -/
def State.postDue (i : Nat) (s : State) : State :=
  match (s.dev.task i).due with
  | none => s
  | some u =>
    if s.dev.taskTrig i = 1 then (s.upd fun d => d.modTask i (fun t => { t with due := some ((u + d.taskVal i) % 2 ^ 32) })).post 3 0 i
    else (s.upd fun d => (d.modTask i (fun t => { t with due := none })).showTask i).post 2 0 i

/-- An entry (µs late, ID) in its place: the longest due first, then the lowest ID. -/
def putDue (x : Nat × Nat) : List (Nat × Nat) → List (Nat × Nat)
  | [] => [x]
  | y :: ys => if y.1 < x.1 ∨ (x.1 = y.1 ∧ x.2 ≤ y.2) then x :: y :: ys else y :: putDue x ys

/-- What a US_TICK posts: the entries that are due, by ascending due time and then ID (R361). -/
def Dev.dueIds (d : Dev) : List Nat :=
  let l : List (Nat × Nat) := d.sched.tasks.filterMap (fun x => (d.lateBy x.1).map (fun k => (k, x.1)))
  (l.foldr putDue []).map (·.2)

/-- The delay list at a US_TICK (R361, R362). -/
def State.dueTick (s : State) : State := (s.dev.dueIds.foldl (fun s i => s.postDue i) s.clockNow).preempts

/-- The 1 µs tick (04 R110). -/
def State.usTick (s : State) : State := (s.upd fun d => d.runTo ((d.nowNs / 1000 + 1) * 1000)).dueTick

/-- An accepted DPOST (R361). An entry that it replaces and that is due posts first (R367). -/
def State.dpost (i : Nat) (s : State) : State :=
  if !s.dev.taskValid i ∨ s.dev.taskTrig i = 1 then
    s.upd fun d => (d.cnt F.SCHED_CNT0_BAD_POST).event0 F.SCHED_EVT_BAD_POST_EVT
  else
    let s := if (s.dev.lateBy i).isSome then (s.postDue i).preempts else s
    s.upd fun d =>
      let w := min (2 ^ 30) (d.get F.SCHED_DPOST_T_DELAY)
      let ut := d.ut
      (d.modTask i (fun t => { t with due := if w = 0 then none else some ((ut + w) % 2 ^ 32) })).showTask i

/-- TIME runs to the US_TICK at which UT reaches a time. -/
def Dev.runToUt (u : Nat) (d : Dev) : Dev :=
  let k := utDiff d.ut u
  if 2 ^ 31 ≤ k then d else d.runTo ((d.nowNs / 1000 + k) * 1000)

/-- A delay-list entry falls due, of a PERIOD task or of another: the US_TICK of its due time (R361, R362). -/
def State.entryDue (period : Bool) (i : Nat) (s : State) : State :=
  match (s.dev.task i).due with
  | none => s
  | some u => if (s.dev.taskTrig i == 1) ≠ period then s else (s.upd (Dev.runToUt u)).dueTick

/-- Tasks triggered at CYC_START (R360); the first CYC_START in RUN sets the triggers going. -/
def State.cycleTasks (s : State) : State :=
  let s := (s.upd (Dev.modSched (fun q => { q with trig := q.armed }))).clockNow
  if !s.dev.sched.trig then s
  else
    ((s.dev.sched.ids.filter (fun i => s.dev.taskTrig i == 2 && s.dev.time.cycPh % max 1 (s.dev.taskVal i) == 0)).foldl
      (fun s i => s.post 4 0 i) s).preempts

/-- Tasks triggered by an event channel (R360). -/
def State.tevTasks (n : Nat) (s : State) : State :=
  if !s.dev.sched.trig then s
  else
    let s := s.clockNow
    ((s.dev.sched.ids.filter (fun i => s.dev.taskTrig i == 3 && bitsOf (s.dev.desc i 3) 26 24 == n)).foldl
      (fun s i => s.post 5 0 i) s).preempts

/-- An affinity window expires: what that does is decided as its clock ends, since the LAST core may still ask in it (R365, R367). -/
def State.affExpire (i : Nat) (s : State) : State :=
  match (s.dev.task i).win with
  | none => s
  | some t =>
    (s.clockAt t).upd (Dev.modTask i (fun t => { t with expiring := t.win.isSome }))

/-- PARK entry (R369): held tasks complete with status 0xFD. -/
def State.schedPark (s : State) : State :=
  (List.range 16).foldl (fun s c => s.complete c 0xFD) s.clockNow

/-- A contrail entry with an uncorrectable error is replaced where KIND 0xF is recorded (R34, R371): what it said is lost, hence free,
and its LAP keeps it in its place in the order (R373). Where that KIND is not recorded the word stays bad. -/
def State.trailCorrupt (a : Nat) (s : State) : State :=
  if !s.dev.trailOn 0xF then s.upd fun d => { d with eccBad := if d.eccBad.contains a then d.eccBad else a :: d.eccBad }
  else
    let i := (a - 0x1000000) / 16
    let (x, d) := s.dev.drawW
    let (y, d) := d.draw (2 ^ 9)
    let (t, d) := d.draw (2 ^ 10)
    let (z, d) := d.drawW
    let (u, d) := d.draw (2 ^ 24)
    let lap := (d.get F.SCHED_CTR_POS_HI_WRAPS + (if i < d.get F.SCHED_CTR_POS_LO_WPTR then 0 else 255)) % 256
    let e := 0x1000000 + 16 * i
    { s with dev := { d with eccBad := d.eccBad.filter (fun b => decide (b < e ∨ e + 16 ≤ b)) }, mem := s.mem.putWords e [BitVec.ofNat 32 x,
      BitVec.ofNat 32 (0xF * 2 ^ 28 + y * 2 ^ 19 + t), BitVec.ofNat 32 z, BitVec.ofNat 32 (lap * 2 ^ 24 + u)] }

/-- A post by a write of SCHED_POST (R360). -/
def State.schedPost (p : Port) (i t : Nat) (s : State) : State :=
  ((s.clockAt t).post 1 (match p with | .sp c => c | _ => 0) i).preempts

/-- A write of a mailbox's DATA (R370). -/
def Dev.mailbox (p : Port) (k : Nat) (w : Word) (d : Dev) : Dev :=
  let d := (d.put (F.SCHED_MB_DATA_DATA k) w.toNat).parityWritten (R.SCHED_MB_DATA k)
  match p with
  | .sp _ => d.raise (F.SCHED_MB_EVT_MSG_EVT k)
  | _ => d

/-- RESET of the contrail (R372). -/
def Dev.trailReset (d : Dev) : Dev := ((d.put F.SCHED_CTR_POS_LO_WPTR 0).up F.SCHED_CTR_POS_LO_FULL false).put F.SCHED_CTR_POS_HI_WRAPS 0

/-! The commands. -/

/-- DOOR_RING (R351). -/
def execDoorRing (c : Fin 16) (s : State) : Host.Outcome State Fault Refusal := onDev (Dev.doorRing c) s

/-- SCHED_POST (R360). -/
def execSchedPost (p : Port) (i : Fin 1024) (t : Nat) (s : State) : Host.Outcome State Fault Refusal :=
  done (s.schedPost p i t)

/-- SCHED_DPOST (R361). -/
def execSchedDpost (i : Fin 1024) (t : Nat) (s : State) : Host.Outcome State Fault Refusal :=
  done ((s.clockAt t).dpost i)

/-- DELAY_DUE (R361). -/
def execDelayDue (i : Fin 1024) (s : State) : Host.Outcome State Fault Refusal := done (s.entryDue false i)

/-- PERIOD_DUE (R362). -/
def execPeriodDue (i : Fin 1024) (s : State) : Host.Outcome State Fault Refusal := done (s.entryDue true i)

/-- AFFINITY_EXPIRE (R365). -/
def execAffinityExpire (i : Fin 1024) (s : State) : Host.Outcome State Fault Refusal := done (s.affExpire i)

/-- MAILBOX_WRITE (R370). -/
def execMailboxWrite (p : Port) (k : Fin 8) (w : Word) (s : State) : Host.Outcome State Fault Refusal := onDev (Dev.mailbox p k w) s

/-- CONTRAIL_RESET (R372). -/
def execContrailReset (s : State) : Host.Outcome State Fault Refusal := onDev Dev.trailReset s

end Sys2Proof.Machine
end

