-- ==== Sys2Proof/Machine/Safe.lean ====
section
/-! DEFINITION. The safety island (chapter 16): its states, inputs, start-up tests, acknowledge, demands, outputs, readback and
events. Island time is counted by its samples (10 µs) and evaluations (250 µs) (log entry 60). -/
namespace Sys2Proof.Machine
open Sys2Proof.Config

/-- Change SAFE's hidden state. -/
def Dev.modSafe (f : SafeSt → SafeSt) (d : Dev) : Dev := { d with safe := f d.safe }

/-- µs since the island entered INIT. -/
def Dev.safeUs (d : Dev) : Nat := max (10 * d.safe.samples) (250 * d.safe.evals)

/-- ISTATE (Table 16.1). -/
def Dev.istate (d : Dev) : Nat := d.get F.SAFE_STS_ISTATE

/-- The records of an input and an output, where the section has them. -/
def Dev.safeIn (d : Dev) (n : Nat) : SafeIn := ((d.safe.cfg.ins.find? (fun x => x.1 == n)).map (·.2)).getD default
def Dev.safeOut (d : Dev) (k : Nat) : SafeOutCfg := ((d.safe.cfg.outs.find? (fun x => x.1 == k)).map (·.2)).getD default

/-- The axes whose record names an output of a mask. -/
def Dev.axesOf (d : Dev) (outs : Nat) : Nat :=
  (d.safe.cfg.axes.filter (fun a => bitOf outs a.out)).foldl (fun m a => setBit m a.axis true) 0

/-- The outputs that the records of a mask of axes name. -/
def Dev.outsOf (d : Dev) (axes : Nat) : Nat :=
  (d.safe.cfg.axes.filter (fun a => bitOf axes a.axis)).foldl (fun m a => setBit m a.out true) 0

/-! Parameters (R379). -/

/-- Word i of a record. -/
def Rec.w (r : Rec) (i : Nat) : Nat := (r.words.getD i 0).toNat

/-- The device record with an ID. -/
def devRec (rs : List Rec) (id : Nat) : Option Rec := rs.find? (fun r => r.recId == id)

/-- The SAFE section's records of Table 16.2. -/
def parseSafe (rs : List Rec) : SafeCfg :=
  let d := (devRec rs 1).getD default
  { testIn := bitsOf (Rec.w d 0) 3 0, ackIn := bitsOf (Rec.w d 0) 11 8
    ackMin := bitsOf (Rec.w d 1) 15 0, ackMax := bitsOf (Rec.w d 1) 31 16
    ins := (List.range 16).filterMap (fun n => (devRec rs (0x100 + n)).map (fun r =>
      (n, { typ := bitsOf (Rec.w r 0) 1 0, cat := bitsOf (Rec.w r 0) 3 2, manual := bitOf (Rec.w r 0) 4, outs := bitsOf (Rec.w r 0) 15 8,
            filt := bitsOf (Rec.w r 0) 20 16, discT := bitsOf (Rec.w r 1) 9 0, stopT := bitsOf (Rec.w r 1) 29 16 })))
    outs := (List.range 8).filterMap (fun k => (devRec rs (0x200 + k)).map (fun r =>
      (k, { used := bitOf (Rec.w r 0) 0, rbDly := 10 * bitsOf (Rec.w r 0) 15 8, pulseW := 10 * bitsOf (Rec.w r 0) 23 16,
            pulseP := 1000 * bitsOf (Rec.w r 1) 9 0 })))
    axes := (rs.filter (fun r => r.recId == 0x300)).map (fun r =>
      { axis := r.index, out := bitsOf (Rec.w r 0) 2 0, stillTol := bitsOf (Rec.w r 1) 15 0, sosTol := bitsOf (Rec.w r 2) 23 0 }) }

/-- Has an input's record a field out of its range, or a reserved bit set (Table 16.2)? -/
def safeInBad (r : Rec) (x : SafeIn) : Bool :=
  bitsOf (Rec.w r 0) 7 5 != 0 || bitsOf (Rec.w r 0) 31 21 != 0 || bitsOf (Rec.w r 1) 15 10 != 0 || bitsOf (Rec.w r 1) 31 30 != 0
    || !within 0 2 x.cat || !within 4 16 x.filt || !within 1 500 x.discT || !within 1 10000 x.stopT

/-- The same of an output's record. -/
def safeOutBad (r : Rec) (x : SafeOutCfg) : Bool :=
  bitsOf (Rec.w r 0) 7 1 != 0 || bitsOf (Rec.w r 0) 31 24 != 0 || bitsOf (Rec.w r 1) 31 10 != 0
    || !within 200 800 x.pulseW || !within 20 150 x.rbDly || !decide (x.rbDly + 50 ≤ x.pulseW) || !within 20000 1000000 x.pulseP

/-- Does the SAFE section fail the checks of R379 that concern it alone? -/
def safeOwnBad (rs : List Rec) : Bool :=
  let c := parseSafe rs
  let inOf := fun n => ((c.ins.find? (fun x => x.1 == n)).map (·.2)).getD default
  (match devRec rs 1 with
    | none => true
    | some r => bitsOf (Rec.w r 0) 7 4 != 0 || bitsOf (Rec.w r 0) 31 12 != 0)
  || !within 50 1000 c.ackMin || !within 500 5000 c.ackMax || !decide (c.ackMin < c.ackMax)
  || c.ins.any (fun x => safeInBad ((devRec rs (0x100 + x.1)).getD default) x.2)
  || c.outs.any (fun x => safeOutBad ((devRec rs (0x200 + x.1)).getD default) x.2)
  || rs.any (fun r => r.recId == 0x300 && (bitsOf (Rec.w r 0) 31 3 != 0 || bitsOf (Rec.w r 1) 31 16 != 0
      || bitsOf (Rec.w r 2) 31 24 != 0 || bitsOf (Rec.w r 2) 23 0 == 0))
  || !within 1 2 (inOf c.testIn).typ || (inOf c.ackIn).typ != 3
  || c.ins.any (fun x => (x.2.typ == 3 && x.1 != c.ackIn) || (within 1 2 x.2.typ && x.2.outs == 0))

/-- Does an axis whose TOPO is not NONE (those given) lack an axis record, or name an output with USE 0 (R379)? -/
def safeAxesBad (rs : List Rec) (axes : List Nat) : Bool :=
  let c := parseSafe rs
  let outOf := fun k => ((c.outs.find? (fun x => x.1 == k)).map (·.2)).getD default
  axes.any (fun a => match c.axes.find? (fun x => x.axis == a) with
      | none => true
      | some x => !(outOf x.out).used)

/-! Events (R392, Tables 16.5 and 16.12). -/

/-- An island event: SAFE_EVT, its SAFE_LOG entry, and MSI-X vector 56. -/
def Dev.safeEvt (code detail : Nat) (d : Dev) : Dev :=
  let q := (d.get F.SAFE_EVT_SEQ + 1) % 256
  let d := ((d.put F.SAFE_EVT_SEQ q).put F.SAFE_EVT_CODE code).put F.SAFE_EVT_DETAIL detail
  let i := q % 16
  let d := ((d.put (F.SAFE_LOG1_SEQ i) q).put (F.SAFE_LOG1_CODE i) code).put (F.SAFE_LOG1_DETAIL i) detail
  (d.put (F.SAFE_LOG0_TIME i) d.safeUs).msix 56

/-- An event that is a fault of a class on axes; its cause stands until it ends. -/
def Dev.safeFault (code detail cls axes : Nat) (d : Dev) : Dev :=
  (d.safeEvt code detail).fault .island (code * 2 ^ 16 + detail) cls axes true none

/-- The cause of an island fault ends. -/
def Dev.safeEnd (code detail : Nat) (d : Dev) : Dev := d.causeOff .island (code * 2 ^ 16 + detail)

/-- The axis class of a stop category (Table 16.3). -/
def catCls (cat : Nat) : Nat := 3 - min cat 2

/-! Outputs, the stop line and permits (R388, R389, R392). -/

/-- The outputs switch to a mask now, both channels commanding their switches alike (R376); an output that switches on has its first off-pulse
due PULSE_P later. -/
def Dev.switchOuts (on : Nat) (d : Dev) : Dev :=
  let now := d.safeUs
  Dev.each (List.range 8) (fun k d =>
    if bitOf on k = bitOf d.safe.outOn k then d
    else d.modSafe (fun s => { s with
      outOn := setBit s.outOn k (bitOf on k), swA := setBit s.swA k (bitOf on k), swB := setBit s.swB k (bitOf on k), swAt := tput s.swAt k now,
      due := if bitOf on k then tput s.due k (now + (d.safeOut k).pulseP) else s.due,
      pulse := match s.pulse with
        | some (j, a, b) => if j = k ∧ now < b then some (j, a, now) else some (j, a, b)
        | none => none })) d

/-- The off-pulse running at a time: its output and start. -/
def Dev.pulseNow (d : Dev) (t : Nat) : Option (Nat × Nat) :=
  match d.safe.pulse with
  | some (k, a, b) => if a ≤ t ∧ t < b then some (k, a) else none
  | none => none

/-- Is a channel's switch of output k closed now? Its channel commands it (R375), no off-pulse opens it, odd ones channel A's and even ones
channel B's (R390), and the AON monitor lets it (R377). -/
def Dev.switchOn (chB : Bool) (k : Nat) (d : Dev) : Bool :=
  let open' := match d.pulseNow d.safeUs with
    | some (j, _) => j == k && (tget d.safe.pulses k % 2 == (if chB then 0 else 1))
    | none => false
  d.safe.on && d.safe.run && bitOf (if chB then d.safe.swB else d.safe.swA) k && !open'

/-- SOUTk: high while both switches in series are closed (R375; 21 R476). -/
def Dev.soutOn (k : Nat) (d : Dev) : Bool := d.switchOn false k && d.switchOn true k

/-- Outputs that a demand of category 0, or 1 past its output-off point, keeps off. -/
def Demand.holdsOff (x : Demand) : Nat := if x.cat = 0 then x.outs else if x.cat = 1 then x.past else 0

/-- The stop line: the covered direct axes take the off pattern (R16, Table 16.3). -/
def Dev.stopLine (axes : Nat) (d : Dev) : Dev :=
  Dev.each (onesBelow 32 axes) (fun n d => if d.energised n then d.deenergise n else d) d

/-- The outputs, the stop line and the permits as R388, R389 and R392 give them; while the SAFE clock does not run the AON monitor holds every
switch open (R377). -/
def Dev.safeDrive (d : Dev) : Dev :=
  if d.istate ≠ 4 then ((d.switchOuts 0).modSafe (fun s => { s with permit := 0 })).stopLine (2 ^ 32 - 1)
  else if !d.safe.run then (d.switchOuts 0).modSafe (fun s => { s with permit := 0 })
  else
    let off := d.safe.demands.foldl (fun m x => m ||| x.holdsOff) (d.safe.rbFault ||| d.safe.esc)
    let use := maskOf ((d.safe.cfg.outs.filter (fun x => x.2.used)).map (·.1))
    let d := d.switchOuts ((List.range 8).foldl (fun m k => setBit m k (bitOf use k && !bitOf off k)) 0)
    let deny := d.safe.demands.foldl (fun m x => if x.cat < 2 then m ||| x.axes else m) (d.axesOf d.safe.esc)
    let give := d.axesOf d.safe.outOn
    let d := d.modSafe (fun s => { s with permit := (List.range 128).foldl (fun m n => setBit m n (bitOf give n && !bitOf deny n)) 0 })
    d.stopLine (d.safe.demands.foldl (fun m x => if x.cat = 0 then m ||| x.axes else m) (d.axesOf d.safe.esc))

/-- Channel A refreshes the mirror's levels (Tables 16.10 to 16.12). -/
def Dev.safeShow (d : Dev) : Dev :=
  let s := d.safe
  let d := (d.put F.SAFE_STS_OUT_ON s.outOn).up F.SAFE_STS_SAFE_KEY_BLANK (d.istate == 1)
  let d := (d.put F.SAFE_IN_SAFE_A s.filtA).put F.SAFE_IN_SAFE_B s.filtB
  let dem := (List.range 16).foldl (fun m n => setBit m n (s.demands.any (fun x => x.src == n))) 0
  let d := (d.put F.SAFE_INV_DISC s.disc).put F.SAFE_INV_DEMAND dem
  let stop1 := s.demands.foldl (fun m x => if x.cat = 1 then m ||| (x.outs - Nat.land x.outs x.past) else m) 0
  let d := (d.put F.SAFE_OUT_RB_FAULT s.rbFault).put F.SAFE_OUT_RB s.rb
  let d := (d.put F.SAFE_OUT_STOP1 stop1).put F.SAFE_OUT_ESC s.esc
  let d := Dev.each (List.range 4) (fun i d => d.put (F.SAFE_PERMIT_PERMIT i) (s.permit / 2 ^ (32 * i))) d
  Dev.each s.ssm.groups (fun c d =>
    (d.up (F.SAFE_SSM_STS_PSTOP c.g) (s.demands.any (fun x => x.src == 16 + c.g || x.src == 32 + c.g))).up
      (F.SAFE_SSM_STS_SVIOL c.g) (tget s.grp c.g).sviol) d

/-- A LOCKOUT cause (R378, R392, R393): the first one takes the island to LOCKOUT, where only a new start ends it; every one is recorded. -/
def Dev.lockoutAt (code detail : Nat) (d : Dev) : Dev :=
  if d.safe.on = false then d
  else
    let d := if d.istate = 5 then d else (d.put F.SAFE_STS_ISTATE 5).put F.SAFE_STS_LOCK_CAUSE code
    ((d.safeFault code detail 3 allAxes).safeDrive).safeShow

/-- A LOCKOUT cause with no detail. -/
def Dev.lockout (code : Nat) (d : Dev) : Dev := d.lockoutAt code 0

/-- Drop a block's registers to their reset values (a domain switched off or started anew). -/
def Dev.dropRegs (lo hi : Nat) (d : Dev) : Dev := { d with regs := d.regs.filter (fun x => x.1 < lo || hi ≤ x.1) }

/-- The island's hidden state on entering INIT (R378). -/
def SafeSt.init (keep : SafeSt) : SafeSt :=
  { (default : SafeSt) with on := true, run := keep.run, filtA := 0xFFFF, filtB := 0xFFFF, samples := 0 }

/-- PD_SAFE is switched on, or RESET_N ends: INIT (R378). -/
def Dev.safeStart (d : Dev) : Dev :=
  let d := d.dropRegs 0xB00000 0xC00000
  { d with safe := SafeSt.init d.safe, faults := d.faults.filter (fun r => r.kind != .island) }

/-- PD_SAFE is switched off. -/
def Dev.safeOff (d : Dev) : Dev :=
  let d := d.dropRegs 0xB00000 0xC00000
  { d with safe := { (default : SafeSt) with filtA := 0xFFFF, filtB := 0xFFFF }, faults := d.faults.filter (fun r => r.kind != .island) }

/-- INIT ends when the self-tests have passed and the SAFE section is accepted (R378). -/
def Dev.leaveInit (d : Dev) : Dev :=
  if d.istate ≠ 0 ∨ d.safe.tested = false ∨ d.safe.accepted = false then d
  else if d.safe.blank then ((d.put F.SAFE_STS_ISTATE 1).safeEvt 0x16 0).safeShow
  else (d.put F.SAFE_STS_ISTATE 2).modSafe (fun s => { s with test := tput s.test s.cfg.testIn 1 })

/-- The self-tests end (R378). -/
def Dev.selftestDone (ok : Bool) (d : Dev) : Dev :=
  if d.safe.on = false ∨ d.istate ≠ 0 ∨ d.safe.tested = true then d
  else if ok then (d.modSafe (fun s => { s with tested := true })).leaveInit
  else d.lockout 0x14

/-! Inputs (R380, R391). -/

/-- Is a ball's level safe for an input's TYPE? -/
def safeLevel (typ : Nat) (chB high : Bool) : Bool := if typ = 2 ∧ chB then high else !high

/-- One channel's filters after a sample: the safe readings and the runs of samples at the other level (R380). -/
def Dev.filterStep (d : Dev) (chB : Bool) (balls filt : Nat) (runs : List (Nat × Nat)) : Nat × List (Nat × Nat) :=
  (List.range 16).foldl (fun (a : Nat × List (Nat × Nat)) n =>
    let c := d.safeIn n
    if c.typ = 0 then a
    else
      let lv := safeLevel c.typ chB (bitOf balls n)
      if lv = bitOf a.1 n then (a.1, tput a.2 n 0)
      else
        let r := tget a.2 n + 1
        if 25 * c.filt ≤ r then (setBit a.1 n lv, tput a.2 n 0) else (a.1, tput a.2 n r)) (filt, runs)

/-- What Table 16.4 expects of output k's readback at time t: closed, open, or nothing. -/
def Dev.rbExpect (d : Dev) (k t : Nat) : Option Bool :=
  let dly := (d.safeOut k).rbDly
  let sw := tget d.safe.swAt k
  if bitOf d.safe.outOn k then
    match d.pulseNow t with
    | some (j, a) => if j = k then (if a + dly ≤ t then some false else none) else if sw + dly ≤ t then some true else none
    | none => if sw + dly ≤ t then some true else none
  else if sw + dly ≤ t then some false else none

/-- A sample of output k's readback breaks Table 16.4: RB_FAULT, or RB_CROSS with the output whose pulse opened it (R391). -/
def Dev.rbCheck (k : Nat) (d : Dev) : Dev :=
  let t := 10 * d.safe.samples
  if bitOf d.safe.rbFault k then d
  else match d.rbExpect k t with
    | none => d
    | some e =>
      if e = bitOf d.safe.rb k then d
      else
        let d := d.cnt F.SAFE_CNT1_RB_CNT
        let latch := fun (m : Nat) (d : Dev) => d.modSafe (fun s => { s with rbFault := s.rbFault ||| m })
        match d.pulseNow t with
        | some (j, _) =>
          if e = true ∧ j ≠ k then (latch (2 ^ k + 2 ^ j) d).safeFault 3 (256 * j + k) 3 (d.axesOf (2 ^ k + 2 ^ j))
          else (latch (2 ^ k) d).safeFault 2 k 3 (d.axesOf (2 ^ k))
        | none => (latch (2 ^ k) d).safeFault 2 k 3 (d.axesOf (2 ^ k))

/-- A 10 µs sample of both channels' balls and the readbacks (R380, R391). -/
def Dev.inputSample (a b rb : Nat) (d : Dev) : Dev :=
  if !(d.safe.on && d.safe.run) then d
  else
    let fa := d.filterStep false a d.safe.filtA d.safe.runA
    let fb := d.filterStep true b d.safe.filtB d.safe.runB
    let d := d.modSafe (fun s => { s with
      samples := s.samples + 1, filtA := fa.1, runA := fa.2, filtB := fb.1, runB := fb.2, rb := rb })
    Dev.each (List.range 8) Dev.rbCheck d

/-! Positions, standstill and safe operating stop (R387). -/

/-- The rx stream and position slot that carry a linked axis, in its stream's index. -/
def Dev.safeStrm (d : Dev) (n : Nat) : Option (Nat × Nat) :=
  (d.safe.ssm.rx.find? (fun r => r.axes.contains n)).map (fun r => (r.idx, r.axes.findIdx (· == n)))

/-- Is a safe stream in its safe state (17 R415)? -/
def SmsgRx.failed (r : SmsgRx) : Bool := r.wd || r.mism || r.nodisj

/-- Position k of a compared pair's words, where its VALID bit is set (17 Table 17.3). -/
def pairPos (ws : List Word) (k : Nat) : Option Int :=
  let valid := (ws.getD 4 0).toNat + 2 ^ 32 * (ws.getD 5 0).toNat
  if bitOf valid k then some (sInt 32 (ws.getD (6 + k) 0).toNat) else none

/-- The position the island sees for an axis (R387, R16). -/
def Dev.islandPos (d : Dev) (n : Nat) : Option Int :=
  match d.srcOf n with
  | .chan c => some (d.gets (F.FB_QLAT_LAT c))
  | .enc j => some (d.gets (F.FB_ENCLAT_LAT j))
  | _ =>
    match d.safeStrm n with
    | some (j, k) =>
      let r := tget d.safe.rx j
      if r.failed then none else match r.held with
        | [] => none
        | (_, ws) :: _ => pairPos ws k
    | none => none

/-- The difference of two positions, which wrap at 32 bits. -/
def posDiff (a b : Int) : Nat := (sInt 32 (uNat 32 (a - b))).natAbs

/-- Is an axis at safe standstill (R387)? -/
def Dev.safeStill (d : Dev) (n : Nat) : Bool :=
  let tol := ((d.safe.cfg.axes.find? (fun a => a.axis == n)).map (·.stillTol)).getD 0
  let h := tget d.safe.hist n
  h.length == 5 && (h.zip (h.drop 1)).all (fun x => match x with
    | (some p, some q) => decide (posDiff p q ≤ tol)
    | _ => false)

/-- At a tick: the tick's positions join the history. -/
def Dev.safeTrack (d : Dev) : Dev :=
  d.modSafe (fun s => { s with hist := s.cfg.axes.foldl (fun h a => tput h a.axis (((d.islandPos a.axis) :: tget h a.axis).take 5)) s.hist })

/-- SOS_VIOL of each covered axis that has moved more than SOS_TOL from its record, or whose position is missing (R387). -/
def Dev.sosCheck (d : Dev) : Dev :=
  Dev.each (d.safe.demands.flatMap (·.sos)) (fun x d =>
    match d.safe.cfg.axes.find? (fun a => a.axis == x.1) with
    | none => d
    | some c =>
      let bad := match x.2, d.islandPos x.1 with
        | some r, some p => decide (c.sosTol < posDiff p r)
        | _, _ => true
      if bad && !d.causeOn .island (4 * 2 ^ 16 + x.1) then
        (d.modSafe (fun s => { s with esc := setBit s.esc c.out true })).safeFault 4 x.1 3 (d.axesOf (2 ^ c.out))
      else d) d

/-! Demands (R385). -/

/-- Does an input read safe (R381)? -/
def Dev.readsSafe (d : Dev) (n : Nat) : Bool := bitOf d.safe.filtA n || bitOf d.safe.filtB n || bitOf d.safe.disc n

/-- A demand begins. -/
def Dev.demand (src cat outs axes : Nat) (manual : Bool) (d : Dev) : Dev :=
  d.modSafe (fun s => { s with demands := s.demands ++ [⟨src, cat, outs, axes, manual, d.safeUs, 0, false, []⟩] })

/-- A demand ends. -/
def Dev.demandEnd (src : Nat) (d : Dev) : Dev :=
  let code := if src < 16 then 5 else if src < 32 then 0x20 else 0x21
  (d.modSafe (fun s => { s with demands := s.demands.filter (fun x => x.src != src) })).safeEnd code (src % 16)

/-- Has a source a demand in force? -/
def Dev.demanded (d : Dev) (src : Nat) : Bool := d.safe.demands.any (fun x => x.src == src)

/-- Demands of the inputs at an evaluation in ACTIVE (R385). -/
def Dev.inputDemands (d : Dev) : Dev :=
  if d.istate ≠ 4 then d
  else Dev.each (List.range 16) (fun n d =>
    let c := d.safeIn n
    if c.typ = 0 ∨ c.typ = 3 then d
    else if d.readsSafe n then
      (if d.demanded n then d
       else (d.demand n c.cat c.outs (d.axesOf c.outs) c.manual).safeFault 5 n (catCls c.cat) (d.axesOf c.outs))
    else if d.demanded n && !c.manual then d.demandEnd n else d) d

/-- At a tick: CAT 1 outputs whose axes are all at safe standstill pass their output-off point (Table 16.3). -/
def Dev.still1 (d : Dev) : Dev :=
  d.modSafe (fun s => { s with demands := s.demands.map (fun x =>
    if x.cat = 1 then { x with past := (List.range 8).foldl (fun m k =>
      if bitOf x.outs k && (onesBelow 128 (d.axesOf (2 ^ k))).all d.safeStill then setBit m k true else m) x.past } else x) })

/-! The 1 ms tick (R382 to R384). -/

/-- Discrepancy counts and start-up tests of one input. -/
def Dev.tickInput (n : Nat) (d : Dev) : Dev :=
  if (d.safeIn n).typ = 0 then d
  else
    let a := bitOf d.safe.filtA n
    let b := bitOf d.safe.filtB n
    if a != b then d.modSafe (fun s => { s with dcnt := tput s.dcnt n (min 1000 (tget s.dcnt n + 1)) })
    else
      let d := d.modSafe (fun s => { s with dcnt := tput s.dcnt n 0 })
      match tget d.safe.test n with
      | 0 => d
      | p =>
        if a then d.modSafe (fun s => { s with test := tput s.test n 2 })
        else if p = 2 then
          let had := bitOf d.safe.disc n
          let d := d.modSafe (fun s => { s with test := tput s.test n 0, disc := setBit s.disc n false })
          let d := (if had then d.safeEnd 1 n else d).safeEvt 8 n
          if n = d.safe.cfg.testIn ∧ d.istate = 2 then d.put F.SAFE_STS_ISTATE 3 else d
        else d

/-- RB_FAULT of output k clears: a cross fault goes on for its other output while that stays faulted (Table 16.5). -/
def Dev.crossClear (k : Nat) (d : Dev) : Dev :=
  { d with faults := d.faults.map (fun (r : FaultRec) =>
      let j := r.idx / 256 % 16
      let i := r.idx % 16
      if r.kind = FaultKind.island ∧ r.idx / 2 ^ 16 = 3 ∧ (i = k ∨ j = k) then
        (if bitOf d.safe.rbFault i || bitOf d.safe.rbFault j
         then { r with axes := d.axesOf (d.safe.rbFault &&& (2 ^ i + 2 ^ j)) } else { r with cause := false })
      else r) }

/-- An accepted acknowledge ends the safe state that a mismatch gave a stream whose last comparison was good (17 R415). -/
def Dev.ackStreams (d : Dev) : Dev :=
  Dev.each d.safe.ssm.rx (fun c d =>
    let r := tget d.safe.rx c.idx
    if r.mism && r.lastGood then
      ((d.modSafe (fun s => { s with rx := tput s.rx c.idx { r with mism := false } })).up (F.SAFE_SMSG_STS_MISMATCH c.idx) false).up
        (F.SAFE_SMSG_STS_GOOD c.idx) (!({ r with mism := false } : SmsgRx).failed)
    else d) d

/-- An accepted acknowledge in ACTIVE (R384, 17 R415; 17 R408, R409 by the flag of each group). -/
def Dev.ackActive (d : Dev) : Dev :=
  let d := Dev.each (d.safe.demands.filter (fun x => x.src < 16 && x.manual && !d.readsSafe x.src)) (fun x d => d.demandEnd x.src) d
  let clr := (List.range 8).filter (fun k => bitOf d.safe.rbFault k && !bitOf d.safe.rb k)
  let d := Dev.each clr (fun k d =>
    let d := (d.modSafe (fun s => { s with rbFault := setBit s.rbFault k false })).safeEnd 2 k
    d.crossClear k) d
  let d := { d with faults := d.faults.map (fun (r : FaultRec) => if r.kind = FaultKind.island ∧ r.idx / 2 ^ 16 = 4 then { r with cause := false } else r) }
  let d := d.modSafe (fun s => { s with esc := 0 })
  let d := d.ackStreams
  Dev.each d.safe.ssm.groups (fun c d =>
    if c.resumeN ≤ (tget d.safe.grp c.g).clear then
      let d := if c.manual && d.demanded (16 + c.g) then d.demandEnd (16 + c.g) else d
      if (tget d.safe.grp c.g).sviol then
        ((d.demandEnd (32 + c.g)).modSafe (fun s => { s with grp := tmod s.grp c.g (fun x => { x with sviol := false }) }))
      else d
    else d) d

/-- The acknowledge input at a tick (R384). -/
def Dev.tickAck (d : Dev) : Dev :=
  let n := d.safe.cfg.ackIn
  if (d.safeIn n).typ ≠ 3 then d
  else
    let a := bitOf d.safe.filtA n
    let b := bitOf d.safe.filtB n
    if a != b then d.modSafe (fun s => { s with gap := true })
    else if !a then d.modSafe (fun s => { s with
      press := if s.gap && decide (s.press ≤ s.cfg.ackMax) then 1 else s.press + 1, gap := false })
    else
      let ms := d.safe.press
      let ok := decide (0 < ms) && within d.safe.cfg.ackMin d.safe.cfg.ackMax ms
      let d := d.modSafe (fun s => { s with press := 0, gap := false })
      if !ok then d
      else match d.istate with
        | 2 => ((d.cnt F.SAFE_CNT0_ACK_EARLY).safeEvt 7 n).record .report (7 * 2 ^ 16) 0 0 false none
        | 3 => (((d.cnt F.SAFE_CNT1_ACK_CNT).safeEvt 6 n).put F.SAFE_STS_ISTATE 4).ackStreams
        | 4 => ((d.cnt F.SAFE_CNT1_ACK_CNT).safeEvt 6 n).ackActive
        | _ => d

/-! Evaluations (R376, R382). -/

/-- Is a zone active now (17 R403)? -/
def Dev.zoneActive (d : Dev) (z : SsmZone) : Bool :=
  z.always || (match z.input with | some n => d.readsSafe n | none => false)
    || (match z.strm with
        | some (j, b) => let r := tget d.safe.rx j
          r.failed || (match r.held with | (_, ws) :: _ => bitOf (bitsOf (ws.getD 3 0).toNat 15 0) b | [] => false)
        | none => false)

/-- Zone activity at an evaluation (17 R403). -/
def Dev.zoneScan (d : Dev) : Dev :=
  let m := maskOf ((d.safe.ssm.zones.filter d.zoneActive).map (·.z))
  d.modSafe (fun s => { s with zNow := m, zAcc := s.zAcc ||| m })

/-- An evaluation of both channels; every fourth is the 1 ms tick. -/
def Dev.safeEval (d : Dev) : Dev :=
  if !(d.safe.on && d.safe.run) then d
  else
    let d := d.modSafe (fun s => { s with evals := s.evals + 1 })
    let tick := d.safe.evals % 4 == 0
    let d := if tick then (Dev.each (List.range 16) Dev.tickInput d).safeTrack.tickAck else d
    let d := d.inputDemands
    let d := if tick && d.istate == 4 then d.still1.sosCheck else d
    (d.zoneScan.safeDrive).safeShow

/-- DISC_FAULT latches (R382); a latch makes the input's test fall due (R383). -/
def Dev.discLatch (n : Nat) (d : Dev) : Dev :=
  let c := d.safeIn n
  if d.safe.run = false ∨ c.typ = 0 ∨ bitOf d.safe.disc n = true ∨ tget d.safe.dcnt n < c.discT + 1 then d
  else
    let d := (d.cnt F.SAFE_CNT0_DISC_CNT).modSafe (fun s => { s with disc := setBit s.disc n true, test := tput s.test n 1 })
    (((d.safeFault 1 n (catCls c.cat) (d.axesOf c.outs)).inputDemands).safeDrive).safeShow

/-- STOP_T has passed since a demand of category 1 or 2 (Table 16.3). A protective stop's STOP_T is not given: it passes when the
command comes (log entry 61). -/
def Dev.stopExpire (src : Nat) (d : Dev) : Dev :=
  match d.safe.demands.find? (fun x => x.src == src) with
  | none => d
  | some x =>
    let due := if src < 16 then decide (x.start + 1000 * (d.safeIn src).stopT ≤ d.safeUs) else true
    if !due || x.expired || x.cat = 0 || d.istate != 4 || !d.safe.run then d
    else
      let y := { x with
        expired := true, past := if x.cat = 1 then x.outs else x.past,
        sos := if x.cat = 2 then (onesBelow 128 x.axes).map (fun n => (n, d.islandPos n)) else [] }
      let d := d.modSafe (fun s => { s with demands := s.demands.map (fun z => if z.src = src then y else z) })
      (d.sosCheck.safeDrive).safeShow

/-- An off-pulse of output k (R390): it starts when it is due and heads the queue; one that fell due while another ran or waited
starts 100 µs after the pulse ahead of it ends. -/
def Dev.offPulse (k : Nat) (d : Dev) : Dev :=
  let now := d.safeUs
  let dueK := tget d.safe.due k
  let ahead := (List.range 8).any (fun j => bitOf d.safe.outOn j && decide (tget d.safe.due j < dueK ∨ (tget d.safe.due j = dueK ∧ j < k)))
  let start := match d.safe.pulse with | some (_, _, b) => if dueK < b then b + 100 else dueK | none => dueK
  if bitOf d.safe.outOn k = false ∨ now < start ∨ ahead = true then d
  else d.modSafe (fun s => { s with
    pulse := some (k, start, start + (d.safeOut k).pulseW), due := tput s.due k (dueK + (d.safeOut k).pulseP),
    pulses := tput s.pulses k (tget s.pulses k + 1) })

/-- The SAFE clock fails (R377): while it does not run, the AON monitor holds every switch open; else LOCKOUT at once. A clock out of its range has
lost the SAFE PLL's lock (19 R437). -/
def Dev.safeClock (c : SafeClk) (d : Dev) : Dev :=
  if d.safe.on = false then d
  else match c with
    | .stopped => ((d.switchOuts 0).modSafe (fun s => { s with run := false, permit := 0 })).up F.CLK_STS_SAFE_LOCK false
    | .offFreq => (d.up F.CLK_STS_SAFE_LOCK false).lockout 0x13
    | .interval => d.lockout 0x13

/-- The SAFE clock is right again: its PLL is locked, and after the AON monitor opened the outputs of a stopped clock the island enters
LOCKOUT. -/
def Dev.safeClockBack (d : Dev) : Dev :=
  if d.safe.on = false then d
  else
    let was := d.safe.run
    let d := (d.modSafe (fun s => { s with run := true })).up F.CLK_STS_SAFE_LOCK true
    if was then d else d.lockout 0x13

/-! Commands. -/

/-- INPUT_SAMPLE (R380). -/
def execInputSample (a b : BitVec 16) (rb : BitVec 8) (s : State) : Host.Outcome State Fault Refusal :=
  onDev (Dev.inputSample a.toNat b.toNat rb.toNat) s

/-- SAFE_EVALUATION (R376). -/
def execSafeEvaluation (s : State) : Host.Outcome State Fault Refusal := onDev Dev.safeEval s

/-- DISC_FAULT (R382). -/
def execDiscFault (n : Fin 16) (s : State) : Host.Outcome State Fault Refusal := onDev (Dev.discLatch n) s

/-- STOP_T_EXPIRE (R385). -/
def execStopTExpire (src : Fin 48) (s : State) : Host.Outcome State Fault Refusal := onDev (Dev.stopExpire src) s

/-- OFF_PULSE (R390). -/
def execOffPulse (k : Fin 8) (s : State) : Host.Outcome State Fault Refusal := onDev (Dev.offPulse k) s

end Sys2Proof.Machine
end

