-- ==== Sys2Proof/Machine/Ssm.lean ====
section
/-! DEFINITION. Speed and separation monitoring, and safe messages (chapter 17). Distances and separation terms are exact; what each
channel's own number format adds to them is a free error (log entry 62). -/
namespace Sys2Proof.Machine
open Sys2Proof.Config

/-! Exact fractions: a numerator over a positive denominator. -/

/-- A fraction. -/
structure Fr where
  n : Int
  d : Nat
  deriving DecidableEq, Repr, Inhabited

/-- A whole number as a fraction. -/
def Fr.of (i : Int) : Fr := ⟨i, 1⟩

/-- The sum of two fractions. -/
def Fr.add (a b : Fr) : Fr := ⟨a.n * b.d + b.n * a.d, a.d * b.d⟩

/-- Is a fraction at most another? -/
def Fr.le (a b : Fr) : Bool := decide (a.n * b.d ≤ b.n * a.d)

/-- The smaller of two fractions. -/
def Fr.min (a b : Fr) : Fr := if a.le b then a else b

/-! Distances (R404), in units of 2^-24 µm. -/

/-- A point or a vector. -/
abbrev Pt := List Int

/-- Coordinate i. -/
def Pt.c (p : Pt) (i : Nat) : Int := p.getD i 0

/-- Vector operations on three coordinates. -/
def ptSub (a b : Pt) : Pt := (List.range 3).map (fun i => Pt.c a i - Pt.c b i)
def ptDot (a b : Pt) : Int := Pt.c a 0 * Pt.c b 0 + Pt.c a 1 * Pt.c b 1 + Pt.c a 2 * Pt.c b 2
def ptCross (a b : Pt) : Pt :=
  [Pt.c a 1 * Pt.c b 2 - Pt.c a 2 * Pt.c b 1, Pt.c a 2 * Pt.c b 0 - Pt.c a 0 * Pt.c b 2, Pt.c a 0 * Pt.c b 1 - Pt.c a 1 * Pt.c b 0]

/-- The squared distance of a point from a segment. -/
def ptSeg (x : Pt) (s : Pt × Pt) : Fr :=
  let u := ptSub s.2 s.1
  let w := ptSub x s.1
  let t := ptDot w u
  let l := ptDot u u
  if t ≤ 0 ∨ l = 0 then Fr.of (ptDot w w)
  else if l ≤ t then let w := ptSub x s.2; Fr.of (ptDot w w)
  else ⟨ptDot w w * l - t * t, l.toNat⟩

/-- The squared distance of two segments: an end point of one from the other, or the lines' where they come closest inside both. -/
def segSeg (a b : Pt × Pt) : Fr :=
  let ends := ((ptSeg a.1 b).min (ptSeg a.2 b)).min ((ptSeg b.1 a).min (ptSeg b.2 a))
  let u := ptSub a.2 a.1
  let v := ptSub b.2 b.1
  let w := ptSub b.1 a.1
  let n := ptCross u v
  let nn := ptDot n n
  let sN := ptDot (ptCross w v) n
  let tN := ptDot (ptCross w u) n
  if 0 < nn ∧ 0 ≤ sN ∧ sN ≤ nn ∧ 0 ≤ tN ∧ tN ≤ nn then ends.min ⟨ptDot w n * ptDot w n, nn.toNat⟩ else ends

/-- The squared distance of a point from a box. -/
def ptBox (x lo hi : Pt) : Fr :=
  let e := (List.range 3).map (fun i => max 0 (max (Pt.c lo i - Pt.c x i) (Pt.c x i - Pt.c hi i)))
  Fr.of (ptDot e e)

/-- A box's twelve edges. -/
def boxEdges (lo hi : Pt) : List (Pt × Pt) :=
  let at' := fun (i : Nat) (h : Bool) => if h then Pt.c hi i else Pt.c lo i
  [false, true].flatMap (fun p => [false, true].flatMap (fun q =>
    [([at' 0 false, at' 1 p, at' 2 q], [at' 0 true, at' 1 p, at' 2 q]),
     ([at' 0 p, at' 1 false, at' 2 q], [at' 0 p, at' 1 true, at' 2 q]),
     ([at' 0 p, at' 1 q, at' 2 false], [at' 0 p, at' 1 q, at' 2 true])]))

/-- Does a segment meet a box? It does at one of its ends or where it crosses a face. -/
def segMeets (s : Pt × Pt) (lo hi : Pt) : Bool :=
  let u := ptSub s.2 s.1
  let ts : List Fr := [⟨0, 1⟩, ⟨1, 1⟩] ++ (List.range 3).flatMap (fun i =>
    let k := Pt.c u i
    if k = 0 then [] else [Pt.c lo i, Pt.c hi i].map (fun c =>
      (⟨if 0 < k then c - Pt.c s.1 i else Pt.c s.1 i - c, k.natAbs⟩ : Fr)))
  ts.any (fun t => decide (0 ≤ t.n ∧ t.n ≤ t.d) && (List.range 3).all (fun i =>
    let x := Pt.c s.1 i * t.d + Pt.c u i * t.n
    decide (Pt.c lo i * t.d ≤ x ∧ x ≤ Pt.c hi i * t.d)))

/-- The squared distance of a segment from a box. -/
def segBox (s : Pt × Pt) (lo hi : Pt) : Fr :=
  if segMeets s lo hi then Fr.of 0
  else ((boxEdges lo hi).map (segSeg s)).foldl Fr.min ((ptBox s.1 lo hi).min (ptBox s.2 lo hi))

/-- A squared distance as a distance in µm less radii, never below 0; the fraction of a µm is dropped. -/
def toUm (q : Fr) (r : Nat) : Nat := isqrt 96 (q.n.toNat / q.d) / 2 ^ 24 - r

/-! Groups (R399, R401, R402). -/

/-- A coordinate at positions by axis slot, in 2^-24 µm (R401). -/
def coordAt (c : SsmCoord) (pos : List Int) : Int := (c.k.zip pos).foldl (fun a x => a + x.1 * x.2) (c.c0 * 2 ^ 24)

/-- The end points of a group's capsules, P and Q by turns. -/
def capsPts (caps : List Capsule) (pos : List Int) : List Pt :=
  caps.flatMap (fun c => [c.p.map (fun c => coordAt c pos), c.q.map (fun c => coordAt c pos)])

/-- The segments of end points, with the radii. -/
def segsOf : List Pt → List Capsule → List ((Pt × Pt) × Nat)
  | p :: q :: t, c :: cs => ((p, q), c.r) :: segsOf t cs
  | _, _ => []

/-- The newest compared value of position k of a stream not after a cycle, and its age (R402). -/
def Dev.safeAged (d : Dev) (j k cyc : Nat) : Option (Int × Nat) :=
  let r := tget d.safe.rx j
  let wd := ((d.safe.ssm.rx.find? (fun x => x.idx == j)).map (·.wd)).getD 0
  if r.failed then none
  else match r.held.find? (fun x => decide (0 ≤ cycDist x.1 cyc)) with
    | none => none
    | some (c, ws) =>
      let a := (cycDist c cyc).toNat
      if wd < a then none else (pairPos ws k).map (fun p => (p, a))

/-- The positions of one of this device's groups by axis slot, 0 for a slot with no axis, and the greatest age; none where one is missing. -/
def Dev.groupPos (d : Dev) (g cyc : Nat) (direct : List (Nat × Int)) : Option (List Int × Nat) :=
  let axs := d.traj.axes.filter (fun a => a.group == g)
  let n := axs.foldl (fun m a => max m (a.slot + 1)) 0
  (List.range n).foldl (fun acc i => match acc, axs.find? (fun a => a.slot == i) with
    | none, _ => none
    | some (ps, age), none => some (ps ++ [0], age)
    | some (ps, age), some a =>
      match direct.find? (fun x => x.1 == a.axis) with
      | some (_, p) => some (ps ++ [p], age)
      | none => match d.safeStrm a.axis with
        | some (j, k) => (d.safeAged j k cyc).map (fun x => (ps ++ [x.1], max age x.2))
        | none => none) (some ([], 0))

/-- The positions of a remote model's group. -/
def Dev.modelPos (d : Dev) (m : SsmModel) (cyc : Nat) : Option (List Int × Nat) :=
  m.src.foldl (fun acc x => match acc with
    | none => none
    | some (ps, age) => (d.safeAged x.1 x.2 cyc).map (fun y => (ps ++ [y.1], max age y.2))) (some ([], 0))

/-- A group as one SSM cycle sees it: its terms, end points, age, measured speed (mm/s), and whether a position is missing. -/
structure SsmView where
  t : SsmGroup
  own : Bool
  pts : List Pt
  age : Nat
  vM : Fr
  miss : Bool
  deriving DecidableEq, Repr, Inhabited

/-- The largest displacement of an end point, in 2^-24 µm. -/
def displacement (a b : List Pt) : Nat :=
  (a.zip b).foldl (fun m x => let e := ptSub x.1 x.2; max m (isqrt 96 (ptDot e e).toNat)) 0

/-- v_m (R399): free while there is only one snapshot. The index is the group, 16 + r for remote model r. -/
def Dev.ssmSpeed (i : Nat) (pts : List Pt) (now : Nat) (d : Dev) : Fr × Dev :=
  let s := tget d.safe.grp i
  let (v, d) := match s.pts with
    | some old => ((⟨(displacement pts old : Nat) * 10 ^ 6, 2 ^ 24 * max 1 (now - s.at_)⟩ : Fr), d)
    | none => let (x, d) := d.drawW; (Fr.of (x : Nat), d)
  (v, d.modSafe (fun z => { z with grp := tmod z.grp i (fun x => { x with pts := some pts, at_ := now }) }))

/-- The views of every monitored group and remote model. -/
def Dev.ssmViews (d : Dev) : List SsmView × Dev :=
  match d.safe.snap with
  | none => ([], d)
  | some (cyc, _, now, direct) =>
    let one := fun (i : Nat) (t : SsmGroup) (own : Bool) (p : Option (List Int × Nat)) (a : List SsmView × Dev) =>
      match p with
      | none => (a.1 ++ [⟨t, own, [], 0, Fr.of 0, true⟩], a.2)
      | some (ps, age) =>
        let pts := capsPts t.caps ps
        let (v, d) := a.2.ssmSpeed i pts now
        (a.1 ++ [⟨t, own, pts, age, v, false⟩], d)
    let a := d.safe.ssm.groups.foldl (fun a t => one t.g t true (a.2.groupPos t.g cyc direct) a) (([] : List SsmView), d)
    d.safe.ssm.models.zipIdx.foldl (fun a m => one (16 + m.2) m.1.terms false (a.2.modelPos m.1 cyc) a) a

/-! The protective separation distance (R398, R399, R405). -/

/-- v_r for a reaction time in µs. -/
def SsmView.vR (x : SsmView) (tb tR : Nat) : Fr := x.vM.add ⟨x.t.aG * (16 * tb + 1000 * tR), 10 ^ 9⟩

/-- s·V_REF for s in 2^-15. -/
def SsmView.vAt (x : SsmView) (s : Nat) : Fr := ⟨s * x.t.vRef, 2 ^ 15⟩

/-- S_r + S_s + Z_r at a speed, in µm. -/
def SsmView.need (x : SsmView) (tb tR : Nat) (v : Fr) : Fr :=
  let sr : Fr := ⟨v.n * tR, 1000 * v.d⟩
  let ss : Fr := Fr.add ⟨v.n * x.t.tJ, 2000 * v.d⟩ ⟨500 * v.n * v.n, max 1 x.t.dS * v.d * v.d⟩
  (sr.add ss).add (Fr.add (Fr.of x.t.zR) ⟨x.t.vRef * x.age * tb, 10 ^ 6⟩)

/-- S_p at a speed against a zone (R398). -/
def SsmView.spZone (x : SsmView) (tb : Nat) (z : SsmZone) (v : Fr) : Fr :=
  let tR := x.t.tRG + z.tZ
  let sh : Fr := ⟨z.vH * ((tR + x.t.tJ : Nat) * max 1 x.t.dS * v.d + 10 ^ 6 * v.n), 1000 * max 1 x.t.dS * v.d⟩
  (sh.add (x.need tb tR v)).add (Fr.of (z.c + z.zD : Nat))

/-- S_pair (R405). -/
def spPair (x y : SsmView) (tb c : Nat) (vx vy : Fr) : Fr :=
  ((x.need tb x.t.tRG vx).add (y.need tb y.t.tRG vy)).add (Fr.of (c : Nat))

/-- The largest s in 2^-15 up to 1 at which a condition that fails from some speed on still holds; 0 where it holds at none (R406). -/
def largestS (ok : Nat → Bool) : Nat :=
  if ok (2 ^ 15) then 2 ^ 15
  else (List.range 15).foldl (fun s i => if ok (s + 2 ^ (14 - i)) then s + 2 ^ (14 - i) else s) 0

/-- What one source gives a group: its SRC code, d of both channels, s of both, whether a channel stops, and whether it is clear. -/
structure SsmSrc where
  code : Nat
  dA : Nat
  dB : Nat
  sA : Nat
  sB : Nat
  stop : Bool
  clear : Bool
  deriving DecidableEq, Repr, Inhabited

/-- A source from its two distances, S_p(v_r), S_p at s, and M_W. -/
def ssmSrc (code dA dB mW : Nat) (spR : Fr) (spS : Nat → Fr) : SsmSrc :=
  let sOf := fun (dd : Nat) => largestS (fun s => ((spS s).add (Fr.of (mW : Nat))).le (Fr.of dd))
  let dm := min dA dB
  ⟨code, dA, dB, sOf dA, sOf dB, !spR.le (Fr.of dm), (spR.add (Fr.of (mW : Nat))).le (Fr.of dm)⟩

/-- The two channels' distances: A's error is free, B's is a lower bound (R404); 0 where a position is missing. -/
def Dev.ssmDist (exact : Nat) (miss : Bool) (d : Dev) : (Nat × Nat) × Dev :=
  if miss then ((0, 0), d)
  else
    let (ea, d) := d.drawW
    let (eb, d) := d.drawW
    ((((exact : Int) + sInt 32 ea).toNat, exact - eb), d)

/-- The distance between two lists of capsule segments, in µm. -/
def capsDist (a b : List ((Pt × Pt) × Nat)) : Nat :=
  let l := a.flatMap (fun x => b.map (fun y => toUm (segSeg x.1 y.1) (x.2 + y.2)))
  l.foldl min (l.headD 0)

/-- The distance between capsule segments and a box, in µm. -/
def boxDist (a : List ((Pt × Pt) × Nat)) (z : SsmZone) : Nat :=
  let um := fun (l : List Int) => l.map (· * 2 ^ 24)
  let l := a.map (fun x => toUm (segBox x.1 (um z.lo) (um z.hi)) x.2)
  l.foldl min (l.headD 0)

/-- GRP of a group: node ID·16 + g for one of this device's (13 R314). -/
def Dev.viewGrp (d : Dev) (x : SsmView) : Nat := if x.own then 16 * d.nodeId + x.t.g else x.t.g

/-- Every source of every own group in this SSM cycle. -/
def Dev.ssmSources (views : List SsmView) (d : Dev) : List (Nat × SsmSrc) × Dev :=
  let tb := d.time.tb
  let zones := views.filter (·.own) |>.flatMap (fun x =>
    (d.safe.ssm.zones.filter (fun z => bitOf x.t.zones z.z && bitOf d.safe.zFrozen z.z)).map (fun z => (x, z)))
  let a := zones.foldl (fun (a : List (Nat × SsmSrc) × Dev) xz =>
    let (x, z) := xz
    let (dd, d) := a.2.ssmDist (boxDist (segsOf x.pts x.t.caps) z) x.miss
    (a.1 ++ [(x.t.g, ssmSrc z.z dd.1 dd.2 x.t.mW (x.spZone tb z (x.vR tb (x.t.tRG + z.tZ))) (fun s => x.spZone tb z (x.vAt s)))], d)) ([], d)
  d.safe.ssm.pairs.foldl (fun (a : List (Nat × SsmSrc) × Dev) p =>
    match views.find? (fun x => d.viewGrp x == p.g1), views.find? (fun x => d.viewGrp x == p.g2) with
    | some x, some y =>
      let (dd, d) := a.2.ssmDist (capsDist (segsOf x.pts x.t.caps) (segsOf y.pts y.t.caps)) (x.miss || y.miss)
      let mW := max (if x.own then x.t.mW else 0) (if y.own then y.t.mW else 0)
      let src := ssmSrc (0x20 + p.p) dd.1 dd.2 mW (spPair x y tb p.c (x.vR tb x.t.tRG) (y.vR tb y.t.tRG))
        (fun s => spPair x y tb p.c (x.vAt s) (y.vAt s))
      (a.1 ++ (if x.own then [(x.t.g, src)] else []) ++ (if y.own then [(y.t.g, src)] else []), d)
    | _, _ => a) a

/-! The result (R406 to R411). -/

/-- |a - b|. -/
def absDiff (a b : Nat) : Nat := (a - b) + (b - a)

/-- A group's result: SCALE_LIM, stops, envelope and mirror. -/
def Dev.ssmGroup (active : Bool) (x : SsmView) (srcs : List SsmSrc) (d : Dev) : Dev :=
  let g := x.t.g
  let best := srcs.foldl (fun (m : Option SsmSrc) s => match m with
    | none => some s
    | some b => if min s.sA s.sB < min b.sA b.sB then some s else some b) none
  let lim := if !d.safe.ssmFull then 0 else match best with | some b => min b.sA b.sB | none => 2 ^ 15
  let st := tget d.safe.grp g
  let viol := decide (((st.sEnv * x.t.vRef + 2 ^ 15 * x.t.vTol : Nat) : Int) * x.vM.d < x.vM.n * 2 ^ 15) && !x.miss
  let cause := x.miss || srcs.any (·.stop)
  let ok := !x.miss && srcs.all (·.clear)
  let axes := maskOf (d.groupAxes g)
  let d := d.modSafe (fun s => { s with grp := tmod s.grp g (fun y => { y with
    sEnv := min (2 ^ 15) (max lim (y.sEnv - x.t.ramp)), clear := if ok then min 255 (y.clear + 1) else 0,
    sviol := y.sviol || (viol && active) }) })
  let d := if active && cause && !d.demanded (16 + g)
    then (d.demand (16 + g) x.t.cat (d.outsOf axes) axes x.t.manual).safeFault 0x20 g (catCls x.t.cat) axes else d
  let d := if active && viol && !st.sviol
    then (d.demand (32 + g) 1 (d.outsOf axes) axes true).safeFault 0x21 g 2 axes else d
  let d := d.put (F.TRAJ_G_SCALE_SCALE_LIM g) lim
  let d := (d.put (F.SAFE_SSM_STS_SLIM g) lim).put (F.SAFE_SSM_STS_SRC g) (match best with | some b => b.code | none => 0xFF)
  let d := d.up (F.SAFE_SSM_STS_MISS g) x.miss
  let d := if x.miss then let (v, d) := d.draw (2 ^ 16); d.put (F.SAFE_SSM_VM_V_M g) v
    else d.put (F.SAFE_SSM_VM_V_M g) (min 65535 (x.vM.n / x.vM.d).toNat)
  match srcs with
  | [] => let (v, d) := d.drawW; d.put (F.SAFE_SSM_DMIN_DMIN g) v
  | s :: t =>
    let dA := (s :: t).foldl (fun m y => min m y.dA) s.dA
    let dB := (s :: t).foldl (fun m y => min m y.dB) s.dB
    d.put (F.SAFE_SSM_DMIN_DMIN g) (min dA dB)

/-- The least of a value over a group's sources. -/
def ssmLeast (f : SsmSrc → Nat) (s : SsmSrc) (t : List SsmSrc) : Nat := t.foldl (fun m y => min m (f y)) (f s)

/-- DIFF shows |d_A − d_B| of the cycle (Table 17.7). -/
def Dev.ssmDiff (g : Nat) (srcs : List SsmSrc) (d : Dev) : Dev :=
  match srcs with
  | [] => d
  | s :: t => d.put (F.SAFE_SSM_VM_DIFF g) (min 65535 (absDiff (ssmLeast (·.dA) s t) (ssmLeast (·.dB) s t)))

/-- Do the channels' results for a group differ beyond tolerance (R411)? Before the first full cycle in ACTIVE both have s_lim 0 (R406). -/
def Dev.ssmDiffers (d : Dev) (full : Bool) (srcs : List SsmSrc) : Bool :=
  match srcs with
  | [] => false
  | s :: t => decide (d.safe.ssm.dTol < absDiff (ssmLeast (·.dA) s t) (ssmLeast (·.dB) s t))
      || (full && decide (d.safe.ssm.sTol < absDiff (ssmLeast (·.sA) s t) (ssmLeast (·.sB) s t)))

/-- The result of the SSM cycle whose snapshot waits: channels that differ for a group go to LOCKOUT and nothing else comes of it (R411). -/
def Dev.ssmResult (d : Dev) : Dev :=
  match d.safe.snap with
  | none => d
  | some (_, was, _, _) =>
    if !(d.safe.on && d.safe.run) then d
    else
      let active := d.istate == 4
      let (views, d) := d.ssmViews
      let (srcs, d) := d.ssmSources views
      let own := views.filter (·.own)
      let of := fun (x : SsmView) => (srcs.filter (fun s => s.1 == x.t.g)).map (·.2)
      let full := d.safe.ssmFull || (was && active)
      let d := Dev.each own (fun x d => d.ssmDiff x.t.g (of x)) d
      match own.find? (fun x => d.ssmDiffers full (of x)) with
      | some x => (d.modSafe (fun s => { s with snap := none })).lockoutAt 0x22 x.t.g
      | none =>
        let d := d.modSafe (fun s => { s with snap := none, ssmFull := full })
        ((Dev.each own (fun x d => d.ssmGroup active x (of x)) d).safeDrive).safeShow

/-- An automatic protective stop ends after RESUME_N clear cycles (R408). -/
def Dev.pstopEnd (g : Nat) (d : Dev) : Dev :=
  match d.safe.ssm.groups.find? (fun c => c.g == g) with
  | none => d
  | some c =>
    if d.safe.run && d.demanded (16 + g) && !c.manual && decide (c.resumeN ≤ (tget d.safe.grp g).clear)
    then ((d.demandEnd (16 + g)).safeDrive).safeShow else d

/-- The SSM event (R410): direct positions are taken and zone activity is frozen. -/
def Dev.ssmSnap (d : Dev) : Dev :=
  if !(d.safe.on && d.safe.run) || d.time.cycPh % 16 != 0 || d.safe.ssm.groups.isEmpty then d
  else
    let gs := d.safe.ssm.groups.map (·.g)
    let direct := (d.traj.axes.filter (fun a => gs.contains a.group)).filterMap (fun a => match a.src with
      | .chan c => some (a.axis, d.gets (F.FB_QLAT_LAT c))
      | .enc j => some (a.axis, d.gets (F.FB_ENCLAT_LAT j))
      | _ => none)
    d.modSafe (fun s => { s with
      snap := some (d.time.cycno, d.istate == 4, d.upAt d.time.cycStart, direct), zFrozen := s.zAcc, zAcc := 0 })

/-! Safe messages (R412 to R416). -/

/-- The IEEE 802.3 CRC-32 of plane B (R412). -/
def crc32 (bs : List Byte) : Nat :=
  Nat.xor (reflect 32 (crcBits 32 0x04C11DB7 0xFFFFFFFF (bs.flatMap byteBitsR))) 0xFFFFFFFF

/-- The CRC of a plane over payload words. -/
def planeCrc (b : Bool) (ws : List Word) : Word :=
  let bs := ws.flatMap (fun w => leBytes 4 w.toNat)
  BitVec.ofNat 32 (if b then crc32 bs else crc32c bs)

/-- The position a sender puts in a slot: latched now, or the compared value of this cycle; none: not valid (R413). -/
def Dev.sendPos (d : Dev) (n : Nat) : Option Int :=
  match d.srcOf n with
  | .chan c => some (d.gets (F.FB_QLAT_LAT c))
  | .enc j => some (d.gets (F.FB_ENCLAT_LAT j))
  | _ => match d.safeStrm n with
    | some (j, k) => match (tget d.safe.rx j).held.find? (fun x => x.1 == d.time.cycno) with
      | some (_, ws) => if (tget d.safe.rx j).failed then none else pairPos ws k
      | none => none
    | none => none

/-- Each sending channel builds its copy at CYC_START (R413). The word of a position that is not valid is free. -/
def Dev.smsgBuild (d : Dev) : Dev :=
  if !(d.safe.on && d.safe.run) then d
  else Dev.each d.safe.ssm.tx (fun t d =>
      let n := t.axes.length
      let ps := t.axes.map d.sendPos
      let valid := (ps.zipIdx).foldl (fun m x => if x.1.isSome then setBit m x.2 true else m) 0
      let (ws, d) := ps.foldl (fun (a : List Word × Dev) p => match p with
        | some v => (a.1 ++ [BitVec.ofInt 32 v], a.2)
        | none => let (x, d) := a.2.drawW; (a.1 ++ [BitVec.ofNat 32 x], d)) ([], d)
      let body := fun (b : Bool) =>
        let seq := if b then 2 ^ 32 - 1 - tget d.safe.txSeq (t.stream + 1) % 2 ^ 32 else tget d.safe.txSeq t.stream
        let h := [BitVec.ofNat 32 (0x01000000 + (if b then 2 else 1) * 2 ^ 22 + n), BitVec.ofNat 32 seq, BitVec.ofNat 32 d.time.cycno,
          BitVec.ofNat 32 (t.safeId * 2 ^ 16 + d.safe.zNow % 2 ^ 16), BitVec.ofNat 32 valid, BitVec.ofNat 32 (valid / 2 ^ 32)] ++ ws
        h ++ [planeCrc b h]
      d.modSafe (fun s => { s with txBuf := tput s.txBuf t.idx (body false, body true) })) d

/-- A copy goes out in its slot: SEQ of its plane moves on. -/
def Dev.smsgSent (stream : Nat) (d : Dev) : Dev :=
  d.modSafe (fun s => { s with txSeq := tput s.txSeq stream (tget s.txSeq stream + 1) })

/-- The payload of a safe-message slot. -/
def Dev.smsgBody (d : Dev) (stream : Nat) : Option (List Word) :=
  match d.safe.ssm.tx.find? (fun t => t.stream == stream || t.stream + 1 == stream) with
  | some t => match d.safe.txBuf.find? (fun x => x.1 == t.idx) with
    | some (_, a, b) => some (if t.stream = stream then a else b)
    | none => none
  | none => none

/-- The mirror of stream j. -/
def Dev.smsgShow (j : Nat) (d : Dev) : Dev :=
  let r := tget d.safe.rx j
  let d := (d.put (F.SAFE_SMSG_STS_MISS_S j) (min 255 r.miss)).up (F.SAFE_SMSG_STS_NODISJ j) r.nodisj
  let d := (d.up (F.SAFE_SMSG_STS_MISMATCH j) r.mism).up (F.SAFE_SMSG_STS_WD j) r.wd
  let d := d.up (F.SAFE_SMSG_STS_GOOD j) (!r.failed)
  match r.held with
  | (c, _) :: _ => d.put (F.SAFE_SMSG_LATCH_LATCH_CYC j) c
  | [] => d

/-- Change a received stream. -/
def Dev.modRx (j : Nat) (f : SmsgRx → SmsgRx) (d : Dev) : Dev := d.modSafe (fun s => { s with rx := tmod s.rx j f })

/-- A copy delivered here (R414): the plane check, then the sequence check. -/
def Dev.smsgTake (src stream : Nat) (body : List Word) (d : Dev) : Dev :=
  match d.safe.ssm.rx.find? (fun r => r.node == src && (r.stream == stream || r.stream + 1 == stream)) with
  | none => d
  | some c =>
    let b := c.stream != stream
    let n := c.axes.length
    let ws := body.take (6 + n)
    let w0 := (ws.getD 0 0).toNat
    let good := decide (7 + n ≤ body.length) && planeCrc b ws == body.getD (6 + n) 0
      && bitsOf w0 31 22 == 4 + (if b then 2 else 1) && bitsOf w0 5 0 == n && bitsOf (ws.getD 3 0).toNat 31 16 == c.safeId
    if !(d.safe.on && d.safe.run) || !good then d
    else
      let r := tget d.safe.rx c.idx
      let seq := (ws.getD 1 0).toNat
      let fresh := match (if b then r.lastB else r.lastA) with
        | none => true
        | some l => let x := if b then (l + 2 ^ 32 - seq) % 2 ^ 32 else (seq + 2 ^ 32 - l) % 2 ^ 32; within 1 (2 ^ 31 - 1) x
      if fresh then d.modRx c.idx (fun r =>
        if b then { r with lastB := some seq, newB := r.newB ++ [ws] } else { r with lastA := some seq, newA := r.newA ++ [ws] })
      else (((d.cnt (F.SAFE_SMSG_CNT0_REPLAY c.idx)).safeEvt 0x26 c.idx).record .report (0x26 * 2 ^ 16) 0 0 false none)

/-- A sender without a disjoint route puts its streams into their safe state (R416). -/
def Dev.smsgNodisj (d : Dev) : Dev :=
  if !(d.safe.on && d.safe.run) then d
  else Dev.each d.safe.ssm.rx (fun c d =>
    if bitOf (d.rd R.LINK_NODISJ).toNat c.node && !(tget d.safe.rx c.idx).nodisj then
      ((d.modRx c.idx (fun r => { r with nodisj := true })).safeEvt 0x25 c.idx).smsgShow c.idx
    else d) d

/-- The comparison of one stream at a CYC_START (R414, R415). -/
def Dev.smsgCompare1 (c : SafeStream) (d : Dev) : Dev :=
  let r := tget d.safe.rx c.idx
  let pairs := if r.nodisj then [] else r.newA.flatMap (fun a => (r.newB.filter (fun b => b.getD 2 0 == a.getD 2 0)).map (fun b => (a, b)))
  let goods := (pairs.filter (fun p => p.1.drop 2 == p.2.drop 2)).map (fun p => ((p.1.getD 2 0).toNat, p.1))
  let bad := goods.length < pairs.length
  let fresh := !goods.isEmpty
  let r1 := { r with
    newA := [], newB := [], held := (goods.reverse ++ r.held).take 24,
    miss := if fresh then 0 else r.miss + 1, run := if fresh then r.run + 1 else 0,
    lastGood := if pairs.isEmpty then r.lastGood else !bad, mism := r.mism || bad }
  let r2 := { r1 with wd := r1.wd && decide (r1.run < 16) }
  let d := d.modRx c.idx (fun _ => r2)
  let d := if fresh then d else d.cnt (F.SAFE_SMSG_CNT0_MISSED c.idx)
  let d := if bad then (d.cnt (F.SAFE_SMSG_CNT1_MISMATCHES c.idx)).safeEvt 0x23 c.idx else d
  d.smsgShow c.idx

/-- The comparison of every stream (R414). -/
def Dev.smsgCompare (d : Dev) : Dev :=
  if !(d.safe.on && d.safe.run) then d else Dev.each d.safe.ssm.rx Dev.smsgCompare1 d.smsgNodisj

/-- MISS_S reaches SAFE_WD (R415). -/
def Dev.smsgWd (j : Nat) (d : Dev) : Dev :=
  match d.safe.ssm.rx.find? (fun c => c.idx == j) with
  | none => d
  | some c =>
    let r := tget d.safe.rx j
    if r.wd || decide (r.miss < c.wd) then d
    else (((d.modRx j (fun r => { r with wd := true, run := 0 })).cnt (F.SAFE_SMSG_CNT1_WDS j)).safeEvt 0x24 j).smsgShow j

/-! The separation records' checks (R379, R400, R412, R418). -/

/-- Has a group record a field out of its range? -/
def ssmGroupBad (x : SsmGroup) : Bool :=
  !within 1 10000 x.vRef || !within 0 200000 x.aG || !within 100 200000 x.dS || !within 0 100000 x.tJ
    || !within 0 100000 x.tRG || !within 0 100000 x.zR || !within 0 500000 x.mW || !within 0 1000 x.vTol
    || !within 1 0x8000 x.ramp || !within 0 2 x.cat || !within 1 255 x.resumeN || !within 1 12 x.caps.length
    || x.caps.any (fun c => decide (1000000 < c.r))

/-- Is a REC_ID one of Tables 16.2 and 17.5? -/
def safeRecId (i : Nat) : Bool :=
  [1, 0x10, 0x300, 0x400, 0x401].contains i || within 0x100 0x10F i || within 0x200 0x207 i || within 0x410 0x41F i
    || within 0x500 0x50F i || within 0x600 0x61F i || within 0x700 0x71F i || within 0x780 0x78F i

/-- The records with REC_IDs base to base + n - 1 that the section has, by index: what an opaque reading gives for each, or its default. -/
def recIdx {α : Type} [Inhabited α] (rs : List Rec) (base n : Nat) (of : Nat → Option α) : List (Nat × α) :=
  (List.range n).filterMap (fun i => (devRec rs (base + i)).map (fun _ => (i, (of i).getD default)))

/-- The separation records (Table 17.5), one for each that the section has; a zone's box is words 0 to 5 in the layout of 13 Table 13.1
(R403). The places of the other fields are not given (log entry 6). -/
def ssmParse (rs : List Rec) : SsmCfg :=
  let c := ssmCfg rs
  let w := fun (z i : Nat) => sInt 32 (Rec.w ((devRec rs (0x500 + z)).getD default) i)
  { c with
    groups := c.groups.filter (fun x => rs.any (fun r => r.recId == 0x400 && r.index == x.g) && decide (x.g < 16))
    models := (recIdx rs 0x410 16 (fun i => c.models[i]?)).map (·.2)
    zones := (recIdx rs 0x500 16 (fun z => c.zones.find? (fun x => x.z == z))).map (fun x =>
      { x.2 with z := x.1, lo := [w x.1 0, w x.1 2, w x.1 4], hi := [w x.1 1, w x.1 3, w x.1 5] })
    pairs := (recIdx rs 0x600 32 (fun p => c.pairs.find? (fun x => x.p == p))).map (fun x => { x.2 with p := x.1 })
    rx := (recIdx rs 0x700 32 (fun j => c.rx.find? (fun x => x.idx == j))).map (fun x => { x.2 with idx := x.1 })
    tx := (recIdx rs 0x780 16 (fun t => c.tx.find? (fun x => x.idx == t))).map (fun x => { x.2 with idx := x.1 }) }

/-- Is GRP outside node ID·16 + g (13 R314)? -/
def grpBad (g : Nat) : Bool := decide (512 ≤ g)

/-- Do the separation records fail the checks that concern them alone (R379, R418)? -/
def ssmOwnBad (rs : List Rec) : Bool :=
  let c := ssmParse rs
  rs.any (fun r => !safeRecId r.recId)
  || ((!c.groups.isEmpty || (devRec rs 0x10).isSome) && (!within 10 10000 c.dTol || !within 1 0x1000 c.sTol))
  || c.groups.any ssmGroupBad
  || c.models.any (fun m => ssmGroupBad m.terms || grpBad m.terms.g || m.src.any (fun x => decide (32 ≤ x.1 ∨ 57 ≤ x.2)))
  || c.zones.any (fun z => !within 1600 4000 z.vH || decide (2000000 < z.c) || decide (2000000 < z.zD) || decide (1000000 < z.tZ)
      || z.input.any (fun n => decide (16 ≤ n)) || z.strm.any (fun x => decide (32 ≤ x.1 ∨ 16 ≤ x.2)))
  || c.pairs.any (fun p => decide (2000000 < p.c) || grpBad p.g1 || grpBad p.g2)
  || c.rx.any (fun r => !within 1 6 r.wd || decide (57 < r.axes.length) || r.stream % 2 == 1 || decide (32 ≤ r.node))
  || c.tx.any (fun t => decide (57 < t.axes.length) || t.stream % 2 == 1 || decide (32 ≤ t.node) || t.axes.any (fun a => decide (128 ≤ a)))

/-- Do they fail a check against the LINK section's Tb: T_RG (R400), and safe streams (R412)? -/
def ssmTbBad (c : SsmCfg) (tb : Nat) : Bool :=
  (c.groups ++ c.models.map (·.terms)).any (fun x => decide (1000 * x.tRG < 33 * tb))
  || ((!c.rx.isEmpty || !c.tx.isEmpty) && decide (tb < 31250))

/-- The SAFE section is accepted (R54, R378): its parameters, what they show, and SCALE_LIM 0 for each monitored group (R406). -/
def Dev.safeAccept (cfg : SafeCfg) (ssm : SsmCfg) (blank : Bool) (hash : List Byte) (d : Dev) : Dev :=
  let d := d.modSafe (fun s => { s with cfg := cfg, ssm := ssm, accepted := true, blank := blank, keyHash := hash })
  let d := Dev.each ssm.groups (fun c d =>
    ((d.up (F.SAFE_SSM_STS_MON c.g) true).put (F.TRAJ_G_SCALE_SCALE_LIM c.g) 0).modSafe (fun s => { s with
      grp := tput s.grp c.g { (default : SsmGrp) with sEnv := 2 ^ 15 } })) d
  let d := Dev.each ssm.rx (fun c d => (d.put (F.SAFE_SMSG_STS_STREAM c.idx) c.stream).up (F.SAFE_SMSG_STS_GOOD c.idx) true) d
  d.leaveInit

/-! Commands (SSM_RESULT, which may enter LOCKOUT, is with the event log). -/

/-- PSTOP_END (R408). -/
def execPstopEnd (g : Fin 16) (s : State) : Host.Outcome State Fault Refusal := onDev (Dev.pstopEnd g) s

/-- SAFE_MSG_RECEIVE (R414). -/
def execSafeMsgReceive (p : Fin 8) (f : Frame) (stamp : Nat) (s : State) : Host.Outcome State Fault Refusal :=
  onDev (fun d =>
    let (d, here) := d.frameIn p f stamp
    if here && f.typ == 6 then d.smsgTake f.src f.stream f.body else d) s

/-- SMSG_WD (R415). -/
def execSmsgWd (j : Fin 32) (s : State) : Host.Outcome State Fault Refusal := onDev (Dev.smsgWd j) s

end Sys2Proof.Machine
end

