-- ==== Sys2Proof/Machine/Red.lean ====
section
/-! DEFINITION. Active and standby operation (chapter 18): the private link, roles, the state copy, giving up control, takeover,
quarantine and drills. -/
namespace Sys2Proof.Config
open Sys2Proof.Machine

/-- The critical copy as the payloads of its 24 STATE frames (18 R424 gives their size and no layout; log entry 6). -/
opaque redPack : RedCopy → List (List Word)

/-- The copy that 24 STATE payloads spell. -/
opaque redUnpack : List (List Word) → RedCopy

/-- A bulk item of kinds 3 to 5 as words, by kind, and what the words spell (18 R425). -/
opaque redItemPack : Nat → RedItem → List Word
opaque redItemUnpack : Nat → List Word → RedItem

/-- A CHUNK 0xFF payload and what it spells (18 R425). -/
opaque redKnotsPack : RedKnots → List Word
opaque redKnotsUnpack : List Word → RedKnots

/-- The payload of a HELLO or ACK of a unit in a role, with whether a DRILL frame and whether a patch have arrived there, and what a payload spells
(18 Table 18.2 gives none; log entries 6 and 89). -/
opaque redHello : Nat → Bool → Bool → List Word
opaque redHelloRole : List Word → Nat
opaque redHelloDrill : List Word → Bool
opaque redHelloPatch : List Word → Bool

end Sys2Proof.Config

namespace Sys2Proof.Machine
open Sys2Proof.Config

def Dev.modRed (f : RedSt → RedSt) (d : Dev) : Dev := { d with red := f d.red }

/-- ROLE (Table 18.3): 0 OFF, 1 LISTEN, 2 ACTIVE, 3 SYNCING, 4 STANDBY, 5 QUARANTINE, 6 RELINQUISHED. -/
def Dev.redRole (d : Dev) : Nat := d.get F.RED_STS_ROLE

/-- LINK_UP. -/
def Dev.redUp (d : Dev) : Bool := d.flag F.RED_STS_LINK_UP

/-! The RED record (R420). -/

/-- Chunks of an item: 4 KiB each. -/
def redChunks (len : Nat) : Nat := (len + 4095) / 4096

/-- The items with their first chunk. -/
def RedCfg.items' (c : RedCfg) : List (Nat × (Nat × Nat × Nat)) :=
  (c.items.foldl (fun (r : List (Nat × (Nat × Nat × Nat)) × Nat) i => (r.1 ++ [(r.2, i)], r.2 + redChunks i.2.2)) ([], 0)).1

/-- Chunks of a rotation. -/
def RedCfg.total (c : RedCfg) : Nat := c.items.foldl (fun n i => n + redChunks i.2.2) 0

/-- The RED record that a section's records spell (Table 18.1). -/
def redCfg (rs : List Rec) : RedCfg :=
  match rs.find? (fun r => r.recId == 1) with
  | none => default
  | some r =>
    let w := fun i => (r.words.getD i 0).toNat
    { en := bitOf (w 0) 31, primary := bitOf (w 0) 30, partner := bitsOf (w 0) 20 16, shared := bitsOf (w 0) 15 0,
      items := (List.range (bitsOf (w 1) 15 0)).map (fun i =>
        (bitsOf (w (2 + 2 * i)) 31 28, bitsOf (w (2 + 2 * i)) 3 0, w (3 + 2 * i))) }

/-- Does a shared group contain a direct axis (R420)? -/
def redDirectBad (c : RedCfg) (axes : List AxisCfg) : Bool :=
  axes.any (fun a => bitOf c.shared a.group && decide (a.axis < 32))

/-- The linked axes of the shared groups. -/
def Dev.sharedAxes (d : Dev) : List Nat :=
  (d.traj.axes.filter (fun a => bitOf d.red.cfg.shared a.group && decide (32 ≤ a.axis))).map (·.axis)

/-- The shared groups. -/
def Dev.sharedGroups (d : Dev) : List Nat := onesBelow 16 d.red.cfg.shared

/-! Frames (R422, Table 18.2). -/

/-- A frame of the private link with its CRC-32C. -/
def redFrame (typ chunk cyc claim : Nat) (p : List Word) : List Word :=
  let h := [BitVec.ofNat 32 (typ * 2 ^ 28 + chunk % 256 * 2 ^ 16 + p.length % 2 ^ 16), BitVec.ofNat 32 cyc, BitVec.ofNat 32 claim] ++ p
  h ++ [BitVec.ofNat 32 (crc32c (h.flatMap (fun w => leBytes 4 w.toNat)))]

/-- Is the CRC of a frame of LEN payload words good? -/
def redGood (ws : List Word) : Bool :=
  decide (ws.length = (ws.getD 0 0).toNat % 2 ^ 16 + 4) &&
    (ws.getD (ws.length - 1) 0).toNat == crc32c ((ws.take (ws.length - 1)).flatMap (fun w => leBytes 4 w.toNat))

/-- The two bonded lanes' shares of a run of symbols: even ones on REDL0, odd ones on REDL1 (R422). -/
def redStripe {α : Type} : List α → List α × List α
  | [] => ([], [])
  | x :: xs => let (a, b) := redStripe xs; (x :: b, a)

/-- What the two lanes' shares carry together. -/
def redMerge {α : Type} : List α → List α → List α
  | x :: a, y :: b => x :: y :: redMerge a b
  | a, [] => a
  | [], b => b

/-- A frame goes out, its CYCNO the present one. -/
def Dev.redSend (typ : Nat) (p : List Word) (d : Dev) : Dev :=
  if d.redUp && !d.red.txOff then
    d.modRed (fun r => { r with out := r.out ++ [redFrame typ 0 d.time.cycno (d.get F.RED_CLAIM_CLAIM) p] })
  else d

/-- What a HELLO or ACK of this unit says. -/
def Dev.redSays (d : Dev) : List Word := redHello d.redRole d.red.drillIn.isSome d.upd.peerPatch.isSome

/-- A frame arrives (R422): the second component is its CHUNK, CYCNO and payload when its CRC is good. -/
def Dev.redIn (typ : Nat) (ws : List Word) (t : Nat) (d : Dev) : Dev × Option (Nat × Nat × List Word) :=
  let d := (d.runTo t).modRed (fun r => { r with out := [] })
  if !d.redUp || !d.red.cfg.en then (d, none)
  else if redGood ws then
    let w0 := (ws.getD 0 0).toNat
    let d := d.modRed (fun r => { r with good := true })
    (d, if bitsOf w0 31 28 = typ then some (bitsOf w0 23 16, (ws.getD 1 0).toNat, (ws.drop 3).take (bitsOf w0 15 0)) else none)
  else (d.cnt F.RED_CNT0_LINK_CRC, none)

/-- A REDL lane aligns or loses alignment (R422): the link is up on both lanes; a copy that is streaming is cut. -/
def Dev.redLane (l : Nat) (up : Bool) (d : Dev) : Dev :=
  let lanes := setBit d.red.lanes l up
  let d := d.modRed (fun r => { r with
    lanes := lanes
    cut := r.cut || (!up && (match r.sendAt with | some t => decide (d.nowNs < t + 26000) | none => false)) })
  d.up F.RED_STS_LINK_UP (lanes == 3)

/-! Roles (R423, R426). -/

/-- A unit takes a role; leaving ACTIVE ends a late copy, leaving STANDBY drops a drill that has arrived, entering SYNCING starts the copy anew; the watchdog of an
active unit runs from there. -/
def Dev.redTo (role : Nat) (d : Dev) : Dev :=
  let d := (d.put F.RED_STS_ROLE role).modRed (fun r => { r with wdAt := d.upNs })
  let d := if role ≠ 4 then d.modRed (fun r => { r with drillIn := none, takeDue := false }) else d
  let d := if role ≠ 2 then ((d.causeOff .snapLate 0).modRed (fun r => { r with drillD := none, sendAt := none, cut := false })).up F.RED_STS_DRILL_PEND false else d
  if role = 3 then d.modRed (fun r => { r with copies := 0, rot := [] }) else d

/-- ENTER_RUN: a unit with EN 1 enters LISTEN. -/
def Dev.redStart (d : Dev) : Dev :=
  if d.red.cfg.en then (d.redTo 1).modRed (fun r => { r with listen := 0, hello := false }) else d

/-- The end of listening (R423). -/
def Dev.redListenEnd (d : Dev) : Dev :=
  if d.redRole ≠ 1 ∨ d.red.listen < 16 then d
  else if 0 < d.get F.RED_SEEN_SEEN then d.redTo 3
  else if d.red.cfg.primary then (d.redTo 2).put F.RED_CLAIM_CLAIM 1
  else if d.red.listen < 64 then d
  else if d.red.hello then d.redTo 3
  else (d.redTo 2).put F.RED_CLAIM_CLAIM 2

/-- CLAIM of a FEEDBACK frame delivered on stream j (10 Table 10.4). -/
def Dev.redFeedback (j : Nat) (b : List Word) (d : Dev) : Dev :=
  let c := (b.getD 1 0).toNat
  (d.put F.RED_SEEN_SEEN (max c (d.get F.RED_SEEN_SEEN))).modRed (fun r => { r with
    fb := tput r.fb j c, fbMax := max c r.fbMax })

/-- Is there a live standby (R426), as this unit knows it? -/
def Dev.liveStandby (d : Dev) : Bool := (d.redRole == 2 && d.redUp && d.red.partner == 4) || d.redRole == 4

/-- May this unit send the SETPOINT frame of the companion whose FEEDBACK stream is j (Table 18.3, R427)? -/
def Dev.redMaySend (j : Nat) (d : Dev) : Bool :=
  let shared := d.traj.axes.any (fun a => bitOf d.red.cfg.shared a.group &&
    (match a.src with | .linked i _ => i == j | _ => false))
  d.redRole != 5 && d.redRole != 6 && (!d.red.cfg.en || !shared || d.redRole == 2)

/-- This unit's direct axes, as a mask. -/
def Dev.directMask (d : Dev) : Nat := maskOf ((d.traj.axes.filter (fun a => decide (a.axis < 32))).map (·.axis))

/-- An active unit gives up control (R428): RELINQUISH, F3 on its direct axes, RELINQUISHED. -/
def Dev.relinquish (send : Bool) (d : Dev) : Dev :=
  if d.redRole ≠ 2 then d
  else
    let d := if send then d.redSend 4 [] else d
    (d.redTo 6).fault .relinquish 0 3 d.directMask true none

/-- The watchdog expires when 4·Tb have passed without a restart (R428): every LNK and REDL transmitter is disabled. -/
def Dev.redWatchdog (d : Dev) : Dev :=
  if d.redRole ≠ 2 then d
  else ((d.runUp (d.red.wdAt + 4 * d.time.tb)).relinquish false).modRed (fun r => { r with txOff := true, out := [] })

/-- IN_CUT on an active unit that reads a higher CLAIM (R433). -/
def Dev.redQuarantine (d : Dev) : Dev :=
  if d.redRole = 2 ∧ d.red.fb.any (fun x => decide (d.get F.RED_CLAIM_CLAIM < x.2)) then
    ((d.redTo 5).fault .quarantine 0 3 d.directMask true (some F.RED_EVT_QUAR_EVT)).raise F.RED_EVT_QUAR_EVT
  else d

/-- RELEASE (R433). -/
def Dev.redRelease (p : Port) (d : Dev) : Dev :=
  if d.redRole ≠ 5 then d
  else if !d.redUp || d.red.fb.any (fun x => x.2 == d.get F.RED_CLAIM_CLAIM) then d.illegal p R.RED_CMD
  else (d.redTo 3).causeOff .quarantine 0

/-- DRILL (R434); patches are refused from D − 2 to D + 1. -/
def Dev.redDrill (p : Port) (d : Dev) : Dev :=
  let D := d.get F.RED_DRILL_CYC_D
  if d.redRole ≠ 2 ∨ d.liveStandby = false ∨ cycDist d.time.cycno D < 4 ∨ d.red.drillD ≠ none then d.illegal p R.RED_CMD
  else (d.modRed (fun r => { r with drillD := some D, drillAck := false, drillWin := some D })).up F.RED_STS_DRILL_PEND true

/-- A write of RED_CMD (Table 18.6). -/
def Dev.redCmd (p : Port) (w : Nat) (d : Dev) : Dev :=
  match w with
  | 0 => d
  | 1 => d.redDrill p
  | 2 => d.redRelease p
  | _ => d.illegal p R.RED_CMD

/-! The copy (R424, R425). -/

/-- Register words of a linked axis that show its LOOP and TRAJ state. -/
def redAxisRegs (n : Nat) : List Nat :=
  [R.LOOP_CTL n, R.LOOP_STS n, R.LOOP_POS_OFS n, R.TRAJ_AX_STS n, R.TRAJ_AX_REMAIN_LO n, R.TRAJ_AX_REMAIN_HI n]
    ++ (List.range 7).map (fun i => R.TRAJ_ST_POS_LO n + 4 * i) ++ (List.range 7).map (fun i => R.TRAJ_GEAR_NUM n + 4 * i)

/-- Register words of a shared group: MODE and HELD, s, K and H and ACTIVE, σ. -/
def redGroupRegs (g : Nat) : List Nat := [R.TRAJ_G_STS g, R.TRAJ_G_SCALE g, R.TRAJ_G_PLAN g, R.TRAJ_G_SIGMA g]

/-- The CYCNO at which σ of a group was 0. -/
def Dev.sigmaOrigin (d : Dev) (g : Nat) : Nat :=
  match d.ctxOf g with
  | some c => (d.sctx c).actCyc
  | none => 0

/-- The ARB tables. -/
def arbTables (m : Memory) : Memory := m.filter (fun c => decide (arbHeld ≤ c.1 ∧ c.1 < arbGeo))

/-- The BAR2 offsets of the 16-byte entries in [lo, hi) in which two memories differ. -/
def changedEntries (lo hi : Nat) (a b : Memory) : List Nat :=
  let l : List Nat := ((a ++ b).filter (fun c => decide (lo ≤ c.1 ∧ c.1 < hi) && !(a.contains c && b.contains c))).map (fun c => c.1 / 16 * 16)
  (l.mergeSort (fun (a b : Nat) => decide (a ≤ b))).eraseDups

/-- The critical copy of this instant, and whether it leaves changed ARB entries to the bulk items. -/
def Dev.redCopy (m : Memory) (d : Dev) : RedCopy × Bool :=
  let ch := fun lo hi => changedEntries lo hi (arbTables m) d.red.arbPrev
  let held := ch arbHeld arbHome
  let home := ch arbHome arbGeo
  let words := fun (l : List Nat) => l.map (fun o => (o, d.rd o))
  ({ now := d.time.now, cyc := d.time.cycno, cycPh := d.time.cycPh, planPh := d.time.planPh, claim := d.get F.RED_CLAIM_CLAIM,
     axes := d.sharedAxes.map (fun n => ⟨n, d.lax n, d.ax n, words (redAxisRegs n)⟩),
     groups := d.sharedGroups.map (fun g => ⟨g, d.gr g, words (redGroupRegs g), d.sigmaOrigin g⟩),
     arb := ((held.take 64) ++ (home.take 64)).map (fun a => (a, m.words a 4)) },
   decide (64 < held.length ∨ 64 < home.length))

/-- BAR2 offset of an item that is a table. -/
def redTable (kind : Nat) : Option Nat :=
  match kind with
  | 1 => some arbHome
  | 2 => some arbHeld
  | _ => none

/-- The staged patch payload (02 R61). -/
def Dev.patchWords (d : Dev) : List Word := d.upd.patch

/-- The words of an item of kinds 3 to 5. -/
def Dev.redItem (m : Memory) (kind ctx : Nat) (d : Dev) : List Word :=
  let q := d.ctxSched ctx
  redItemPack kind
    { lastWin := if kind = 3 then d.arb.lastWin else [],
      warm := if kind = 4 then m.words (d.get (F.SOLV_C_BASE_BASE ctx) + 4 * q.sec 7) (q.n + 2 * q.m + 4) else [],
      origins := if kind = 4 then (d.sctx ctx).warmOrg else none,
      patch := if kind = 5 then d.patchWords else [],
      patchRec := if kind = 5 ∧ d.flag F.CFG_PATCH_LVL_PENDING = true then
        d.upd.patchAt.map (fun k => (d.rd R.CFG_PATCH_SEL, d.rd R.CFG_PATCH_IDX, (d.time.cycno + k) % 2 ^ 32)) else none }

/-- The item a chunk lies in, and the chunk's place in it. -/
def RedCfg.itemAt (c : RedCfg) (i : Nat) : Option ((Nat × Nat × Nat) × Nat) :=
  (c.items'.find? (fun x => decide (x.1 ≤ i ∧ i < x.1 + redChunks x.2.2.2))).map (fun x => (x.2, i - x.1))

/-- The payload of chunk i. -/
def Dev.redChunk (m : Memory) (i : Nat) (d : Dev) : List Word :=
  match d.red.cfg.itemAt i with
  | none => []
  | some ((kind, ctx, len), j) =>
    let n := (min 4096 (len - 4096 * j) + 3) / 4
    match redTable kind with
    | some a => m.words (a + 4096 * j) n
    | none => ((d.redItem m kind ctx).drop (1024 * j)).take n

/-- The chunks of the patch item (kind 5). -/
def Dev.patchChunks (d : Dev) : List Nat :=
  (d.red.cfg.items'.filter (fun x => x.2.1 == 5)).flatMap (fun x => (List.range (redChunks x.2.2.2)).map (fun j => x.1 + j))

/-- Parts of a group's knots: ten knots each. -/
def knotParts (k : Nat) : Nat := (k + 10) / 10

/-- The payload of part j of a group's knots in use. -/
def Dev.redKnots (m : Memory) (g j : Nat) (d : Dev) : List Word :=
  let k := d.get (F.TRAJ_G_PLAN_K g)
  let a := knotAt g (d.get (F.TRAJ_G_PLAN_ACTIVE g)) (10 * j) 0
  redKnotsPack ⟨g, j, k, d.get (F.TRAJ_G_PLAN_H g), d.sigmaOrigin g, m.words a (96 * min 10 (k + 1 - 10 * j))⟩

/-- SNAP on an active unit whose link is up: the 24 STATE frames, the bulk chunk, and DRILL in cycle D - 1. The chunks of a patch on its way to
the standby go before any other, so that both units have it in time (02 R64; log entry 89). -/
def Dev.redStream (m : Memory) (d : Dev) : Dev :=
  let (c, more) := d.redCopy m
  let cfg := d.red.cfg
  let cyc := c.cyc
  let claim := c.claim
  let st := redPack c
  let state := (List.range 24).map (fun i => redFrame 1 i cyc claim (((st.getD i []) ++ List.replicate 256 0).take 256))
  let knots := if c.planPh = 0 then
      (d.sharedGroups.filter (fun g => d.grMode g = 1 ∧ (d.gr g).hasPlan)).flatMap (fun g =>
        (List.range (knotParts (d.get (F.TRAJ_G_PLAN_K g)))).map (fun j => (g, j)))
    else d.red.knots
  let first := if more then (cfg.items'.filter (fun x => (redTable x.2.1).isSome)).flatMap (fun x =>
      (List.range (redChunks x.2.2.2)).map (fun j => x.1 + j)) else d.red.first
  let i := d.red.bulkNext
  let next := fun (n : Nat) => if cfg.total ≤ n + 1 then 0 else n + 1
  let (bulk, knots, first, i) := match d.upd.patchOut, knots, d.red.first with
    | x :: _, _, _ => (redFrame 2 x cyc claim (d.redChunk m x), knots, first, i)
    | [], (g, j) :: r, _ => (redFrame 2 0xFF cyc claim (d.redKnots m g j), r, first, i)
    | [], [], x :: r => (redFrame 2 x cyc claim (d.redChunk m x), [], if more then first else r, i)
    | [], [], [] => (redFrame 2 i cyc claim (d.redChunk m i), [], first, next i)
  let drill := if d.red.drillD = some ((cyc + 1) % 2 ^ 32) then [redFrame 5 0 ((cyc + 1) % 2 ^ 32) claim []] else []
  { d with upd := { d.upd with patchOut := d.upd.patchOut.drop 1 } }.modRed (fun r => { r with
    out := state ++ [bulk] ++ drill, knots := knots, first := first, bulkNext := i, arbPrev := arbTables m,
    sendAt := some d.nowNs, cut := false })

/-- SNAP (R424, R428, 01 Table 1.9): the watchdog restarts; a copy still incomplete raises SNAP_LATE; one taken while the link is down cannot stream, so it is not complete
before the next SNAP. -/
def Dev.redSnap (m : Memory) (d : Dev) : Dev :=
  if d.redRole ≠ 2 then d.modRed (fun r => { r with out := [] })
  else
    let d := d.modRed (fun r => { r with wdAt := d.upNs })
    let late := match d.red.sendAt with
      | some t => d.red.cut || decide (d.nowNs < t + 26000)
      | none => false
    let d := if late then d.fault .snapLate 0 0 0 true none else d.causeOff .snapLate 0
    if d.redUp then d.redStream m else d.modRed (fun r => { r with out := [], arbPrev := arbTables m, sendAt := some d.nowNs, cut := true })

/-! The standby (R426). -/

/-- A STATE frame: a copy that never completed sends a STANDBY unit back to SYNCING. -/
def Dev.redState (chunk cyc : Nat) (p : List Word) (d : Dev) : Dev :=
  if d.redRole ≠ 3 ∧ d.redRole ≠ 4 then d
  else
    let new := d.red.rxCyc ≠ some cyc
    let gap := match d.red.copy with
      | some c => decide (d.red.copies ≠ 0) && decide ((c.cyc + 1) % 2 ^ 32 ≠ cyc)
      | none => false
    let d := if new && gap then (if d.redRole = 4 then d.redTo 3 else d.modRed (fun r => { r with copies := 0 })) else d
    d.modRed (fun r => { r with rxCyc := some cyc, rx := tput (if new then [] else r.rx) chunk p })

/-- A bulk chunk of kinds 3 to 5 that completes its item; a patch that the active unit will apply is kept for its CYC_START (02 R64). -/
def State.redItemIn (kind ctx : Nat) (ws : List Word) (s : State) : State :=
  let x := redItemUnpack kind ws
  let q := s.dev.ctxSched ctx
  match kind with
  | 3 => s.upd (Dev.modArb (fun a => { a with lastWin := x.lastWin }))
  | 4 => (s.setMem (s.mem.putWords (s.dev.get (F.SOLV_C_BASE_BASE ctx) + 4 * q.sec 7) (x.warm.take (q.n + 2 * q.m + 4)))).upd
      (Dev.modCtx ctx (fun c => { c with warmOrg := x.origins }))
  | _ => s.upd (fun d => { d with upd := { d.upd with peerPatch := match x.patchRec with
      | some (sel, idx, cyc) => if 0 < cycDist d.time.cycno cyc then some (sel, idx, x.patch, (cycDist d.time.cycno cyc).toNat) else none
      | none => none } })

/-- A knot part goes into the ACTIVE buffer; the last part makes the group's knots held. -/
def State.redKnotsIn (p : List Word) (s : State) : State :=
  let x := redKnotsUnpack p
  let g := x.g % 16
  let d := s.dev
  let a := knotAt g (d.get (F.TRAJ_G_PLAN_ACTIVE g)) (10 * (x.part % 3)) 0
  let old := tget d.red.held g
  let parts := if x.part = 0 then 1 else if old = (x.origin, x.part) then x.part + 1 else 0
  let d := d.modRed (fun r => { r with held := tput r.held g (x.origin, parts) })
  let d := if knotParts x.k ≤ parts then (d.put (F.TRAJ_G_PLAN_K g) x.k).put (F.TRAJ_G_PLAN_H g) x.h else d
  { s with dev := d, mem := s.mem.putWords a (x.words.take 960) }

/-- A bulk chunk goes to its item. -/
def State.redChunkIn (chunk : Nat) (p : List Word) (s : State) : State :=
  if chunk = 0xFF then s.redKnotsIn p
  else match s.dev.red.cfg.itemAt chunk with
    | none => s
    | some ((kind, ctx, len), j) =>
      let s := s.upd (Dev.modRed (fun r => { r with rot := if r.rot.contains chunk then r.rot else chunk :: r.rot }))
      match redTable kind with
      | some a => s.setMem (s.mem.putWords (a + 4096 * j) (p.take ((min 4096 (len - 4096 * j) + 3) / 4)))
      | none =>
        let b := tput s.dev.red.bulk chunk p
        let s := s.upd (Dev.modRed (fun r => { r with bulk := b }))
        if j + 1 = redChunks len then s.redItemIn kind ctx ((List.range (j + 1)).flatMap (fun i => tget b (chunk - j + i))) else s

/-- A BULK frame completes the copy of its SNAP: the copy and then the chunk are applied. -/
def State.redBulk (chunk cyc : Nat) (p : List Word) (s : State) : State :=
  let d := s.dev
  if (d.redRole ≠ 3 ∧ d.redRole ≠ 4) ∨ d.red.rxCyc ≠ some cyc ∨ (List.range 24).any (fun i => (tget d.red.rx i).isEmpty) then s
  else
    let c := { redUnpack ((List.range 24).map (fun i => tget d.red.rx i)) with cyc := cyc }
    let d := d.modRed (fun r => { r with copy := some c, copies := r.copies + 1, rx := [], rxCyc := none })
    let d := d.put F.RED_STS_COPY_AGE (min 255 (cycDist cyc d.time.cycno).toNat)
    let m := c.arb.foldl (fun m x => if arbHeld ≤ x.1 ∧ x.1 < arbGeo ∧ x.1 % 16 = 0 then m.putWords x.1 (x.2.take 4) else m) s.mem
    let s := ({ s with dev := d, mem := m }).redChunkIn chunk p
    let d : Dev := s.dev.redSend 6 s.dev.redSays
    let d := if d.redRole == 3 && decide (2 ≤ d.red.copies) && (List.range d.red.cfg.total).all (fun (i : Nat) => d.red.rot.contains i)
      then (d.redTo 4).event0 F.RED_EVT_LIVE_EVT else d
    { s with dev := d }

/-- A HELLO: the partner is present in its role, and says whether DRILL has arrived (R434) and whether it holds the patch (02 R64). -/
def Dev.redHelloIn (p : List Word) (d : Dev) : Dev :=
  let role := redHelloRole p
  let d := d.modRed (fun r => { r with
    hello := true, partner := role, drillAck := r.drillAck || (r.drillD.isSome && role == 4 && redHelloDrill p) })
  { d with upd := { d.upd with patchAck := d.upd.patchAck || (d.upd.patchOut.isEmpty && role == 4 && redHelloPatch p) } }

/-! CYC_START (R429, R433, R434). -/

/-- RED at CYC_START: the copy's age, silent cycles, a takeover that falls due, the end of a drill, HELLO. -/
def Dev.redCycle (d : Dev) : Dev :=
  let role := d.redRole
  if d.red.cfg.en = false ∨ role = 0 ∨ role = 6 then d
  else
    let d := match d.red.copy with
      | some c => d.put F.RED_STS_COPY_AGE (min 255 (cycDist c.cyc d.time.cycno).toNat)
      | none => d
    let silent : Nat := if d.red.good then 0 else min 255 (d.get F.RED_STS_SILENT + 1)
    let d := d.put F.RED_STS_SILENT silent
    let d := if silent = 0 then d else d.cnt F.RED_CNT0_SILENT_CNT
    let rel : Bool := match d.red.relinq with | some t => decide (t + 500 ≤ d.nowNs) | none => false
    let d := d.modRed (fun r => { r with
      good := false, listen := r.listen + 1, fbPrev := r.fbMax, fbMax := 0, relinq := if rel then none else r.relinq, out := [] })
    let d := d.modRed (fun r => { r with drillWin := r.drillWin.filter (fun x => decide (-1 ≤ cycDist d.time.cycno x)) })
    let drill : Bool := decide (d.red.drillIn = some d.time.cycno)
    let d := if role = 4 ∧ (rel ∨ silent = 2 ∨ drill) then d.modRed (fun r => { r with takeDue := true })
      else if role = 3 ∧ (rel ∨ silent = 2) then d.event0 F.RED_EVT_NO_TAKEOVER_EVT
      else if role = 2 ∧ silent = 1 then d.event0 F.RED_EVT_PARTNER_LOST_EVT else d
    let d := if role = 2 ∧ d.red.drillD.map (fun D => (D + 1) % 2 ^ 32) = some d.time.cycno then
        (if d.redUp ∧ d.red.partner = 4 ∧ d.red.drillAck then ((d.redTo 3).event0 F.RED_EVT_DRILL_EVT).cnt F.RED_CNT1_DRILLS
         else ((d.modRed (fun r => { r with drillD := none })).up F.RED_STS_DRILL_PEND false).event0 F.RED_EVT_DRILL_FAIL_EVT)
      else d
    d.redSend 3 d.redSays

/-! Takeover (R430). -/

/-- The copy of a linked axis is loaded; a pending command or reaction of this unit stays its own. -/
def Dev.redLoadAxis (x : RedAxis) (d : Dev) : Dev :=
  let a := d.ax x.axis
  let d := (d.modLoop x.axis (fun _ => x.loop)).modAx x.axis (fun _ =>
    { x.traj with pend := a.pend, react := a.react, reactTaken := a.reactTaken })
  Dev.each (x.regs.filter (fun r => (redAxisRegs x.axis).contains r.1)) (fun r => Dev.wr r.1 r.2) d

/-- The copy of a shared group is loaded: MODE, HELD, s, σ and the state behind them. -/
def Dev.redLoadGroup (x : RedGroup) (d : Dev) : Dev :=
  let pend := (d.gr x.g).pend
  let lim := d.get (F.TRAJ_G_SCALE_SCALE_LIM x.g)
  let act := d.get (F.TRAJ_G_PLAN_ACTIVE x.g)
  let d := d.modGr x.g (fun _ => { x.st with pend := pend })
  let d := Dev.each (x.regs.filter (fun r => (redGroupRegs x.g).contains r.1)) (fun r => Dev.wr r.1 r.2) d
  (d.put (F.TRAJ_G_SCALE_SCALE_LIM x.g) lim).put (F.TRAJ_G_PLAN_ACTIVE x.g) act

/-- The setpoints produced become current for one axis. -/
def Dev.redCommit (n : Nat) (d : Dev) : Dev :=
  let a := d.ax n
  let d := d.modAx n (fun a => { a with p := a.np, v := a.nv, a := a.na, setOfs := none, stepFrom := a.p, stepTo := a.np })
  ((d.puts64 (R.TRAJ_ST_POS_LO n) a.np).puts64 (R.TRAJ_ST_VEL_LO n) a.nv).puts64 (R.TRAJ_ST_ACC_LO n) a.na

/-- One TRAJ step of the shared groups and axes. -/
def Dev.redStep (m : Memory) (axs : List Nat) (gs : List Nat) (d : Dev) : Dev :=
  let d := Dev.each gs (fun g d => (d.grScale g).grAdvance g) d
  let d := (Dev.each (d.axOrder.filter (fun n => axs.contains n)) (Dev.axStep m) d).gearSample
  Dev.each gs Dev.grEnd (Dev.each axs Dev.axEnd d)

/-- Advance by n cycles: n CYC_STARTs with n - 1 steps between them. -/
def Dev.redAdvance (m : Memory) (axs gs : List Nat) : Nat → Dev → Dev
  | 0, d => d
  | 1, d => Dev.each axs Dev.redCommit d
  | n + 1, d => Dev.redAdvance m axs gs n ((Dev.each axs Dev.redCommit d).redStep m axs gs)

/-- Does the unit hold the knots the copy refers to? -/
def Dev.redHeld (x : RedGroup) (d : Dev) : Bool :=
  let h := tget d.red.held x.g
  h.1 == x.origin && decide (knotParts (d.get (F.TRAJ_G_PLAN_K x.g)) ≤ h.2)

/-- The takeover at the CYC_START at which it fell due. -/
def Dev.takeover (m : Memory) (d : Dev) : Dev :=
  if d.red.takeDue = false ∨ d.redRole ≠ 4 then d
  else match d.red.copy with
    | none => d.redTo 3
    | some c =>
      let drill : Bool := decide (d.red.drillIn = some d.time.cycno)
      let own := fun (x : RedAxis) => d.sharedAxes.contains x.axis
      let axs := (c.axes.filter own).map (·.axis)
      let grs := c.groups.filter (fun x => d.sharedGroups.contains x.g)
      let d := d.redTo 2
      let d := d.put F.RED_CLAIM_CLAIM (max c.claim d.red.fbPrev + 1)
      let d := Dev.each (c.axes.filter own) Dev.redLoadAxis d
      let d := Dev.each grs Dev.redLoadGroup d
      let lost := grs.filter (fun x => d.grMode x.g = 1 ∧ (d.gr x.g).hasPlan ∧ d.redHeld x = false)
      let d := Dev.each grs (fun x d => match d.ctxOf x.g with
        | some k => d.modCtx k (fun y => { y with actCyc := x.origin })
        | none => d) d
      let d := Dev.redAdvance m axs (grs.map (·.g)) (cycDist c.cyc d.time.cycno).toNat d
      let d := Dev.each lost (fun x => Dev.grApply x.g 3) d
      let d := d.arbRestore
      let d := if drill then (d.event0 F.RED_EVT_DRILL_EVT).cnt F.RED_CNT1_DRILLS else d
      (d.event0 F.RED_EVT_TAKEOVER_EVT).cnt F.RED_CNT1_TAKEOVERS

/-! Commands. -/

/-- RED_LISTEN_END (R423). -/
def execRedListenEnd (s : State) : Host.Outcome State Fault Refusal := onDev Dev.redListenEnd s

/-- STATE_FRAME_RECEIVE (R426). -/
def execStateFrameReceive (ws : List Word) (t : Nat) (s : State) : Host.Outcome State Fault Refusal :=
  onDev (fun d => match d.redIn 1 ws t with
    | (d, some (chunk, cyc, p)) => d.redState chunk cyc p
    | (d, none) => d) s

/-- BULK_FRAME_RECEIVE (R425, R426). -/
def execBulkFrameReceive (ws : List Word) (t : Nat) (s : State) : Host.Outcome State Fault Refusal :=
  done (match s.dev.redIn 2 ws t with
    | (d, some (chunk, cyc, p)) => ({ s with dev := d }).redBulk chunk cyc p
    | (d, none) => { s with dev := d })

/-- RED_HELLO_RECEIVE (R423). -/
def execRedHelloReceive (ws : List Word) (t : Nat) (s : State) : Host.Outcome State Fault Refusal :=
  onDev (fun d => match d.redIn 3 ws t with
    | (d, some (_, _, p)) => d.redHelloIn p
    | (d, none) => d) s

/-- RED_WATCHDOG (R428). -/
def execRedWatchdog (s : State) : Host.Outcome State Fault Refusal := onDev Dev.redWatchdog s

/-- RELINQUISH_RECEIVE (R429). It ends a drill that has arrived: the takeover follows R429 ('Same-moment cases'). -/
def execRelinquishReceive (ws : List Word) (t : Nat) (s : State) : Host.Outcome State Fault Refusal :=
  onDev (fun d => match d.redIn 4 ws t with
    | (d, some _) => d.modRed (fun r => { r with relinq := some t, drillIn := none })
    | (d, none) => d) s

/-- RED_RELEASE (R433): an accepted write of RELEASE. -/
def execRedRelease (p : Port) (s : State) : Host.Outcome State Fault Refusal := onDev (Dev.guarded R.RED_CMD (Dev.redRelease p)) s

/-- DRILL (R434): an accepted write of DRILL. -/
def execRedDrill (p : Port) (s : State) : Host.Outcome State Fault Refusal := onDev (Dev.guarded R.RED_CMD (Dev.redDrill p)) s

/-- DRILL_FRAME_RECEIVE (R434). -/
def execDrillFrameReceive (ws : List Word) (t : Nat) (s : State) : Host.Outcome State Fault Refusal :=
  onDev (fun d => match d.redIn 5 ws t with
    | (d, some (_, cyc, _)) => if d.redRole = 4 then d.modRed (fun r => { r with drillIn := some ((cyc + 1) % 2 ^ 32), drillWin := some cyc }) else d
    | (d, none) => d) s

end Sys2Proof.Machine
end

