-- ==== Sys2Proof/Machine/Image.lean ====
section
/-! DEFINITION. The cell image (chapter 2): its header, section table and records, the validation order, and what the loaded sections
give each block. -/
namespace Sys2Proof.Config

/-- What the LINK section's records spell but for what follows, where the chapters give their fields no bits (log entry 6). -/
opaque cellLink : List Rec → LinkCfg

/-- The slot tables that the LINK section's records hold by mode (none: the section holds no such mode), each entry three words, and the
parameters of 06 Table 6.1 that it holds: GUARD, HOLD_MAX, and AGE_LIMIT by stream. -/
opaque cellTables : List Rec → List (Option (List Word))
opaque cellGuard : List Rec → Option Nat
opaque cellHoldMax : List Rec → Option Nat
opaque cellAge : List Rec → Nat → Option Nat

/-- What the AXIS, LOOP and ADC sections' records spell (log entry 6). -/
opaque cellAxes : List Rec → List AxisCfg
opaque cellLoop : List Rec → List LoopCfg
opaque cellAdc : List Rec → AdcCfg

/-- The axis slots a linked axis is mapped to, as (axis, FEEDBACK stream, slot), one entry for each mapping. -/
opaque cellMap : List Rec → List (Nat × Nat × Nat)

/-- Register words that mirror a section's records, by section and records. -/
opaque cellMirror : Nat → List Rec → List (Nat × Word)

/-- KP, KI and SHIFT where the LINK section holds them (04 R102). -/
opaque cellGains : List Rec → Option (Nat × Nat × Nat)

/-- The functions that a section's records give to AIO pins (21 R469), by section and records. -/
opaque cellAio : Nat → List Rec → List AioFn

/-- KIND and SCOPE of a record whose block gives its REC_ID and no form, by section and REC_ID. -/
opaque cellForm : Nat → Nat → Nat × Nat

/-- TFILT of a trip input as the LOOP section's records hold it (10 R258 names it, and gives it no register). -/
opaque cellTrip : List Rec → Nat → Nat

/-- Where CFG puts the TRAJ section among the tables of its region (01 Table 1.8, 02 R33). -/
opaque cellTrajAt : List Rec → Nat

/-- STANDSTILL_T of an encoder port, in 10 µs, as the FB section's records hold it (07 R186 names it, and gives it no register). -/
opaque cellEncStill : List Rec → Nat → Nat

/-- After a binding whose read-back differed: does exactly one channel reject the section (16 Table 16.8)? -/
opaque keyBadOne : Bool

/-- Is a payload length the one its block defines; is every value in its range: for records whose layout the manual does not give. -/
opaque cellLenOk : Nat → Nat → Nat → Bool
opaque cellRangeOk : Rec → Bool

end Sys2Proof.Config

namespace Sys2Proof.Machine
open Sys2Proof.Config

/-- Why a load ends: CODE, SUBCODE, SECT_IDX (Table 2.7). -/
abbrev LoadErr := Nat × Nat × Nat

/-- Bytes of the image by offset and count. -/
abbrev Img := Nat → Nat → List Byte

/-- A little-endian number of the image. -/
def Img.le (img : Img) (a n : Nat) : Nat := leNat (img a n)

/-- Is every byte of a range zero? -/
def Img.zero (img : Img) (a n : Nat) : Bool := (img a n).all (fun b => b == 0)

/-- The image in flash. -/
def flashImg (m : Memory) : Img := fun a n => m.flashBytes a n

/-- A word of OTP: 0 to 7 the owner lock, 8 to 15 SAFE_KEYH, 16 RECOV_HOLD, 17 SAFE_KEYH is unusable (16 Table 16.8); blank words
are 0. -/
def otpWord (otp : List (Nat × Word)) (i : Nat) : Word := tblGet (fun _ => 0) otp i

/-- The 32 bytes of an OTP field. -/
def otpField (otp : List (Nat × Word)) (i : Nat) : List Byte := (List.range 8).flatMap (fun k => leBytes 4 (otpWord otp (i + k)).toNat)

/-- Is a field blank (all zero)? -/
def otpBlank (otp : List (Nat × Word)) (i : Nat) : Bool := (otpField otp i).all (fun b => b == 0)

/-! Steps 2 to 5: header and section table (R43 to R47). -/

def Img.count (img : Img) : Nat := img.le 0x0A 2
def Img.length (img : Img) : Nat := img.le 0x0C 4
def Img.structId (img : Img) : Nat := img.le 0x10 8
def Img.version (img : Img) : Nat := img.le 0x20 4

/-- Steps 2 and 3. -/
def Img.header (img : Img) : Option LoadErr :=
  let n := img.count
  if img 0 4 ≠ [0x4C, 0x54, 0x48, 0x43] then some (2, 0, 0xFF)
  else if img.le 4 2 ≠ 1 then some (3, 0, 0xFF)
  else if img.le 8 2 ≠ 0x960 then some (4, 0, 0xFF)
  else if n = 0 ∨ 64 < n then some (6, 0, 0xFF)
  else if img.length < 0x100 + 32 * n ∨ 0x2000000 < img.length then some (5, 0, 0xFF)
  else if !img.zero 0x24 12 || !img.zero 0x90 48 then some (7, 0, 0xFF)
  else none

/-- Step 4, without the owner lock: IMG_SIG over header bytes 0x00 to 0xBF and the section table (R44). -/
def Img.sigOk (img : Img) : Bool :=
  ecdsaOk (img 0x50 64) (sha256 (img 0 0xC0 ++ img 0x100 (32 * img.count))) (img 0xC0 64)

/-- Does IMG_KEY differ from a set owner lock (R56)? -/
def Img.keyBad (img : Img) (otp : List (Nat × Word)) : Bool := !otpBlank otp 0 && sha256 (img 0x50 64) != otpField otp 0

/-- Entry i of the section table. -/
def Img.sect (img : Img) (i : Nat) : Sect :=
  let a := 0x100 + 32 * i
  ⟨img.le a 1, img.le (a + 1) 1, img.le (a + 2) 2, img.le (a + 4) 4, img.le (a + 8) 4, img.le (a + 12) 4, img.le (a + 16) 2⟩

def Img.sects (img : Img) : List Sect := (List.range img.count).map img.sect

/-- Section types that may hold parameter records (Table 2.4). -/
def holdsParam (typ : Nat) : Bool := [2, 3, 5, 6, 8, 10, 11, 12].contains typ

/-- Entry fields and flags of one entry. -/
def Img.entryBad (img : Img) (i : Nat) : Bool :=
  let s := img.sect i
  decide (s.typ = 0 ∨ 14 < s.typ ∨ s.len < 16 ∨ s.len % 4 ≠ 0) || !img.zero (0x100 + 32 * i + 18) 14
    || (if s.typ = 13 then decide (s.inst = 0 ∨ 31 < s.inst) else decide (s.inst ≠ 0))

def flagsBad (s : Sect) : Bool :=
  decide (8 ≤ s.flags) || (bitOf s.flags 2 != (s.typ == 13)) || (bitOf s.flags 1 != (s.typ == 9)) || (bitOf s.flags 0 && !holdsParam s.typ)

/-- Step 5 in the order of its row: entry fields, flags, offsets, overlaps and padding, duplicates, required types. Of two sections that
overlap or repeat a TYPE, SECT_IDX names the one with the higher table index (log entry 73). -/
def Img.table (img : Img) : Option LoadErr :=
  let l := img.sects.zipIdx
  let end_ := 0x100 + 32 * img.count
  let first := fun (p : Sect × Nat → Bool) (code : Nat) => (l.find? p).map (fun x => ((code, 0, x.2) : LoadErr))
  let clash := fun (x : Sect × Nat) => l.any (fun y => decide (y.2 < x.2 ∧ x.1.off < y.1.off + y.1.len ∧ y.1.off < x.1.off + x.1.len))
  let gap := fun (x : Sect × Nat) =>
    let e := (l.filter (fun y => decide (y.1.off + y.1.len ≤ x.1.off))).foldl (fun (m : Nat) y => max m (y.1.off + y.1.len)) end_
    !img.zero e (x.1.off - e)
  let dup := fun (x : Sect × Nat) => l.any (fun y => decide (y.2 < x.2) && y.1.typ == x.1.typ && (x.1.typ != 13 || y.1.inst == x.1.inst))
  let miss := [1, 2, 3, 6, 9, 12].find? (fun t => !l.any (fun x => x.1.typ == t))
  (first (fun x => img.entryBad x.2) 10).or <| (first (fun x => flagsBad x.1) 10).or <|
  (first (fun x => decide (x.1.off % 256 ≠ 0 ∨ x.1.off < end_ ∨ img.length < x.1.off + x.1.len)) 10).or <|
  (first clash 10).or <| (first gap 10).or <| (first dup 11).or <| miss.map (fun t => (12, t, 0xFF))

/-! Step 6: sections and records (R45, R46, R48, R49). -/

/-- Record kinds a section may hold (Table 2.4). -/
def kindOk (typ kind : Nat) : Bool := if typ = 9 then kind == 3 else kind == 1 || (kind == 2 && holdsParam typ)

/-- KIND and SCOPE that the owning chapter gives a REC_ID: SOLV (11 R277), ARB (13 R311, R333), LINK 0x0020 (03 R91), SPFW (14 R335), SCHED (15 R357), SAFE
(16 Table 16.2, 17 Table 17.5), RED (18 R420). -/
def recForm (typ id : Nat) : Option (Nat × Nat) :=
  match typ with
  | 4 => some (1, 0)
  | 5 => if id = 1 then some (1, 0) else if id = 2 then some (2, 0) else some (2, 2)
  | 6 => if id = 0x20 then some (2, 0) else none
  | 7 => some (1, 0)
  | 8 => if id = 1 then some (1, 0) else some (2, 0)
  | 9 => if id = 0x300 then some (3, 1) else if id = 0x400 ∨ id = 0x401 then some (3, 2) else some (3, 0)
  | 14 => some (1, 0)
  | _ => none

/-- Is the form of a record, KIND and SCOPE, the one of its REC_ID (R50, Table 2.7)? -/
def formOk (typ id kind scope : Nat) : Bool :=
  kindOk typ kind && (match recForm typ id with
    | some f => f == (kind, scope)
    | none => cellForm typ id == (kind, scope))

/-- Is the payload length the one the owning block defines for the REC_ID? -/
def recLenOk (typ id : Nat) (ws : List Word) : Bool :=
  let n := ws.length
  let range := fun (lo k : Nat) => decide (lo ≤ id ∧ id < lo + k)
  match typ with
  | 4 => (id == 1 && n == 64) || (range 0x100 16 && decide (32 ≤ n))
  | 5 => (id == 1 && n % 8 == 0) || (id == 2 && n == 1) || (id == 16 && n == 4)
  | 7 => (id == 1 && n == 16) || ((range 0x100 16 || range 0x200 16 || range 0x300 16) && decide (1 ≤ n))
  | 8 => (id == 1 && n == 4096) || (id == 2 && n == 1)
  | 14 => id == 1 && n == 2 + 2 * bitsOf (ws.getD 1 0).toNat 15 0
  | 9 => if id = 1 ∨ range 0x100 16 ∨ range 0x200 8 then n == 2 else if id = 0x300 then n == 3 else cellLenOk typ id n
  | 6 => if id = 0x20 then n == 2 else cellLenOk typ id n
  | _ => cellLenOk typ id n

/-- Does an SP image run past the end of its memory (14 R335)? -/
def spImageBad (typ id : Nat) (ws : List Word) : Bool :=
  let a := (ws.getD 0 0).toNat
  typ == 7 && decide (0x100 ≤ id) && (if id < 0x200 then decide (8192 < a % 2 ^ 13 + (ws.length - 1)) else decide (16384 < a % 2 ^ 14 + (ws.length - 1)))

/-- Is INDEX in the range of its SCOPE? -/
def indexOk (scope index : Nat) : Bool :=
  match scope with
  | 0 => index == 0
  | 1 => decide (index < 128)
  | 2 => decide (index < 16)
  | 3 => decide (index < 32)
  | _ => false

/-- Little-endian words of a byte list. -/
def leWords : List Byte → List Word
  | a :: b :: c :: d :: t => BitVec.ofNat 32 (leNat [a, b, c, d]) :: leWords t
  | _ => []

/-- The records of a section's bytes, with fuel for their number; none: E_RECORD. -/
def parseRecs (typ : Nat) : Nat → List Byte → Option (List Rec)
  | _, [] => some []
  | 0, _ => none
  | k + 1, bs =>
    let u := fun a n => leNat ((bs.drop a).take n)
    let len := u 8 4
    let ws := leWords ((bs.drop 16).take len)
    let r : Rec := ⟨typ, u 0 2, u 2 1, u 3 1, u 4 2, ws⟩
    if bs.length < 16 + len ∨ len % 4 ≠ 0 ∨ 0x100000 < len ∨ u 6 2 ≠ 0 ∨ u 12 4 ≠ 0 then none
    else if !formOk typ r.recId r.kind r.scope || !indexOk r.scope r.index || !recLenOk typ r.recId ws || spImageBad typ r.recId ws then none
    else (parseRecs typ k (bs.drop (16 + len))).map (fun t => r :: t)

/-- The records of a section (the SAFE trailer excepted); none: E_RECORD. COMP holds none. -/
def Img.records (img : Img) (s : Sect) : Option (List Rec) :=
  if s.typ = 13 then some []
  else if s.typ = 9 ∧ s.len < 160 then none
  else parseRecs s.typ (s.len / 16) (img s.off (if s.typ = 9 then s.len - 160 else s.len))

/-- Is a section, or the budget with the sections before it, above its limit (R49)? -/
def sizeBad (before : List Sect) (s : Sect) : Bool :=
  let sum := fun (l : List Nat) => ((before ++ [s]).filter (fun x => l.contains x.typ)).foldl (fun (t : Nat) x => t + x.len) 0
  let lim := match s.typ with | 4 => 4 * 2 ^ 20 | 7 => 2560 * 1024 | 9 => 64 * 1024 | 13 => 2 ^ 20 | _ => 2 ^ 25
  decide (lim < s.len ∨ 2 ^ 20 < sum [1, 2, 6, 8, 9, 10, 11, 12, 14] ∨ 512 * 1024 < sum [3, 5])

/-- Step 6 over the sections in table order; ecc names the section while which was written an uncorrectable error was found. -/
def Img.stream (img : Img) (ecc : Option Nat) : List (Sect × Nat) → List Sect → List Rec → Except LoadErr (List Rec)
  | [], _, rs => .ok rs
  | (s, i) :: t, before, rs =>
    if ecc = some i then .error (0x17, 0, i)
    else if s.crc ≠ crc32c (img s.off s.len) then .error (0x0E, 0, i)
    else match (if s.sver = 1 then img.records s else none) with
      | none => .error (0x0F, 0, i)
      | some l => if sizeBad before s then .error (0x10, 0, i) else img.stream ecc t (before ++ [s]) (rs ++ l)

/-! Steps 7 and 8 (R53 to R55). -/

/-- The SAFE section. -/
def Img.safeSect (img : Img) : Option (Sect × Nat) := img.sects.zipIdx.find? (fun x => x.1.typ == 9)

/-- SAFE_KEY. -/
def Img.safeKey (img : Img) : List Byte :=
  match img.safeSect with
  | some (s, _) => img (s.off + s.len - 128) 64
  | none => []

/-- The safety channels' checks; a channel whose own hardware fails rejects (fa, fb). -/
def Img.safeCheck (img : Img) (otp : List (Nat × Word)) (fa fb : Bool) : Option LoadErr :=
  match img.safeSect with
  | none => none
  | some (s, i) =>
    let t := s.off + s.len - 160
    let dig := sha256 (img s.off (s.len - 160))
    let digOk := dig == img t 32
    let spoilt := otpWord otp 17 != 0
    let keyOk := otpBlank otp 8 || sha256 img.safeKey == otpField otp 8
    let a := digOk && ecdsaOk img.safeKey dig (img (t + 96) 64) && keyOk && !fa && !spoilt
    let b := digOk && keyOk && !fb && !(spoilt && !keyBadOne)
    if a && b then none else some (if !a && !b then 0x11 else 0x12, 0, i)

/-- Step 8: SECT_DIGEST over every section in table order. -/
def Img.digestOk (img : Img) : Bool := sha256 (img.sects.flatMap (fun s => img s.off s.len)) == img 0x30 32

/-! What the sections give the blocks. -/

/-- The records of a section type. -/
def sectRecs (typ : Nat) (rs : List Rec) : List Rec := rs.filter (fun r => r.sect == typ)

/-- The slot-table entries of three words each (06 Table 6.2). -/
def slotsOf : List Word → List Slot
  | w0 :: w1 :: w2 :: t =>
    let a := w0.toNat
    let b := w1.toNat
    { start := bitsOf a 31 16, ports := bitsOf a 15 8, tx := bitOf a 7, kind := bitsOf a 6 5, dlv := bitOf a 4, stream := bitsOf b 31 16,
      src := bitsOf b 15 11, dst := bitsOf b 10 6, rclass := bitsOf b 5 4, len := bitsOf w2.toNat 6 0 } :: slotsOf t
  | _ => []

/-- The LINK section's configuration: at most four slot tables, one node entry for each ID 1 to 31 (05 R134), and the defaults of 06 Table 6.1 for what it does not hold. All but
AGE_LIMIT stands in its records of kind S (02 R50, Table 2.4). -/
def linkCfg (rs : List Rec) : LinkCfg :=
  let fixed := rs.filter (fun r => r.kind == 1)
  let c := cellLink fixed
  let tabs := (cellTables fixed).take 4
  { c with
    guardNs := (cellGuard fixed).getD 256, holdMax := (cellHoldMax fixed).getD 16
    nodes := c.nodes.foldl (fun l x => if within 1 31 x.id && !l.any (fun y => y.id == x.id) then l ++ [x] else l) []
    held := (List.range tabs.length).filter (fun m => (tabs.getD m none).isSome)
    modes := tabs.map (fun t => slotsOf (t.getD []))
    rx := c.rx.map (fun x => { x with ageLimit := (cellAge rs x.stream).getD 3 }) }

/-- The first record of a section type with a REC_ID. -/
def findRec (typ id : Nat) (rs : List Rec) : Option Rec := (sectRecs typ rs).find? (fun r => r.recId == id)

/-- A register that mirrors a section: section, BAR0 offset of its first copy, the bits that S records set at load, and those that P records
set, at load and by a patch. -/
structure MirrorRow where
  typ : Nat
  off : Nat
  s : Nat
  p : Nat

/-- The mirrors (02 Table 2.4 with 04 R117, 07 R169, 08 Table 8.8, 09 Tables 9.10 to 9.13, 10 Tables 10.11 to 10.14, 19 Table 19.10 and
20 Table 20.7). A field that Table 2.4 names in neither list stands with the P fields (log entry 6). -/
def mirrorRows : List MirrorRow := [
  ⟨2, R.LOOP_C 0 0, 0, 0xFFFFFFFF⟩, ⟨2, R.LOOP_SH 0 0, 0, 0x1F⟩, ⟨2, R.LOOP_CFG 0, 0x73F, 0xF1800⟩,
  ⟨2, R.LOOP_ILIM 0, 0, 0xFFFFFFFF⟩, ⟨2, R.LOOP_IOC 0, 0, 0xFFFFFFFF⟩, ⟨2, R.LOOP_FE_MAX 0, 0, 0xFFFFFFFF⟩,
  ⟨2, R.LOOP_ID_REF 0, 0, 0xFFFFFFFF⟩, ⟨2, R.LOOP_ELEC_CNT 0, 0, 0xFFFFFFFF⟩, ⟨2, R.LOOP_IFS 0, 0, 0xFFFFFFFF⟩,
  ⟨2, R.LOOP_LIMV 0, 0, 0xFFFF0000⟩, ⟨2, R.LOOP_OFS01 0, 0, 0xFFFFFFFF⟩, ⟨2, R.LOOP_OFS2 0, 0, 0xFFFF⟩,
  ⟨2, R.LOOP_PCFG 0, 0xFF00001F, 0xFFFF00⟩, ⟨2, R.LOOP_TCFG 0, 0x18FF, 0⟩, ⟨2, R.LOOP_TAXES 0, 0xFFFFFFFF, 0⟩,
  ⟨2, R.LOOP_GCFG, 0, 0xFFFFFFFF⟩,
  ⟨3, R.TRAJ_LIM_VMAX_LO 0, 0, 0xFFFFFFFF⟩, ⟨3, R.TRAJ_LIM_VMAX_LO 0 + 4, 0, 0xFFFFFFFF⟩,
  ⟨3, R.TRAJ_LIM_AMAX_LO 0, 0, 0xFFFFFFFF⟩, ⟨3, R.TRAJ_LIM_AMAX_LO 0 + 4, 0, 0xFFFFFFFF⟩,
  ⟨3, R.TRAJ_LIM_DMAX_LO 0, 0, 0xFFFFFFFF⟩, ⟨3, R.TRAJ_LIM_DMAX_LO 0 + 4, 0, 0xFFFFFFFF⟩,
  ⟨3, R.TRAJ_LIM_JMAX_LO 0, 0, 0xFFFFFFFF⟩, ⟨3, R.TRAJ_LIM_JMAX_LO 0 + 4, 0, 0xFFFFFFFF⟩,
  ⟨3, R.TRAJ_LIM_DEC_STOP_LO 0, 0, 0xFFFFFFFF⟩, ⟨3, R.TRAJ_LIM_DEC_STOP_LO 0 + 4, 0, 0xFFFFFFFF⟩,
  ⟨3, R.TRAJ_LIM_JERK_STOP_LO 0, 0, 0xFFFFFFFF⟩, ⟨3, R.TRAJ_LIM_JERK_STOP_LO 0 + 4, 0, 0xFFFFFFFF⟩,
  ⟨3, R.TRAJ_LIM_STOP_TMAX 0, 0, 0xFFFF⟩, ⟨3, R.TRAJ_STEP_CFG 0, 0, 0xFFFFFFFF⟩, ⟨3, R.TRAJ_STEP_ROW 0 0, 0, 0xFFFFFFFF⟩,
  ⟨3, R.TRAJ_G_RATE 0, 0, 0xFFFFFFFF⟩, ⟨3, R.TRAJ_G_STOPR 0, 0, 0xFFFF⟩, ⟨3, R.TRAJ_G_TOL 0, 0, 0xFFFFFFFF⟩,
  ⟨3, R.TRAJ_G_PLAN 0, 0x3F8, 0⟩, ⟨3, R.TRAJ_GEAR_GSRC 0, 0x3FF, 0⟩,
  ⟨6, R.TIME_ASYM 0, 0xFFFFFFFF, 0⟩,
  ⟨10, R.ADC_INCFG 0, 2, 0xFFFFFFFC⟩, ⟨10, R.ADC_TRIG 0, 0xBF, 0⟩,
  ⟨11, R.FB_QCFG 0, 0x63, 0xFFFFFF80⟩, ⟨11, R.FB_QCFG2 0, 0, 0xFFFFFFFF⟩, ⟨11, R.FB_QCFG3 0, 0, 0xFFFF⟩,
  ⟨11, R.FB_ENCCFG 0, 0xFFFFF80F, 0x400⟩, ⟨11, R.FB_ENCCFG2 0, 0, 0xFFFFFFFF⟩, ⟨11, R.FB_ENCCFG3 0, 0, 0xFFFF01FF⟩,
  ⟨12, R.PWR_QUIESCE, 0, 0xFFFFFFFF⟩, ⟨12, R.PWR_HOLD_CFG, 0, 0xFFFFFFFF⟩, ⟨12, R.PWR_ENEED 0, 0, 0xFFFFFFFF⟩,
  ⟨12, R.PWR_ENEED 1, 0, 0xFFFFFFFF⟩, ⟨12, R.PWR_ENEED 2, 0, 0xFFFFFFFF⟩, ⟨12, R.PWR_ENEED 3, 0, 0xFFFFFFFF⟩,
  ⟨12, R.PWR_PMB_CFG, 0, 0xFF1F7F⟩, ⟨12, R.UPD_CFG, 0, 0xFFFFFFFF⟩]

/-- The row of the register at an offset, if it mirrors the section. -/
def mirrorAt (typ off : Nat) : Option MirrorRow :=
  match regAt off with
  | some r => mirrorRows.find? (fun m => m.typ == typ && m.off == r.off)
  | none => none

/-- A mirror takes the bits of a mask; its parity is right again (03 R86). -/
def Dev.mirrorPut (mask off : Nat) (w : Word) (d : Dev) : Dev :=
  let m := BitVec.ofNat 32 mask
  (d.wr off ((d.rd off &&& ~~~ m) ||| (w &&& m))).parityWritten off

/-- The mirrors of a section at load, or the parameter fields of a patched record. -/
def Dev.mirror (patch : Bool) (typ : Nat) (rs : List Rec) (d : Dev) : Dev :=
  if rs.isEmpty then d
  else
    let d := Dev.each (cellMirror typ rs) (fun (x : Nat × Word) d => match mirrorAt typ x.1 with
      | some m => d.mirrorPut (if patch then m.p else Nat.lor m.s m.p) x.1 x.2
      | none => d) d
    if typ = 11 ∧ patch = false then Dev.each (List.range 32) (fun n d => d.put (F.FB_QSTS_MODE n) (d.get (F.FB_QCFG_MODE n))) d else d

/-- Is a value of a mirror outside the range of its field: POSLEN, WLEN and IPOL (07 Tables 7.5, 7.8), SW_LO against SW_HI (07 R177),
STEP_W (09 R240), RES_LOG and STOP_TMAX (09 Tables 9.11, 9.12), ELEC_CNT, IFS and PIN (10 R245, R252, Tables 10.12, 10.14), QUIESCE_TIMEOUT, VOUT_T, IDLE_T and READY_T (19 Table 19.10, 20 Table 20.7)? -/
def mirrorBad (off : Nat) (w : Word) : Bool :=
  let v := fun hi lo => bitsOf w.toNat hi lo
  match regAt off with
  | none => false
  | some r =>
    if r.off = R.FB_QCFG2 0 then decide (v 31 16 ≤ v 15 0)
    else if r.off = R.FB_QCFG 0 then decide (8 < v 19 16)
    else if r.off = R.FB_ENCCFG 0 then !within 13 40 (v 29 24) || !within 8 40 (v 23 18)
    else if r.off = R.TRAJ_STEP_ROW 0 0 then decide (8 < v 3 0)
    else if r.off = R.TRAJ_STEP_CFG 0 then decide (v 31 24 < 20)
    else if r.off = R.TRAJ_LIM_STOP_TMAX 0 then v 15 0 == 0
    else if r.off = R.LOOP_ELEC_CNT 0 then w.toNat != 0 && !within 64 (2 ^ 24) w.toNat
    else if r.off = R.LOOP_IFS 0 then !within 100 1000000 w.toNat
    else if r.off = R.LOOP_TCFG 0 then bitOf w.toNat 12 && decide (159 < v 7 0)
    else if r.off = R.PWR_QUIESCE then !within 10 1000000 w.toNat
    else if r.off = R.PWR_PMB_CFG then v 23 16 == 0
    else if r.off = R.UPD_CFG then v 15 8 == 0 || v 7 0 == 0
    else false

/-- A direct servo axis whose current stage lacks ELEC_CNT, IFS or NSENSE (10 Table 10.12). -/
def Dev.stageBad (d : Dev) : Bool :=
  (List.range 32).any (fun n => d.topo n == 1
    && (d.get (F.LOOP_ELEC_CNT_ELEC_CNT n) == 0 || d.get (F.LOOP_IFS_IFS n) == 0 || d.get (F.LOOP_CFG_NSENSE n) == 0))

/-- KP, KI and SHIFT for a Tb in ns (04 R102): of the LINK section, else scaled. -/
def servoGains (rs : List Rec) (tb : Nat) : Nat × Nat × Nat :=
  match cellGains (sectRecs 6 rs) with
  | some g => g
  | none =>
    let at_ := fun (k sh : Nat) => (2 * k * 31250 * 2 ^ sh + tb * 2 ^ 8) / (2 * tb * 2 ^ 8)
    let sh := ([8, 7, 6, 5, 4].find? (fun s => decide (at_ 44032 s ≤ 65535 ∧ at_ 2816 s ≤ 65535))).getD 4
    (at_ 44032 sh, at_ 2816 sh, sh)

/-- The block geometry: block, home and GEOM_TAG, with the 32-byte entries as CFG stores them (13 R311). -/
def arbGeometry (rs : List Rec) : List ((Nat × Nat × Nat) × List Word) :=
  match findRec 5 1 rs with
  | none => []
  | some r => (List.range (r.words.length / 8)).map (fun i =>
    let w := (r.words.drop (8 * i)).take 8
    let tag := crc32c ((w.take 7).flatMap (fun x => leBytes 4 x.toNat)) % 2 ^ 16
    let w6 := (w.getD 6 0).toNat
    ((bitsOf w6 9 0, bitsOf w6 20 16, tag), w.take 7 ++ [BitVec.ofNat 32 (tag * 2 ^ 16)]))

/-- STANDSTILL_T of the encoder ports. -/
def Dev.encStillT (rs : List Rec) (d : Dev) : Dev :=
  Dev.each (List.range 16) (fun j d => d.modEnc j (fun e => { e with stillT := max 1 (min 65535 (cellEncStill rs j)) })) d

/-- Count channels and encoder ports are enabled at load: their standstill times run from here (07 R178, R186). -/
def Dev.fbEnable (rs : List Rec) (d : Dev) : Dev :=
  let d := Dev.each (List.range 32) (fun n d => d.modChan n (fun c => { c with enabledAt := d.sysClk, clk := d.sysClk, zClk := d.sysClk })) d
  (Dev.each (List.range 16) (fun j d => d.modEnc j (fun e => { e with lastMove := d.upNs })) d).encStillT rs

/-- An entry of a regular sequence of a converter within the limits of 08 R192, R195 and R198: an input of its own converter, ACQX 0 to 7,
BURST 0 to 12, and a capture buffer in shared memory. -/
def adcEntryCut (c : Nat) (e : AdcEntry) : AdcEntry :=
  let burst := min 12 e.burst
  { e with
    input := 16 * c + e.input % 16, acqx := e.acqx % 8, burst := burst
    buffer := if e.buffer % 2 = 0 ∧ e.buffer + 2 ^ (burst + 1) ≤ 0x800000 then e.buffer else 0 }

/-- ADC's sequences: RSEQ0 to RSEQ3 of each converter, up to 16 entries, DELAY 0 to 255, a trigger of R196 (08 R196). Without a section
there are none (02 R51). -/
def adcCfg (rs : List Rec) : AdcCfg :=
  if rs.isEmpty then default
  else
    let all := cellAdc rs
    let seqs := (List.range 16).filterMap (fun k => all.seqs.find? (fun q => q.conv == k / 4 && q.seq == k % 4
      && (q.trigger < 2 || (8 ≤ q.trigger && q.trigger < 16))))
    { seqs := seqs.map (fun q => { q with delay := q.delay % 256, entries := (q.entries.take 16).map (adcEntryCut q.conv) })
      openClass := all.openClass.map (fun x => (x.1, x.2.1 % 4, x.2.2 % 2 ^ 128)) }

/-- The trip inputs' filters at load: each at its inactive level, with TFILT of the section (10 R258). -/
def Dev.tripLoad (rs : List Rec) (d : Dev) : Dev :=
  Dev.each (List.range 16) (fun j d =>
    let rest := !d.flag (F.LOOP_TCFG_TPOL j)
    { d with loop := { d.loop with
      tripF := tput d.loop.tripF j ⟨rest, rest, 0, 0⟩
      tripN := tput d.loop.tripN j (min 16 (max 1 (cellTrip rs j)))
      tripClk := tput d.loop.tripClk j d.sysClk } }) d

/-- The section that gives a function (21 Table 21.2). -/
def aioSect (u : AioUse) : Nat :=
  match u with
  | .pwm _ _ _ => 2
  | .trip _ => 2
  | .step _ => 3
  | .dir _ => 3
  | .res _ _ => 3
  | .quad _ _ => 11
  | .stepIn _ _ => 11
  | .divider _ _ => 11
  | .timer _ => 11

/-- Is a function that of a trip input? Those stand in TCFG. -/
def aioTrip (u : AioUse) : Bool :=
  match u with
  | .trip _ => true
  | _ => false

/-- The functions that a section gives to pins: those of Table 21.2 that are its own, the trip inputs in use by their TCFG (10 Table 10.14);
an absent section gives none (02 R51). -/
def Dev.aioOf (t : Nat) (rs : List Rec) (d : Dev) : List AioFn :=
  if rs.isEmpty then []
  else
    let own := (cellAio t rs).filter (fun f => decide (f.pin < 160) && aioSect f.use == t && !aioTrip f.use)
    if t = 2 then own ++ (List.range 16).filterMap (fun j =>
      if d.flag (F.LOOP_TCFG_EN j) then some ⟨d.get (F.LOOP_TCFG_PIN j), .trip j, 2⟩ else none)
    else own

/-- The output pins at load: every direct axis is in the off pattern, since none is energised (10 R258), row 0 gives the resolution pins
their code (09 R241), and the PWM and step functions act from here on, the dividers and timers once they are enabled (21 R470). -/
def Dev.pinsLoad (rs : List Rec) (d : Dev) : Dev :=
  let d := { d with io := { d.io with
    fns := [2, 3, 11].flatMap (fun t => d.aioOf t (sectRecs t rs)), acts := 0 } }
  let d := Dev.each (List.range 32) (fun n d => d.modLoop n (fun a => { a with off := true })) d
  d.stepCycle.aioAct (fun u => match u with
    | .pwm _ _ _ => true
    | .step _ => true
    | .dir _ => true
    | .res _ _ => true
    | _ => false)

/-- The registers that records with a documented layout fill: ARB (13 R333), SCHED (15 R357), SPFW (14 R335), LINK 0x0020 (03 R91). -/
def Dev.docMirror (r : Rec) (d : Dev) : Dev :=
  match r.sect, r.recId with
  | 5, 0x10 => Dev.each (List.range 4) (fun k => Dev.wr (R.ARB_PAR0 (r.index % 16) + 4 * k) (r.words.getD k 0)) d
  | 5, 2 => d.wr R.ARB_CFG (r.words.getD 0 0)
  | 8, 1 => Dev.each r.words.zipIdx (fun (x : Word × Nat) (d : Dev) => d.wr (0x884000 + 4 * x.2) x.1) d
  | 8, 2 => d.put F.SCHED_CFG_AFFINITY_WAIT (r.words.getD 0 0).toNat
  | 7, 1 => Dev.each (List.range 16) (fun c => Dev.wr (R.SPC_CFG c) (r.words.getD c 0)) d
  | 6, 0x20 => (d.wr R.SYS_TUN_WNODES (r.words.getD 0 0)).put F.SYS_TUN_WMASK_TUN_WMASK (r.words.getD 1 0).toNat
  | _, _ => d

/-- Every block but SAFE takes its configuration from the records: the axes 0 to 127 in the groups 0 to 15 (00 Scope: 128 axes per device, 16 groups). Without SPFW or SCHED the SP cores stay in reset (R51). -/
def Dev.configure (rs : List Rec) (d : Dev) : Dev :=
  let link := linkCfg (sectRecs 6 rs)
  let red := redCfg (sectRecs 14 rs)
  let (kp, ki, sh) := servoGains rs link.tb
  let d := { d with
    link := { d.link with cfg := link }
    traj := { d.traj with axes := (cellAxes (sectRecs 1 rs)).filter (fun a => decide (a.axis < 128) && decide (a.group < 16)) }
    loop := { d.loop with cfg := cellLoop (sectRecs 2 rs) }
    adc := { d.adc with cfg := adcCfg (sectRecs 10 rs) }
    arb := { d.arb with geo := List.map Prod.fst (arbGeometry rs) }
    red := { d.red with cfg := red } }
  let d := (d.put F.RED_STS_PARTNER red.partner).up F.LINK_STS_ROOT link.root
  let d := Dev.each link.rx.zipIdx (fun x d => d.put (F.LINK_STRM_STREAM x.2) x.1.stream) d
  let d := ((d.put F.TIME_SERVO_GAIN_KP kp).put F.TIME_SERVO_GAIN_KI ki).put F.TIME_TRIM_MAX_SHIFT sh
  let d := Dev.each [2, 3, 6, 10, 11, 12] (fun t => Dev.mirror false t (sectRecs t rs)) d
  let d := (Dev.each rs Dev.docMirror d).fbEnable (sectRecs 11 rs)
  let d := (d.tripLoad (sectRecs 2 rs)).pinsLoad rs
  let d := if (sectRecs 7 rs).isEmpty || (sectRecs 8 rs).isEmpty then Dev.each (List.range 16) (fun c => Dev.up (F.SPC_CFG_EN c) false) d else d
  let ids := (List.range 1024).filter d.taskValid
  Dev.each ids Dev.showTask { d with sched := { d.sched with ids := ids } }

/-- The SOLV section's schedules (index, payload) and context map. -/
def solvSection (rs : List Rec) : List (Nat × List Word) × List Word :=
  (((sectRecs 4 rs).filter (fun r => decide (0x100 ≤ r.recId))).map (fun r => (r.recId - 0x100, r.words)),
   ((findRec 4 1 rs).map (·.words)).getD [])

/-! Steps 9 and 10 (R485). -/

/-- The table index of a section type. -/
def Img.idxOf (img : Img) (typ : Nat) : Nat := ((img.sects.findIdx? (fun s => s.typ == typ))).getD 0xFF

/-- Step 9. -/
def Img.structCheck (img : Img) (rs : List Rec) (d : Dev) : Option LoadErr :=
  let (l, map) := solvSection rs
  (d.structId img.structId l map).map (fun sub => (0x13, sub, if sub = 1 then 0xFF else img.idxOf 4))

/-- R23: the LOOP section's PWM combinations, for axes 0 to 127. -/
def Dev.pwmBad (d : Dev) : Bool :=
  (List.range 32).any (fun n =>
    let k := d.get (F.LOOP_PCFG_K n)
    let kk := 2 * k
    if d.topo n = 1 then k == 0 || k == 3 || decide (2 * d.link.cfg.tb < 15625 * kk ∨ 62500 * kk < d.link.cfg.tb) else k != 0)

/-- R25: the first check that fails. -/
def Dev.timingBad (d : Dev) : Option Nat :=
  let c := d.link.cfg
  if c.tb < c.inCut + 11250 then some 1
  else if (List.range 32).any (fun n => d.topo n == 1) && decide (c.tb < 2 * c.inCut + 9000) then some 2
  else if c.tb < 31250 ∧ d.red.cfg.en then some 3
  else none

/-- A VALID task descriptor that breaks 15 R358. -/
def descBad (w : List Word) : Bool :=
  let v := fun i => (w.getD i 0).toNat
  let trig := bitsOf (v 3) 31 28
  let val := bitsOf (v 3) 23 0
  bitOf (v 0) 31 && (bitsOf (v 0) 15 0 == 0 || bitsOf (v 0) 19 16 != 0 || bitsOf (v 1) 31 13 != 0 || bitOf (v 3) 27
    || decide (3 < trig) || (trig != 3 && bitsOf (v 3) 26 24 != 0)
    || (match trig with
        | 1 => val == 0
        | 2 => val == 0 || 1680 % val != 0
        | _ => val != 0))

/-- An ARB parameter record out of its range (Table 13.11), or a geometry that breaks 13 R312. -/
def arbRecBad (r : Rec) : Bool :=
  let w := fun i => (r.words.getD i 0).toNat
  match r.recId with
  | 0x10 => bitsOf (w 0) 31 17 != 0 || bitsOf (w 0) 15 8 != 0 || !within 1 (2 ^ 30) (w 1) || decide (2 ^ 30 < w 2)
      || bitsOf (w 3) 31 16 != 0 || bitsOf (w 3) 15 0 == 0
  | 2 => bitsOf (w 0) 31 16 == 0 || bitsOf (w 0) 15 8 != 0 || decide (8 < bitsOf (w 0) 7 0)
  | 1 =>
    let e := (List.range (r.words.length / 8)).map (fun i => (r.words.drop (8 * i)).take 8)
    let ids := e.map (fun x => bitsOf (x.getD 6 0).toNat 9 0)
    decide (ids.eraseDups.length ≠ ids.length) || e.any (fun x =>
      (List.range 3).any (fun k => decide ((x.getD (2 * k + 1) 0).toInt ≤ (x.getD (2 * k) 0).toInt))
        || bitsOf (x.getD 6 0).toNat 31 21 != 0 || bitsOf (x.getD 6 0).toNat 15 10 != 0 || bitsOf (x.getD 7 0).toNat 15 0 != 0)
  | _ => false

/-- Is a record's value out of its range (SUBCODE 0x09, PATCH_RANGE), for one record alone? -/
def recBad (r : Rec) : Bool :=
  match r.sect with
  | 5 => arbRecBad r
  | 7 => r.recId == 1 && r.words.any (fun w => bitsOf w.toNat 15 1 != 0)
  | 8 => r.recId == 1 && (List.range 1024).any (fun i => descBad ((r.words.drop (4 * i)).take 4))
  | 4 => false
  | 9 => false
  | 14 => bitsOf (r.words.getD 0 0).toNat 29 21 != 0 || !within 1 64 (bitsOf (r.words.getD 1 0).toNat 15 0)
  | _ => !cellRangeOk r || (cellMirror r.sect [r]).any (fun x => (mirrorAt r.sect x.1).isSome && mirrorBad x.1 x.2)

/-- A regular sequence whose groups break 08 R195: one above 4 entries, or SIMUL on the last entry. n SIMUL entries stand before. -/
def simulBad : Nat → List AdcEntry → Bool
  | _, [] => false
  | n, x :: l => (x.simul && (decide (3 ≤ n) || l.isEmpty)) || simulBad (if x.simul then n + 1 else 0) l

/-- Does a list hold a value twice? -/
def twice {α : Type} [BEq α] (l : List α) : Bool := l.eraseDups.length != l.length

/-- The E_CONSIST checks but SUBCODE 0x07, in ascending subcode, with the section each names: that of the first failing record in table
order, and of a check that compares two sections the one with the higher table index. -/
def Img.consist (img : Img) (rs : List Rec) (d : Dev) : Option LoadErr :=
  let ax := d.traj.axes
  let map := cellMap (sectRecs 1 rs)
  let ssm := ssmParse (sectRecs 9 rs)
  let e := fun (sub typ : Nat) => some ((0x16, sub, img.idxOf typ) : LoadErr)
  let used := (List.range 128).filter (fun n => d.topo n != 0)
  let self := if d.link.cfg.root then some 0 else d.link.cfg.nodeId
  let red := !(sectRecs 14 rs).isEmpty
  let pair := fun (bad : Bool) (s t : Nat) => if bad then [max (img.idxOf s) (img.idxOf t)] else []
  let bad9 : List Nat := ((img.sects.zipIdx).filter (fun x =>
      (sectRecs x.1.typ rs).any recBad
        || (x.1.typ == 9 && (safeOwnBad (sectRecs 9 rs) || ssmOwnBad (sectRecs 9 rs)))
        || (x.1.typ == 14 && decide (64 < d.red.cfg.total))
        || (x.1.typ == 10 && d.adc.cfg.seqs.any (fun q => simulBad 0 q.entries))
        || (x.1.typ == 2 && d.stageBad) || (x.1.typ == 2 && used.any (fun n => if n < 32 then d.topo n == 2 else d.topo n != 2)))).map (·.2)
    ++ pair (safeAxesBad (sectRecs 9 rs) used) 9 2 ++ pair (ssmTbBad ssm d.link.cfg.tb) 9 6
    ++ pair (red && self == some d.red.cfg.partner) 14 6 ++ pair (redDirectBad d.red.cfg ax) 14 1
  let aio := ((img.sects.zipIdx).flatMap (fun x => (d.aioOf x.1.typ (sectRecs x.1.typ rs)).map (fun f => (f, x.2)))).zipIdx
  let two := aio.find? (fun x => aio.any (fun y => decide (y.2 < x.2) && y.1.1.pin == x.1.1.pin))
  if twice (ax.map (·.axis)) || twice (map.map (·.1)) || twice (map.map (·.2)) then e 1 1
  else if (List.range 16).any (fun g => decide (16 < (d.groupAxes g).length)) then e 2 1
  else if two.isSome then two.map (fun x => (0x16, 3, x.1.2))
  else if 1024 < d.arb.geo.length then e 4 5
  else if ssm.groups.any (fun x => decide (12 < x.caps.length)) then e 5 9
  else if 3 < d.link.cfg.coldstart.length ∨ (d.link.cfg.root = true ∧ d.link.cfg.coldstart = []) then e 6 6
  else if 1024 < ((findRec 8 1 rs).map (fun r => r.words.length / 4)).getD 0 then e 8 8
  else (bad9.foldl (fun (m : Option Nat) i => some (min i (m.getD i))) none).map (fun i => (0x16, 9, i))

/-- Step 10. -/
def Img.cross (img : Img) (rs : List Rec) (d : Dev) : Option LoadErr :=
  let c := d.link.cfg
  if !c.timing || !within 15625 1000000 c.tb || !within 16 256 c.m then some (0x16, 7, img.idxOf 6)
  else if d.pwmBad then some (0x14, 0, img.idxOf 2)
  else match d.timingBad with
    | some k => some (0x15, k, img.idxOf 6)
    | none => img.consist rs d

/-- Steps 2 to 10 of Table 2.6: the records of a good image. d supplies the device's reset state to configure. -/
def Img.validate (img : Img) (otp : List (Nat × Word)) (fa fb : Bool) (ecc : Option Nat) (d : Dev) : Except LoadErr (List Rec) :=
  match img.header with
  | some e => .error e
  | none =>
    if !img.sigOk then .error (8, 0, 0xFF)
    else if img.keyBad otp then .error (9, 0, 0xFF)
    else match img.table with
      | some e => .error e
      | none => match img.stream ecc img.sects.zipIdx [] [] with
        | .error e => .error e
        | .ok rs => match img.safeCheck otp fa fb with
          | some e => .error e
          | none =>
            if !img.digestOk then .error (0x0D, 0, 0xFF)
            else
              let d := d.configure rs
              match img.structCheck rs d with
              | some e => .error e
              | none => match img.cross rs d with
                | some e => .error e
                | none => .ok rs

/-! Filling the regions. -/

/-- SP local memories from SPFW (14 R335): every word no image covers is 0. -/
def State.spLoad (rs : List Rec) (s : State) : State :=
  let m := s.mem.clear 0x1600000 0x1880000
  let put := fun (m : Memory) (r : Rec) =>
    let c := r.recId % 16
    let base := 0x1600000 + c * 0x28000
    let a := (r.words.getD 0 0).toNat
    match r.recId / 256 with
    | 1 => m.putWords (base + 0x20000 + 4 * (a % 2 ^ 13)) (r.words.drop 1)
    | 2 => m.putWords (base + 4 * (a % 2 ^ 14)) (r.words.drop 1)
    | 3 => m.putWords (base + 0x10000 + 4 * (a % 2 ^ 14)) (r.words.drop 1)
    | _ => m
  { s with mem := (sectRecs 7 rs).foldl put m }

/-- SOLV's schedules and regions, where the image has the section (R51). -/
def State.solvReload (first : Bool) (rs : List Rec) (s : State) : State :=
  if (sectRecs 4 rs).isEmpty then s else let (l, map) := solvSection rs; s.solvLoad first l map

/-- A record as the words of its section (Table 2.5). -/
def Rec.asWords (r : Rec) : List Word :=
  [BitVec.ofNat 32 (r.recId + 2 ^ 16 * r.kind + 2 ^ 24 * r.scope), BitVec.ofNat 32 r.index, BitVec.ofNat 32 (4 * r.words.length), 0] ++ r.words

/-- Where the TRAJ section stands: the manual gives no place, so anywhere between the geometry and the knots (01 Table 1.8; log entry 6); the
values of the records do not move it. -/
def trajStore (rs : List Rec) : Nat :=
  arbGeo + 0x8000 + 4 * (cellTrajAt (rs.map (fun r => { r with words := List.replicate r.words.length 0 })) % 0x19000)

/-- The TRAJ section's records in their region. -/
def State.trajPut (rs : List Rec) (s : State) : State :=
  { s with mem := s.mem.putWords (trajStore rs) ((sectRecs 3 rs).flatMap Rec.asWords) }

/-- Every region but SAFE's and the state shadow; the geometry stands in BLOCK order (13 R315). -/
def State.regionLoad (rs : List Rec) (s : State) : State :=
  let s := (s.upd (Dev.configure rs)).spLoad rs
  let s := s.trajPut rs
  let m := (arbGeometry rs).foldl (fun (m : Memory) x => m.putWords (arbGeo + 32 * x.1.1) x.2) s.mem
  ({ s with mem := m }).solvReload true rs

end Sys2Proof.Machine
end

