-- ==== Sys2Proof/Machine/Power.lean ====
section
/-! DEFINITION. Power states, performance levels, the PMBus link and hold-up energy (chapter 19). -/
namespace Sys2Proof.Machine
open Sys2Proof.Config

def Dev.modPwr (f : PwrSt → PwrSt) (d : Dev) : Dev := { d with pwr := f d.pwr }

/-- STATE: 0 ACTIVE, 1 IDLE, 2 PARK, 3 SLEEP. PHASE: 0 steady, 1 deciding, 2 quiescing, 3 entering, 4 exiting. -/
def Dev.pwrState (d : Dev) : Nat := d.get F.PWR_STS_STATE
def Dev.pwrPhase (d : Dev) : Nat := d.get F.PWR_STS_PHASE

/-- Who holds the update lock (20 Table 20.7): 0 none. -/
def Dev.updOwner (d : Dev) : Nat := d.get F.UPD_STS_OWNER

/-! Hold-up energy (R451). -/

/-- Is PD_ADC off? -/
def Dev.adcIsOff (d : Dev) : Bool := bitOf d.pwr.off 2

/-- E at CYC_START, in µJ; while PD_ADC is off ADC_VHOLD reads 0 and E is 0 (08 R209). -/
def Dev.holdEnergy (d : Dev) : Dev :=
  let v := d.get F.ADC_VHOLD_VOLT
  let m := d.get F.PWR_HOLD_CFG_HOLD_VMIN
  d.put F.PWR_HOLD_E (min (2 ^ 32 - 1) (d.get F.PWR_HOLD_CFG_HOLD_C * (v * v - m * m) / 20000))

/-- The check before a store of kind k (0 SECTOR, 1 LOG, 2 RETAIN, 3 OTP); R20 refuses every store while PD_ADC is
off. -/
def Dev.nvOk (k : Nat) (d : Dev) : Bool :=
  !d.adcIsOff && (d.boot.skipHold ||
    (d.get F.PWR_HOLD_CFG_HOLD_C != 0 && decide (3 * d.get (F.PWR_ENEED_E_NEED k) ≤ 2 * d.get F.PWR_HOLD_E)))

/-- A store that fails the check: NV_REFUSED_HOLDUP. -/
def Dev.nvRefused (d : Dev) : Dev := (d.cnt F.PWR_NV_CNT_NV_REFUSED).event0 F.PWR_EVT_NV_REFUSED_EVT

/-! Requests (R438, R439, R443). -/

/-- A write of PWR_REQ whose pair was accepted. -/
def Dev.powReq (p : Port) (w : Nat) (d : Dev) : Dev :=
  let st := d.pwrState
  let tg := d.get F.PWR_STS_TARGET
  let wait := fun (d : Dev) => d.modPwr (fun q => { q with reqs := q.reqs ++ [w] })
  if 4 ≤ w then d.illegal p R.PWR_REQ
  else match d.pwrPhase with
    | 2 | 3 =>
      if w < tg then
        (d.modPwr (fun q => { q with wake := some (match q.wake with | some x => min x w | none => w) })).up F.PWR_STS_WAKE_PEND true
      else d.illegal p R.PWR_REQ
    | 4 => if st < w then d.illegal p R.PWR_REQ else wait d
    | ph => (wait (if ph = 0 then d.put F.PWR_STS_TARGET w else d)).put F.PWR_STS_PHASE 1

/-- The first veto of Table 19.1 against an entry to t. -/
def Dev.powVeto (t : Nat) (d : Dev) : Option Nat :=
  let axs := d.axisList
  let moving := axs.any (fun n => !d.flag (F.TRAJ_AX_STS_STILL n))
  if d.updOwner ≠ 0 ∨ (t ≠ 3 ∧ d.flag F.UPD_STS_FLASH_CHANGED = true) then some 1
  else if d.redRole = 2 ∧ d.liveStandby = true then some 2
  else if t = 3 ∧ (d.flag F.LINK_STS_ROOT = true ∨ d.sstate = 5) then some 3
  else if t = 3 ∧ d.get F.SAFE_STS_OUT_ON ≠ 0 then some 4
  else if t = 1 then
    (if moving || (List.range 16).any (fun g => d.grMode g == 1 || d.grMode g == 2) then some 5 else none)
  else if moving || axs.any d.energised then some 5
  else none

/-- The request in progress ends: those that wait are decided later. -/
def Dev.powIdle (d : Dev) : Dev :=
  match d.pwr.reqs with
  | [] => d.put F.PWR_STS_PHASE 0
  | t :: r => (d.put F.PWR_STS_PHASE 1).put F.PWR_STS_TARGET (r.foldl min t)

/-- An entry is refused or aborted (R440, R441); a wake that came meanwhile waits for its decision. -/
def Dev.powRefuse (code t : Nat) (d : Dev) : Dev :=
  let d := ((d.cnt F.PWR_REFUSE_CNT_COUNT).put F.PWR_LAST_REFUSER_TARGET t).put F.PWR_LAST_REFUSER_REFUSER code
  let d := d.modPwr (fun q => { q with reqs := q.reqs ++ q.wake.toList, wake := none })
  ((d.up F.PWR_STS_WAKE_PEND false).powIdle).event0 F.PWR_EVT_REFUSED_EVT

/-- An exit to t starts: PMIC and domains follow at EXIT_DONE (R444). -/
def Dev.exitStart (t : Nat) (d : Dev) : Dev := (d.put F.PWR_STS_PHASE 4).put F.PWR_STS_TARGET t

/-- POWER_DECISION at TRAJ_END (R439 to R441). -/
def Dev.powDecide (d : Dev) : Dev :=
  let ph := d.pwrPhase
  if ph = 2 then
    let t := d.get F.PWR_STS_TARGET
    match d.powVeto t with
    | some c => d.powRefuse c t
    | none => d
  else if ph ≠ 1 then d
  else match d.pwr.reqs with
    | [] => d.put F.PWR_STS_PHASE 0
    | x :: r =>
      let t := r.foldl min x
      let d := Dev.each r (fun _ => Dev.event0 F.PWR_EVT_REQ_DROP_EVT) d
      let d := (d.modPwr (fun q => { q with reqs := [] })).put F.PWR_STS_TARGET t
      let st := d.pwrState
      if t = st then (d.put F.PWR_STS_PHASE 0).event0 F.PWR_EVT_ENTERED_EVT
      else if t < st then d.exitStart t
      else match d.powVeto t with
        | some c => d.powRefuse c t
        | none => (d.put F.PWR_STS_PHASE 2).modPwr (fun q => { q with quiesceAt := d.upNs })

/-! Quiesce and entry (R441, R442). -/

/-- Channels in flight: their SRAM range meets a domain that the target switches off. -/
def Dev.inFlight (d : Dev) : List Nat :=
  let t := d.get F.PWR_STS_TARGET
  let meets := fun (lo hi a n : Nat) => decide (a < hi ∧ lo < a + n)
  (d.host.dmaRun.filter (fun x => t == 3 || meets 0x800000 0x1000000 x.2.1 x.2.2
    || (t == 2 && meets 0x1600000 0x1880000 x.2.1 x.2.2))).map (·.1)

/-- PD_SOLV switches off (01 R19): its memory, contexts, factors and warm starts are lost; RUN and POL stay (12 R291). -/
def State.solvOff (s : State) : State :=
  let s := { s with mem := s.mem.clear 0x800000 0x1000000 }
  s.upd (fun d =>
    let d := Dev.each (List.range 16) (fun c d => { d with regs := d.regs.filter (fun x =>
      !decide (R.SOLV_CTX_RUN c + 8 ≤ x.1 ∧ x.1 < R.SOLV_CTX_RUN c + 0x40)) }) d
    ({ d with eccBad := d.eccBad.filter (fun a => decide (a < 0x800000 ∨ 0x1000000 ≤ a)) }.modSolv (fun q => { q with on := false, ctx := [], scheds := [], acc := [] })).modPwr (fun q => { q with off := setBit q.off 0 true }))

/-- PD_SPC switches off: local memories, registers and cores are lost. -/
def State.spcOff (s : State) : State :=
  let s := { s with mem := s.mem.clear 0x1600000 0x1880000 }
  s.upd (fun d => ((Dev.each (List.range 16) (fun c d => d.toCore c 0) { d with eccBad := d.eccBad.filter (fun a => decide (a < 0x1600000)) }).modSched
    (fun q => { q with cores := [] })).modPwr
    (fun q => { q with off := setBit q.off 1 true }))

/-- Is a register of ADC one that switch-off resets: all but the mirrors of the ADC section (08, 'Registers')? -/
def adcVolatile (off : Nat) : Bool :=
  decide (R.ADC_CTL ≤ off ∧ off < R.ADC_INCFG 0 ∨ R.ADC_VBUS ≤ off ∧ off < R.ADC_SLICE 16)

/-- PD_ADC switches off: no conversion runs, every register but the mirrors returns to its reset value, OPEN to 0, and no result from
before is used again (08 R209 and 'Registers', 01 R20). -/
def Dev.adcOff (d : Dev) : Dev :=
  let d := { d with
    regs := d.regs.filter (fun x => !adcVolatile x.1)
    adc := { (default : AdcSt) with cfg := d.adc.cfg }
    loop := { d.loop with ax := d.loop.ax.map (fun x => (x.1, { x.2 with stageReady := false })) }
    pwr := { d.pwr with off := setBit d.pwr.off 2 true } }
  Dev.each (List.range 64) (fun n d => (d.up (F.ADC_INCFG_OPEN n) false).causeOff .openWire n) d

/-- A PMBus transaction goes out to the PMIC address of the PWR section (R449). -/
def Dev.pmb (code v : Nat) (d : Dev) : Dev :=
  d.modPwr (fun q => { q with sent := q.sent ++ [(d.get F.PWR_PMB_CFG_ADDR, code, v)] })

/-- The transactions of the last command are done. -/
def Dev.pmbNew (d : Dev) : Dev := d.modPwr (fun q => { q with sent := [] })

/-- A transaction has failed three times (R450). -/
def Dev.pmbFailed (d : Dev) : Dev := (d.cnt F.PWR_PMB_STS_PMB_ERR).event0 F.PWR_EVT_PMB_ERR_EVT

/-- A write whose outcome no operand of the command gives: whether it goes through within three tries is the PMIC's, hence free. -/
def Dev.pmbTry (code v : Nat) (d : Dev) : Dev :=
  let (x, d) := (d.pmb code v).draw 2
  if x = 0 then d else d.pmbFailed

/-- Does PWR use the PMBus? From the end of step 5 on (20 R454), while PMIC_EN is driven. -/
def Dev.pmbOn (d : Dev) : Bool := d.pwr.pmicEn && decide (6 ≤ d.get F.CFG_BOOT_STS_STAGE)

/-- The domains that target t has off are switched off, with held tasks completed before (Table 19.2). -/
def State.domainsOff (t : Nat) (s : State) : State :=
  match t with
  | 0 => s
  | 1 => s.solvOff
  | _ => (s.schedPark.solvOff.spcOff).upd Dev.adcOff

/-- The entry commits and runs the steps of Table 19.2. -/
def State.powCommit (s : State) : State :=
  let t := s.dev.get F.PWR_STS_TARGET
  let s := (s.upd (fun d => d.pmbNew.put F.PWR_STS_PHASE 3)).domainsOff t
  if t ≤ 2 then s
  else s.upd (fun d =>
    let d := if 1 ≤ d.sstate then d.toListen else d
    (d.pmbTry 1 0).modPwr (fun q => { q with pmicEn := false }))

/-- QUIESCE_END (R442). -/
def State.quiesceEnd (s : State) : State := if s.dev.pwrPhase = 2 ∧ s.dev.inFlight = [] then s.powCommit else s

/-- QUIESCE_TIMEOUT (R441). -/
def Dev.quiesceTimeout (d : Dev) : Dev :=
  if d.pwrPhase ≠ 2 then d
  else match d.inFlight with
    | [] => d
    | c :: r => (d.runUp (d.pwr.quiesceAt + 1000 * d.get F.PWR_QUIESCE_QUIESCE_TIMEOUT)).powRefuse (0x10 + r.foldl min c) (d.get F.PWR_STS_TARGET)

/-- What is left in SLEEP: PD_AON with the wake inputs enabled, and what the pins show (R445). -/
def Dev.sleep (d : Dev) : Dev :=
  let w := d.rd 0x100018
  let wake := d.pwr.wake
  let d := { Dev.reset with
    host := { Dev.reset.host with faultnExt := d.host.faultnExt, everRun := d.host.everRun, extCause := d.host.extCause }
    link := { Dev.reset.link with serial := d.link.serial }
    boot := { Dev.reset.boot with logSlot := d.boot.logSlot, logSeq := d.boot.logSeq }
    pwr := { Dev.reset.pwr with resetN := d.pwr.resetN, vbusOk := d.pwr.vbusOk, wake := wake, off := 15 }
    tap := d.tap
    free := d.free }
  (d.wr 0x100018 w).put F.PWR_STS_STATE 3

/-- Step 2 of the start-up sequence begins (20 R453). -/
def Dev.startRails (tries : Nat) (d : Dev) : Dev :=
  ((d.put F.CFG_BOOT_STS_STAGE 2).put F.CFG_BOOT_STS_TRIES tries).modPwr (fun q => { q with pmicEn := true })

/-- An exit from SLEEP to t: a start from step 2, with FAULT_N low again until RUN (R444; 20 R452, R453; 01 R37). -/
def Dev.wakeStart (t : Nat) (d : Dev) : Dev :=
  let d := (d.exitStart t).startRails 1
  { d with host := { d.host with everRun := false } }

/-- ENTRY_DONE (R442, R443): ENTERED_EVT, and a pending wake starts its exit. In SLEEP the exit is the start-up sequence from step 2. -/
def State.entryDone (s : State) : State :=
  if s.dev.pwrPhase ≠ 3 then s
  else
    let t := s.dev.get F.PWR_STS_TARGET
    let wake := s.dev.pwr.wake
    let s := if t = 3 then { s with dev := s.dev.sleep, mem := [] }
      else s.upd (fun d => (((d.clkCounts.setPower t).put F.PWR_STS_PHASE 0).up F.PWR_STS_WAKE_PEND false).event0 F.PWR_EVT_ENTERED_EVT)
    let s := s.upd (Dev.modPwr (fun q => { q with wake := none }))
    match wake with
    | none => s
    | some x => s.upd (fun d => if t = 3 then d.wakeStart x else d.exitStart x)

/-! Exit (R444). -/

/-- The SOLV divider is set to 8 or to 6; while PD_SOLV is off the setting applies when it next switches on (R447). -/
def Dev.setDiv (b : Bool) (d : Dev) : Dev :=
  if bitOf d.pwr.off 0 then d.modPwr (fun q => { q with divNext := some b }) else d.up F.CLK_STS_SOLV_DIV8 b

/-- PD_SOLV switches on, with the divider setting that waits for it (R447). -/
def Dev.solvOn (d : Dev) : Dev :=
  let d := match d.pwr.divNext with | some b => d.up F.CLK_STS_SOLV_DIV8 b | none => d
  d.modPwr (fun q => { q with off := setBit q.off 0 false, divNext := none })

/-- EXIT_DONE: the domains of the target are on and restored. Leaving SLEEP ends with the start. -/
def State.exitDone (s : State) : State :=
  let d := s.dev
  let st := d.pwrState
  if d.pwrPhase ≠ 4 ∨ st = 0 ∨ st = 3 then s
  else
    let t := d.get F.PWR_STS_TARGET
    let rs := d.boot.recs
    let s := if st = 2 then (s.spLoad rs).upd (fun d => (d.adcSwitchOn).modPwr (fun q => { q with off := setBit (setBit q.off 1 false) 2 false })) else s
    let s := if t = 0 then (s.solvReload false rs).upd Dev.solvOn else s
    let s := s.upd (fun d =>
      let d := d.clkCounts.put F.PWR_STS_STATE t
      let d := if st = 2 then Dev.each (List.range 16) (fun c d =>
        if d.flag (F.SPC_CFG_EN c) then (d.modCore c (fun _ => SpCore.start)).toCore c 1 else d) d else d
      (d.powIdle).event0 F.PWR_EVT_EXITED_EVT)
    if st = 1 then s.spThaw else s

/-- A wake input (R445). -/
def Dev.wakeEnabled (d : Dev) : WakeSrc → Bool
  | .perst => d.flag F.PWR_WAKE_PERST
  | .mspi => d.flag F.PWR_WAKE_MSPI
  | .lnk p => bitOf (d.get F.PWR_WAKE_PORTS) p

/-- WAKE_INPUT: in SLEEP the exit begins at step 2; during the quiesce or the steps of a SLEEP entry the wake is held (R443). -/
def Dev.wakeInput (w : WakeSrc) (d : Dev) : Dev :=
  if d.wakeEnabled w = false then d
  else if (d.pwrPhase = 2 ∨ d.pwrPhase = 3) ∧ d.get F.PWR_STS_TARGET = 3 then
    (d.modPwr (fun q => { q with wake := some 0 })).up F.PWR_STS_WAKE_PEND true
  else if d.pwrState = 3 ∧ d.pwrPhase = 0 then
    d.wakeStart 0
  else d

/-! PMBus results (R449, R450). -/

/-- Fault and warning bits of STATUS_WORD: all but BUSY, OFF and POWER_GOOD# (PMBus 1.3, PRESUMED; log entry 63). -/
def pmbFaulty (w : Nat) : Bool := Nat.land w 0xF73F != 0

/-- A STATUS_WORD read that went through, with STATUS_VOUT after its VOUT bit and CLEAR_FAULTS after a fault, each of which may fail
three times; a read with no fault ends an alert. -/
def Dev.statusWord (w : Nat) (r : PmbRead) (d : Dev) : Dev :=
  let d := (d.pmb 0x79 0).put F.PWR_PMB_STS_STATUS_WORD w
  let d := if bitOf w 15 then
      (match r.vout with
       | some v => (d.pmb 0x7A 0).put F.PWR_PMB_STS_STATUS_VOUT v.toNat
       | none => (d.pmb 0x7A 0).pmbFailed)
    else d
  if pmbFaulty w then (if r.cleared then d.pmb 3 0 else (d.pmb 3 0).pmbFailed) else d.causeOff .pmicFault 0

/-- A STATUS_WORD read of a command: the word, none after a third failure. -/
def Dev.statusRead (r : PmbRead) (d : Dev) : Option Nat × Dev :=
  match r.word with
  | none => (none, (d.pmb 0x79 0).pmbFailed)
  | some w => (some w.toNat, d.statusWord w.toNat r)

/-- Has a transaction of a STATUS_WORD read failed three times? -/
def pmbLost (r : PmbRead) : Bool :=
  match r.word with
  | none => true
  | some w => (bitOf w.toNat 15 && r.vout.isNone) || (pmbFaulty w.toNat && !r.cleared)

/-- VOUT_COMMAND for V in hundredths: round(V · 2^-N). -/
def Dev.voutWord (d : Dev) (v : Nat) : Nat := (2 * v * 2 ^ (32 - d.get F.PWR_PMB_CFG_N) + 100) / 200

/-- A change ends with PERF_FAIL (R447). -/
def Dev.perfFail (d : Dev) : Dev :=
  let d := (d.pmbTry 0x21 (d.voutWord 75)).modPwr (fun q => { q with perf := 0 })
  (((d.up F.PWR_STS_PERF_BUSY false).up F.PWR_STS_PERF true).setDiv true).event0 F.PWR_EVT_PERF_FAIL_EVT

/-- A change is complete. -/
def Dev.perfDone (level : Bool) (d : Dev) : Dev :=
  (((d.modPwr (fun q => { q with perf := 0 })).up F.PWR_STS_PERF_BUSY false).up F.PWR_STS_PERF level).event0 F.PWR_EVT_PERF_DONE_EVT

/-- A write of PWR_PERF whose pair was accepted (R446). -/
def Dev.powPerf (p : Port) (w : Nat) (ok : Bool) (d : Dev) : Dev :=
  let d := d.pmbNew
  if 2 ≤ w ∨ d.pwr.perf ≠ 0 then d.illegal p R.PWR_PERF
  else if (w == 1) == d.flag F.PWR_STS_PERF then d
  else
    let d := d.up F.PWR_STS_PERF_BUSY true
    if w = 1 then d.modPwr (fun q => { q with perf := 1 })
    else
      let d := (d.pmb 0x21 (d.voutWord 75)).modPwr (fun q => { q with perf := 3, pollAt := d.upNs })
      if ok then d else d.pmbFailed.perfFail

/-- Is SOLV idle (R446)? No context runs, and none waits for its turn behind another: those released by the PLAN event start 2.0 µs
after it. -/
def Dev.solvIdle (d : Dev) : Bool := bitOf d.pwr.off 0 || (d.solvBusy.isNone && (d.solvNext.isNone || d.solv.now == 24000))

/-- SOLV_DIVIDER_CHANGE at an instant at which SOLV is idle (R436, R446). -/
def Dev.solvDivider (ok : Bool) (d : Dev) : Dev :=
  let d := d.pmbNew
  if !d.solvIdle then d
  else match d.pwr.perf with
    | 1 =>
      let d := ((d.setDiv true).pmb 0x21 (d.voutWord 68)).modPwr (fun q => { q with perf := 2, pollAt := d.upNs })
      if ok then d else d.pmbFailed.perfFail
    | 4 => (d.setDiv false).perfDone false
    | _ => d

/-- STATUS_POLL: one poll of a change (R446). A transaction of it that fails three times ends the change (R450). -/
def Dev.statusPoll (r : PmbRead) (d : Dev) : Dev :=
  let d := d.pmbNew
  if d.pwr.perf ≠ 2 ∧ d.pwr.perf ≠ 3 then d
  else match d.statusRead r with
    | (none, d) => d.perfFail
    | (some w, d) =>
      if pmbLost r then d.perfFail
      else if pmbFaulty w then d
      else if d.pwr.perf = 2 then d.perfDone true
      else d.modPwr (fun q => { q with perf := if d.flag F.PWR_STS_PGOOD then 4 else 5 })

/-- VOUT_TIMEOUT (R447): the polling or the wait for PGOOD has lasted too long. -/
def Dev.voutTimeout (d : Dev) : Dev :=
  if d.pwr.perf ≠ 2 ∧ d.pwr.perf ≠ 3 ∧ d.pwr.perf ≠ 5 then d
  else (d.runUp (d.pwr.pollAt + 100000 * d.get F.PWR_PMB_CFG_VOUT_T)).pmbNew.perfFail

/-- PMB_ALERT_N low (R450). -/
def Dev.pmbAlert (r : PmbRead) (d : Dev) : Dev :=
  if d.pmbOn = false then d
  else match d.pmbNew.statusRead r with
    | (none, d) => d
    | (some w, d) =>
      if pmbFaulty w then (d.raise F.PWR_EVT_PMIC_FAULT_EVT).fault .pmicFault 0 2 allAxes true (some F.PWR_EVT_PMIC_FAULT_EVT) else d

/-- PMBUS_POLL every 10 ms (R449): STATUS_WORD with STATUS_VOUT, READ_VOUT, READ_IOUT; each may fail. -/
def Dev.pmbusPoll (r : PmbRead) (vout iout : Option Nat) (d : Dev) : Dev :=
  if d.pmbOn = false then d
  else
    let (_, d) := d.pmbNew.statusRead r
    let d := d.pmb 0x8B 0
    let d := match vout with | some v => d.put F.PWR_PMB_MEAS_VOUT v | none => d.pmbFailed
    let d := d.pmb 0x8C 0
    match iout with | some v => d.put F.PWR_PMB_MEAS_IOUT v | none => d.pmbFailed

/-- PGOOD falls while PMIC_EN is driven and no SLEEP entry is committed (R448). -/
def Dev.pgoodLoss (d : Dev) : Dev :=
  if d.pwr.pmicEn = false ∨ d.flag F.PWR_STS_PGOOD = false then d
  else
    let d := { (d.up F.PWR_STS_PGOOD false).raise F.PWR_EVT_PGOOD_LOSS_EVT with io := { d.io with banks := 0 } }
    (d.fault .pgoodLoss 0 3 allAxes true (some F.PWR_EVT_PGOOD_LOSS_EVT)).relinquish true

/-! Commands. -/

/-- PWR_REQ (R438): no port answers in SLEEP (R445), and a host's needs the grant. -/
def execPwrReq (p : Port) (w : Word) (s : State) : Host.Outcome State Fault Refusal :=
  onDev (Dev.byPort p (Dev.guarded R.PWR_REQ (Dev.powReq p w.toNat))) s

/-- QUIESCE_END (R442). -/
def execQuiesceEnd (s : State) : Host.Outcome State Fault Refusal := done s.quiesceEnd

/-- QUIESCE_TIMEOUT (R441). -/
def execQuiesceTimeout (s : State) : Host.Outcome State Fault Refusal := onDev Dev.quiesceTimeout s

/-- ENTRY_DONE (R442). -/
def execEntryDone (s : State) : Host.Outcome State Fault Refusal := done s.entryDone

/-- EXIT_DONE (R444). -/
def execExitDone (s : State) : Host.Outcome State Fault Refusal := done s.exitDone

/-- WAKE_INPUT (R445). -/
def execWakeInput (w : WakeSrc) (s : State) : Host.Outcome State Fault Refusal := onDev (Dev.wakeInput w) s

/-- PWR_PERF (R446); ok: VOUT_COMMAND went through in three tries. -/
def execPwrPerf (p : Port) (w : Word) (ok : Bool) (s : State) : Host.Outcome State Fault Refusal :=
  onDev (Dev.byPort p (Dev.guarded R.PWR_PERF (Dev.powPerf p w.toNat ok))) s

/-- SOLV_DIVIDER_CHANGE (R446). -/
def execSolvDividerChange (ok : Bool) (s : State) : Host.Outcome State Fault Refusal := onDev (Dev.solvDivider ok) s

/-- STATUS_POLL (R446). -/
def execStatusPoll (r : PmbRead) (s : State) : Host.Outcome State Fault Refusal := onDev (Dev.statusPoll r) s

/-- VOUT_TIMEOUT (R447). -/
def execVoutTimeout (s : State) : Host.Outcome State Fault Refusal := onDev Dev.voutTimeout s

/-- PGOOD_LOSS (R448). -/
def execPgoodLoss (s : State) : Host.Outcome State Fault Refusal := onDev Dev.pgoodLoss s

/-- PMB_ALERT (R450). -/
def execPmbAlert (r : PmbRead) (s : State) : Host.Outcome State Fault Refusal := onDev (Dev.pmbAlert r) s

/-- PMBUS_POLL (R449). -/
def execPmbusPoll (r : PmbRead) (vout iout : Option (BitVec 16)) (s : State) : Host.Outcome State Fault Refusal :=
  onDev (Dev.pmbusPoll r (vout.map (·.toNat)) (iout.map (·.toNat))) s

end Sys2Proof.Machine
end

