-- ==== Sys2Proof/Machine/SpReg.lean ====
section
/-! DEFINITION. The registers and memories of an SP core, the four instruction formats, and the writes on their way through the
exposed pipeline (chapter 14, R337 to R346). -/
namespace Sys2Proof.Machine
open Sys2Proof.Config

/-! Registers (Table 14.2). -/

/-- Width mask of a writable control register below index 38; sr without LA0, LA1 and its reserved bit. -/
def cregMask (i : Nat) : Nat :=
  if i < 28 then 0x3FFF else if i = 28 ∨ i = 31 then 0xFFFF else if i < 34 then 0x1FFF
  else if i = 34 then 0x47F else if i = 37 then 0x77F else 0x1FFF

/-- May MTC or the window write an index (R337)? -/
def cregRw (i : Nat) : Bool := decide (i < 38) || (decide (40 ≤ i) && decide (i < 46))

def SpCore.dv (x : SpCore) (r : Nat) : Nat := tget x.d r
def SpCore.ds (x : SpCore) (r : Nat) : Int := sInt 32 (x.dv r)
def SpCore.cv (x : SpCore) (i : Nat) : Nat := tget x.cr i

/-- A control register as MFC sees it: the last value written, though a loop test or an address may not see it yet (Table 14.10). -/
def SpCore.lastC (x : SpCore) (i : Nat) : Nat :=
  x.late.foldl (fun v w => match w.2 with | .creg j u => if j = i then u else v | _ => v) (x.cv i)

/-- An accumulator part: 0 lo, 1 hi, 2 guard, sign-extended to 32 bits. -/
def accPart (v : Int) (k : Nat) : Nat :=
  if k = 2 then uNat 32 (sInt 8 (bitsOf (uNat 72 v) 71 64)) else bitsOf (uNat 72 v) (32 * k + 31) (32 * k)

/-- An accumulator with one part written. -/
def accSet (v : Int) (k w : Nat) : Int :=
  sInt 72 (putBits (uNat 72 v) (if k = 2 then 71 else 32 * k + 31) (32 * k) w)

/-- A register by its control index; 0 for a reserved one. -/
def Dev.creg (d : Dev) (c i : Nat) : Nat :=
  let x := d.core c
  if i < 38 then x.lastC i
  else match i with
    | 38 => x.cv 38
    | 39 => 16 * d.nodeId + c
    | 40 | 41 | 42 => accPart x.v0 (i - 40)
    | 43 | 44 | 45 => accPart x.v1 (i - 43)
    | 46 => match x.held with | some t => d.taskPrio t * 2 ^ 16 + t | none => 0xFFFFFFFF
    | 47 => d.ut
    | _ => 0

/-- The writes of an MTC or of the window to an index, and those that are seen late (Table 14.10). -/
def SpCore.cregWrites (x : SpCore) (i v : Nat) : List SpWrite × List (Nat × SpWrite) :=
  let m := Nat.land v (cregMask i)
  if i < 34 then ([], [(2, .creg i m)])
  else if i = 34 then ([.sr 0x47F v], [(1, .eie (bitOf v 10))])
  else if i < 38 then ([.creg i m], [])
  else
    let k := (i - 40) / 3
    let a := accSet (if k = 0 then x.a0 else x.a1) ((i - 40) % 3) v
    ([.acc k a, .vis k a], [])

/-! The register window (Table 14.13). -/

def Dev.winRead (d : Dev) (c i : Nat) : Nat :=
  if d.coreState c ≠ 3 then 0 else if i < 16 then (d.core c).dv i else d.creg c (i - 16)

def Dev.winWrite (c i : Nat) (w : Word) (d : Dev) : Dev :=
  if d.coreState c ≠ 3 then d
  else if i < 16 then d.modCore c (SpCore.put (.dreg i w.toNat false))
  else if cregRw (i - 16) then
    let (a, b) := (d.core c).cregWrites (i - 16) w.toNat
    d.modCore c (fun x => (a ++ b.map Prod.snd).foldl (fun x w => x.put w) x)
  else d

/-! Formats (R343, Tables 14.6 and 14.7). -/

/-- An instruction by its format's fields. -/
inductive SpFmt where
  | r (op rd rs rt aux : Nat)
  | i (op rd rs imm : Nat)
  | b (op field target : Nat)
  | p (op acc s1 s2 xm ym : Nat)
  deriving DecidableEq, Repr

/-- The fields are in range. -/
def SpFmt.fits : SpFmt → Bool
  | .r op rd rs rt aux => decide (op < 64) && decide (rd < 16) && decide (rs < 16) && decide (rt < 16) && decide (aux < 64)
  | .i op rd rs imm => decide (op < 64) && decide (rd < 16) && decide (rs < 16) && decide (imm < 65536)
  | .b op field target => decide (op < 64) && decide (field < 2048) && decide (target < 8192)
  | .p op acc s1 s2 xm ym =>
    decide (op < 16) && decide (acc < 2) && decide (s1 < 16) && decide (s2 < 16) && decide (xm < 256) && decide (ym < 256)

/-- XMOV or YMOV with MODE none has no other field set. -/
def movOk (m : Nat) : Bool := decide (64 ≤ m) || m == 0

/-- The opcode is listed for the format and every field it does not use is 0 (Table 14.8). -/
def SpFmt.listed : SpFmt → Bool
  | .r op rd rs rt aux =>
    match op with
    | 0 => rd == 0 && rs == 0 && rt == 0 && aux == 0
    | 0x0C | 0x0D | 0x0F | 0x15 => rt == 0 && aux == 0
    | 0x0E => rd == 0 && aux == 0
    | 0x10 => rs == 0 && rt == 0
    | 0x11 => rd == 0 && rt == 0
    | 0x12 => decide (rs < 2) && rt == 0
    | 0x13 => decide (rd < 2) && rt == 0
    | 0x14 => decide (rd < 2) && rs == 0 && rt == 0 && aux == 0
    | 0x16 => decide (rd < 2) && decide (rs < 2) && rt == 0 && aux == 0
    | _ => decide (op < 0x0C) && aux == 0
  | .i op rd rs imm =>
    match op with
    | 4 | 5 => rs == 0
    | 6 | 7 => decide (imm < 64)
    | 0x0C | 0x0D => rd == 0
    | _ => decide (op < 0x0C)
  | .b op field target =>
    match op with
    | 0 | 2 => field == 0
    | 1 | 6 => decide (field < 16)
    | 3 | 7 | 8 | 0x0B | 0x0C => field == 0 && target == 0
    | 4 | 9 | 0x0A => decide (field < 16) && target == 0
    | 5 => true
    | 0x0D | 0x0E => target == 0
    | _ => false
  | .p op acc s1 s2 xm ym =>
    movOk xm && movOk ym &&
      (match op with
       | 0 | 1 | 2 => true
       | 3 => acc == 0 && s1 == 0 && s2 == 0
       | 4 | 5 | 6 => s1 == 0 && s2 == 0
       | _ => false)

/-- The word of an instruction. -/
def SpFmt.encode : SpFmt → Nat
  | .r op rd rs rt aux => op * 2 ^ 24 + rd * 2 ^ 20 + rs * 2 ^ 16 + rt * 2 ^ 12 + aux * 2 ^ 6
  | .i op rd rs imm => 2 ^ 30 + op * 2 ^ 24 + rd * 2 ^ 20 + rs * 2 ^ 16 + imm
  | .b op field target => 2 ^ 31 + op * 2 ^ 24 + field * 2 ^ 13 + target
  | .p op acc s1 s2 xm ym => 3 * 2 ^ 30 + op * 2 ^ 26 + acc * 2 ^ 25 + s1 * 2 ^ 21 + s2 * 2 ^ 17 + xm * 2 ^ 9 + ym * 2

/-- The fields of a word, whatever its opcode. -/
def spFields (w : Nat) : SpFmt :=
  match w / 2 ^ 30 % 4 with
  | 0 => .r (bitsOf w 29 24) (bitsOf w 23 20) (bitsOf w 19 16) (bitsOf w 15 12) (bitsOf w 11 6)
  | 1 => .i (bitsOf w 29 24) (bitsOf w 23 20) (bitsOf w 19 16) (bitsOf w 15 0)
  | 2 => .b (bitsOf w 29 24) (bitsOf w 23 13) (bitsOf w 12 0)
  | _ => .p (bitsOf w 29 26) (bitsOf w 25 25) (bitsOf w 24 21) (bitsOf w 20 17) (bitsOf w 16 9) (bitsOf w 8 1)

/-- The instruction a word spells; none where it is illegal by its opcode or a reserved field (R343). -/
def spDecode (w : Nat) : Option SpFmt :=
  let f := spFields w
  if f.listed && f.encode == w then some f else none

/-- GERR (R340). -/
def Dev.gerr (c : Nat) (d : Dev) : Dev := d.modCore c (SpCore.put (.sr 0x40 0x40))

end Sys2Proof.Machine
end

