-- ==== Sys2Proof/Machine/Boot.lean ====
section
/-! DEFINITION. Start-up (chapter 20): rails, PLLs, march test, image load, recovery, companion loading, RUN, the event log and the
retained pages; and the commands whose step may write a log record. -/
namespace Sys2Proof.Machine
open Sys2Proof.Config

def Dev.modBoot (f : BootSt → BootSt) (d : Dev) : Dev := { d with boot := f d.boot }

/-- STAGE (Table 20.1). -/
def Dev.stage (d : Dev) : Nat := d.get F.CFG_BOOT_STS_STAGE

/-! Event log (R465, Table 20.5). -/

/-- Where the flash ring, the retained pages and their copies in shared memory lie. -/
abbrev logFlash : Nat := 0x2000000
abbrev retFlash : Nat := 0x2400000
abbrev logRam : Nat := 0x7D0000
abbrev retRam : Nat := 0x7E0000

/-- Word i of the record in slot k of the ring. -/
def logWord (m : Memory) (k i : Nat) : Nat := leNat (m.flashBytes (logFlash + 256 * k + 4 * i) 4)

/-- Does slot k hold a record with a good CRC? -/
def logGood (m : Memory) (k : Nat) : Bool := crc32c (m.flashBytes (logFlash + 256 * k) 252) == logWord m k 63

/-- The slots with a good record, in ascending SEQ; an erased slot holds none, since its CRC differs. -/
def logSlots (m : Memory) : List Nat :=
  let used := ((m.filter (fun c => logFlash ≤ c.1 && c.1 < retFlash)).map (fun c => (c.1 - logFlash) / 256)).eraseDups
  (used.filter (logGood m)).mergeSort (fun a b => logWord m a 0 ≤ logWord m b 0)

/-- The scan at a start: the ring continues after the record with the highest SEQ, BOOTS counts the START records, and the newest 256
are copied to shared memory, oldest first. The first SEQ of an empty ring is a free value (log entry 64). -/
def State.logScan (s : State) : State :=
  let l := logSlots s.flash
  let new := l.drop (l.length - 256)
  let m := new.zipIdx.foldl (fun (m : Memory) x => m.putBytes sramReset (logRam + 256 * x.2) (s.flash.flashBytes (logFlash + 256 * x.1) 256)) s.mem
  let (seq, slot, d) := match l.getLast? with
    | some k => ((logWord s.flash k 0 + 1) % 2 ^ 32, (k + 1) % 16384, s.dev)
    | none => let (v, d) := s.dev.drawW; (v, 0, d)
  let d := d.put F.CFG_BOOT_CNT_BOOTS (l.filter (fun k => logWord s.flash k 1 / 2 ^ 24 == 1)).length
  { s with mem := m, dev := d.modBoot (fun b => { b with logSlot := slot, logSeq := seq, logRam := new.length }) }

/-- STRUCT_ID and IMG_VER of the running image: 0 while none is loaded. -/
def Dev.running (d : Dev) : Nat × Nat :=
  if d.boot.recs = [] then (0, 0) else (d.get64 R.CFG_STRUCT_ID_LO, (d.rd R.CFG_IMG_VER).toNat)

/-- A record's 64 words; ver is IMG_VER of the new image, for UPDATE. -/
def Dev.logBody (kind code detail ver : Nat) (d : Dev) : List Word :=
  let (sid, v) := d.running
  let ws := [d.boot.logSeq, kind * 2 ^ 24 + code * 2 ^ 16 + detail % 2 ^ 16, d.get F.CFG_BOOT_CNT_BOOTS, (if d.stage < 8 then 0 else d.time.cycno),
    sid, sid / 2 ^ 32, v, ver].map (BitVec.ofNat 32) ++ List.replicate 55 0
  ws ++ [BitVec.ofNat 32 (crc32c (ws.flatMap (fun w => leBytes 4 w.toNat)))]

/-- CFG writes a log record, a LOG store: a refused one is dropped and counts LOG_LOST. -/
def State.logRecord (kind code detail ver : Nat) (s : State) : State :=
  let d := s.dev
  if d.nvOk 1 = false then { s with dev := (d.cnt F.UPD_CNT_LOG_LOST).nvRefused }
  else
    let ws := d.logBody kind code detail ver
    let k := d.boot.logSlot
    let a := logFlash + 256 * k
    let fl := if k % 16 = 0 then s.flash.clear a (a + 0x1000) else s.flash
    { s with
      flash := fl.putBytes flashReset a (ws.flatMap (fun w => leBytes 4 w.toNat))
      mem := s.mem.putWords (logRam + 256 * (d.boot.logRam % 256)) ws
      dev := d.modBoot (fun b => { b with logSlot := (k + 1) % 16384, logSeq := (b.logSeq + 1) % 2 ^ 32, logRam := b.logRam + 1 }) }

/-! Retained pages (R466). -/

/-- Is page p good? An erased page is not: its CRC differs. -/
def retGood (m : Memory) (p : Nat) : Bool :=
  let a := retFlash + 0x1000 * p
  m.any (fun c => a ≤ c.1 && c.1 < a + 0x1000) && crc32c (m.flashBytes a 4092) == leNat (m.flashBytes (a + 4092) 4)

/-- Every page is restored to shared memory, a bad one as zeros. -/
def State.retRestore (s : State) : State :=
  let one := fun (s : State) (p : Nat) =>
    if retGood s.flash p then
      { s with mem := s.mem.putBytes sramReset (retRam + 0x1000 * p) (s.flash.flashBytes (retFlash + 0x1000 * p) 4096) }
    else { s with mem := s.mem.clear (retRam + 0x1000 * p) (retRam + 0x1000 * (p + 1)), dev := s.dev.putBit F.CFG_RET_BAD_RET_BAD p true }
  (List.range 16).foldl one s

/-- Host access is granted, after the log and the retained pages are in shared memory (03 R66). -/
def State.grant (s : State) : State :=
  (s.logScan.retRestore).upd (fun d => { d with host := { d.host with granted := true } })

/-- A start stops with FAILED (Table 20.2). Where it stops before the image load, the access it grants shows CFG_LOAD_STS with OWNER_BOUND and
SAFE_BOUND, IMG_VER, BUILD and STRUCT_ID still at their reset values: 02 R60 has the loader fill them before any access, and no loader has
run (DESIGN CHOICE, log entry 87). -/
def State.bootStop (detail node : Nat) (s : State) : State :=
  let s := s.upd (fun d => (d.up F.CFG_BOOT_STS_FAILED true).put F.CFG_BOOT_STS_DETAIL detail)
  let s := if s.dev.host.granted then s else s.grant
  s.logRecord 2 s.dev.stage node 0

/-! Steps 1 to 4 (R452, R453). -/

/-- VBUS rises to 8.5 V or more. -/
def Dev.vbusRise (d : Dev) : Dev :=
  if d.pwr.vbusOk then d
  else
    let d := d.modPwr (fun q => { q with vbusOk := true })
    if d.pwr.resetN then d.startRails 1 else d

/-- RESET_N rises; the pins are back under functional control (21 R484). -/
def Dev.resetRise (d : Dev) : Dev :=
  if d.pwr.resetN then d
  else
    let d := d.modPwr (fun q => { q with resetN := true })
    if d.pwr.vbusOk then d.startRails 1 else d

/-- Is a supply in an operating range of Table 21.5, that of 1.8 V or that of 3.3 V? -/
def volt18 (mv : Nat) : Bool := decide (1710 ≤ mv ∧ mv ≤ 1890)
def volt33 (mv : Nat) : Bool := decide (3135 ≤ mv ∧ mv ≤ 3465)

/-- The supplies by bank. -/
def bankAll (v : BankVolts) : List Nat := [v.a0, v.a1, v.a2, v.a3, v.a4]

/-- A mask of the banks whose supply meets a test. -/
def bankMask (p : Nat → Bool) (v : BankVolts) : Nat := (bankAll v).zipIdx.foldl (fun m x => setBit m x.2 (p x.1)) 0

/-- The lowest bank whose supply lies in neither range. -/
def bankBad (v : BankVolts) : Option Nat := (bankAll v).findIdx? (fun x => !volt18 x && !volt33 x)

/-- PGOOD rises: each AIO bank adapts to the supply it finds, or stays high-impedance (21 R471); a performance change that waits for it goes
on (19 R446). Of several banks out of range DETAIL names the lowest (log entry 88). -/
def State.pgoodRise (v : BankVolts) (s : State) : State :=
  let d := s.dev
  if d.pwr.pmicEn = false ∨ d.flag F.PWR_STS_PGOOD = true then s
  else
    let s := s.upd (fun d => { (d.up F.PWR_STS_PGOOD true).modPwr (fun q => { q with perf := if q.perf = 5 then 4 else q.perf }) with
      io := { d.io with banks := bankMask (fun x => volt18 x || volt33 x) v, low := bankMask volt18 v } })
    if d.stage ≠ 2 ∨ d.flag F.CFG_BOOT_STS_FAILED = true then s
    else
      let s := s.upd (fun d => ((d.put F.PWR_STS_STATE 0).modPwr (fun q => { q with off := 0 })).safeStart)
      match bankBad v with
      | some k => s.bootStop (0x10 + k) 0
      | none => s.upd (Dev.put F.CFG_BOOT_STS_STAGE 3)

/-- An attempt of step 2 or 3 fails: PMIC_EN low, for 1.0 s unless it was the third. -/
def Dev.railsFail (d : Dev) : Dev :=
  let last := decide (3 ≤ d.get F.CFG_BOOT_STS_TRIES)
  let d := (d.up F.PWR_STS_PGOOD false).safeOff
  let d := { d.modPwr (fun q => { q with pmicEn := false, off := 15 }) with io := default }
  if last then d.up F.CFG_BOOT_STS_FAILED true else d.modBoot (fun b => { b with retry := true })

/-- PGOOD not high within 100 ms. -/
def Dev.railsTimeout (d : Dev) : Dev :=
  if d.stage = 2 ∧ d.pwr.pmicEn = true ∧ d.flag F.PWR_STS_PGOOD = false then d.railsFail else d

/-- No PLL lock within 200 µs (19 R436). -/
def Dev.pllTimeout (d : Dev) : Dev := if d.stage = 3 ∧ d.pwr.pmicEn = true then d.railsFail else d

/-- Step 2 begins again. -/
def Dev.railsRetry (d : Dev) : Dev :=
  if d.boot.retry then (d.modBoot (fun b => { b with retry := false })).startRails (d.get F.CFG_BOOT_STS_TRIES + 1) else d

/-- Both PLLs lock; TIME_NOW starts at 0 on the node's own grid (19 R436, R437; 04 R487). Later the root PLL has locked again: ROOT_LOCK
shows it, and the cause of PLL_LOSS stays (01 R18). -/
def Dev.pllLock (d : Dev) : Dev :=
  if d.pwr.pmicEn = false then d
  else if d.stage ≠ 3 then (if d.time.running then d.up F.CLK_STS_ROOT_LOCK true else d)
  else
    let d := ((d.up F.CLK_STS_ROOT_LOCK true).up F.CLK_STS_SAFE_LOCK true).put F.CFG_BOOT_STS_STAGE 4
    { d with time := { d.time with running := true, now := 0, ticks := 0, nextCyc := d.time.tb }, safe := { d.safe with run := true } }

/-- The march test ends, every word written 0 (01 R19). ADC has been switched on and calibrates (08 R204). -/
def State.bistDone (ok : Bool) (s : State) : State :=
  if s.dev.stage ≠ 4 ∨ s.dev.flag F.CFG_BOOT_STS_FAILED = true then s
  else
    let s := (s.setMem []).upd (fun d => d.adcSwitchOn.modBoot (fun b => { b with shadow := false }))
    if ok then s.upd (Dev.put F.CFG_BOOT_STS_STAGE 5) else s.bootStop 0 0

/-! Step 5 (02 R57, R60; R454, R459). -/

/-- CFG_LOAD_STS and the registers of Tables 2.9 and 2.10 (02 R60). -/
def Dev.loadShow (img : Option Img) (otp : List (Nat × Word)) (e : LoadErr) (d : Dev) : Dev :=
  let d := ((d.put F.CFG_LOAD_STS_CODE e.1).put F.CFG_LOAD_STS_SUBCODE e.2.1).put F.CFG_LOAD_STS_SECT_IDX e.2.2
  let d := (d.up F.CFG_LOAD_STS_OWNER_BOUND (!otpBlank otp 0)).up F.CFG_LOAD_STS_SAFE_BOUND (!otpBlank otp 8)
  match img with
  | none => ((d.put64 R.CFG_STRUCT_ID_LO 0).put64 R.CFG_BUILD_LO 0).wr R.CFG_IMG_VER 0
  | some i => ((d.put64 R.CFG_STRUCT_ID_LO i.structId).put64 R.CFG_BUILD_LO (i.le 0x18 8)).wr R.CFG_IMG_VER (BitVec.ofNat 32 i.version)

/-- The header shown: none when the load failed in step 1, 2 or 3. -/
def headShown (img : Img) : Option Img := if img.header = none then some img else none

/-- Recovery (R459): every region written is clear again, and LINK is in reset; HOLD_C and HOLD_VMIN come from OTP, and while that field is blank the
hold-up check is skipped. -/
def State.enterRecovery (s : State) : State :=
  let w := otpWord s.otp 16
  let s := { s with mem := s.mem.clear 0x800000 0x1880000 }
  s.upd (fun d =>
    let d := { d with link := { Dev.reset.link with serial := d.link.serial }, regs := d.regs.filter (fun x => x.1 / 0x100000 != 3) }
    let d := (d.up F.UPD_STS_RECOVERY true).wr R.PWR_HOLD_CFG (if w = 0 then d.rd R.PWR_HOLD_CFG else w)
    ({ d with host := { d.host with recovery := true } }).modBoot (fun b => { b with skipHold := w == 0, shadow := false }))

/-- A good image: each section is in its region, and its block takes it. -/
def State.applyImage (img : Img) (rs : List Rec) (s : State) : State :=
  let s := s.regionLoad rs
  let f := sectRecs 9 rs
  let s := s.upd (fun d =>
    let c := d.link.cfg
    let d := { d with time := { d.time with pendCfg := some (c.tb, c.inCut, c.m) } }
    let d := d.safeAccept (parseSafe f) (ssmParse f) (otpBlank s.otp 8) (sha256 img.safeKey)
    d.modBoot (fun b => { b with recs := rs, sects := img.sects, skipHold := false, shadow := true }))
  s

/-- PMBus start (R454): a word of none is a third failure of any of the three transactions. -/
def State.pmbStart (pm : PmbRead) (s : State) : State :=
  let (w, d) := ((s.dev.pmbNew.pmb 3 0).pmb 1 0x80).statusRead pm
  let s := { s with dev := d }
  match w with
  | none => s.bootStop 1 0
  | some w =>
    if pmbFaulty w then s.bootStop 2 0
    else s.upd (fun d => (d.put F.CFG_BOOT_STS_STAGE 6).put F.LINK_STS_PHASE 1)

/-- The ROM loader runs Table 2.6. -/
def State.imageLoad (mode : FlashMode) (fa fb : Bool) (ecc : Option Nat) (pm : PmbRead) (s : State) : State :=
  let d := s.dev
  if d.stage ≠ 5 ∨ d.host.granted = true ∨ d.flag F.CFG_BOOT_STS_FAILED = true then s
  else
    let img := flashImg s.flash
    let s := s.upd (Dev.modBoot (fun b => { b with mode := match mode with | .none => 0 | .ddr => 1 | .sdr => 2 }))
    if mode = .none then ((s.upd (Dev.loadShow none s.otp (1, 0, 0xFF))).enterRecovery).grant
    else match img.validate s.otp fa fb ecc Dev.reset with
      | .error e => ((s.upd (Dev.loadShow (headShown img) s.otp e)).enterRecovery).grant
      | .ok rs => ((((s.upd (Dev.loadShow (some img) s.otp (0, 0, 0xFF))).applyImage img rs).grant).pmbStart pm)

/-- A COMMIT that succeeds in recovery makes the loader restart at step 5. -/
def Dev.loaderRestart (d : Dev) : Dev :=
  let d := ((d.put F.CFG_BOOT_STS_STAGE 5).up F.UPD_STS_RECOVERY false).wr R.PWR_HOLD_CFG (regReset R.PWR_HOLD_CFG)
  ({ d with host := { d.host with recovery := false, granted := false } }).modBoot (fun b => { b with skipHold := false })

/-! Step 7 (R456, R457). -/

/-- The COMP section of a node, with its table index. -/
def Dev.compSect (d : Dev) (n : Nat) : Option Sect := d.boot.sects.find? (fun x => x.typ == 13 && x.inst == n)

/-- The nodes with a member code that the root loads. -/
def Dev.compNodes (d : Dev) : List Nat :=
  (d.link.disc.graph.filter (fun g => g.member == 0x110 || g.member == 0x240)).filterMap (·.assigned)

/-- Is a node REQUIRED by the LINK section's node list? -/
def Dev.compRequired (d : Dev) (n : Nat) : Bool := d.link.cfg.nodes.any (fun x => x.id == n && x.required)

/-- The frames of one attempt; when the read fails its CRC no END is sent. -/
def Dev.compTrain (d : Dev) (flash : Memory) (n attempt : Nat) (x : Sect) (good : Bool) : List Frame :=
  let mk := fun (sub w1 : Nat) (data : List Word) =>
    d.mkFrame 11 n 0 0 ([BitVec.ofNat 32 (sub * 2 ^ 24 + attempt * 2 ^ 16), BitVec.ofNat 32 w1] ++ data ++ List.replicate (62 - data.length) 0)
  let ws := leWords (flash.flashBytes x.off x.len)
  [mk 1 x.len []] ++ (List.range ((x.len + 247) / 248)).map (fun i => mk 2 (248 * i) ((ws.drop (62 * i)).take 62))
    ++ (if good then [mk 3 x.crc []] else [])

/-- The frames leave one after another on the node's port; their answer is due 1 ms after the last. -/
def Dev.compSend (fs : List Frame) (d : Dev) : Dev :=
  let now := d.nowPs.toNat
  let one := fun (f : Frame) (d : Dev) => Dev.each (d.ownPorts f) (fun p d =>
    if d.unschedOk && d.portState p = 3 then d.letOut p (ownItem f .plain now) (max now (tget d.link.ports p).busyUntil) else d) d
  let d := Dev.each fs one d
  let end_ := (fs.flatMap (fun f => d.ownPorts f)).foldl (fun (t : Nat) p => max t (tget d.link.ports p).busyUntil) now
  d.modBoot (fun b => { b with train := fs, sentAt := d.upAt ((end_ + 999) / 1000) })

/-- Step 7 ends. -/
def Dev.compEnd (d : Dev) : Dev :=
  (d.modBoot (fun b => { b with cur := none, todo := [], wait := [], waitFrom := none })).put F.CFG_BOOT_STS_STAGE 8

/-- A node fails its load: a REQUIRED one stops the start. -/
def State.compFail (n : Nat) (s : State) : State :=
  let s := s.upd (Dev.modBoot (fun b => { b with failed := b.failed ++ [n], cur := none, wait := b.wait.filter (· != n) }))
  if s.dev.compRequired n then
    (s.upd (Dev.modBoot (fun b => { b with todo := [], wait := [], waitFrom := none }))).bootStop n n
  else s

/-- An attempt begins; a read that fails its CRC fails the attempt at once. -/
def State.compTry (n : Nat) (x : Sect) : Nat → Nat → State → State
  | 0, _, s => s.compFail n
  | k + 1, a, s =>
    let good := crc32c (s.flash.flashBytes x.off x.len) == x.crc
    let s := s.upd (fun d => (d.compSend (d.compTrain s.flash n a x good)).modBoot (fun b => { b with cur := some (n, a) }))
    if good then s else State.compTry n x k (a + 1) s

/-- The root moves to the next node; after the last it waits for every READY. -/
def State.compNext : Nat → State → State
  | 0, s => s
  | k + 1, s =>
    if s.dev.flag F.CFG_BOOT_STS_FAILED then s
    else match s.dev.boot.todo with
      | [] =>
        if s.dev.boot.wait = [] then s.upd Dev.compEnd
        else s.upd (fun d => d.modBoot (fun b => { b with waitFrom := some d.upNs }))
      | n :: r =>
        let s := s.upd (Dev.modBoot (fun b => { b with todo := r, cur := none }))
        let s := match s.dev.compSect n with
          | none => s.compFail n
          | some x => s.compTry n x 3 1
        if s.dev.boot.cur.isSome then s else State.compNext k s

/-- COMPANION_LOAD_START: the nodes in the order of their COMP sections, then those that no section names. -/
def State.compStart (s : State) : State :=
  let d := s.dev
  if d.stage ≠ 7 ∨ d.flag F.LINK_STS_ROOT = false ∨ d.flag F.CFG_BOOT_STS_FAILED = true ∨ d.boot.cur.isSome ∨ d.boot.waitFrom.isSome then s
  else
    let ns := d.compNodes
    let named := (d.boot.sects.filter (fun x => x.typ == 13)).map (·.inst)
    let l := named.filter (fun i => ns.contains i) ++ ns.filter (fun n => !named.contains n)
    (s.upd (Dev.modBoot (fun b => { b with todo := l, wait := [], failed := [] }))).compNext 33

/-- The present attempt fails (R457): the section is sent again, three times in all. -/
def State.compRetry (s : State) : State :=
  match s.dev.boot.cur with
  | none => s
  | some (n, a) =>
    let s := match s.dev.compSect n with
      | some x => if a < 3 then s.compTry n x (3 - a) (a + 1) else s.compFail n
      | none => s.compFail n
    if s.dev.boot.cur.isSome then s else s.compNext 33

/-- A COMPLOAD frame with a given SUB arrives here: its source. -/
def Dev.compIn (sub p : Nat) (f : Frame) (stamp : Nat) (d : Dev) : Dev × Option Nat :=
  let (d, here) := d.frameIn p f stamp
  (d, if here && f.typ == 11 && bitsOf (f.w 0) 31 24 == sub then some f.src else none)

/-- Does an answer concern the attempt in progress? -/
def Dev.compMine (d : Dev) (n : Nat) (f : Frame) : Bool := d.boot.cur == some (n, bitsOf (f.w 0) 23 16)

/-- ACK: the root moves to the next node, and READY is awaited. -/
def State.compAck (n : Nat) (f : Frame) (s : State) : State :=
  if s.dev.compMine n f then (s.upd (Dev.modBoot (fun b => { b with cur := none, wait := b.wait ++ [n] }))).compNext 33 else s

/-- READY. -/
def State.compReady (n : Nat) (s : State) : State :=
  if s.dev.boot.wait.contains n = false then s
  else
    let s := s.upd (Dev.modBoot (fun b => { b with wait := b.wait.filter (· != n) }))
    if s.dev.boot.waitFrom.isSome ∧ s.dev.boot.wait = [] then s.upd Dev.compEnd else s

/-- No answer within 1 ms. -/
def State.compAckTimeout (s : State) : State :=
  if s.dev.boot.cur.isNone then s else (s.upd (fun d => d.runUp (d.boot.sentAt + 1000000))).compRetry

/-- No READY within READY_T: every node that waits fails. -/
def State.compReadyTimeout (s : State) : State :=
  match s.dev.boot.waitFrom with
  | none => s
  | some t =>
    let s := s.upd (fun d => d.runUp (t + 10000000 * d.get F.UPD_CFG_READY_T))
    let s := s.dev.boot.wait.foldl (fun s n => if s.dev.flag F.CFG_BOOT_STS_FAILED then s else s.compFail n) s
    if s.dev.flag F.CFG_BOOT_STS_FAILED then s else s.upd Dev.compEnd

/-! RUN (R455). -/

/-- An exit from SLEEP ends (19 R443, R444): the domains that its target has off are switched off again, as in Table 19.2, and requests that
wait are decided next. -/
def State.wakeEnd (s : State) : State :=
  let t := s.dev.get F.PWR_STS_TARGET
  (s.domainsOff t).upd (fun d => (d.setPower t).powIdle.event0 F.PWR_EVT_EXITED_EVT)

/-- ENTER_RUN after ms from step 1: the fabric is SCHEDULED or ZENITH and the island has left INIT. Task triggers post from the first
CYC_START after it (15 R360). -/
def State.enterRun (ms : Nat) (s : State) : State :=
  let d := s.dev
  if d.stage ≠ 9 ∨ d.istate = 0 ∨ d.flag F.CFG_BOOT_STS_FAILED = true then s
  else
    let s := s.upd (fun d =>
      let d := (d.put F.CFG_BOOT_STS_STAGE 10).put F.CFG_BOOT_TIME_MS (min ms (2 ^ 32 - 1))
      let d := { d with host := { d.host with everRun := true } }
      (d.spRun.modSched (fun q => { q with armed := true })).redStart)
    let s := if s.dev.pwrPhase = 4 then s.wakeEnd else s
    let s := s.upd (fun d => d.put F.CFG_BOOT_CNT_BOOTS (d.get F.CFG_BOOT_CNT_BOOTS + 1))
    s.logRecord 1 10 (ms % 2 ^ 16) 0

/-! Log records of LOCKOUT and TAKEOVER. -/

/-- A step after which the island has entered LOCKOUT writes a LOCKOUT record (R465). -/
def State.lockLog (f : Dev → Dev) (s : State) : State :=
  let s' := s.upd f
  if s.dev.istate ≠ 5 ∧ s'.dev.istate = 5 then s'.logRecord 4 (s'.dev.get F.SAFE_STS_LOCK_CAUSE) 0 0 else s'

/-- A takeover that has happened writes a TAKEOVER record. -/
def State.takeoverLog (s : State) : State :=
  let s' := s.upd (Dev.takeover s.mem)
  if s.dev.redRole = 4 ∧ s'.dev.redRole = 2 then s'.logRecord 5 0 0 0 else s'

/-! Commands. -/

/-- VBUS_RISE (R452). -/
def execVbusRise (s : State) : Host.Outcome State Fault Refusal := onDev Dev.vbusRise s

/-- RESET_N_RISE (R452): RESET_N rises after at least 1 µs low. -/
def execResetNRise (s : State) : Host.Outcome State Fault Refusal := onDev Dev.resetRise s

/-- PGOOD_RISE (R453; 21 R471). -/
def execPgoodRise (v : BankVolts) (s : State) : Host.Outcome State Fault Refusal := done (s.pgoodRise v)

/-- RAILS_TIMEOUT (R453). -/
def execRailsTimeout (s : State) : Host.Outcome State Fault Refusal := onDev Dev.railsTimeout s

/-- RAILS_RETRY (R453). -/
def execRailsRetry (s : State) : Host.Outcome State Fault Refusal := onDev Dev.railsRetry s

/-- PLL_LOCK (19 R436). -/
def execPllLock (s : State) : Host.Outcome State Fault Refusal := onDev Dev.pllLock s

/-- PLL_LOCK_TIMEOUT (19 R436). -/
def execPllLockTimeout (s : State) : Host.Outcome State Fault Refusal := onDev Dev.pllTimeout s

/-- BIST_DONE (R453). -/
def execBistDone (ok : Bool) (s : State) : Host.Outcome State Fault Refusal := done (s.bistDone ok)

/-- IMAGE_LOAD (02 R57): the flash's read mode, whether a safety channel's own check fails, the section at which an uncorrectable SRAM
error is met, and the PMIC's answers at the PMBus start. -/
def execImageLoad (mode : FlashMode) (fa fb : Bool) (ecc : Option (Fin 64)) (pm : PmbRead) (s : State) :
    Host.Outcome State Fault Refusal := done (s.imageLoad mode fa fb (ecc.map (·.val)) pm)

/-- ENTER_RUN (R455). -/
def execEnterRun (ms : Nat) (s : State) : Host.Outcome State Fault Refusal := done (s.enterRun ms)

/-- COMPANION_LOAD_START (R456). -/
def execCompanionLoadStart (s : State) : Host.Outcome State Fault Refusal := done s.compStart

/-- COMPLOAD_ACK_RECEIVE (R457). -/
def execComploadAckReceive (p : Fin 8) (f : Frame) (stamp : Nat) (s : State) : Host.Outcome State Fault Refusal :=
  let (d, n) := s.dev.compIn 4 p f stamp
  done (match n with | some n => ({ s with dev := d }).compAck n f | none => { s with dev := d })

/-- COMPLOAD_NACK_RECEIVE (R457). -/
def execComploadNackReceive (p : Fin 8) (f : Frame) (stamp : Nat) (s : State) : Host.Outcome State Fault Refusal :=
  let (d, n) := s.dev.compIn 5 p f stamp
  done (match n with
    | some n => if d.compMine n f then ({ s with dev := d }).compRetry else { s with dev := d }
    | none => { s with dev := d })

/-- COMPLOAD_READY_RECEIVE (R457). -/
def execComploadReadyReceive (p : Fin 8) (f : Frame) (stamp : Nat) (s : State) : Host.Outcome State Fault Refusal :=
  let (d, n) := s.dev.compIn 6 p f stamp
  done (match n with | some n => ({ s with dev := d }).compReady n | none => { s with dev := d })

/-- COMPLOAD_ACK_TIMEOUT (R457). -/
def execComploadAckTimeout (s : State) : Host.Outcome State Fault Refusal := done s.compAckTimeout

/-- READY_TIMEOUT (R457). -/
def execReadyTimeout (s : State) : Host.Outcome State Fault Refusal := done s.compReadyTimeout

/-- ISLAND_SELFTEST_DONE (16 R378), in step 5 or later. -/
def execIslandSelftestDone (ok : Bool) (s : State) : Host.Outcome State Fault Refusal :=
  done (if s.dev.stage < 5 then s else s.lockLog (Dev.selftestDone ok))

/-- XLINK (16 R376): no valid exchange for 2 consecutive evaluations. -/
def execXlink (s : State) : Host.Outcome State Fault Refusal := done (s.lockLog (Dev.lockout 0x10))

/-- CMD_MISMATCH (16 R376): output commands differ for 3 consecutive evaluations. -/
def execCmdMismatch (s : State) : Host.Outcome State Fault Refusal := done (s.lockLog (Dev.lockout 0x11))

/-- SUPPLY (16 R377): a safety rail outside ±6 % for 20 µs. -/
def execSafeSupply (s : State) : Host.Outcome State Fault Refusal := done (s.lockLog (Dev.lockout 0x12))

/-- CLOCK (16 R377): the SAFE clock stopped, or it or an evaluation interval out of its range. -/
def execSafeClock (c : SafeClk) (s : State) : Host.Outcome State Fault Refusal := done (s.lockLog (Dev.safeClock c))

/-- SAFE_CLOCK_RESTORED (16 R377). -/
def execSafeClockRestored (s : State) : Host.Outcome State Fault Refusal := done (s.lockLog Dev.safeClockBack)

/-- PERIODIC_TEST (16 R393, Table 16.5): a failing slice, SELFTEST, or ECC where it finds an uncorrectable error in channel A's SRAM. -/
def execPeriodicTest (ecc : Bool) (s : State) : Host.Outcome State Fault Refusal :=
  done (s.lockLog (Dev.lockout (if ecc then 0x15 else 0x14)))

/-- SSM_RESULT (17 R410). -/
def execSsmResult (s : State) : Host.Outcome State Fault Refusal := done (s.lockLog Dev.ssmResult)

/-- TAKEOVER (18 R430). -/
def execTakeover (s : State) : Host.Outcome State Fault Refusal := done s.takeoverLog

end Sys2Proof.Machine
end

