-- ==== Sys2Proof/Machine/Update.lean ====
section
/-! DEFINITION. Field update (chapter 20), loss of power, live patches (chapter 2) and the binding of SAFE_KEYH (chapter 16). -/
namespace Sys2Proof.Machine
open Sys2Proof.Config

def Dev.modUpd (f : UpdSt → UpdSt) (d : Dev) : Dev := { d with upd := f d.upd }

/-- The source a port writes as: 1 MSPI, 2 PCIe, 3 fabric peer; an SP core is none. -/
def updSrc : Port → Option Nat
  | .mspi => some 1
  | .pcie => some 2
  | .tunnel => some 3
  | .sp _ => none

/-- Does a source, as peer node for the fabric, hold the lock? -/
def Dev.updHolds (d : Dev) (src node : Nat) : Bool := d.updOwner == src && (src != 3 || d.get F.UPD_STS_OWNER_NODE == node)

/-! Staging (R460). -/

/-- A source's words, by word index; a peer the fabric buffer does not belong to has none. -/
def Dev.updBuf (d : Dev) (src node : Nat) : List (Nat × Word) :=
  if src = 3 ∧ d.upd.peer ≠ some node then []
  else (d.upd.win.filter (fun x => x.1 / 2 ^ 14 == src)).map (fun x => (x.1 % 2 ^ 14, x.2))

/-- The buffer is cleared. -/
def Dev.updClear (src : Nat) (d : Dev) : Dev := d.modUpd (fun u => { u with win := u.win.filter (fun x => x.1 / 2 ^ 14 != src) })

/-- Is a port an update source? In recovery LINK stays in reset, so the fabric is none (R459). -/
def Dev.updFrom (p : Port) (d : Dev) : Bool := !(d.host.recovery && p == .tunnel)

/-- A write of UPD_WIN at word i. -/
def Dev.updWin (p : Port) (node i : Nat) (w : Word) (d : Dev) : Dev :=
  if !d.updFrom p then d
  else match updSrc p with
  | none => d
  | some src =>
    let other := src == 3 && (match d.upd.peer with | some n => n != node | none => false)
    if (d.updOwner ≠ 0 ∧ d.updHolds src node = false) ∨ other then d.cnt F.UPD_CNT_WIN_DISCARD
    else d.modUpd (fun u => { u with
      win := tput u.win (src * 2 ^ 14 + i % 2 ^ 14) w, peer := if src = 3 then some node else u.peer })

/-- Bytes of a buffer. -/
def bufBytes (l : List (Nat × Word)) (n : Nat) : List Byte := (List.range n).flatMap (fun i => leBytes 4 (tget l i).toNat)

/-- A buffer as the image's sector 0, over the flash. -/
def overImg (l : List (Nat × Word)) (m : Memory) : Img :=
  flashImg ((m.clear 0 0x10000).putBytes flashReset 0 (bufBytes l 16384))

/-! Decisions (R463, Table 20.4). -/

/-- A result is recorded; bits that come together count one SEQ. -/
def Dev.updResult (code src op lcode : Nat) (evt : List Fld) (d : Dev) : Dev :=
  let d := (((d.put F.UPD_EVT_RESULT code).put F.UPD_EVT_SRC src).put F.UPD_EVT_OP op).put F.UPD_EVT_LCODE lcode
  let d := if code = 0 ∨ code = 0x0E then d else d.up F.UPD_EVT_REFUSED_EVT true
  match evt.reverse with
  | [] => d
  | f :: r => (Dev.each r (fun g d => d.up g true) d).event0 f

/-- A command is decided. The fabric buffer is free for another peer after a result of OPEN or ABORT. -/
def Dev.updDecide (code src op lcode : Nat) (d : Dev) : Dev :=
  let d := if src = 3 ∧ (op = 1 ∨ op = 4) then d.modUpd (fun u => { u with peer := none }) else d
  d.updResult code src op lcode [F.UPD_EVT_DONE_EVT]

/-- Some axis ENERGISED and not STILL. -/
def Dev.updMoving (d : Dev) : Bool := (List.range 128).any (fun n => d.energised n && !d.flag (F.TRAJ_AX_STS_STILL n))

/-- Sectors of the image kept by OPEN. -/
def Dev.updSectors (d : Dev) : Nat := ((tget d.upd.kept 3).toNat + 65535) / 65536

/-- The first check that fails when a command is accepted; nothing is in progress for it yet. -/
def Dev.updCheck (d : Dev) (src node op idx : Nat) : Option Nat :=
  let s := d.updSectors
  let holds := d.updHolds src node
  let store := fun (_ : Unit) =>
    if op ≠ 5 ∧ d.updMoving = true then some 6
    else if d.get F.ADC_VBUS_VOLT < d.get F.UPD_CFG_VBUS_MIN then some 7
    else if d.nvOk (if op = 5 then 2 else 0) = false then some 8
    else none
  match op with
  | 1 => if d.updOwner ≠ 0 ∧ holds = false then some 1 else store ()
  | 5 => if d.updOwner ≠ 0 then some 1 else if 15 < idx then some 3 else store ()
  | _ =>
    if holds = false then some 2
    else if op = 2 ∧ (idx = 0 ∨ s ≤ idx) then some 3
    else if op = 2 ∧ (tget d.upd.crc src).toNat ≠ crc32c (bufBytes (d.updBuf src node) 16384) then some 4
    else if op = 3 ∧ (List.range s).any (fun i => i != 0 && !d.upd.sectors.contains i) = true then some 5
    else if op = 4 then none else store ()

/-- The lock is released with a result, and an UPDATE record is written (R463, R465). -/
def State.updRelease (code : Nat) (s : State) : State :=
  let ver := (tget s.dev.upd.kept 8).toNat
  let s := s.upd (fun d => (((d.put F.UPD_STS_OWNER 0).put F.UPD_STS_OWNER_NODE 0).up F.UPD_STS_BUSY false).modUpd (fun u => { u with
    kept := [], sectors := [], opened := false }))
  s.logRecord 3 code 0 ver

/-- Where a command in progress stands: OPENs of one SYS clock are decided in the order MSPI, PCIe, fabric peer (R463), all others in the
order of their accepts. -/
def updQueue (w : UpdWork) : List UpdWork → List UpdWork
  | [] => [w]
  | x :: r => if w.op = 1 ∧ x.op = 1 ∧ x.at_ = w.at_ ∧ w.src < x.src then w :: x :: r else x :: updQueue w r

/-- BUSY follows the commands in progress. -/
def Dev.updBusy (d : Dev) : Dev := d.up F.UPD_STS_BUSY (d.upd.work.any (fun w => w.op != 1 && d.updHolds w.src w.node))

/-- A command of UPD_CMD whose pair was accepted. -/
def State.updCommand (p : Port) (node op idx : Nat) (s : State) : State :=
  let d := s.dev
  if !d.updFrom p then s
  else match updSrc p with
  | none => s.upd (Dev.illegal p R.UPD_CMD)
  | some src =>
    if op = 0 ∨ 5 < op ∨ d.upd.work.any (fun w => w.src == src && (src != 3 || w.node == node)) = true then s.upd (Dev.illegal p R.UPD_CMD)
    else
      let s := s.upd (Dev.put F.UPD_CMD_INDEX idx)
      let s := if d.updHolds src node then s.upd (Dev.modUpd (fun u => { u with last := d.upNs })) else s
      match d.updCheck src node op idx with
      | some c => s.upd (fun d => (if c = 8 then d.nvRefused else d).updDecide c src op 0)
      | none =>
        if op = 4 then (s.upd (Dev.updDecide 0x0E src 4 0)).updRelease 0x0E
        else
          let first := op == 2 && d.upd.opened
          let data := match op with
            | 5 => (s.mem.words (retRam + 0x1000 * idx) 1023).zipIdx.map (fun x => (x.2, x.1))
            | 3 => d.upd.kept
            | _ => d.updBuf src node
          let s := if first then
              ({ s with flash := s.flash.clear 0 0x10000 }).upd (fun d =>
                (d.up F.UPD_STS_FLASH_INVALID true).up F.UPD_STS_FLASH_CHANGED true)
            else s
          s.upd (fun d => (d.modUpd (fun u => { u with
            work := updQueue ⟨src, node, op, idx, first, data, d.upNs⟩ u.work, opened := u.opened && op != 2 })).updBusy)

/-! Work (R461). -/

/-- n bytes that the spec leaves open (log entry 65). -/
def Dev.freeBytes (n : Nat) (d : Dev) : List Byte × Dev := let (k, d) := d.fresh; (leBytes n (freeNat k), d)

/-- A store to flash at a: what it holds after a failure is open. -/
def State.flashStore (ok : Bool) (a : Nat) (bs : List Byte) (s : State) : State :=
  let (bs, d) := if ok then (bs, s.dev) else s.dev.freeBytes bs.length
  { s with dev := d, flash := (s.flash.clear a (a + bs.length)).putBytes flashReset a bs }

/-- The store of a command: an image sector, or a retained page with its CRC. -/
def State.updStore (ok : Bool) (w : UpdWork) (s : State) : State :=
  if w.op = 5 then
    let bs := bufBytes w.data 1023
    s.flashStore ok (retFlash + 0x1000 * w.idx) (bs ++ leBytes 4 (crc32c bs))
  else
    let i := if w.op = 3 then 0 else w.idx
    (s.flashStore ok (0x10000 * i) (bufBytes w.data 16384)).upd (fun d =>
      let d := d.up F.UPD_STS_FLASH_CHANGED true
      if w.op = 3 then d.up F.UPD_STS_FLASH_INVALID (!ok) else d)

/-- OPEN: HEADER and OWNER, then the lock (R461, Table 20.4). -/
def State.openDone (w : UpdWork) (s : State) : State :=
  let img := overImg w.data s.flash
  let dec := fun (c l : Nat) => s.upd (Dev.updDecide c w.src 1 l)
  if s.dev.updOwner ≠ 0 ∧ s.dev.updHolds w.src w.node = false then dec 1 0
  else match img.header with
    | some e => dec 9 e.1
    | none =>
      if img.sigOk = false then dec 9 8
      else if img.keyBad s.otp then dec 0x0A 0
      else s.upd (fun d =>
        let d := (d.put F.UPD_STS_OWNER w.src).put F.UPD_STS_OWNER_NODE (if w.src = 3 then w.node else 0)
        let d := ((d.put F.UPD_STS_DONE_CNT 0).modBoot (fun b => { b with shadow := true })).modUpd (fun u => { u with kept := w.data, sectors := [], opened := true, last := d.upNs })
        (d.updClear w.src).updDecide 0 w.src 1 0)

/-- PROGRAM: the sector of a first PROGRAM is a second store, with a check of its own. -/
def State.programDone (ok : Bool) (w : UpdWork) (s : State) : State :=
  if w.second ∧ s.dev.nvOk 0 = false then s.upd (fun d => (d.nvRefused.updClear w.src).updDecide 8 w.src 2 0)
  else
    let s := s.updStore ok w
    s.upd (fun d =>
      let d := d.updClear w.src
      if ok then
        let l := if d.upd.sectors.contains w.idx then d.upd.sectors else w.idx :: d.upd.sectors
        ((d.modUpd (fun u => { u with sectors := l })).put F.UPD_STS_DONE_CNT l.length).updDecide 0 w.src 2 0
      else (d.modUpd (fun u => { u with sectors := u.sectors.filter (· != w.idx) })).updDecide 0x0C w.src 2 0)

/-- COMMIT: steps 2 to 10 on the new image, both safety channels taking part in step 7 (fa, fb: a channel's own check fails), then
sector 0, whose store passes the hold-up check before it starts (19 R451). -/
def State.commitDone (ok fa fb : Bool) (w : UpdWork) (s : State) : State :=
  match (overImg w.data s.flash).validate s.otp fa fb none Dev.reset with
  | .error e => s.upd (Dev.updDecide 0x0B w.src 3 e.1)
  | .ok _ =>
    if s.dev.nvOk 0 = false then s.upd (fun d => d.nvRefused.updDecide 8 w.src 3 0)
    else
    let s := s.updStore ok w
    if ok = false then s.upd (Dev.updDecide 0x0C w.src 3 0)
    else
      let s := s.upd (Dev.updDecide 0 w.src 3 0)
      let s := if s.dev.updHolds w.src w.node then s.updRelease 0 else s
      if s.dev.host.recovery then s.upd Dev.loaderRestart else s

/-- UPD_WORK_DONE: the oldest command in progress ends. -/
def State.updWorkDone (ok fa fb : Bool) (s : State) : State :=
  match s.dev.upd.work with
  | [] => s
  | w :: r =>
    let s := s.upd (Dev.modUpd (fun u => { u with work := r }))
    let s := match w.op with
      | 1 => s.openDone w
      | 2 => s.programDone ok w
      | 3 => s.commitDone ok fa fb w
      | _ => (s.updStore ok w).upd (Dev.updDecide (if ok then 0 else 0x0C) w.src 5 0)
    s.upd Dev.updBusy

/-- The lock expires (R463). -/
def State.updExpire (s : State) : State :=
  if s.dev.updOwner = 0 then s
  else
    let src := s.dev.updOwner
    (s.upd (Dev.updResult 0x0D src 0 0 [F.UPD_EVT_EXPIRED_EVT])).updRelease 0x0D

/-- No command from the holder for IDLE_T. -/
def State.updIdle (s : State) : State :=
  if s.dev.updOwner = 0 then s
  else (s.upd (fun d => d.runUp (d.upd.last + 100000000 * d.get F.UPD_CFG_IDLE_T))).updExpire

/-- The holder's fabric stream faults (R463). -/
def State.updStreamFault (node : Nat) (s : State) : State := if s.dev.updHolds 3 node then s.updExpire else s

/-! Binding (16 R396). -/

/-- SAFE_KEYH is written in OTP; after a read-back that differs the field is unusable. -/
def State.bindStore (ok : Bool) (s : State) : State :=
  let ws := leWords s.dev.safe.keyHash
  let otp := ws.zipIdx.foldl (fun o x => tput o (8 + x.2) x.1) s.otp
  { s with otp := if ok then otp else tput otp 17 1 }

/-- A binding request is decided. -/
def Dev.bindResult (code : Nat) (d : Dev) : Dev := (d.put F.CFG_SAFE_BIND_STS_RESULT code).event0 F.CFG_SAFE_BIND_STS_DONE_EVT

/-- A write of CFG_SAFE_BIND whose pair was accepted; one while a binding is in progress fails. -/
def State.safeBind (p : Port) (w : Word) (s : State) : State :=
  let d := s.dev
  if d.flag F.CFG_SAFE_BIND_STS_BUSY then s.upd (Dev.illegal p R.CFG_SAFE_BIND)
  else if otpBlank s.otp 8 = false then s.upd (Dev.bindResult 1)
  else if d.istate ≠ 1 then s.upd (Dev.bindResult 2)
  else if some w ≠ (leWords d.safe.keyHash).head? then s.upd (Dev.bindResult 3)
  else if (List.range 128).any d.energised then s.upd (Dev.bindResult 4)
  else if d.updOwner ≠ 0 then s.upd (Dev.bindResult 5)
  else if d.nvOk 3 = false then s.upd (fun d => d.nvRefused.bindResult 6)
  else s.upd (Dev.up F.CFG_SAFE_BIND_STS_BUSY true)

/-- The OTP write and both read-backs end. -/
def State.safeBindDone (ok : Bool) (s : State) : State :=
  if s.dev.flag F.CFG_SAFE_BIND_STS_BUSY = false then s
  else (s.bindStore ok).upd (fun d => (d.up F.CFG_SAFE_BIND_STS_BUSY false).bindResult (if ok then 0 else 7))

/-! Loss of power (R452, R464). -/

/-- VBUS below 8.0 V, or RESET_N low. A store in progress (store: one is, for the command at work) finishes; then PMIC_EN falls and
every domain but PD_AON resets. Flash, OTP and the TAP keep what they hold. -/
def State.powerLoss (reset store : Bool) (s : State) : State :=
  let d := s.dev
  if (if reset then !d.pwr.resetN else !d.pwr.vbusOk) then s
  else
    let s := if store then
        (match d.upd.work with
          | w :: _ => if w.op = 1 then s else s.updStore true w
          | [] => s)
      else s
    let s := if store && d.flag F.CFG_SAFE_BIND_STS_BUSY then s.bindStore true else s
    { s with
      mem := []
      dev := { Dev.reset with
        host := { Dev.reset.host with faultnExt := d.host.faultnExt }
        link := { Dev.reset.link with serial := d.link.serial }
        pwr := { Dev.reset.pwr with resetN := d.pwr.resetN && !reset, vbusOk := d.pwr.vbusOk && reset, off := 15 }
        tap := d.tap
        free := s.dev.free } }

/-! Live patches (02 R61 to R64). -/

/-- PENDING. -/
def Dev.patchPending (d : Dev) : Bool := d.flag F.CFG_PATCH_LVL_PENDING

/-- A write is discarded. -/
def Dev.patchBusy (d : Dev) : Dev := d.event0 F.CFG_PATCH_EVT_BUSY_EVT

/-- A write of CFG_PATCH_SEL or CFG_PATCH_IDX. -/
def Dev.patchSel (idx : Bool) (w : Word) (d : Dev) : Dev :=
  if d.patchPending then d.patchBusy
  else
    let d := if idx then (d.wr R.CFG_PATCH_IDX (w &&& 0x7F)).parityWritten R.CFG_PATCH_IDX
      else (d.wr R.CFG_PATCH_SEL (w &&& 0xFFFFFF03)).parityWritten R.CFG_PATCH_SEL
    (d.put F.CFG_PATCH_LVL_WPTR 0).modUpd (fun u => { u with patch := [] })

/-- A payload word. -/
def Dev.patchData (w : Word) (d : Dev) : Dev :=
  let n := d.get F.CFG_PATCH_LVL_WPTR
  if d.patchPending || n == 4096 then d.patchBusy
  else ((d.put F.CFG_PATCH_LVL_WPTR (n + 1)).parityWritten R.CFG_PATCH_DATA).modUpd (fun u => { u with patch := u.patch ++ [w] })

/-- Is this cycle inside a drill, from D - 2 to D + 1 (18 R434)? -/
def Dev.inDrill (d : Dev) : Bool := match d.red.drillWin with
  | some x => decide (-1 ≤ cycDist d.time.cycno x ∧ cycDist d.time.cycno x ≤ 2)
  | none => false

/-- APPLY. -/
def Dev.patchApply (d : Dev) : Dev :=
  if d.patchPending then d.patchBusy
  else ((d.up F.CFG_PATCH_LVL_PENDING true).parityWritten R.CFG_PATCH_CMD).modUpd (fun u => { u with patchAt := none, patchDrill := d.inDrill })

/-- A patch is refused or aborted. -/
def Dev.patchRefuse (code : Nat) (d : Dev) : Dev :=
  let d := ((d.up F.CFG_PATCH_LVL_PENDING false).modUpd (fun u => { u with patchAt := none })).put F.CFG_PATCH_EVT_RESULT code
  (d.cntWrap F.CFG_PATCH_CNT_REFUSED).event0 F.CFG_PATCH_EVT_REFUSED_EVT

/-- ABORT: a patch on its way to the standby is taken back there by the same chunks, which then carry none. -/
def Dev.patchAbort (d : Dev) : Dev :=
  let d := d.parityWritten R.CFG_PATCH_CMD
  let sent := d.upd.patchAt.isSome && d.redRole == 2 && d.liveStandby
  if d.patchPending then (d.patchRefuse 8).modUpd (fun u => { u with patchOut := if sent then d.patchChunks else [] }) else d

/-- A write of CFG_PATCH_CMD whose pair was accepted. -/
def Dev.patchCmd (p : Port) (w : Nat) (d : Dev) : Dev :=
  match w % 4 with
  | 1 => d.patchApply
  | 2 => d.patchAbort
  | 3 => d.illegal p R.CFG_PATCH_CMD
  | _ => d.parityWritten R.CFG_PATCH_CMD

/-- The node that originates FEEDBACK stream j. -/
def Dev.streamNode (d : Dev) (j : Nat) : Option Nat :=
  match d.link.cfg.rx[j]? with
  | some r => (d.link.cfg.modes.flatten.find? (fun (e : Slot) => !e.tx && e.stream == r.stream)).map (·.src)
  | none => none

/-- The axes a patch affects (R62). -/
def Dev.patchAxes (d : Dev) (scope idx : Nat) : List Nat :=
  match scope with
  | 0 => List.range 128
  | 1 => [idx]
  | 2 => d.groupAxes idx
  | _ => (d.traj.axes.filter (fun a => match a.src with | .linked j _ => d.streamNode j == some idx | _ => false)).map (·.axis)

/-- The record that words of CFG_PATCH_SEL and CFG_PATCH_IDX name: the first of those with this SECT, REC_ID, SCOPE and INDEX (log entry 75). -/
def Dev.recNamed (d : Dev) (sel idx : Word) : Option Rec :=
  let v := fun (f : Fld) (w : Word) => bitsOf w.toNat f.hi f.lo
  d.boot.recs.find? (fun r => r.sect == v F.CFG_PATCH_SEL_SECT sel && r.recId == v F.CFG_PATCH_SEL_REC_ID sel
    && r.scope == v F.CFG_PATCH_SEL_SCOPE sel && r.index == v F.CFG_PATCH_IDX_INDEX idx)

/-- The record CFG_PATCH_SEL and CFG_PATCH_IDX name. -/
def Dev.patchRec (d : Dev) : Option Rec := d.recNamed (d.rd R.CFG_PATCH_SEL) (d.rd R.CFG_PATCH_IDX)

/-- The first condition of Table 2.11 that refuses the patch. -/
def Dev.patchCheck (d : Dev) : Option Nat :=
  if d.updOwner ≠ 0 ∨ d.upd.patchDrill = true then some 1
  else if d.get F.CFG_PATCH_SEL_SECT = 9 then some 2
  else match d.patchRec with
    | none => some 3
    | some r =>
      if r.kind = 1 then some 4
      else if d.get F.CFG_PATCH_LVL_WPTR ≠ r.words.length then some 5
      else if recBad { r with words := d.upd.patch } || (d.mirror true r.sect [{ r with words := d.upd.patch }]).stageBad then some 6
      else if (d.patchAxes r.scope r.index).any (fun n =>
        (d.flag (F.LOOP_CTL_EN n) && !d.flag (F.TRAJ_AX_STS_STILL n)) || (d.ax n).moved) then some 7
      else none

/-- PATCH_DECISION at TRAJ_END (R63): a patch that passes takes effect at the next CYC_START. With a live standby the record goes there in bulk
chunks, and both units apply it at one CYC_START at most 66 base cycles later (R64): late enough for the chunks and their confirmation, else a
free value. A RED record with no patch item has no way to send it, and the active unit applies it alone (log entry 89). -/
def Dev.patchDecide (d : Dev) : Dev :=
  if d.patchPending = false ∨ d.upd.patchAt.isSome then d
  else match d.patchCheck with
    | some c => d.patchRefuse c
    | none =>
      let out := if d.redRole = 2 ∧ d.liveStandby = true then d.patchChunks else []
      let (k, d) := if out = [] then (0, d) else let (x, d) := d.draw (max 1 (65 - out.length)); (out.length + 1 + x, d)
      d.modUpd (fun u => { u with patchAt := some (k + 1), patchOut := out, patchAck := false })

/-- The owning block uses the patched record, of kind P: its parameter fields, and AGE_LIMIT of each stream (02 Table 2.4). -/
def Dev.reconfigure (r : Rec) (rs : List Rec) (d : Dev) : Dev :=
  let d := if r.sect = 6 then
      let new := (linkCfg (sectRecs 6 rs)).rx
      let rx := d.link.cfg.rx.map (fun x => match new.find? (fun y => y.stream == x.stream) with
        | some y => { x with ageLimit := max 1 (min 255 y.ageLimit) }
        | none => x)
      { d with link := { d.link with cfg := { d.link.cfg with rx := rx } } }
    else if r.sect = 11 then d.encStillT (sectRecs 11 rs) else d
  (d.mirror true r.sect [r]).docMirror r

/-- A record takes new words: with it every record equal to it (log entry 75). -/
def Dev.recReplace (r : Rec) (ws : List Word) (d : Dev) : Dev :=
  let new := { r with words := ws }
  let rs := d.boot.recs.map (fun x => if x = r then new else x)
  (d.reconfigure new rs).modBoot (fun b => { b with recs := rs })

/-- CYC_START for a patch that has passed: the last one of its wait applies it (R63), or the first after the standby has stopped being live before
it said that it holds the patch (R64). -/
def Dev.patchEffect (d : Dev) : Dev :=
  if d.patchPending = false then d
  else match d.upd.patchAt with
    | none => d
    | some k =>
      if 2 ≤ k ∧ (d.liveStandby = true ∨ d.upd.patchAck = true) then d.modUpd (fun u => { u with patchAt := some (k - 1) })
      else match d.patchRec with
      | none => d
      | some r =>
        let d := d.recReplace r d.upd.patch
        let d := ((d.up F.CFG_PATCH_LVL_PENDING false).modUpd (fun u => { u with patchAt := none, patchOut := [] })).put F.CFG_PATCH_EVT_RESULT 0
        (d.cntWrap F.CFG_PATCH_CNT_APPLIED).event0 F.CFG_PATCH_EVT_APPLIED_EVT

/-- The standby applies the patch of the active unit at the same CYC_START (R64); its own patch registers are not concerned. -/
def Dev.peerEffect (d : Dev) : Dev :=
  match d.upd.peerPatch with
  | none => d
  | some (sel, idx, ws, k + 2) => d.modUpd (fun u => { u with peerPatch := some (sel, idx, ws, k + 1) })
  | some (sel, idx, ws, _) =>
    let d := d.modUpd (fun u => { u with peerPatch := none })
    match d.recNamed sel idx with
    | some r => d.recReplace r ws
    | none => d

/-! Commands. -/

/-- UPD_WIN_WRITE (R460): word i of the window; node is the peer behind the tunnel port. -/
def execUpdWinWrite (p : Port) (node : Fin 32) (i : Fin 16384) (w : Word) (s : State) : Host.Outcome State Fault Refusal :=
  onDev (Dev.updWin p node i w) s

/-- OPEN (R461). -/
def execUpdOpen (p : Port) (node : Fin 32) (s : State) : Host.Outcome State Fault Refusal := done (s.guarded R.UPD_CMD (State.updCommand p node 1 0))

/-- PROGRAM (R461). -/
def execUpdProgram (p : Port) (node : Fin 32) (i : Fin 512) (s : State) : Host.Outcome State Fault Refusal :=
  done (s.guarded R.UPD_CMD (State.updCommand p node 2 i))

/-- COMMIT (R461). -/
def execUpdCommit (p : Port) (node : Fin 32) (s : State) : Host.Outcome State Fault Refusal := done (s.guarded R.UPD_CMD (State.updCommand p node 3 0))

/-- UPD_ABORT (R463). -/
def execUpdAbort (p : Port) (node : Fin 32) (s : State) : Host.Outcome State Fault Refusal := done (s.guarded R.UPD_CMD (State.updCommand p node 4 0))

/-- RETAIN (R466). -/
def execUpdRetain (p : Port) (node : Fin 32) (i : Fin 512) (s : State) : Host.Outcome State Fault Refusal :=
  done (s.guarded R.UPD_CMD (State.updCommand p node 5 i))

/-- UPD_WORK_DONE (R463). -/
def execUpdWorkDone (r : WorkEnd) (s : State) : Host.Outcome State Fault Refusal := done (s.updWorkDone r.ok r.fa r.fb)

/-- UPD_IDLE_EXPIRE (R463). -/
def execUpdIdleExpire (s : State) : Host.Outcome State Fault Refusal := done s.updIdle

/-- POWER_LOSS (R452). -/
def execPowerLoss (reset store : Bool) (s : State) : Host.Outcome State Fault Refusal := done (s.powerLoss reset store)

/-- SAFE_BIND (16 R396). -/
def execSafeBind (p : Port) (w : Word) (s : State) : Host.Outcome State Fault Refusal := done (s.guarded R.CFG_SAFE_BIND (State.safeBind p w))

/-- SAFE_BIND_DONE (16 R396). -/
def execSafeBindDone (ok : Bool) (s : State) : Host.Outcome State Fault Refusal := done (s.safeBindDone ok)

/-- PATCH_SEL_WRITE (02 R61). -/
def execPatchSelWrite (w : Word) (s : State) : Host.Outcome State Fault Refusal := onDev (Dev.patchSel false w) s

/-- PATCH_IDX_WRITE (02 R61). -/
def execPatchIdxWrite (w : Word) (s : State) : Host.Outcome State Fault Refusal := onDev (Dev.patchSel true w) s

/-- PATCH_DATA_WRITE (02 R61). -/
def execPatchDataWrite (w : Word) (s : State) : Host.Outcome State Fault Refusal := onDev (Dev.patchData w) s

/-- APPLY (02 R61). -/
def execPatchApply (s : State) : Host.Outcome State Fault Refusal := onDev Dev.patchApply s

/-- PATCH_ABORT (02 R64). -/
def execPatchAbort (s : State) : Host.Outcome State Fault Refusal := onDev Dev.patchAbort s

end Sys2Proof.Machine
end

