-- ==== Sys2Proof/Machine/HostDma.lean ====
section
/-! DEFINITION. DMA, the MSI-X structures of the endpoint, and the tunnel requester (chapter 3, R67, R70, R71, R92). -/
namespace Sys2Proof.Machine
open Sys2Proof.Config

def Dev.modHost (f : HostSt → HostSt) (d : Dev) : Dev := { d with host := f d.host }

/-- Is the domain of a BAR2 region off (Table 1.8, Table 1.4)? -/
def Dev.regionOff (d : Dev) (r : Nat) : Bool :=
  match r with
  | 1 => bitOf d.pwr.off 0
  | 5 => bitOf d.pwr.off 1
  | _ => bitOf d.pwr.off 3

/-! DMA (R70). -/

/-- Is channel n running, and where? -/
def Dev.dmaOf (d : Dev) (n : Nat) : Option (Nat × Nat) := (d.host.dmaRun.find? (fun x => x.1 == n)).map (·.2)

/-- Does the descriptor refuse the transfer? An SRAM offset or a host address that is no multiple of 4 does not: R70 does not list it, and it is
taken as the byte address it is (DESIGN CHOICE, log entry 67). -/
def Dev.dmaBad (d : Dev) (n : Nat) : Bool :=
  let a := d.get (F.SYS_DMA_SRAM_VALUE n)
  let len := d.get (F.SYS_DMA_LEN_VALUE n)
  len == 0 || len % 4 != 0 || decide (0x1000000 < len) || bar2Region a == 0x7F || bar2Region (a + len - 1) != bar2Region a
    || (!d.flag (F.SYS_DMA_CTL_DIR n) && bar2Region a == 3)

/-- A transfer ends with a RESULT. -/
def Dev.dmaEnd (n code : Nat) (d : Dev) : Dev :=
  let d := ((d.put (F.SYS_DMA_STS_RESULT n) code).up (F.SYS_DMA_STS_BUSY n) false)
  let d := (d.up (F.SYS_DMA_CTL_START n) false).up (F.SYS_DMA_CTL_ABORT n) false
  let d := d.modHost (fun h => { h with dmaRun := h.dmaRun.filter (fun x => x.1 != n), dmaToHost := h.dmaToHost.filter (fun x => x != n) })
  d.raise (F.SYS_DMA_STS_DONE_EVT n)

/-- A range of host memory as requests of at most lim bytes, none of which crosses a 4 KiB boundary; each is as long as that allows (log entry
67). -/
def dmaSplit (lim : Nat) : Nat → Nat → Nat → List (Nat × Nat)
  | 0, _, _ => []
  | k + 1, a, n =>
    if n = 0 then []
    else
      let m := min n (min lim (4096 - a % 4096))
      (a, m) :: dmaSplit lim k (a + m) (n - m)

/-- The requests of n bytes from a host address on. -/
def dmaReqs (lim a n : Nat) : List (Nat × Nat) := dmaSplit lim (n / 64 + 2) a n

/-- The host writes that carry bytes to a host address: at most the negotiated maximum payload size each. -/
def Dev.dmaWrites (d : Dev) (a : Nat) (bs : List Byte) : List (Nat × List Byte) :=
  (dmaReqs (if d.host.mps256 then 256 else 128) a bs.length).map (fun x => (x.1, (bs.drop (x.1 - a)).take x.2))

/-- START. -/
def Dev.dmaStart (n : Nat) (d : Dev) : Dev :=
  if (d.dmaOf n).isSome then d
  else if d.dmaBad n then d.dmaEnd n 3
  else
    let a := d.get (F.SYS_DMA_SRAM_VALUE n)
    let len := d.get (F.SYS_DMA_LEN_VALUE n)
    let out := d.flag (F.SYS_DMA_CTL_DIR n)
    let host := d.get64 (R.SYS_DMA_HOST_LO n)
    ((d.up (F.SYS_DMA_CTL_START n) true).up (F.SYS_DMA_STS_BUSY n) true).modHost (fun h =>
      { h with
        dmaRun := h.dmaRun ++ [(n, a, len)], dmaToHost := if out then h.dmaToHost ++ [n] else h.dmaToHost,
        dmaHost := tput h.dmaHost n host, dmaIn := if out then [] else dmaReqs 512 host len })

/-- ABORT. -/
def Dev.dmaAbort (n : Nat) (d : Dev) : Dev := if (d.dmaOf n).isSome then d.up (F.SYS_DMA_CTL_ABORT n) true else d

/-- A write of a channel's CTL: START acts, then ABORT, so both written 1 start a transfer that is being aborted (log entry 74). -/
def Dev.dmaCtl (n : Nat) (w : Word) (d : Dev) : Dev :=
  let d := d.up (F.SYS_DMA_CTL_DIR n) (bitOf w.toNat 2)
  let d := if bitOf w.toNat 0 then d.dmaStart n else d
  if bitOf w.toNat 1 then d.dmaAbort n else d

/-- Words of SRAM are written: they have valid ECC again. -/
def State.putMems (a : Nat) (ws : List Word) (s : State) : State :=
  { s with mem := s.mem.putWords a ws,
           dev := { s.dev with eccBad := s.dev.eccBad.filter (fun b => decide (b < a ∨ a + 4 * ws.length ≤ b)) } }

/-- n words of one region as they leave the device: the layout of the state shadow is not given (01 Table 1.8), so once CFG or RED has
written it its words are free values; every other word is the one stored. -/
def State.hostWords (a n : Nat) (s : State) : List Word × State :=
  if bar2Region a = 3 ∧ s.dev.boot.shadow = true then
    let (bs, d) := s.dev.freeBytes (4 * n)
    (leWords bs, { s with dev := d })
  else (s.mem.words a n, s)

/-- What a transfer has moved lands: k words to host memory, or the words read there (log entry 67); a domain that is off discards
them and is logged (R88). -/
def State.dmaMove (n k : Nat) (data : List Word) (s : State) : State :=
  match s.dev.dmaOf n with
  | none => s
  | some (a, len) =>
    let out := s.dev.host.dmaToHost.contains n
    let off := s.dev.regionOff (bar2Region a)
    let s := if off then s.upd (Dev.logErr 0x10 true 1 2 (!out) a) else s
    if out then
      let (ws, s) := if off then (List.replicate (min k (len / 4)) 0xFFFFFFFF, s) else s.hostWords a (min k (len / 4))
      s.upd (fun d => d.modHost (fun h => { h with
        dmaOut := d.dmaWrites (tget h.dmaHost n) (ws.flatMap (fun w => leBytes 4 w.toNat)) }))
    else if off then s else s.putMems a (data.take (len / 4))

/-- DMA_END: data is what host memory gave, or as many words as have gone to it. Without ABORT every word of the transfer has moved. -/
def State.dmaDone (n : Nat) (e : DmaEnd) (data : List Word) (s : State) : State :=
  match s.dev.dmaOf n with
  | none => s
  | some (a, len) =>
    let ab := s.dev.flag (F.SYS_DMA_CTL_ABORT n)
    let out := s.dev.host.dmaToHost.contains n
    let ecc := out && s.dev.eccBad.any (fun b => decide (a ≤ b ∧ b < a + len))
    if e = .moved ∧ ab = false ∧ data.length < len / 4 then s
    else
      let code := match e with
        | .moved => if ecc && !ab then 4 else if ab then 1 else 0
        | .sramErr => 4
        | .hostErr => 5
      (s.dmaMove n data.length data).upd (Dev.dmaEnd n code)

/-- An endpoint reset ends every transfer with LINK_DOWN; how much had landed is open, so the words of its range are free. -/
def State.dmaLinkDown (s : State) : State :=
  s.dev.host.dmaRun.foldl (fun s x =>
    let s := if s.dev.host.dmaToHost.contains x.1 || s.dev.regionOff (bar2Region x.2.1) then s
      else
        let (bs, d) := s.dev.freeBytes x.2.2
        { s with dev := d, mem := s.mem.putBytes sramReset x.2.1 bs }
    s.upd (Dev.dmaEnd x.1 2)) s

/-! MSI-X (R71). -/

/-- The message of an unmasked vector whose PBA bit is set goes out. -/
def Dev.msixSend (v : Nat) (d : Dev) : Dev :=
  if d.host.msixEn && !d.msixMasked v && bitOf d.host.pba v then
    d.modHost (fun h => { h with pba := setBit h.pba v false, msgs := if h.msgs.contains v then h.msgs else h.msgs ++ [v] })
  else d

/-- A word of the table is written: of the vector control only the mask bit exists. The PBA is read-only. -/
def Dev.msixWrite (k : Nat) (w : Word) (d : Dev) : Dev :=
  if k < 256 then
    let w := if k % 4 = 3 then w &&& 1 else w
    (d.modHost (fun h => { h with msixTbl := tblSet msixReset h.msixTbl k w })).msixSend (k / 4)
  else d

def Dev.msixRead (d : Dev) (k : Nat) : Word :=
  if k < 256 then tblGet msixReset d.host.msixTbl k
  else if k = 512 then BitVec.ofNat 32 d.host.pba else if k = 513 then BitVec.ofNat 32 (d.host.pba / 2 ^ 32) else 0

/-- Unmasking a vector. -/
def Dev.msixUnmask (v : Nat) (d : Dev) : Dev := d.msixWrite (4 * v + 3) 0

/-- A configuration write (R67, R71). -/
def Dev.pcieCfg (c : PcieCfg) (d : Dev) : Dev :=
  match c with
  | .msix en mask => Dev.each (List.range 60) Dev.msixSend (d.modHost (fun h => { h with msixEn := en, msixMask := mask }))
  | .power d3 => d.modHost (fun h => { h with d3hot := d3 })
  | .payload big => d.modHost (fun h => { h with mps256 := big })
  | .other => d

/-- The endpoint is reset (R67): every transfer ends, and configuration space, the MSI-X table and the PBA are at their reset values. -/
def State.pcieReset (s : State) : State :=
  s.dmaLinkDown.upd (Dev.modHost (fun h => { h with msixEn := false, msixMask := false, msixTbl := [], pba := 0, msgs := [], d3hot := false, mps256 := false }))

/-! The tunnel requester (R92). -/

/-- A request ends with a RESULT. -/
def Dev.tunEnd (code : Nat) (d : Dev) : Dev :=
  let d := ((d.put F.SYS_TUN_STS_RESULT code).up F.SYS_TUN_STS_BUSY false).up F.SYS_TUN_CMD_START false
  (d.modHost (fun h => { h with tunReq := none })).raise F.SYS_TUN_STS_DONE_EVT

/-- Does a route lead to a node (Table 3.21, NO_ROUTE)? -/
def Dev.tunRoute (d : Dev) (dst : Nat) : Bool :=
  dst != d.nodeId && d.assigned dst &&
    (decide (d.sstate < 4) || d.slots.any (fun e => e.1.tx && e.1.dst == dst
      && d.link.cfg.tx.any (fun x => x.stream == e.1.stream && x.typ == 8)))

/-- A request frame with the next TAG (R90). -/
def Dev.tunSend (dst op off : Nat) (ws : List Word) (n : Nat) (d : Dev) : Dev :=
  let body := [BitVec.ofNat 32 (2 ^ 24 + d.host.tunTag * 2 ^ 16 + op * 2 ^ 14 + (n - 1) * 2 ^ 8), BitVec.ofNat 32 off, 0] ++ ws
  (d.sendBody 8 dst 0 body).modHost (fun h => { h with tunTag := (h.tunTag + 1) % 256 })

/-- START. -/
def Dev.tunStart (d : Dev) : Dev :=
  if d.flag F.SYS_TUN_STS_BUSY then d
  else
    let dst := d.get F.SYS_TUN_CTL_DST
    let op := d.get F.SYS_TUN_CTL_OP
    let n := min 59 (d.get F.SYS_TUN_CTL_LM1) + 1
    if !d.tunRoute dst then d.tunEnd 0x10
    else
      let tag := d.host.tunTag
      let ws := if op = 2 then (List.range n).map (fun i => d.rd (R.SYS_TUN_DATA i)) else []
      let d := (d.up F.SYS_TUN_CMD_START true).up F.SYS_TUN_STS_BUSY true
      let d := d.modHost (fun h => { h with tunReq := some (dst, tag, op, n), tunAt := d.upNs })
      d.tunSend dst op (d.get F.SYS_TUN_ADDR_OFFSET) ws n

/-- The data words of a response of L words go to SYS_TUN_DATA; those that the frame does not carry are free (log entry 71). -/
def Dev.tunData (body : List Word) (n : Nat) (d : Dev) : Dev :=
  Dev.each (List.range n) (fun i d => match body[3 + i]? with
    | some w => d.wr (R.SYS_TUN_DATA i) w
    | none => let (v, d) := d.drawW; d.wr (R.SYS_TUN_DATA i) (BitVec.ofNat 32 v)) d

/-- A response (R92). -/
def Dev.tunResponse (f : Frame) (d : Dev) : Dev :=
  let tag := bitsOf (f.w 0) 23 16
  if d.host.tunFab.contains (f.src, tag) then
    d.modHost (fun h => { h with tunFab := h.tunFab.filter (fun x => x != (f.src, tag)) })
  else match d.host.tunReq with
    | some (dst, t, op, n) =>
      if dst = f.src ∧ t = tag then
        let d := if op = 1 then d.tunData f.body n else d
        (d.put F.SYS_TUN_STS_FAIL (bitsOf (f.w 2) 7 0)).tunEnd (bitsOf (f.w 0) 7 0)
      else d.cnt F.SYS_TUN_CNT_TUN_LATE
    | none => d.cnt F.SYS_TUN_CNT_TUN_LATE

/-- TUNNEL_TIMEOUT (R92). -/
def Dev.tunTimeout (d : Dev) : Dev :=
  if d.host.tunReq.isNone then d
  else (d.runUp (d.host.tunAt + (if 4 ≤ d.sstate then 8 * d.time.tb else 1000000))).tunEnd 0x11

/-- PWR_FAB_REQ on the zenith node (19 R438, R94): a two-word write of every LIVE node's PWR_REQ; the node's own is a request here. -/
def Dev.powFab (p : Port) (w : Nat) (d : Dev) : Dev :=
  if d.sstate ≠ 5 ∨ 4 ≤ w then d.illegal p R.PWR_FAB_REQ
  else Dev.each (onesBelow 32 (d.rd R.LINK_LIVE).toNat) (fun n d =>
    if n = d.nodeId then d.powReq p w
    else
      let tag := d.host.tunTag
      (d.modHost (fun h => { h with tunFab := (n, tag) :: h.tunFab })).tunSend n 2 R.PWR_REQ
        [BitVec.ofNat 32 w, ~~~ (BitVec.ofNat 32 w)] 2) d

/-! Commands. -/

/-- PCIE_RESET (R67). -/
def execPcieReset (kind : PcieReset) (s : State) : Host.Outcome State Fault Refusal :=
  match kind with
  | .perst => done s.pcieReset
  | .hotReset => done s.pcieReset
  | .linkDown => done s.pcieReset
  | .flr => done s.pcieReset

/-- PCIE_CONFIG_WRITE (R66, R67): until host access is granted a configuration request is answered with Retry Status. -/
def execPcieConfigWrite (c : PcieCfg) (s : State) : Host.Outcome State Fault Refusal :=
  onDev (fun d => if d.host.granted then d.pcieCfg c else d) s

/-- MSIX_UNMASK (R71). -/
def execMsixUnmask (v : Fin 64) (s : State) : Host.Outcome State Fault Refusal :=
  onDev (fun d => if d.host.granted && !d.host.d3hot then d.msixUnmask v else d) s

/-- DMA_START (R70). -/
def execDmaStart (n : Fin 8) (s : State) : Host.Outcome State Fault Refusal := onDev (fun d => (d.parityWritten (R.SYS_DMA_CTL n)).dmaStart n) s

/-- DMA_ABORT (R70). -/
def execDmaAbort (n : Fin 8) (s : State) : Host.Outcome State Fault Refusal := onDev (fun d => (d.parityWritten (R.SYS_DMA_CTL n)).dmaAbort n) s

/-- DMA_END (R70). -/
def execDmaEnd (n : Fin 8) (e : DmaEnd) (data : List Word) (s : State) : Host.Outcome State Fault Refusal := done (s.dmaDone n e data)

/-- DMA_HOST_TIMEOUT (R70). -/
def execDmaHostTimeout (n : Fin 8) (data : List Word) (s : State) : Host.Outcome State Fault Refusal :=
  done (s.dmaDone n .hostErr data)

/-- TUNNEL_START (R92). -/
def execTunnelStart (s : State) : Host.Outcome State Fault Refusal := onDev Dev.tunStart s

/-- TUNNEL_RESPONSE (R92). -/
def execTunnelResponse (p : Fin 8) (f : Frame) (stamp : Nat) (s : State) : Host.Outcome State Fault Refusal :=
  onDev (fun d =>
    let (d, here) := d.frameIn p f stamp
    if here && f.typ == 8 && bitsOf (f.w 0) 31 24 == 2 then d.tunResponse f else d) s

/-- TUNNEL_TIMEOUT (R92). -/
def execTunnelTimeout (s : State) : Host.Outcome State Fault Refusal := onDev Dev.tunTimeout s

/-- PWR_FAB_REQ (19 R438). -/
def execPwrFabReq (p : Port) (w : Word) (s : State) : Host.Outcome State Fault Refusal := onDev (Dev.byPort p (Dev.guarded R.PWR_FAB_REQ (Dev.powFab p w.toNat))) s

end Sys2Proof.Machine
end

