-- ==== Sys2Proof/Machine/Access.lean ====
section
/-! DEFINITION. The register fabric: what a write and a read of BAR0 and BAR2 do, from every port (chapter 3, R65 to R89). -/
namespace Sys2Proof.Machine
open Sys2Proof.Config

/-! Blocks and their domains (R87, R88). -/

/-- Is a BAR0 block's domain off (Table 3.10)? -/
def Dev.blockOff (d : Dev) (off : Nat) : Bool :=
  match off / 0x100000 with
  | 6 => bitOf d.pwr.off 0
  | 8 => decide (off < 0x880000) && bitOf d.pwr.off 1
  | 10 => bitOf d.pwr.off 2
  | _ => bitOf d.pwr.off 3

/-- Is a block's clock gated by the power state (19 Table 19.2)? -/
def Dev.gatedBlk (d : Dev) (off : Nat) : Bool :=
  match d.pwrState with
  | 1 => off / 0x100000 == 8 && decide (off < 0x880000)
  | 2 => [4, 5, 9].contains (off / 0x100000)
  | _ => false

/-- An access ungates a gated block (R87). -/
def Dev.touch (off : Nat) (d : Dev) : Dev :=
  let b := off / 0x100000
  if d.gatedBlk off && !d.host.ungated.contains b then d.modHost (fun h => { h with ungated := b :: h.ungated }) else d

/-- The clock gates again (R87). -/
def Dev.regate (b : Nat) (d : Dev) : Dev := d.modHost (fun h => { h with ungated := h.ungated.filter (fun x => x != b) })

/-- An access to a domain that is off: logged, but an SP core's sets GERR (R88, 14 R340). -/
def Dev.accessOff (p : Port) (write : Bool) (off : Nat) (d : Dev) : Dev :=
  match p with
  | .sp c => d.gerr c
  | p => d.logErr 0x10 false 1 (portCode p) write off

/-! Guard slots (R83, R84). -/

def Dev.guardOf (d : Dev) (p : Port) : Option (Nat × Nat) := ((d.host.guards.find? (fun x => x.1 == portCode p)).map (·.2)).getD none

def Dev.setGuard (p : Port) (g : Option (Nat × Nat)) (d : Dev) : Dev :=
  d.modHost (fun h => { h with guards := (match g with | some x => [(portCode p, some x)] | none => []) ++ h.guards.filter (fun x => x.1 != portCode p) })

/-- A guarded write fails: the pending value is gone, the failure is logged at V. -/
def Dev.guardFail (p : Port) (cause v : Nat) (d : Dev) : Dev := (d.setGuard p none).logErr 0x20 false cause (portCode p) true v

/-- A write arrives: a value that waits for another address is interrupted. -/
def Dev.guardHit (p : Port) (off : Nat) (full : Bool) (d : Dev) : Dev :=
  match d.guardOf p with
  | some (v, _) => if full && off == v + 4 then d else d.guardFail p 4 v
  | none => d

/-- No complement within 64 SYS clocks. -/
def Dev.guardTimeout (p : Port) (d : Dev) : Dev :=
  match d.guardOf p with
  | some (v, _) => d.guardFail p 1 v
  | none => d

/-- The guarded register that a value address belongs to. -/
def guardedAt (off : Nat) : Bool := match regAt off with | some r => r.rg != 0 | none => false

/-! Parity (R85, R86). -/

/-- The class of CSR_PARITY (Table 3.14). -/
def parityCls (off : Nat) : Nat :=
  match off / 0x100000 with
  | 2 | 3 | 5 | 9 => 3
  | 14 => 0
  | _ => 2

/-- A trigger of R428 on an active unit with a live standby. -/
def Dev.relinquishLive (d : Dev) : Dev := if d.redRole == 2 && d.liveStandby then d.relinquish true else d

/-- The scrubber finds a mismatch in a register with RW or RG fields of a powered block. -/
def Dev.csrParity (off : Nat) (d : Dev) : Dev :=
  match regAt off with
  | none => d
  | some r =>
    if (r.rw == 0 && r.rg == 0) || d.blockOff off || off / 0x100000 == 11 || !d.answers then d
    else
      let d := d.modHost (fun h => { h with parityBad := if h.parityBad.contains off then h.parityBad else off :: h.parityBad })
      let d := d.logErr 0x30 false 1 3 false off
      (d.fault .csrParity off (parityCls off) (if parityCls off = 0 then 0 else allAxes) true (some ⟨0x30, 0, 0⟩)).relinquishLive

/-! Events and counters (R78, R82). -/

/-- A write-back of S: RC event bits clear when S is SEQ. -/
def Dev.writeBack (off sv : Nat) (d : Dev) : Dev :=
  match regAt off with
  | none => d
  | some r =>
    let w := (d.rd off).toNat
    if r.rc = 0 ∨ w / 2 ^ 24 ≠ sv then d
    else d.wr off (BitVec.ofNat 32 (w - Nat.land w (r.rc % 2 ^ 24)))

/-- LOAD of SYS_CNT_CMD. -/
def Dev.counterLoad (p : Port) (d : Dev) : Dev :=
  let d := d.clkCounts
  let off := 4 * d.get F.SYS_CNT_SEL_OFFSET
  let bad := d.logErr 0x10 false 5 (portCode p) true R.SYS_CNT_CMD
  match regAt off with
  | none => bad
  | some r =>
    if r.cnt = 0 ∨ off / 0x100000 = 11 then bad
    else d.wr off ((d.rd off &&& ~~~ (BitVec.ofNat 32 r.cnt)) ||| (d.rd R.SYS_CNT_VAL &&& BitVec.ofNat 32 r.cnt))

/-! Writes with behaviour of their own. -/

/-- ANG_OFS (10 R252). -/
def Dev.angOfs (p : Port) (n : Nat) (w : Word) (d : Dev) : Dev :=
  if d.energised n then d.illegal p (R.LOOP_ANG n) else d.wr (R.LOOP_ANG n) w

/-- PROPOSE and MODE (06 R165). -/
def Dev.modeReq (p : Port) (w : Word) (d : Dev) : Dev := if d.proposeOk w then d.propose w else d.illegal p R.LINK_MODE_REQ

/-- NOM_TRIM (04 R97). -/
def Dev.nomTrimReq (p : Port) (w : Word) (d : Dev) : Dev := if nomTrimOk w then d.nomTrim w else d.illegal p R.TIME_INC_NOM

/-- PWR_PERF by a register write; whether the PMIC accepts the transactions is open. -/
def Dev.powPerfReq (p : Port) (w : Word) (d : Dev) : Dev := let (k, d) := d.draw 2; d.powPerf p w.toNat (k == 1)

/-- Which copy of a register array an offset is: base, stride and number of copies. -/
def copyOf (base stride n off : Nat) : Option Nat :=
  if base ≤ off ∧ (off - base) % stride = 0 ∧ (off - base) / stride < n then some ((off - base) / stride) else none

/-- A behaviour of a register array. -/
structure RegAct where
  base : Nat
  stride : Nat
  n : Nat
  act : Nat → Word → State → State

/-- The behaviour at an offset, if it has one. -/
def actAt (l : List RegAct) (off : Nat) : Option (Word → State → State) :=
  l.findSome? (fun a => (copyOf a.base a.stride a.n off).map a.act)

/-- A behaviour that is the block's own. -/
def dev1 (f : Word → Dev → Dev) : Nat → Word → State → State := fun _ w s => s.upd (f w)

/-- The guarded registers: what an accepted pair does (R83; a reserved bit set is rejected, log entry 68). -/
def guardActs (p : Port) (node : Nat) : List RegAct := [
  ⟨R.PWR_REQ, 8, 1, dev1 (fun w => Dev.powReq p w.toNat)⟩,
  ⟨R.PWR_PERF, 8, 1, dev1 (Dev.powPerfReq p)⟩,
  ⟨R.PWR_FAB_REQ, 8, 1, dev1 (fun w => Dev.powFab p w.toNat)⟩,
  ⟨R.TIME_INC_NOM, 8, 1, dev1 (Dev.nomTrimReq p)⟩,
  ⟨R.LINK_MODE_REQ, 8, 1, dev1 (Dev.modeReq p)⟩,
  ⟨R.TRAJ_AX_CMD 0, 0x40, 128, fun n w s => s.upd (fun d =>
    if 64 ≤ w.toNat ∨ 0x0B < w.toNat % 16 then d.illegal p (R.TRAJ_AX_CMD n)
    else d.axCmd n (w.toNat % 16) (bitOf w.toNat 4) (bitOf w.toNat 5))⟩,
  ⟨R.TRAJ_G_CMD 0, 0x40, 16, fun g w s => s.upd (fun d =>
    if w.toNat = 0 ∨ 4 < w.toNat then d.illegal p (R.TRAJ_G_CMD g) else d.grCmd g w.toNat)⟩,
  ⟨R.LOOP_CTL 0, 0x40, 128, fun n w s => s.upd (fun d =>
    if 1 < w.toNat then d.illegal p (R.LOOP_CTL n) else d.energWrite n (w.toNat == 1))⟩,
  ⟨R.LOOP_ANG 0, 0x40, 128, fun n w s => s.upd (Dev.angOfs p n w)⟩,
  ⟨R.ARB_G_CMD 0, 0x40, 16, fun g w s =>
    if w.toNat = 0 ∨ 3 < w.toNat then s.upd (Dev.illegal p (R.ARB_G_CMD g)) else s.arbCmd p g w.toNat⟩,
  ⟨R.ARB_REVOKE, 8, 1, fun _ w s => s.arbRevokeCmd p w⟩,
  ⟨R.RED_CMD, 8, 1, dev1 (fun w => Dev.redCmd p w.toNat)⟩,
  ⟨R.CFG_PATCH_DATA, 8, 1, dev1 Dev.patchData⟩,
  ⟨R.CFG_PATCH_CMD, 8, 1, dev1 (fun w d => if 3 < w.toNat then d.illegal p R.CFG_PATCH_CMD else d.patchCmd p w.toNat)⟩,
  ⟨R.CFG_SAFE_BIND, 8, 1, fun _ w s => s.safeBind p w⟩,
  ⟨R.UPD_CMD, 8, 1, fun _ w s =>
    if 0xFFF < w.toNat then s.upd (Dev.illegal p R.UPD_CMD) else s.updCommand p node (bitsOf w.toNat 11 9) (bitsOf w.toNat 8 0)⟩]

/-- EXT_CLASS of SYS_FAULTN_CFG keeps its value when 0b11 is written (01 Table 1.12). -/
def Dev.faultnCfg (w : Word) (d : Dev) : Dev :=
  let w := w &&& 0xF
  d.wr R.SYS_FAULTN_CFG (if bitsOf w.toNat 2 1 = 3 then (w &&& 9) ||| (d.rd R.SYS_FAULTN_CFG &&& 6) else w)

/-- A core's CTL (14 Table 14.12). -/
def State.spCtl (c : Nat) (w : Word) (s : State) : State :=
  (s.upd (fun d =>
    let d := if bitOf w.toNat 0 then d.spHalt c else d
    let d := if bitOf w.toNat 1 then d.spResume c else d
    if bitOf w.toNat 2 then d.spStep1 c else d)).spMoved c

/-- PUBLISH and COLD (11 R288, 12 R299). -/
def Dev.publish (c : Nat) (d : Dev) : Dev := if d.solv.on then d.up (F.SOLV_C_IN_PUBLISH c) true else d
def Dev.cold (c : Nat) (d : Dev) : Dev := if d.solv.on then d.up (F.SOLV_CTX_CMD_COLD c) true else d

/-- The other registers whose writes do more than store. -/
def plainActs (p : Port) (node : Nat) : List RegAct := [
  ⟨R.SYS_CNT_CMD, 4, 1, dev1 (fun w d => if bitOf w.toNat 0 then d.counterLoad p else d)⟩,
  ⟨R.SYS_FAULTN_CFG, 4, 1, dev1 Dev.faultnCfg⟩,
  ⟨R.SYS_DMA_CTL 0, 0x20, 8, fun n w s => s.upd (Dev.dmaCtl n w)⟩,
  ⟨R.SYS_TUN_CMD, 4, 1, dev1 (fun w d => if bitOf w.toNat 0 then d.tunStart else d)⟩,
  ⟨R.TIME_PPS_CTL, 4, 1, dev1 Dev.ppsCtlWrite⟩,
  ⟨R.TIME_EV_TGT_LO 0, 0x20, 8, fun n w s => s.upd (Dev.evTgtWrite n false w)⟩,
  ⟨R.TIME_EV_TGT_HI 0, 0x20, 8, fun n w s => s.upd (Dev.evTgtWrite n true w)⟩,
  ⟨R.TIME_EV_CYC 0, 0x20, 8, fun n w s => s.upd (Dev.evCycWrite n w)⟩,
  ⟨R.TIME_EV_CTL 0, 0x20, 8, fun n w s => s.upd (Dev.evCtlWrite n w)⟩,
  ⟨R.LINK_PORT_CTL 0, 0x40, 8, fun n w s => s.upd (Dev.portCtlWrite n w)⟩,
  ⟨R.LINK_PRBS_CTL 0, 0x20, 10, fun n w s => s.upd (Dev.prbsCtlWrite n w)⟩,
  ⟨R.LOOP_TRIP_CLR, 4, 1, dev1 (fun w => Dev.tripClr (w.toNat % 2 ^ 16))⟩,
  ⟨R.SOLV_C_IN 0, 0x40, 16, fun c w s => s.upd (fun d => if bitOf w.toNat 0 then d.publish c else d)⟩,
  ⟨R.SOLV_CTX_CMD 0, 0x40, 16, fun c w s => s.upd (fun d => if bitOf w.toNat 0 then d.cold c else d)⟩,
  ⟨R.SPC_CTL 0, 0x40, 16, fun c w s => s.spCtl c w⟩,
  ⟨R.SPC_DOOR 0, 0x40, 16, fun c w s => s.upd (fun d => if bitOf w.toNat 0 then d.doorRing c else d)⟩,
  ⟨R.SPC_WIN 0 0, 4, 1024, fun i w s => s.upd (Dev.winWrite (i / 64) (i % 64) w)⟩,
  ⟨R.SCHED_POST, 4, 1, fun _ w s => s.schedPost p (w.toNat % 1024) s.dev.nowNs⟩,
  ⟨R.SCHED_DPOST, 4, 1, fun _ w s => s.dpost (w.toNat % 1024)⟩,
  ⟨R.SCHED_MB_DATA 0, 0x10, 8, fun k w s => s.upd (Dev.mailbox p k w)⟩,
  ⟨R.SCHED_CTR_CMD, 4, 1, dev1 (fun w d => if bitOf w.toNat 0 then d.trailReset else d)⟩,
  ⟨R.FB_DIV_RATIO 0, 0x20, 8, fun k w s => s.upd (Dev.divRatioWrite k w)⟩,
  ⟨R.ADC_CTL, 4, 1, dev1 (fun w => Dev.adcCal (w.toNat % 16))⟩,
  ⟨R.CFG_PATCH_SEL, 4, 1, dev1 (Dev.patchSel false)⟩,
  ⟨R.CFG_PATCH_IDX, 4, 1, dev1 (Dev.patchSel true)⟩,
  ⟨R.UPD_CRC, 4, 1, dev1 (fun w d => match updSrc p with
    | some src => d.modUpd (fun u => { u with crc := tput u.crc src w })
    | none => d)⟩,
  ⟨R.UPD_WIN 0, 4, 16384, fun i w s => s.upd (Dev.updWin p node i w)⟩]

/-- A write of an unguarded register (R79): a behaviour of its own, the write-back of an event register, or the RW fields stored. -/
def State.plainWrite (p : Port) (node off : Nat) (w : Word) (s : State) : State :=
  match actAt (plainActs p node) off with
  | some f => f w s
  | none =>
    match regAt off with
    | none => s
    | some r =>
      if r.rc ≠ 0 then s.upd (Dev.writeBack off (w.toNat / 2 ^ 24))
      else s.upd (fun d => d.wr off ((d.rd off &&& ~~~ (BitVec.ofNat 32 r.rw)) ||| (w &&& BitVec.ofNat 32 r.rw)))

/-- A write inside a powered block: guarded pairs (R83), other registers. In recovery LINK is in reset, and its registers take no write
(20 R459). -/
def State.blockWrite (p : Port) (node off : Nat) (w : Word) (s : State) : State :=
  if s.dev.host.recovery ∧ off / 0x100000 = 3 then s
  else if guardedAt off then s.upd (Dev.setGuard p (some (off, w.toNat)))
  else if off % 8 = 4 ∧ guardedAt (off - 4) = true then
    match s.dev.guardOf p with
    | none => s.upd (Dev.guardFail p 3 (off - 4))
    | some (v, x) =>
      if x + w.toNat ≠ 2 ^ 32 - 1 then s.upd (Dev.guardFail p 2 v)
      else
        let s := s.upd (Dev.setGuard p none)
        match actAt (guardActs p node) v with
        | some f => s.guarded v (f (BitVec.ofNat 32 x))
        | none => s
  else (s.upd (Dev.written off)).plainWrite p node off w

/-- A doubleword write of BAR0 from a port (node: the peer whose tunnel request it is). -/
def State.regWrite (p : Port) (node off : Nat) (be : Nat) (w : Word) (s : State) : State :=
  if !s.dev.mayAccess p then s
  else
    let full := be == 15 && off % 4 == 0
    let s := s.upd (Dev.guardHit p off full)
    if !full then s.upd (Dev.logErr 0x10 false 3 (portCode p) true off)
    else if 0xF01000 ≤ off then s.upd (Dev.logErr 0x10 false 2 (portCode p) true off)
    else if 0xF00000 ≤ off then
      (if p = .pcie then s.upd (Dev.msixWrite ((off - 0xF00000) / 4) w) else s.upd (Dev.logErr 0x10 false 2 (portCode p) true off))
    else if s.dev.blockOff off then s.upd (Dev.accessOff p true off)
    else if off / 0x100000 = 11 then s
    else (s.upd (Dev.touch off)).blockWrite p node off w

/-! Reads (R76, R77). -/

/-- The lower registers of the pairs of R77: a _LO with its _HI, a log with its _ADDR; first copy, number of copies and stride. -/
def pairLows : List (Nat × Nat × Nat) := [
  (0x10, 1, 4), (0x20, 1, 4), (0x30, 1, 4), (0x400, 8, 0x20), (0x200000, 1, 4), (0x200018, 1, 4), (0x200060, 1, 4), (0x200068, 1, 4),
  (0x200074, 1, 4), (0x200100, 8, 0x20), (0x200114, 8, 0x20), (0x30200C, 10, 0x20), (0x400000, 128, 0x40), (0x400008, 128, 0x40),
  (0x400010, 128, 0x40), (0x400018, 128, 0x40), (0x400020, 128, 0x40), (0x400038, 128, 0x40), (0x402000, 128, 0x20),
  (0x402008, 128, 0x20), (0x402010, 128, 0x20), (0x404000, 128, 0x40), (0x404008, 128, 0x40), (0x404010, 128, 0x40),
  (0x404018, 128, 0x40), (0x404020, 128, 0x40), (0x404028, 128, 0x40), (0x601000, 16, 0x40), (0x880024, 1, 4), (0x900810, 16, 0x40),
  (0xD00008, 1, 4), (0xD00014, 1, 4)]

def lowOfPair (off : Nat) : Bool := pairLows.any (fun x => (copyOf x.1 x.2.2 x.2.1 off).isSome)

/-- A register as it reads, before R77. -/
def Dev.rawRead (d : Dev) (p : Port) (off : Nat) : Word :=
  if off = R.TIME_NOW_LO then BitVec.ofNat 32 d.nowNs
  else if off = R.TIME_NOW_HI then BitVec.ofNat 32 (d.nowNs / 2 ^ 32)
  else if off = R.TIME_NOW_FRAC then BitVec.ofNat 32 d.time.now
  else if off = R.UPD_CRC then (match updSrc p with | some src => tget d.upd.crc src | none => 0)
  else match copyOf (R.SPC_WIN 0 0) 4 1024 off with
    | some i => BitVec.ofNat 32 (d.winRead (i / 64) (i % 64))
    | none => match regAt off with
      | some r => d.rd off &&& ~~~ (BitVec.ofNat 32 r.wo)
      | none => 0

def snapKey (p : Port) (off : Nat) : Nat := portCode p * 2 ^ 26 + off

/-- The offsets that a read of off snapshots. -/
def partners (off : Nat) : List Nat := if off = R.TIME_NOW_LO then [off + 4, off + 8] else if lowOfPair off then [off + 4] else []

/-- A doubleword read of BAR0 inside a powered block. -/
def Dev.blockRead (p : Port) (off : Nat) (d : Dev) : Word × Dev :=
  let d := (d.touch off).clkCounts
  let v := match d.host.snaps.find? (fun x => x.1 == snapKey p off) with
    | some (_, some w) => w
    | _ => d.rawRead p off
  let new := (partners off).map (fun o => (snapKey p o, some (d.rawRead p o)))
  (v, d.modHost (fun h => { h with snaps := new ++ h.snaps.filter (fun x => !new.any (fun y => y.1 == x.1)) }))

/-- A doubleword read of BAR0 from a port: the data. -/
def Dev.regRead (p : Port) (off be : Nat) (d : Dev) : Word × Dev :=
  let ones : Word := 0xFFFFFFFF
  if !d.mayAccess p then (ones, d)
  else if be ≠ 15 ∨ off % 4 ≠ 0 then (ones, d.logErr 0x10 false 3 (portCode p) false off)
  else if 0xF01000 ≤ off then (ones, d.logErr 0x10 false 2 (portCode p) false off)
  else if 0xF00000 ≤ off then
    (if p = .pcie then (d.msixRead ((off - 0xF00000) / 4), d) else (ones, d.logErr 0x10 false 2 (portCode p) false off))
  else if d.blockOff off then (ones, d.accessOff p false off)
  else d.blockRead p off

/-! BAR2 (R32, R69). -/

/-- What refuses a BAR2 access: its cause. -/
def Dev.bar2Bad (d : Dev) (write : Bool) (off : Nat) : Option Nat :=
  let r := bar2Region off
  if r = 0x7F then some 2 else if write ∧ r = 3 then some 4 else if d.regionOff r then some 1 else none

/-- The bytes a set of byte enables selects. -/
def beMask (be : Nat) : Nat := (List.range 4).foldl (fun m i => if bitOf be i then m + 255 * 2 ^ (8 * i) else m) 0

/-- A write of one doubleword of BAR2 by the host. -/
def State.bar2Write (off be : Nat) (w : Word) (s : State) : State :=
  if !s.dev.answers || !s.dev.host.granted || s.dev.host.d3hot then s
  else
    let s := s.upd (Dev.guardHit .pcie 0 false)
    let a := off / 4 * 4
    match s.dev.bar2Bad true a with
    | some c => s.upd (Dev.logErr 0x10 true c 0 true a)
    | none =>
      let m := BitVec.ofNat 32 (beMask be)
      let v := (s.mem.word a &&& ~~~ m) ||| (w &&& m)
      if be = 15 then s.putMem a v else { s with mem := s.mem.putWord a v }

/-- A read of one doubleword of BAR2 by the host. What a word with an uncorrectable error reads as is not given: it is free. -/
def State.bar2Read (off : Nat) (s : State) : Word × State :=
  let ones : Word := 0xFFFFFFFF
  if !s.dev.answers || !s.dev.host.granted || s.dev.host.d3hot then (ones, s)
  else
    let a := off / 4 * 4
    match s.dev.bar2Bad false a with
    | some c => (ones, s.upd (Dev.logErr 0x10 true c 0 false a))
    | none =>
      if s.dev.eccBad.contains a = true then
        let (k, d) := s.dev.drawW
        (BitVec.ofNat 32 k, { s with dev := d })
      else
        let (ws, s) := s.hostWords a 1
        (ws.getD 0 0, s)

/-- The completion of a PCIe read. -/
def Dev.complete (w : Word) (d : Dev) : Dev := if d.answers then d.modHost (fun h => { h with rdData := w }) else d

/-! Commands. -/

/-- REG_WRITE (R68). -/
def execRegWrite (p : Port) (off : BitVec 26) (be : BitVec 4) (w : Word) (s : State) : Host.Outcome State Fault Refusal :=
  done (s.regWrite p 0 off.toNat be.toNat w)

/-- REG_READ (R68, R77): the completion of a PCIe read. -/
def execRegRead (p : Port) (off : BitVec 26) (be : BitVec 4) (s : State) : Host.Outcome State Fault Refusal :=
  onDev (fun d =>
    let (w, d) := d.regRead p off.toNat be.toNat
    if p = .pcie then d.complete w else d) s

/-- BAR2_WRITE (R69). -/
def execBar2Write (off : BitVec 25) (be : BitVec 4) (w : Word) (s : State) : Host.Outcome State Fault Refusal :=
  done (s.bar2Write off.toNat be.toNat w)

/-- BAR2_READ (R32). -/
def execBar2Read (off : BitVec 25) (s : State) : Host.Outcome State Fault Refusal :=
  let (w, s) := s.bar2Read off.toNat
  done (s.upd (Dev.complete w))

/-- EVENT_WRITE_BACK (R78). -/
def execEventWriteBack (p : Port) (off : BitVec 26) (v : BitVec 8) (s : State) : Host.Outcome State Fault Refusal :=
  done (s.regWrite p 0 off.toNat 15 (BitVec.ofNat 32 (v.toNat * 2 ^ 24)))

/-- COUNTER_LOAD (R82). -/
def execCounterLoad (p : Port) (s : State) : Host.Outcome State Fault Refusal := done (s.regWrite p 0 R.SYS_CNT_CMD 15 1)

/-- GUARD_VALUE_WRITE (R83). -/
def execGuardValueWrite (p : Port) (off : BitVec 26) (w : Word) (s : State) : Host.Outcome State Fault Refusal :=
  if guardedAt off.toNat then done (s.regWrite p 0 off.toNat 15 w) else done s

/-- GUARD_TIMEOUT (R84). -/
def execGuardTimeout (p : Port) (s : State) : Host.Outcome State Fault Refusal := onDev (Dev.guardTimeout p) s

/-- CSR_PARITY (R85). -/
def execCsrParity (off : BitVec 26) (s : State) : Host.Outcome State Fault Refusal := onDev (Dev.csrParity off.toNat) s

/-- CLOCK_REGATE (R87). -/
def execClockRegate (blk : Fin 16) (s : State) : Host.Outcome State Fault Refusal := onDev (Dev.regate blk) s

/-- MODE_PROPOSE (06 R165). -/
def execModePropose (p : Port) (w : Word) (s : State) : Host.Outcome State Fault Refusal := onDev (Dev.guarded R.LINK_MODE_REQ (Dev.modeReq p w)) s

/-- ANG_OFS_WRITE (10 R252). -/
def execAngOfsWrite (p : Port) (n : Fin 128) (w : Word) (s : State) : Host.Outcome State Fault Refusal := onDev (Dev.guarded (R.LOOP_ANG n) (Dev.angOfs p n w)) s

end Sys2Proof.Machine
end

