-- ==== Sys2Proof/Machine/HostPort.lean ====
section
/-! DEFINITION. The management SPI target and the tunnel port (chapter 3, R72 to R74, R90, R91). -/
namespace Sys2Proof.Machine
open Sys2Proof.Config

/-! MSPI. -/

/-- The status byte, reporting the previous frame (Table 3.9). -/
def Dev.mspiStatus (d : Dev) : Nat :=
  let h := d.host
  if h.granted then 128 + 64 * b2n h.mspiCrc + 32 * b2n h.mspiFrame + 16 * b2n h.mspiBus + 8 * b2n h.mspiGuard + 4 * b2n h.recovery else 0

/-- A frame begins: what it does will be reported in the next one. -/
def Dev.mspiNew (d : Dev) : Dev :=
  d.modHost (fun h => { h with mspiCrc := false, mspiFrame := false, mspiBus := false, mspiGuard := false })

/-- A framing error. -/
def Dev.mspiBad (d : Dev) : Dev :=
  if d.host.granted then (d.cnt F.SYS_MSPI_ERR_FRAME_ERR).modHost (fun h => { h with mspiFrame := true }) else d

/-- A bad CRC-8. -/
def Dev.mspiCrcBad (d : Dev) : Dev :=
  if d.host.granted then (d.cnt F.SYS_MSPI_ERR_CRC_ERR).modHost (fun h => { h with mspiCrc := true }) else d

/-- Are reserved address bits set? -/
def mspiAddrBad (off : Nat) : Bool := off % 4 != 0 || decide (2 ^ 26 ≤ off)

def Dev.miso (bs : List Byte) (d : Dev) : Dev := d.modHost (fun h => { h with miso := bs })

/-- The big-endian words of a byte list. -/
def beWords32 : List Byte → List Word
  | a :: b :: c :: d :: r => BitVec.ofNat 32 (beNat [a, b, c, d]) :: beWords32 r
  | _ => []

/-- Words committed in order from an offset (R73). -/
def State.mspiCommit : Nat → List Word → State → State
  | _, [], s => s
  | off, w :: ws, s => State.mspiCommit (off + 4) ws (s.regWrite .mspi 0 off 15 w)

/-- Words read in order from an offset (R74). -/
def Dev.mspiFetch : Nat → Nat → Dev → List Word × Dev
  | 0, _, d => ([], d)
  | n + 1, off, d =>
    let (w, d) := d.regRead .mspi off 15
    let (ws, d) := Dev.mspiFetch n (off + 4) d
    (w :: ws, d)

/-- A write frame, or one with neither command. -/
def State.mspiWrite (bs : List Byte) (s : State) : State :=
  let st := BitVec.ofNat 8 s.dev.mspiStatus
  let n := bs.length
  let cmd := (bs.getD 0 0).toNat
  let L := (bs.getD 5 0).toNat + 1
  let off := beNat ((bs.drop 1).take 4)
  let s := s.upd (fun d => d.mspiNew.miso (st :: List.replicate (n - 1) 0))
  if cmd ≠ 2 then
    let (r, d) := s.dev.freeBytes (n - 6)
    { s with dev := d.mspiBad.miso ((st :: List.replicate (min 5 (n - 1)) 0) ++ r) }
  else if n < 6 ∨ 16 < L ∨ n ≠ 7 + 4 * L then s.upd Dev.mspiBad
  else if crc8 (bs.take (n - 1)) ≠ (bs.getD (n - 1) 0).toNat then s.upd Dev.mspiCrcBad
  else if !s.dev.host.granted then s
  else if mspiAddrBad off then s.upd (Dev.logErr 0x10 false 6 1 true off)
  else s.mspiCommit off (beWords32 ((bs.drop 6).take (4 * L)))

/-- A read frame; one that chip select cuts short has no effect. -/
def Dev.mspiRead (bs : List Byte) (d : Dev) : Dev :=
  let st := BitVec.ofNat 8 d.mspiStatus
  let n := bs.length
  let L := (bs.getD 5 0).toNat + 1
  let off := beNat ((bs.drop 1).take 4)
  let d := d.mspiNew
  let head : List Byte := st :: List.replicate 5 0
  if n < 6 then d.miso (head.take n)
  else if 16 < L then d.mspiBad.miso (head ++ List.replicate (n - 6) 0xFF)
  else
    let cut := decide (n < 9 + 4 * L)
    let (data, d') :=
      if d.host.granted && mspiAddrBad off then
        let (r, d) := (d.logErr 0x10 false 6 1 false off).freeBytes (4 * L)
        (r, d)
      else
        let (ws, d) := Dev.mspiFetch L off d
        (ws.flatMap (fun w => beBytes 4 w.toNat), d)
    let (rest, d') := d'.freeBytes (n - (9 + 4 * L))
    let out := ((head ++ [0, 0] ++ data ++ [BitVec.ofNat 8 (crc8 data)]) ++ rest).take n
    if cut then d.miso out else d'.miso out

/-- A frame on MSPI, by its command byte. -/
def State.mspiAny (bs : List Byte) (s : State) : State :=
  if !s.dev.answers || bs.isEmpty then s
  else if (bs.getD 0 0).toNat = 3 then s.upd (Dev.mspiRead bs) else s.mspiWrite bs

/-! The tunnel port. -/

/-- Permission (R91 step 1). -/
def Dev.tunAllowed (d : Dev) (src op off n : Nat) : Bool :=
  match op with
  | 1 => d.assigned src
  | 2 =>
    (bitOf (d.rd R.SYS_TUN_WNODES).toNat src
      && (List.range n).all (fun i => bitOf (d.get F.SYS_TUN_WMASK_TUN_WMASK) (bitsOf (off + 4 * i) 23 20)))
      || (src == d.zenithId && decide (4 ≤ d.sstate) && (List.range n).all (fun i => off + 4 * i == R.PWR_REQ || off + 4 * i == R.PWR_REQ + 4))
  | _ => true

/-- The number of log entries that a word has made, as the SEQ of the two logs tells. -/
def Dev.logSeqs (d : Dev) : Nat × Nat := (d.get F.SYS_BUSERR_LOG_SEQ, d.get F.SYS_GUARD_LOG_SEQ)

/-- The words of a write request in ascending address; the index of the first one logged. A word the frame does not carry is free. -/
def State.tunWrite (src off : Nat) : Nat → Nat → List Word → Option Nat → State → Option Nat × State
  | 0, _, _, bad, s => (bad, s)
  | n + 1, i, ws, bad, s =>
    let (w, s) : Word × State := match ws with
      | w :: _ => (w, s)
      | [] => let (k, d) := s.dev.drawW; (BitVec.ofNat 32 k, { s with dev := d })
    let s' := s.regWrite .tunnel src (off + 4 * i) 15 w
    let bad := if bad.isNone && s'.dev.logSeqs != s.dev.logSeqs then some i else bad
    State.tunWrite src off n (i + 1) (ws.drop 1) bad s'

/-- The words of a read request. -/
def Dev.tunRead (off : Nat) : Nat → Nat → Option Nat → Dev → List Word × Option Nat × Dev
  | 0, _, bad, d => ([], bad, d)
  | n + 1, i, bad, d =>
    let (w, d') := d.regRead .tunnel (off + 4 * i) 15
    let bad := if bad.isNone && d'.logSeqs != d.logSeqs then some i else bad
    let (ws, bad, d') := Dev.tunRead off n (i + 1) bad d'
    (w :: ws, bad, d')

/-- n free words. -/
def Dev.freeWords : Nat → Dev → List Word × Dev
  | 0, d => ([], d)
  | n + 1, d =>
    let (k, d) := d.drawW
    let (ws, d) := Dev.freeWords n d
    (BitVec.ofNat 32 k :: ws, d)

/-- The response (R90). -/
def Dev.tunReply (f : Frame) (n result fail : Nat) (ws : List Word) (d : Dev) : Dev :=
  let w0 := 2 * 2 ^ 24 + bitsOf (f.w 0) 23 14 * 2 ^ 14 + (n - 1) * 2 ^ 8 + result
  (d.sendBody 8 f.src 0 ([BitVec.ofNat 32 w0, f.body.getD 1 0, BitVec.ofNat 32 fail] ++ ws)).cntWrap F.SYS_TUN_CNT_SERVED

/-- A request is served (R91): permission, form, execution, response. The data words of a read that executes nothing are free. -/
def State.tunServe (f : Frame) (s : State) : State :=
  let op := bitsOf (f.w 0) 15 14
  let n := min 59 (bitsOf (f.w 0) 13 8) + 1
  let off := f.w 1
  let refuse := fun (code : Nat) (d : Dev) =>
    let (ws, d) := if op = 1 then Dev.freeWords n d else ([], d)
    d.tunReply f n code 0xFF ws
  if !s.dev.tunAllowed f.src op off n then s.upd (refuse 1)
  else if op = 0 ∨ op = 3 ∨ mspiAddrBad off = true then s.upd (refuse 2)
  else if op = 2 then
    let (bad, s) := s.tunWrite f.src off n 0 (f.body.drop 3) none
    s.upd (Dev.tunReply f n (if bad.isSome then 3 else 0) (bad.getD 0xFF) [])
  else
    let (ws, bad, d) := s.dev.tunRead off n 0 none
    { s with dev := d.tunReply f n (if bad.isSome then 3 else 0) (bad.getD 0xFF) ws }

/-- A request arrives: one runs and four wait at most; each word takes one SYS clock (R91). -/
def State.tunRequest (f : Frame) (s : State) : State :=
  let now := s.dev.nowPs.toNat
  let busy := s.dev.host.tunFin.filter (fun t => decide (now < t))
  if 5 ≤ busy.length then s.upd (Dev.cnt F.SYS_TUN_CNT_TUN_DROP)
  else
    let fin := busy.foldl max now + 2500 * (min 59 (bitsOf (f.w 0) 13 8) + 1)
    (s.upd (Dev.modHost (fun h => { h with tunFin := busy ++ [fin] }))).tunServe f

/-! Commands. -/

/-- MSPI_WRITE_FRAME (R73). -/
def execMspiWriteFrame (bytes : List Byte) (s : State) : Host.Outcome State Fault Refusal := done (s.mspiAny bytes)

/-- MSPI_READ_FRAME (R74). -/
def execMspiReadFrame (bytes : List Byte) (s : State) : Host.Outcome State Fault Refusal := done (s.mspiAny bytes)

/-- TUNNEL_REQUEST (R91). -/
def execTunnelRequest (p : Fin 8) (f : Frame) (stamp : Nat) (s : State) : Host.Outcome State Fault Refusal :=
  let (d, here) := s.dev.frameIn p f stamp
  let s := { s with dev := d }
  done (if here && f.typ == 8 && bitsOf (f.w 0) 31 24 == 1 then s.tunRequest f else s)

end Sys2Proof.Machine
end

