-- ==== Sys2Proof/Machine/Sp.lean ====
section
/-! DEFINITION. The SP cores' instruction set (chapter 14, R337 to R356). A command names the core and the instruction's fields; the core
executes it when it is in RUN, its clock is not gated, and the word at its pc in program memory spells just that instruction. -/
namespace Sys2Proof.Machine
open Sys2Proof.Config

/-- Where execution goes: the next address; a transfer after a delay slot; past a loop that has no iterations; at once, without a delay
slot; or nowhere, the core waiting. -/
inductive SpNext where
  | seq
  | jump (t : Nat)
  | skip (t : Nat)
  | go (t : Nat)
  | wait
  deriving DecidableEq, Repr

/-- What an instruction does to its core: writes seen by the next instruction, writes seen that many instructions later (Table 14.10),
and where it goes. -/
structure SpEff where
  now : List SpWrite := []
  late : List (Nat × SpWrite) := []
  next : SpNext := .seq

/-- An instruction's effect, or the cause of its exception (Table 14.11: 1 ILLEGAL, 2 ADDR, 3 ECC). -/
abbrev SpRes := Except Nat SpEff

/-! Loops (R350). -/

/-- The innermost active level. -/
def SpCore.level (x : SpCore) : Option Nat := if bitOf x.srv 9 then some 1 else if bitOf x.srv 8 then some 0 else none

/-- Is the instruction the last of an active loop's body? -/
def SpCore.atLe (x : SpCore) : Bool := (bitOf x.srv 8 && x.cv 30 == x.pc) || (bitOf x.srv 9 && x.cv 33 == x.pc)

/-- The end of one level: it goes round to ls, or ends. -/
def SpCore.loopEnd (l : Nat) (x : SpCore) : List SpWrite × Option Nat :=
  let lc := x.cv (28 + 3 * l)
  if 1 < lc then ([.creg (28 + 3 * l) (lc - 1)], some (x.cv (29 + 3 * l)))
  else ([.creg (28 + 3 * l) 0, .sr (2 ^ (8 + l)) 0], none)

/-- The loop-end test: where it goes back to, if it does. -/
def SpCore.loopTest (x : SpCore) : List SpWrite × Option Nat :=
  match x.level with
  | none => ([], none)
  | some l =>
    if x.cv (30 + 3 * l) ≠ x.pc then ([], none)
    else
      let (w, t) := x.loopEnd l
      if l = 1 ∧ t = none ∧ bitOf x.srv 8 = true ∧ x.cv 30 = x.pc then
        let (w', t') := x.loopEnd 0
        (w ++ w', t')
      else (w, t)

/-! One instruction. -/

/-- The pc after an instruction. A transfer whose delay slot ends a pass of a loop that goes round: the manual gives both addresses, so
which of them comes next is free. -/
def State.spNext (c : Nat) (n : SpNext) (x : SpCore) (s : State) : State :=
  let pc1 := (x.pc + 1) % 2 ^ 13
  match n with
  | .seq =>
    let (w, back) := x.loopTest
    let s := w.foldl (fun s w => s.spPut c w) s
    match x.slot, back with
    | some t, some b => s.upd (fun d => let (k, d) := d.draw 2; d.modCore c (fun y => { y with pc := if k = 0 then t else b, slot := none }))
    | some t, none => s.upd (Dev.modCore c (fun y => { y with pc := t, slot := none }))
    | none, b => s.upd (Dev.modCore c (fun y => { y with pc := b.getD pc1 }))
  | .jump t => s.upd (Dev.modCore c (fun y => { y with pc := pc1, slot := some t }))
  | .skip t => s.upd (Dev.modCore c (fun y => { y with pc := t }))
  | .go t => s.upd (Dev.modCore c (fun y => { y with pc := t }))
  | .wait => (s.upd (Dev.toCore c 2)).preempts

/-- Is it a write of a control register? -/
def SpWrite.ctl : SpWrite → Bool
  | .creg _ _ => true
  | _ => false

/-- An instruction passes: the late writes that have now been waited for take place, oldest first, but for those of control registers,
which come after what the instruction itself writes, since it behaves as if their MTC had not yet executed (R345). -/
def State.spLand (c : Nat) (s : State) : State :=
  let l := (s.dev.core c).late
  let s := s.upd (Dev.modCore c (fun x => { x with
    late := (l.filter (fun w => decide (1 < w.1) || w.2.ctl)).map (fun w => (w.1 - 1, w.2)) }))
  (l.filter (fun w => decide (w.1 ≤ 1) && !w.2.ctl)).foldl (fun s w => s.spPut c w.2) s

/-- The control registers' late writes that have been waited for. -/
def State.spLandCtl (c : Nat) (s : State) : State :=
  let l := (s.dev.core c).late
  (l.filter (fun w => w.1 == 0)).foldl (fun s w => s.spPut c w.2)
    (s.upd (Dev.modCore c (fun x => { x with late := l.filter (fun w => w.1 != 0) })))

/-- An instruction passes (R345): late writes whose gap is over take place, then its own; then the boundary (R351). -/
def State.spPass (c : Nat) (e : SpEff) (x : SpCore) (s : State) : State :=
  let s := e.now.foldl (fun s w => s.spPut c w) (s.spLand c)
  let s := s.upd (Dev.modCore c (fun y => { y with late := y.late ++ e.late }))
  (((s.spNext c e.next x).spLandCtl c).upd (Dev.boundary c)).spDrain c

/-- An exception: the instruction has no effect (R351, R352). -/
def State.spExcept (c cause : Nat) (s : State) : State := ((s.upd (Dev.exception c cause)).upd (Dev.boundary c)).spDrain c

/-- The word a core fetches; none where it has an uncorrectable error. -/
def State.spFetch (c : Nat) (s : State) : Option Nat := s.eccWord (pOff c (s.dev.core c).pc)

/-- Does a core execute? -/
def Dev.spRuns (c : Nat) (d : Dev) : Bool := d.coreState c == 1 && !d.frozen

/-- A core executes the instruction f with effect op; where the fetched word does not spell f, nothing happens. -/
def State.spInstr (c : Nat) (f : SpFmt) (op : State → Except Nat (SpEff × State)) (s : State) : State :=
  if !s.dev.spRuns c then s
  else match s.spFetch c with
    | none => s.spExcept c 3
    | some w =>
      if spDecode w ≠ some f then s
      else match op s with
        | .error k => s.spExcept c k
        | .ok (e, s') => s'.spPass c e (s.dev.core c)

/-- An instruction whose effect is its core's alone. -/
def coreOp (c : Nat) (f : SpCore → SpRes) (s : State) : Except Nat (SpEff × State) :=
  match f (s.dev.core c) with
  | .error k => .error k
  | .ok e => .ok (e, s)

/-- The outcome of an instruction command on core c. -/
def spDo (c : Fin 16) (f : SpFmt) (op : SpCore → SpRes) (s : State) : Host.Outcome State Fault Refusal :=
  done (s.spInstr c f (coreOp c op))

/-! Flags (Table 14.3, R344). -/

/-- Z and N of a result. -/
def znOf (r : Nat) : Nat := b2n (r == 0) + 2 * b2n (bitOf r 31)

/-- Writes of d register r with Z and N. -/
def dzn (r v : Nat) : List SpWrite := [.dreg r v false, .sr 3 (znOf v)]

/-- The same with V. -/
def dznv (r v : Nat) (ov : Bool) : List SpWrite := [.dreg r v false, .sr 7 (znOf v + 4 * b2n ov)]

/-- The same with V and C. -/
def dznvc (r v : Nat) (ov cy : Bool) : List SpWrite := [.dreg r v false, .sr 15 (znOf v + 4 * b2n ov + 8 * b2n cy)]

/-- Is a result outside 32 bits? -/
def over32 (i : Int) : Bool := decide (satI 32 i ≠ i)

/-- A 32-bit result, saturated where SAT is set. -/
def SpCore.sat32 (x : SpCore) (i : Int) : Nat := uNat 32 (if bitOf x.srv 4 then satI 32 i else i)

/-- The writes of an addition: u and v are the operands' unsigned values. -/
def SpCore.addW (x : SpCore) (rd u v : Nat) : List SpWrite :=
  let i := sInt 32 u + sInt 32 v
  dznvc rd (x.sat32 i) (over32 i) (decide (2 ^ 32 ≤ u + v))

/-- The writes of a subtraction; C means no borrow. -/
def SpCore.subW (x : SpCore) (rd u v : Nat) : List SpWrite :=
  let i := sInt 32 u - sInt 32 v
  dznvc rd (x.sat32 i) (over32 i) (decide (v ≤ u))

/-- The flags of a comparison. -/
def cmpW (u v : Nat) : List SpWrite :=
  let i := sInt 32 u - sInt 32 v
  [.sr 15 (znOf (uNat 32 i) + 4 * b2n (over32 i) + 8 * b2n (decide (v ≤ u)))]

/-- A shift by a signed count of six bits; the right shift is arithmetic or logical. -/
def shift32 (arith : Bool) (u k : Nat) : Nat :=
  let n := sInt 6 k
  if 0 ≤ n then u * 2 ^ n.toNat % 2 ^ 32
  else if arith then uNat 32 (shrI (sInt 32 u) (-n).toNat) else u / 2 ^ (-n).toNat

/-- The number of redundant sign bits of a word. -/
def redundant (u : Nat) : Nat :=
  let s := bitOf u 31
  ((List.range 31).reverse.takeWhile (fun i => bitOf u i == s)).length

/-- The unsigned word of a sign-extended 16-bit immediate. -/
def sext16 (imm : Nat) : Nat := uNat 32 (sInt 16 imm)

/-! Accumulators (R338, Table 14.10). -/

def SpCore.acc (x : SpCore) (k : Nat) : Int := if k = 0 then x.a0 else x.a1
def SpCore.accVis (x : SpCore) (k : Nat) : Int := if k = 0 then x.v0 else x.v1

/-- An accumulator takes a value: at once for accumulation, one instruction later for its other readers; AV where it saturates. -/
def accW (k : Nat) (i : Int) : List SpWrite × List (Nat × SpWrite) :=
  let v := satI 72 i
  ([.acc k v] ++ (if v = i then [] else [.sr 0x20 0x20]), [(1, .vis k v)])

/-! Addressing (R341, R342). -/

/-- The modify of R342 over base b and length l. -/
def modAddr (a : Nat) (m : Int) (b l : Nat) : Nat :=
  let r := uNat 14 (a + m)
  if l ≠ 0 ∧ b ≤ a ∧ a < b + l then
    let r := if b + l ≤ r then r - l else r
    (if r < b then r + l else r) % 2 ^ 14
  else r

/-- Address register k of X (y = false) or Y; its modify. -/
def SpCore.ar (x : SpCore) (y : Bool) (k : Nat) : Nat := x.cv (if y then 4 + k else k)
def SpCore.arMod (x : SpCore) (y : Bool) (k : Nat) (m : Int) : Nat :=
  modAddr (x.ar y k) m (x.cv (if y then 16 + k else 8 + k)) (x.cv (if y then 20 + k else 12 + k))
def SpCore.nMod (x : SpCore) (k : Nat) : Int := sInt 14 (x.cv (24 + k))
def arIdx (y : Bool) (k : Nat) : Nat := if y then 4 + k else k

/-- Format I's addressing: the effective address, and the write of the address register (Table 14.5). -/
def SpCore.ea (x : SpCore) (rs imm : Nat) : Except Nat (Nat × List SpWrite) :=
  let y := decide (4 ≤ rs)
  let k := rs % 4
  let off := imm % 2 ^ 14
  if 8 ≤ rs then .error 1
  else match imm / 2 ^ 14 with
    | 0 => .ok (uNat 14 (x.ar y k + sInt 14 off), [])
    | 1 => .ok (x.ar y k, [.creg (arIdx y k) (x.arMod y k (sInt 14 off))])
    | 2 => if off ≠ 0 then .error 1 else .ok (x.ar y k, [.creg (arIdx y k) (x.arMod y k (x.nMod k))])
    | _ => .ok (off, [])

/-- A local read of X or Y. -/
def State.spRead (c : Nat) (y : Bool) (a : Nat) (s : State) : Option Nat := s.eccWord (if y then yOff c a else xOff c a)

/-- The late write of a word of X or Y. -/
def xyW (y : Bool) (a v : Nat) : Nat × SpWrite := (1, if y then .ymem a v else .xmem a v)

/-! Parallel moves (Table 14.7). -/

def mvMode (m : Nat) : Nat := bitsOf m 7 6
def mvAr (m : Nat) : Nat := bitsOf m 5 4
def mvMod (m : Nat) : Nat := bitsOf m 3 2
def mvReg (m : Nat) : Nat := bitsOf m 1 0

/-- The modifier of a MOD code. -/
def SpCore.mvStep (x : SpCore) (k code : Nat) : Int :=
  match code with | 0 => 0 | 1 => 1 | 2 => -1 | _ => x.nMod k

/-- Placements of moves that are illegal (R346, Table 14.7). -/
def mvBad (xm ym : Nat) : Bool :=
  mvMode xm == 3 || mvMode ym == 3 || (mvMode xm == 2 && mvMode ym == 2)
    || (mvMode xm != 0 && mvMode ym != 0 && mvMod xm == 3 && mvMod ym == 3 && mvAr xm != mvAr ym)

/-- The post-modify of a move. -/
def SpCore.mvPost (x : SpCore) (y : Bool) (m : Nat) : List SpWrite :=
  if mvMod m = 0 then [] else [.creg (arIdx y (mvAr m)) (x.arMod y (mvAr m) (x.mvStep (mvAr m) (mvMod m)))]

/-- One move. -/
def State.spMove (c : Nat) (y : Bool) (m : Nat) (s : State) : SpRes :=
  let x := s.dev.core c
  let r := mvReg m + (if y then 4 else 0)
  let a := x.ar y (mvAr m)
  match mvMode m with
  | 0 => .ok {}
  | 1 => match s.spRead c y a with
    | none => .error 3
    | some v => .ok { now := x.mvPost y m, late := [(1, .dreg r v true)] }
  | _ => .ok { now := x.mvPost y m, late := [xyW y a (x.dv r)] }

/-- Both moves. -/
def State.spMoves (c xm ym : Nat) (s : State) : SpRes :=
  if mvBad xm ym then .error 1
  else match s.spMove c false xm, s.spMove c true ym with
    | .ok a, .ok b => .ok { now := a.now ++ b.now, late := a.late ++ b.late }
    | .error k, _ => .error k
    | _, .error k => .error k

/-- Arithmetic with both moves: the arithmetic reads its operands as they stood before. -/
def State.spPar (c xm ym : Nat) (w : List SpWrite × List (Nat × SpWrite)) (s : State) : Except Nat (SpEff × State) :=
  match s.spMoves c xm ym with
  | .ok e => .ok ({ e with now := w.1 ++ e.now, late := w.2 ++ e.late }, s)
  | .error k => .error k

/-- MACM and TAP: both words, where the fields allow it (R347, R348). -/
def State.spPair (c xm ym : Nat) (s : State) : Except Nat (Nat × Nat) :=
  let x := s.dev.core c
  if mvBad xm ym || mvMode xm != 1 || mvMode ym != 1 || mvReg xm != 0 || mvReg ym != 0 then .error 1
  else match s.spRead c false (x.ar false (mvAr xm)), s.spRead c true (x.ar true (mvAr ym)) with
    | some a, some b => .ok (a, b)
    | _, _ => .error 3

/-! Control transfers (R346). -/

/-- A control transfer: not in a delay slot, not the last of a loop body. -/
def SpCore.transfer (x : SpCore) (e : SpRes) : SpRes := if x.slot.isSome || x.atLe then .error 1 else e

/-- Does a condition hold (Table 14.9)? none: reserved. -/
def SpCore.cond (x : SpCore) (k : Nat) : Option Bool :=
  let z := bitOf x.srv 0
  let lt := bitOf x.srv 1 != bitOf x.srv 2
  let c := bitOf x.srv 3
  match k with
  | 0 => some true
  | 1 => some z
  | 2 => some (!z)
  | 3 => some lt
  | 4 => some (!lt)
  | 5 => some (z || lt)
  | 6 => some (!(z || lt))
  | 7 => some (!c)
  | 8 => some c
  | 9 => some (bitOf x.srv 5)
  | _ => none

/-- A loop of n iterations to a last instruction at t (R349). -/
def SpCore.loop (x : SpCore) (n t : Nat) : SpRes :=
  let ls := (x.pc + 1) % 2 ^ 13
  let l := if bitOf x.srv 8 then 1 else 0
  if (bitOf x.srv 8 && bitOf x.srv 9) || decide (t < ls) || (l == 1 && decide (x.cv 30 < t)) then .error 1
  else
    let w : List SpWrite := [.creg (29 + 3 * l) ls, .creg (30 + 3 * l) t, .creg (28 + 3 * l) n]
    if n = 0 then .ok { now := w, next := .skip ((t + 1) % 2 ^ 13) }
    else .ok { now := w ++ [.sr (2 ^ (8 + l)) (2 ^ (8 + l))] }

/-! The global port (R339, R340). -/

/-- Is an address refused? -/
def Dev.globalBad (c : Nat) (write : Bool) (a : Nat) (d : Dev) : Bool :=
  a % 4 != 0 || !(decide (a < 0x800000)
    || (decide (0x40000000 ≤ a) && decide (a < 0x40F00000) && (!write || bitOf (d.get (F.SPC_CFG_WMASK c)) (bitsOf a 23 20))))

/-- A global read. -/
def State.globalRead (c a : Nat) (s : State) : Nat × State :=
  if 0x800000 ≤ a then
    let (w, d) := s.dev.regRead (.sp c) (a % 0x40000000) 15
    (w.toNat, { s with dev := d })
  else if s.dev.regionOff 0 then (2 ^ 32 - 1, s.upd (Dev.gerr c))
  else match s.eccWord a with
    | some w => (w, s)
    | none => let (k, d) := s.dev.drawW; (k, { s with dev := d })

/-- A global write. -/
def State.globalWrite (c a v : Nat) (s : State) : State :=
  if 0x800000 ≤ a then s.regWrite (.sp c) 0 (a % 0x40000000) 15 (BitVec.ofNat 32 v)
  else if s.dev.regionOff 0 then s.upd (Dev.gerr c)
  else s.putMem a (BitVec.ofNat 32 v)

/-- The oldest posted store of a core takes effect. -/
def State.storeEffect (c : Nat) (s : State) : State :=
  match (s.dev.core c).stores with
  | [] => s
  | (a, v) :: r => (s.upd (Dev.modCore c (fun x => { x with stores := r }))).globalWrite c a v

/-- Every posted store of a core takes effect. -/
def State.storesEffect (c : Nat) (s : State) : State := (s.dev.core c).stores.foldl (fun s _ => s.storeEffect c) s

/-- LDG: in program order after the stores. -/
def State.ldg (c rd rs imm : Nat) (s : State) : Except Nat (SpEff × State) :=
  let a := uNat 32 ((s.dev.core c).ds rs + sInt 16 imm)
  if s.dev.globalBad c false a then .error 2
  else
    let (v, s) := (s.storesEffect c).globalRead c a
    .ok ({ now := dzn rd v }, s)

/-- STG: a ninth outstanding store waits for the oldest. -/
def State.stg (c rd rs imm : Nat) (s : State) : Except Nat (SpEff × State) :=
  let x := s.dev.core c
  let a := uNat 32 (x.ds rs + sInt 16 imm)
  if s.dev.globalBad c true a then .error 2
  else
    let s := if 8 ≤ x.stores.length then s.storeEffect c else s
    .ok ({}, s.upd (Dev.modCore c (fun y => { y with stores := y.stores ++ [(a, x.dv rd)] })))

/-! Tasks (R355, R356). -/

/-- GETTASK. -/
def State.getTask (c t : Nat) (s : State) : Except Nat (SpEff × State) :=
  match (s.dev.core c).transfer (.ok { next := .wait }) with
  | .error k => .error k
  | .ok e => .ok (e, (s.clockAt t).complete c 0xFE)

/-- TDONE. -/
def State.tDone (c r t : Nat) (s : State) : Except Nat (SpEff × State) :=
  let x := s.dev.core c
  if x.held.isNone then .error 1 else .ok ({}, ((s.clockAt t).complete c (x.dv r % 256)).preempts)

/-- TPOST. -/
def State.tPost (c r t : Nat) (s : State) : Except Nat (SpEff × State) :=
  .ok ({}, ((s.clockAt t).post 0 c ((s.dev.core c).dv r % 1024)).preempts)

/-! The instructions (Table 14.8). -/

/-- NOP. -/
def execSpNop (c : Fin 16) (s : State) : Host.Outcome State Fault Refusal := spDo c (.r 0 0 0 0 0) (fun _ => .ok {}) s

/-- ADD. -/
def execSpAdd (c rd rs rt : Fin 16) (s : State) : Host.Outcome State Fault Refusal :=
  spDo c (.r 1 rd rs rt 0) (fun x => .ok { now := x.addW rd (x.dv rs) (x.dv rt) }) s

/-- SUB. -/
def execSpSub (c rd rs rt : Fin 16) (s : State) : Host.Outcome State Fault Refusal :=
  spDo c (.r 2 rd rs rt 0) (fun x => .ok { now := x.subW rd (x.dv rs) (x.dv rt) }) s

/-- AND. -/
def execSpAnd (c rd rs rt : Fin 16) (s : State) : Host.Outcome State Fault Refusal :=
  spDo c (.r 3 rd rs rt 0) (fun x => .ok { now := dznvc rd (Nat.land (x.dv rs) (x.dv rt)) false false }) s

/-- OR. -/
def execSpOr (c rd rs rt : Fin 16) (s : State) : Host.Outcome State Fault Refusal :=
  spDo c (.r 4 rd rs rt 0) (fun x => .ok { now := dznvc rd (Nat.lor (x.dv rs) (x.dv rt)) false false }) s

/-- XOR. -/
def execSpXor (c rd rs rt : Fin 16) (s : State) : Host.Outcome State Fault Refusal :=
  spDo c (.r 5 rd rs rt 0) (fun x => .ok { now := dznvc rd (Nat.xor (x.dv rs) (x.dv rt)) false false }) s

/-- ASH. -/
def execSpAsh (c rd rs rt : Fin 16) (s : State) : Host.Outcome State Fault Refusal :=
  spDo c (.r 6 rd rs rt 0) (fun x => .ok { now := dzn rd (shift32 true (x.dv rs) (x.dv rt % 64)) }) s

/-- LSH. -/
def execSpLsh (c rd rs rt : Fin 16) (s : State) : Host.Outcome State Fault Refusal :=
  spDo c (.r 7 rd rs rt 0) (fun x => .ok { now := dzn rd (shift32 false (x.dv rs) (x.dv rt % 64)) }) s

/-- A product's word: the d register one instruction later, Z and N at once. -/
def mulEff (rd v : Nat) : SpEff := { now := [.sr 3 (znOf v)], late := [(1, .dreg rd v false)] }

/-- MUL. -/
def execSpMul (c rd rs rt : Fin 16) (s : State) : Host.Outcome State Fault Refusal :=
  spDo c (.r 8 rd rs rt 0) (fun x => .ok (mulEff rd (uNat 32 (x.ds rs * x.ds rt)))) s

/-- MULH. -/
def execSpMulh (c rd rs rt : Fin 16) (s : State) : Host.Outcome State Fault Refusal :=
  spDo c (.r 9 rd rs rt 0) (fun x => .ok (mulEff rd (uNat 32 (shrI (x.ds rs * x.ds rt) 32)))) s

/-- MIN. -/
def execSpMin (c rd rs rt : Fin 16) (s : State) : Host.Outcome State Fault Refusal :=
  spDo c (.r 0x0A rd rs rt 0) (fun x => .ok { now := dzn rd (uNat 32 (min (x.ds rs) (x.ds rt))) }) s

/-- MAX. -/
def execSpMax (c rd rs rt : Fin 16) (s : State) : Host.Outcome State Fault Refusal :=
  spDo c (.r 0x0B rd rs rt 0) (fun x => .ok { now := dzn rd (uNat 32 (max (x.ds rs) (x.ds rt))) }) s

/-- ABS. -/
def execSpAbs (c rd rs : Fin 16) (s : State) : Host.Outcome State Fault Refusal :=
  spDo c (.r 0x0C rd rs 0 0) (fun x =>
    let i : Int := if x.ds rs < 0 then -(x.ds rs) else x.ds rs
    .ok { now := dznv rd (x.sat32 i) (over32 i) }) s

/-- NEG. -/
def execSpNeg (c rd rs : Fin 16) (s : State) : Host.Outcome State Fault Refusal :=
  spDo c (.r 0x0D rd rs 0 0) (fun x => .ok { now := dznv rd (x.sat32 (-(x.ds rs))) (over32 (-(x.ds rs))) }) s

/-- CMP. -/
def execSpCmp (c rs rt : Fin 16) (s : State) : Host.Outcome State Fault Refusal :=
  spDo c (.r 0x0E 0 rs rt 0) (fun x => .ok { now := cmpW (x.dv rs) (x.dv rt) }) s

/-- MOV. -/
def execSpMov (c rd rs : Fin 16) (s : State) : Host.Outcome State Fault Refusal :=
  spDo c (.r 0x0F rd rs 0 0) (fun x => .ok { now := dzn rd (x.dv rs) }) s

/-- MFC. -/
def execSpMfc (c rd : Fin 16) (idx : Fin 64) (s : State) : Host.Outcome State Fault Refusal :=
  done (s.spInstr c (.r 0x10 rd 0 0 idx) (fun s => .ok ({ late := [(1, .dreg rd (s.dev.creg c idx) false)] }, s)))

/-- MTC. -/
def execSpMtc (c : Fin 16) (idx : Fin 64) (rs : Fin 16) (s : State) : Host.Outcome State Fault Refusal :=
  spDo c (.r 0x11 0 rs 0 idx) (fun x =>
    if cregRw idx then
      let (a, b) := x.cregWrites idx (x.dv rs)
      .ok { now := a, late := b }
    else .error 1) s

/-- EXA. -/
def execSpExa (c rd : Fin 16) (k : Fin 2) (sh : Fin 64) (s : State) : Host.Outcome State Fault Refusal :=
  spDo c (.r 0x12 rd k 0 sh) (fun x =>
    let i := rshrI (x.accVis k) sh
    let v := uNat 32 (satI 32 i)
    .ok { now := [.sr 7 (znOf v + 4 * b2n (over32 i))], late := [(1, .dreg rd v false)] }) s

/-- LDA. -/
def execSpLda (c : Fin 16) (k : Fin 2) (rs : Fin 16) (sh : Fin 64) (s : State) : Host.Outcome State Fault Refusal :=
  spDo c (.r 0x13 k rs 0 sh) (fun x => let w := accW k (x.ds rs * (2 ^ sh.val : Nat)); .ok { now := w.1, late := w.2 }) s

/-- CLRA. -/
def execSpClra (c : Fin 16) (k : Fin 2) (s : State) : Host.Outcome State Fault Refusal :=
  spDo c (.r 0x14 k 0 0 0) (fun _ => let w := accW k 0; .ok { now := w.1, late := w.2 }) s

/-- NORM. -/
def execSpNorm (c rd rs : Fin 16) (s : State) : Host.Outcome State Fault Refusal :=
  spDo c (.r 0x15 rd rs 0 0) (fun x => .ok { now := dzn rd (redundant (x.dv rs)) }) s

/-- ADDA. -/
def execSpAdda (c : Fin 16) (k j : Fin 2) (s : State) : Host.Outcome State Fault Refusal :=
  spDo c (.r 0x16 k j 0 0) (fun x => let w := accW k (x.acc k + x.accVis j); .ok { now := w.1, late := w.2 }) s

/-- ADDI. -/
def execSpAddi (c rd rs : Fin 16) (imm : BitVec 16) (s : State) : Host.Outcome State Fault Refusal :=
  spDo c (.i 0 rd rs imm.toNat) (fun x => .ok { now := x.addW rd (x.dv rs) (sext16 imm.toNat) }) s

/-- ANDI. -/
def execSpAndi (c rd rs : Fin 16) (imm : BitVec 16) (s : State) : Host.Outcome State Fault Refusal :=
  spDo c (.i 1 rd rs imm.toNat) (fun x => .ok { now := dznvc rd (Nat.land (x.dv rs) imm.toNat) false false }) s

/-- ORI. -/
def execSpOri (c rd rs : Fin 16) (imm : BitVec 16) (s : State) : Host.Outcome State Fault Refusal :=
  spDo c (.i 2 rd rs imm.toNat) (fun x => .ok { now := dznvc rd (Nat.lor (x.dv rs) imm.toNat) false false }) s

/-- XORI. -/
def execSpXori (c rd rs : Fin 16) (imm : BitVec 16) (s : State) : Host.Outcome State Fault Refusal :=
  spDo c (.i 3 rd rs imm.toNat) (fun x => .ok { now := dznvc rd (Nat.xor (x.dv rs) imm.toNat) false false }) s

/-- MOVI. -/
def execSpMovi (c rd : Fin 16) (imm : BitVec 16) (s : State) : Host.Outcome State Fault Refusal :=
  spDo c (.i 4 rd 0 imm.toNat) (fun _ => .ok { now := [.dreg rd (sext16 imm.toNat) false] }) s

/-- MOVHI. -/
def execSpMovhi (c rd : Fin 16) (imm : BitVec 16) (s : State) : Host.Outcome State Fault Refusal :=
  spDo c (.i 5 rd 0 imm.toNat) (fun x => .ok { now := [.dreg rd (imm.toNat * 2 ^ 16 + x.dv rd % 2 ^ 16) false] }) s

/-- ASHI. -/
def execSpAshi (c rd rs : Fin 16) (k : Fin 64) (s : State) : Host.Outcome State Fault Refusal :=
  spDo c (.i 6 rd rs k) (fun x => .ok { now := dzn rd (shift32 true (x.dv rs) k) }) s

/-- LSHI. -/
def execSpLshi (c rd rs : Fin 16) (k : Fin 64) (s : State) : Host.Outcome State Fault Refusal :=
  spDo c (.i 7 rd rs k) (fun x => .ok { now := dzn rd (shift32 false (x.dv rs) k) }) s

/-- LD. -/
def execSpLd (c rd ar : Fin 16) (imm : BitVec 16) (s : State) : Host.Outcome State Fault Refusal :=
  done (s.spInstr c (.i 8 rd ar imm.toNat) (fun s =>
    match (s.dev.core c).ea ar imm.toNat with
    | .error k => .error k
    | .ok (a, w) => match s.spRead c (decide (4 ≤ ar.val)) a with
      | none => .error 3
      | some v => .ok ({ now := w, late := [(1, .dreg rd v true)] }, s)))

/-- ST. -/
def execSpSt (c rd ar : Fin 16) (imm : BitVec 16) (s : State) : Host.Outcome State Fault Refusal :=
  spDo c (.i 9 rd ar imm.toNat) (fun x =>
    match x.ea ar imm.toNat with
    | .error k => .error k
    | .ok (a, w) => .ok { now := w, late := [xyW (decide (4 ≤ ar.val)) a (x.dv rd)] }) s

/-- LDG. -/
def execSpLdg (c rd rs : Fin 16) (imm : BitVec 16) (s : State) : Host.Outcome State Fault Refusal :=
  done (s.spInstr c (.i 0x0A rd rs imm.toNat) (State.ldg c rd rs imm.toNat))

/-- STG. -/
def execSpStg (c rd rs : Fin 16) (imm : BitVec 16) (s : State) : Host.Outcome State Fault Refusal :=
  done (s.spInstr c (.i 0x0B rd rs imm.toNat) (State.stg c rd rs imm.toNat))

/-- CMPI. -/
def execSpCmpi (c rs : Fin 16) (imm : BitVec 16) (s : State) : Host.Outcome State Fault Refusal :=
  spDo c (.i 0x0C 0 rs imm.toNat) (fun x => .ok { now := cmpW (x.dv rs) (sext16 imm.toNat) }) s

/-- MODA. -/
def execSpModa (c ar : Fin 16) (imm : BitVec 16) (s : State) : Host.Outcome State Fault Refusal :=
  spDo c (.i 0x0D 0 ar imm.toNat) (fun x =>
    match x.ea ar imm.toNat with
    | .error k => .error k
    | .ok (_, w) => .ok { now := w }) s

/-- J. -/
def execSpJ (c : Fin 16) (t : BitVec 13) (s : State) : Host.Outcome State Fault Refusal :=
  spDo c (.b 0 0 t.toNat) (fun x => x.transfer (.ok { next := .jump t.toNat })) s

/-- JC. -/
def execSpJc (c k : Fin 16) (t : BitVec 13) (s : State) : Host.Outcome State Fault Refusal :=
  spDo c (.b 1 k t.toNat) (fun x => x.transfer (match x.cond k with
    | none => .error 1
    | some true => .ok { next := .jump t.toNat }
    | some false => .ok {})) s

/-- CALL. -/
def execSpCall (c : Fin 16) (t : BitVec 13) (s : State) : Host.Outcome State Fault Refusal :=
  spDo c (.b 2 0 t.toNat) (fun x => x.transfer (.ok { now := [.creg 35 ((x.pc + 2) % 2 ^ 13)], next := .jump t.toNat })) s

/-- RET. -/
def execSpRet (c : Fin 16) (s : State) : Host.Outcome State Fault Refusal :=
  spDo c (.b 3 0 0) (fun x => x.transfer (.ok { next := .jump (x.cv 35) })) s

/-- JR. -/
def execSpJr (c r : Fin 16) (s : State) : Host.Outcome State Fault Refusal :=
  spDo c (.b 4 r 0) (fun x => x.transfer (.ok { next := .jump (x.dv r % 2 ^ 13) })) s

/-- LOOPI. -/
def execSpLoopi (c : Fin 16) (n : BitVec 11) (t : BitVec 13) (s : State) : Host.Outcome State Fault Refusal :=
  spDo c (.b 5 n.toNat t.toNat) (fun x => x.transfer (x.loop n.toNat t.toNat)) s

/-- LOOP. -/
def execSpLoop (c r : Fin 16) (t : BitVec 13) (s : State) : Host.Outcome State Fault Refusal :=
  spDo c (.b 6 r t.toNat) (fun x => x.transfer (x.loop (x.dv r % 2 ^ 16) t.toNat)) s

/-- ENDL. -/
def execSpEndl (c : Fin 16) (s : State) : Host.Outcome State Fault Refusal :=
  spDo c (.b 7 0 0) (fun x =>
    if x.atLe then .error 1 else .ok { now := [.sr (if bitOf x.srv 9 then 0x200 else 0x100) 0] }) s

/-- GETTASK. -/
def execSpGettask (c : Fin 16) (t : Nat) (s : State) : Host.Outcome State Fault Refusal :=
  done (s.spInstr c (.b 8 0 0) (State.getTask c t))

/-- TDONE. -/
def execSpTdone (c r : Fin 16) (t : Nat) (s : State) : Host.Outcome State Fault Refusal :=
  done (s.spInstr c (.b 9 r 0) (State.tDone c r t))

/-- TPOST. -/
def execSpTpost (c r : Fin 16) (t : Nat) (s : State) : Host.Outcome State Fault Refusal :=
  done (s.spInstr c (.b 0x0A r 0) (State.tPost c r t))

/-- RFE. -/
def execSpRfe (c : Fin 16) (s : State) : Host.Outcome State Fault Refusal :=
  spDo c (.b 0x0B 0 0) (fun x => x.transfer (.ok {
    now := [.sr 0x77F (x.cv 37), .eie (bitOf (x.cv 37) 10)], next := .go (x.cv 36) })) s

/-- SYNC. -/
def execSpSync (c : Fin 16) (s : State) : Host.Outcome State Fault Refusal :=
  done (s.spInstr c (.b 0x0C 0 0) (fun s => .ok ({}, s.storesEffect c)))

/-- BSET. -/
def execSpBset (c : Fin 16) (m : BitVec 11) (s : State) : Host.Outcome State Fault Refusal :=
  spDo c (.b 0x0D m.toNat 0) (fun _ => .ok {
    now := [.sr (Nat.land m.toNat 0x47F) 0x47F], late := if bitOf m.toNat 10 then [(1, .eie true)] else [] }) s

/-- BCLR. -/
def execSpBclr (c : Fin 16) (m : BitVec 11) (s : State) : Host.Outcome State Fault Refusal :=
  spDo c (.b 0x0E m.toNat 0) (fun _ => .ok {
    now := [.sr (Nat.land m.toNat 0x47F) 0], late := if bitOf m.toNat 10 then [(1, .eie false)] else [] }) s

/-- MPY. -/
def execSpMpy (c : Fin 16) (k : Fin 2) (s1 s2 : Fin 16) (xm ym : BitVec 8) (s : State) : Host.Outcome State Fault Refusal :=
  done (s.spInstr c (.p 0 k s1 s2 xm.toNat ym.toNat) (fun s =>
    let x := s.dev.core c
    s.spPar c xm.toNat ym.toNat (accW k (x.ds s1 * x.ds s2))))

/-- MAC. -/
def execSpMac (c : Fin 16) (k : Fin 2) (s1 s2 : Fin 16) (xm ym : BitVec 8) (s : State) : Host.Outcome State Fault Refusal :=
  done (s.spInstr c (.p 1 k s1 s2 xm.toNat ym.toNat) (fun s =>
    let x := s.dev.core c
    s.spPar c xm.toNat ym.toNat (accW k (x.acc k + x.ds s1 * x.ds s2))))

/-- MSU. -/
def execSpMsu (c : Fin 16) (k : Fin 2) (s1 s2 : Fin 16) (xm ym : BitVec 8) (s : State) : Host.Outcome State Fault Refusal :=
  done (s.spInstr c (.p 2 k s1 s2 xm.toNat ym.toNat) (fun s =>
    let x := s.dev.core c
    s.spPar c xm.toNat ym.toNat (accW k (x.acc k - x.ds s1 * x.ds s2))))

/-- MOVP. -/
def execSpMovp (c : Fin 16) (xm ym : BitVec 8) (s : State) : Host.Outcome State Fault Refusal :=
  done (s.spInstr c (.p 3 0 0 0 xm.toNat ym.toNat) (fun s => s.spPar c xm.toNat ym.toNat ([], [])))

/-- TAP (R348). -/
def execSpTap (c : Fin 16) (k : Fin 2) (xm ym : BitVec 8) (s : State) : Host.Outcome State Fault Refusal :=
  done (s.spInstr c (.p 4 k 0 0 xm.toNat ym.toNat) (fun s =>
    let x := s.dev.core c
    let j := mvAr xm.toNat
    let code := mvMod xm.toNat
    if code ≠ 1 ∧ code ≠ 2 then .error 1
    else match s.spPair c xm.toNat ym.toNat with
      | .error e => .error e
      | .ok (t, q) =>
        let w := accW k (x.acc k + sInt 32 t * sInt 32 q)
        .ok ({ now := w.1 ++ x.mvPost false xm.toNat ++ x.mvPost true ym.toNat,
               late := w.2 ++ [xyW false (x.arMod false j (-(x.mvStep j code))) t] }, s)))

/-- MACM (R347). -/
def execSpMacm (c : Fin 16) (k : Fin 2) (xm ym : BitVec 8) (s : State) : Host.Outcome State Fault Refusal :=
  done (s.spInstr c (.p 5 k 0 0 xm.toNat ym.toNat) (fun s =>
    let x := s.dev.core c
    match s.spPair c xm.toNat ym.toNat with
    | .error e => .error e
    | .ok (t, q) =>
      let w := accW k (x.acc k + sInt 32 t * sInt 32 q)
      .ok ({ now := w.1 ++ x.mvPost false xm.toNat ++ x.mvPost true ym.toNat, late := w.2 }, s)))

/-- CLRM. -/
def execSpClrm (c : Fin 16) (k : Fin 2) (xm ym : BitVec 8) (s : State) : Host.Outcome State Fault Refusal :=
  done (s.spInstr c (.p 6 k 0 0 xm.toNat ym.toNat) (fun s => s.spPar c xm.toNat ym.toNat (accW k 0)))

/-- ILLEGAL_OPCODE (R343). -/
def execIllegalOpcode (c : Fin 16) (s : State) : Host.Outcome State Fault Refusal :=
  if s.dev.spRuns c then
    match s.spFetch c with
    | some w => if (spDecode w).isNone then done (s.spExcept c 1) else done s
    | none => done (s.spExcept c 3)
  else done s

/-- GLOBAL_STORE_EFFECT (R340). -/
def execGlobalStoreEffect (c : Fin 16) (s : State) : Host.Outcome State Fault Refusal := done (s.storeEffect c)

/-! What a core does outside its instructions. -/

/-- EVENT_TAKE (R352). -/
def execEventTake (c : Fin 16) (s : State) : Host.Outcome State Fault Refusal :=
  if (s.dev.coreState c = 1 ∨ s.dev.coreState c = 2) ∧ s.dev.frozen = false then
    done ((s.upd (fun d => (d.takeEvent c).boundary c)).spMoved c)
  else done s

/-- TASK_HANDOVER (R355). -/
def execTaskHandover (c : Fin 16) (t : Nat) (s : State) : Host.Outcome State Fault Refusal :=
  done ((s.handover c t).spMoved c)

/-- SP_HALT (R354). -/
def execSpHalt (c : Fin 16) (s : State) : Host.Outcome State Fault Refusal := done ((s.upd (Dev.spHalt c)).spMoved c)

/-- SP_RESUME (R354, Table 14.12). -/
def execSpResume (c : Fin 16) (s : State) : Host.Outcome State Fault Refusal := done ((s.upd (Dev.spResume c)).spMoved c)

/-- SP_STEP (Table 14.12). -/
def execSpStep (c : Fin 16) (s : State) : Host.Outcome State Fault Refusal := done ((s.upd (Dev.spStep1 c)).spMoved c)

end Sys2Proof.Machine
end

