-- ==== Sys2Proof/Machine/Cycle.lean ====
section
/-! DEFINITION. The steps that TIME, the line and the monitors drive, each with everything that comes about inside it (chapter 95): the
instants of the base cycle (01 Table 1.6, 04 Table 4.7), slots and frames, and the device-wide faults. -/
namespace Sys2Proof.Machine
open Sys2Proof.Config

/-! CYC_START. -/

/-- Patches land: this unit's own, and one that the active unit of a pair has sent (02 R63, R64). -/
def Dev.patchLand (d : Dev) : Dev := d.patchEffect.peerEffect

/-- A patch of the TRAJ section also changes the words of its region (02 R42). -/
def State.patchLand (s : State) : State :=
  let s' := s.upd Dev.patchLand
  if s'.dev.boot.recs = s.dev.boot.recs then s' else s'.trajPut s'.dev.boot.recs

/-- PWR reads the temperatures (21 R482), in 1/16 °C; while PD_ADC is off there is none to read. -/
def Dev.hotRead (d : Dev) : Dev :=
  if d.adcIsOff then d
  else
    let ts := (List.range 4).map (fun n => d.gets (F.ADC_TEMP_TEMP n))
    let d := { d with adc := { d.adc with hotRun := if ts.any (fun t => decide (1792 < t)) then d.adc.hotRun + 1 else 0 } }
    if ts.all (fun t => decide (t < 1680)) then d.causeOff .overtemp 0 else d

/-- RESTORE at the home that enters SCHEDULED or ZENITH, and its cycles (13 R332). -/
def Dev.restoreCycle (was : Nat) (d : Dev) : Dev := if 4 ≤ d.sstate ∧ d.sstate ≠ was then d.arbRestore else d.arbCycle

/-- TRAJ's setpoints, FB's latch and LOOP's follow-up; TRAJ and LOOP are gated in PARK (01 Table 1.4). -/
def Dev.latchCycle (d : Dev) : Dev := if d.inPark then d.fbLatch else (d.trajCycle.stepCycle.fbLatch).loopCycle

/-- What follows at CYC_START once TIME, CYCNO, CYC_PH and PLAN_PH have advanced; was is SSTATE before it, encLow the mask of
ENC_DAT lines that are low. -/
def State.cycFollow (was encLow : Nat) (s : State) : State :=
  let s := s.patchLand.upd (fun d =>
    let d := (((d.holdEnergy).hotRead).schedCycle).solvSwitch
    (((d.restoreCycle was).latchCycle).encRequests 1 encLow).adcTrigger 0)
  let s := if s.dev.time.planPh = 0 then s.solvPlan else s
  let s := s.upd (fun d => (d.ssmSnap.smsgCompare).smsgBuild)
  s.cycleTasks.upd Dev.redCycle

/-- CYC_START. -/
def State.cycStart (encLow : Nat) (s : State) : State :=
  if !s.dev.time.running then s else (s.upd Dev.cycTick).cycFollow s.dev.sstate encLow

/-- HALF (R110): the first tick whose integer part reaches Tb/2, half a nanosecond included. -/
def Dev.half (d : Dev) : Dev :=
  if !d.time.running then d
  else
    let d := d.runInCycle ((d.time.tb + 1) / 2)
    ({ d with loop := { d.loop with atHalf := true, centre := d.sysClk } }).adcTrigger 1

/-- IN_CUT (R110, 18 R433): quarantine, encoder ports, LOOP. -/
def Dev.inCut (d : Dev) : Dev :=
  if !d.time.running then d
  else
    let d := ((d.runInCycle d.time.inCut).redQuarantine).encInCut
    if d.inPark then d else d.loopInCut

/-- ARB_TICK and TRAJ_START (R110). -/
def State.tick4 (s : State) : State :=
  if !s.dev.time.running then s
  else
    let s := (s.upd (fun d => d.runInCycle (d.time.inCut + 4000))).arbTick
    if s.dev.inPark then s else { s with dev := ((s.dev.trajGroups).solvTake s.mem).trajAxes s.mem }

/-- TRAJ_END (01 R26; 02 R62; 19 R439). -/
def Dev.trajDone (d : Dev) : Dev :=
  if !d.time.running then d
  else
    let d := d.runInCycle (d.time.inCut + 10000)
    let d := if d.inPark then d else d.trajEnd
    d.patchDecide.powDecide

/-- SNAP (18 R424). -/
def State.snap (s : State) : State :=
  if !s.dev.time.running then s else { s with dev := (s.dev.runInCycle (s.dev.time.tb - 1250)).redSnap s.mem }

/-! Event channels. -/

/-- TEVn fires, with its consumers (04 R112). -/
def State.tevFire (n encLow : Nat) (s : State) : State :=
  match s.dev.evDue n with
  | none => s
  | some t => (s.upd (fun d => ((d.evFire n t).encRequests (8 + n) encLow).adcTrigger (8 + n))).tevTasks n

/-- A capture edge, with the injected request it may make (04 R115, 08 R200). -/
def Dev.trigCapture (p : TrigAt) (rising : Bool) (t : Nat) (d : Dev) : Dev :=
  let n := p.n.val
  let (d, cap) := d.trigEdge p rising t
  if cap && d.flag (F.ADC_TRIG_EN n) then d.injRequest (d.get (F.ADC_TRIG_INPUT n)) else d

/-! Frames. -/

/-- A FEEDBACK frame delivered here (10 R259, 18 R423). -/
def Dev.feedbackIn (f : Frame) (d : Dev) : Dev :=
  match d.link.cfg.rx.findIdx? (fun x => x.typ == 3 && x.stream == f.stream) with
  | some j => (d.feedbackMasks j f.body).redFeedback j f.body
  | none => d

/-- A COMMIT delivered here; an accepted one brings the routes that safe streams are checked against (05 R136, 17 R416). -/
def Dev.commitFrame (p : Nat) (f : Frame) (d : Dev) : Dev :=
  let (d, ok) := d.commitIn p f
  if ok then d.smsgNodisj else d

/-- A frame delivered here with a good CRC, by its TYPE (05 Table 5.6). -/
def State.deliver (p : Nat) (f : Frame) (stamp : Nat) (s : State) : State :=
  let d := s.dev
  match f.typ with
  | 1 => s.upd (fun d => if f.stream = 0xFFFF then d.syncIn p f stamp else if f.stream = 0xFFFE then d.echoIn f else d)
  | 2 => s.upd (Dev.dawnIn f)
  | 3 => s.upd (Dev.feedbackIn f)
  | 5 => match d.link.cfg.rx.find? (fun x => x.typ == 5 && x.stream == f.stream) with
    | some x => s.arbFrame x.arg f.body
    | none => s
  | 6 => s.upd (Dev.smsgTake f.src f.stream f.body)
  | 7 => match d.link.cfg.rx.findIdx? (fun x => x.typ == 7 && x.stream == f.stream) with
    | some j => (s.setMem (s.mem.putWords (solvArea j) (f.body.take 63))).solvStatus j
    | none => s
  | 8 => if bitsOf (f.w 0) 31 24 = 1 then s.tunRequest f
    else if bitsOf (f.w 0) 31 24 = 2 then s.upd (Dev.tunResponse f) else s
  | 9 => if bitsOf (f.w 0) 15 8 = 5 then s.upd (Dev.commitFrame p f) else s.upd (Dev.discIn p f)
  | 10 => s.upd (Dev.delayFrame p f stamp)
  | 11 => match bitsOf (f.w 0) 31 24 with
    | 4 => s.compAck f.src f
    | 5 => if d.compMine f.src f then s.compRetry else s
    | 6 => s.compReady f.src
    | _ => s
  | _ => s

/-- A frame on a port: checked, routed, forwarded, delivered (05 R127, R128). -/
def State.frameReceive (p : Nat) (f : Frame) (stamp : Nat) (s : State) : State :=
  let (d, here) := s.dev.frameIn p f stamp
  let s := { s with dev := d }
  if here then s.deliver p f stamp else s

/-- The first waiting payload of a TYPE for a node, and the queue without it. -/
def takeTx (typ dst : Nat) : List TxItem → Option TxItem × List TxItem
  | [] => (none, [])
  | x :: xs => if x.typ = typ ∧ x.dst = dst then (some x, xs) else let (o, l) := takeTx typ dst xs; (o, x :: l)

/-- The payload of a data entry where it is ready at the entry's START (06 R151; 10 R260; 12 R308; 13 R324; 17 R412). SETPOINT data is
ready from OUT_SLOTS on (01 Table 1.6). -/
def Dev.slotBody (e : Slot) (t : TxStream) (d : Dev) : Option (List Word) × Dev :=
  match t.typ with
  | 4 =>
    let claim : Word := if d.red.cfg.en then d.rd R.RED_CLAIM else 0
    (if d.redMaySend t.arg && !d.inPark && decide (d.time.inCut + 4500 ≤ 25 * e.start) then some (d.setpointBody t.arg claim) else none, d)
  | 5 => if e.len < 61 then (none, d) else let (b, d) := d.arbBody t.arg; (some b, d)
  | 6 => (d.smsgBody e.stream, d)
  | 7 => (if d.solv.on && d.ctxEn t.arg then some (d.solvBody t.arg) else none, d)
  | typ =>
    let (o, l) := takeTx typ e.dst d.link.txq
    (o.map (·.body), { d with link := { d.link with txq := l } })

/-- An active tx entry's START (06 R151 to R153). -/
def Dev.slotTx (i : Nat) (d : Dev) : Dev :=
  match d.txSlot i with
  | none => d
  | some e =>
    let d := d.runInCycle (25 * e.start)
    let d := { d with link := { d.link with sent := i :: d.link.sent } }
    if e.kind ≠ 0 then d.slotSync e
    else match d.link.cfg.tx.find? (fun t => t.stream == e.stream) with
      | none => d
      | some t =>
        let (b, d) := d.slotBody e t
        match b with
        | some b => (if t.typ = 6 then d.smsgSent e.stream else d).slotSend e t.typ b .plain
        | none => d

/-- A window closes; word 63 of a SOLV stream's area follows (06 R162, 12 R309). -/
def State.windowEnd (i : Nat) (s : State) : State :=
  let s' := s.upd (Dev.windowClose i)
  match s.dev.slots.find? (fun e => e.2 == i) with
  | some (e, _) => match s.dev.link.cfg.rx.findIdx? (fun x => x.typ == 7 && x.stream == e.stream) with
    | some j => s'.solvStatus j
    | none => s'
  | none => s'

/-- AGE exceeds AGE_LIMIT (06 R163, Table 6.9; 13 R329, R330; 20 R463). -/
def State.ageFault (j : Nat) (s : State) : State :=
  match s.dev.link.cfg.rx[j]? with
  | none => s
  | some x =>
    if !s.dev.ageOver j || s.dev.flag (F.LINK_STRM_FAULT j) || x.typ == 6 then s
    else
      let axs := maskOf ((s.dev.traj.axes.filter (fun a => match a.src with | .linked i _ => i == j | _ => false)).map (·.axis))
      let s := s.upd (fun d => ((d.up (F.LINK_STRM_FAULT j) true).raise F.LINK_SCHED_EVT_AGE_FAULT_EVT).fault .streamAge j
        (if x.typ = 3 then 3 else 0) (if x.typ = 3 then axs else 0) true (some F.LINK_SCHED_EVT_AGE_FAULT_EVT))
      match x.typ with
      | 5 => s.arbDown x.arg
      | 7 => s.solvStatus j
      | 8 => s.updStreamFault x.arg
      | _ => s

/-! Lanes (05 R122, 18 R422): LNK0 to LNK7 are 0 to 7, REDL0 and REDL1 are 8 and 9. -/

/-- Is a lane in TRAIN, or aligned? A REDL lane that is not aligned trains. -/
def Dev.laneIn (d : Dev) (aligned : Bool) (l : Nat) : Bool :=
  if l < 8 then (if aligned then decide (2 ≤ d.portState l) else d.portState l == 1) else bitOf d.red.lanes (l - 8) == aligned

/-- A lane in TRAIN receives code-groups, each with its bit position; in recovery LINK is in reset (20 R459). -/
def Dev.laneAlign (l : Nat) (gs : List (Fin 10 × BitVec 10)) (d : Dev) : Dev :=
  if d.host.recovery then d else Dev.each gs (fun x d =>
    if !d.laneIn false l then d
    else
      let (d, ok) := d.laneTrain l x
      if !ok then d else if l < 8 then d.portAlign l else d.redLane (l - 8) true) d

/-- An aligned lane receives code-groups; ERRRUN at 4 takes it back to TRAIN. -/
def Dev.laneLoss (l : Nat) (gs : List (BitVec 10)) (d : Dev) : Dev :=
  Dev.each gs (fun g d =>
    if !d.laneIn true l then d
    else
      let (d, lost) := d.laneTrack l g.toNat
      if !lost then d else if l < 8 then d.portLoss l else (d.redLane (l - 8) false).modLane l (fun _ => default)) d

/-! Count channels. -/

/-- Samples of a count channel's lines while its MODE is the given one; where they complete a latch, LOOP follows it (07 R174). -/
def Dev.chanLines (mode n : Nat) (xs : List (Bool × Bool)) (clk : Nat) (d : Dev) : Dev :=
  if d.chanMode n ≠ mode then d
  else
    let d' := d.chanSamples n xs clk
    if d'.rd (R.FB_QLAT n) = d.rd (R.FB_QLAT n) then d'
    else Dev.each (d'.axisList.filter (fun a => d'.srcOf a = .chan n)) Dev.latched d'

/-! Device-wide faults. -/

/-- LOOP_OVERRUN (01 R35, 18 R428). -/
def Dev.overrun (cur : Bool) (d : Dev) : Dev := (d.loopOverrun cur).relinquish true

/-- PLL_LOSS (01 R18, 18 R428): the root PLL has lost lock, or the SYS frequency is out of its range. -/
def Dev.pllLoss (lock : Bool) (d : Dev) : Dev :=
  if !d.time.running then d
  else
    let d := if lock then d.up F.CLK_STS_ROOT_LOCK false else d
    (d.fault .pllLoss 0 3 allAxes true none).relinquish true

/-- The scrubber finds an error at an SRAM word (01 R34, 15 Table 15.3). -/
def State.scrubError (a : Nat) (correctable : Bool) (s : State) : State :=
  let a := a / 4 * 4
  let r := bar2Region a
  if r = 0x7F ∨ s.dev.regionOff r = true then s
  else if correctable then s.upd (fun d => ({ d with eccCe := d.eccCe + 1 }).record .sramCe 0 0 0 false none)
  else if r = 2 then (s.trailCorrupt a).upd (Dev.record .contrailCorrupt 0 0 0 false none)
  else s.upd (fun d =>
    (({ d with eccBad := if d.eccBad.contains a then d.eccBad else a :: d.eccBad }).fault .sramUe 0 2 allAxes true none).relinquishLive)

/-- The FAULT_N net as others drive it (01 R38). -/
def Dev.faultNet (low : Bool) (d : Dev) : Dev := { d with host := { d.host with faultnExt := low } }

/-- OVERTEMP (21 R482). -/
def Dev.overtemp (d : Dev) : Dev :=
  if d.adc.hotRun < 32 ∨ d.causeOn .overtemp 0 = true then d else d.fault .overtemp 0 2 allAxes true none

/-! Commands. -/

/-- CYC_START (R96). -/
def execCycStart (encLow : BitVec 16) (s : State) : Host.Outcome State Fault Refusal := done (s.cycStart encLow.toNat)

/-- HALF (R110). -/
def execHalfTick (s : State) : Host.Outcome State Fault Refusal := onDev Dev.half s

/-- IN_CUT (R110). -/
def execInCut (s : State) : Host.Outcome State Fault Refusal := onDev Dev.inCut s

/-- LOOP_OVERRUN (R35). -/
def execLoopOverrun (current : Bool) (s : State) : Host.Outcome State Fault Refusal := onDev (Dev.overrun current) s

/-- ARB_TICK (R110). -/
def execArbTick (s : State) : Host.Outcome State Fault Refusal := done s.tick4

/-- TRAJ_END (R26). -/
def execTrajEnd (s : State) : Host.Outcome State Fault Refusal := onDev Dev.trajDone s

/-- SNAP (R424). -/
def execSnap (s : State) : Host.Outcome State Fault Refusal := done s.snap

/-- US_TICK (R110). -/
def execUsTick (s : State) : Host.Outcome State Fault Refusal := done s.usTick

/-- TEV_FIRE (R112). -/
def execTevFire (n : Fin 8) (encLow : BitVec 16) (s : State) : Host.Outcome State Fault Refusal := done (s.tevFire n encLow.toNat)

/-- TRIG_CAPTURE (R115). -/
def execTrigCapture (p : TrigAt) (rising : Bool) (t : Nat) (s : State) : Host.Outcome State Fault Refusal :=
  onDev (Dev.trigCapture p rising t) s

/-- PORT_ALIGN (R122). -/
def execPortAlign (l : Fin 10) (gs : List (Fin 10 × BitVec 10)) (s : State) : Host.Outcome State Fault Refusal := onDev (Dev.laneAlign l gs) s

/-- ALIGN_LOSS (R122). -/
def execAlignLoss (l : Fin 10) (gs : List (BitVec 10)) (s : State) : Host.Outcome State Fault Refusal := onDev (Dev.laneLoss l gs) s

/-- FRAME_RECEIVE (R127). -/
def execFrameReceive (p : Fin 8) (f : Frame) (stamp : Nat) (s : State) : Host.Outcome State Fault Refusal := done (s.frameReceive p f stamp)

/-- COMMIT_RECEIVE (R136). -/
def execCommitReceive (p : Fin 8) (f : Frame) (stamp : Nat) (s : State) : Host.Outcome State Fault Refusal :=
  onDev (fun d =>
    let (d, here) := d.frameIn p f stamp
    if here && f.typ == 9 && bitsOf (f.w 0) 15 8 == 5 then d.commitFrame p f else d) s

/-- FEEDBACK_RECEIVE (R259). -/
def execFeedbackReceive (p : Fin 8) (f : Frame) (stamp : Nat) (s : State) : Host.Outcome State Fault Refusal :=
  onDev (fun d =>
    let (d, here) := d.frameIn p f stamp
    if here && f.typ == 3 then d.feedbackIn f else d) s

/-- SLOT_TX (R151). -/
def execSlotTx (i : Fin 512) (s : State) : Host.Outcome State Fault Refusal := onDev (Dev.slotTx i) s

/-- WINDOW_CLOSE (R162). -/
def execWindowClose (i : Fin 512) (s : State) : Host.Outcome State Fault Refusal := done (s.windowEnd i)

/-- AGE_FAULT (R163). -/
def execAgeFault (j : Fin 256) (s : State) : Host.Outcome State Fault Refusal := done (s.ageFault j)

/-- QUAD_TRANSITION (R171, R172). -/
def execQuadTransition (n : Fin 32) (a b : List Bool) (clk : Nat) (s : State) : Host.Outcome State Fault Refusal :=
  onDev (Dev.chanLines 1 n (a.zip b) clk) s

/-- STEP_INPUT_EDGE (R180). -/
def execStepInputEdge (n : Fin 32) (xs : List (Bool × Bool)) (clk : Nat) (s : State) : Host.Outcome State Fault Refusal :=
  onDev (Dev.chanLines 2 n xs clk) s

/-- PLL_LOSS (R18). -/
def execPllLoss (lock : Bool) (s : State) : Host.Outcome State Fault Refusal := onDev (Dev.pllLoss lock) s

/-- SRAM_SCRUB_ERROR (R34). -/
def execSramScrubError (a : BitVec 25) (correctable : Bool) (s : State) : Host.Outcome State Fault Refusal :=
  done (s.scrubError a.toNat correctable)

/-- EXT_FAULT (R38): the net is low; what follows is in the levels of every command. -/
def execExtFault (s : State) : Host.Outcome State Fault Refusal := onDev (Dev.faultNet true) s

/-- FAULT_N_NET_HIGH (R38). -/
def execFaultNNetHigh (s : State) : Host.Outcome State Fault Refusal := onDev (Dev.faultNet false) s

/-- OVERTEMP (R482). -/
def execOvertemp (s : State) : Host.Outcome State Fault Refusal := onDev Dev.overtemp s

end Sys2Proof.Machine
end

