-- ==== Sys2Proof/Machine/Pins.lean ====
section
/-! DEFINITION. The balls (chapter 21): which AIO pins are driven and to what level (R469 to R471), what the other output balls show, and
what boundary scan makes of them (R483, R484). -/
namespace Sys2Proof.Machine
open Sys2Proof.Config

/-- The function given to a pin. -/
def Dev.aioFn (d : Dev) (pin : Nat) : Option AioUse := (d.io.fns.find? (fun f => f.pin == pin)).map (·.use)

/-- Is a timer pin (and TRIGn) an output: its channel is in an output mode with its pin enabled (04 R112; Table 21.2)? -/
def Dev.timerOut (d : Dev) (n : Nat) : Bool :=
  d.flag (F.TIME_EV_CTL_PIN_EN n) && (d.get (F.TIME_EV_CTL_MODE n) == 1 || d.get (F.TIME_EV_CTL_MODE n) == 2)

/-- Does a pin's function drive it: an output function that has acted, in a bank whose supply lies in an operating range (R470, R471)? Every other pin is
high-impedance. -/
def Dev.aioDriven (d : Dev) (pin : Nat) : Bool :=
  match d.aioFn pin with
  | none => false
  | some u => aioOut u && bitOf d.io.acts pin && bitOf d.io.banks (pin / 32)
    && (match u with | .timer n => d.timerOut n | _ => true)

/-- The level of TRIGn and of a pin given TIMER n in the output modes of channel n (04 R112). -/
def Dev.timerLevel (d : Dev) (n : Nat) : Bool := (tget d.time.ev n).pulseEnd.isSome != d.flag (F.TIME_EV_CTL_POL n)

/-- The level that an output function gives its pin in a SYS clock (10 R255 to R258, 09 R239 to R241, 07 R190, 04 R112): STEP is high for
STEP_W from each pulse's edge on, a divider's outputs A and B follow the sequence of 07 R171. -/
def Dev.aioLevel (d : Dev) (u : AioUse) (clk : Nat) : Bool :=
  match u with
  | .pwm n b high => d.pwmLevel n b high clk
  | .step n => match (d.ax n).stepClk with
    | some c => decide (c ≤ clk ∧ clk < c + d.get (F.TRAJ_STEP_CFG_STEP_W n))
    | none => false
  | .dir n => (d.ax n).dirHigh
  | .res n b => bitOf (d.get (F.TRAJ_STEP_STS_MS_CODE n)) b
  | .divider k line =>
    let p := (tget d.fb.divs k).phase
    if line = 0 then p == 1 || p == 2 else p == 2 || p == 3
  | .timer n => d.timerLevel n
  | _ => false

/-! Boundary scan (R483, R484). -/

/-- The identification register of step B1 (R483). -/
abbrev tapIdcode : Word := 0x10960ABD

/-- A TAP instruction (Table 21.13); every code without a row acts as BYPASS. -/
inductive TapIns where
  | extest
  | samplePreload
  | idcode
  | highz
  | clamp
  | extestPulse
  | extestTrain
  | bypass
  deriving DecidableEq, Repr

/-- The instruction of a code. -/
def tapIns (code : BitVec 8) : TapIns :=
  match code.toNat with
  | 0 => .extest
  | 1 => .samplePreload
  | 2 => .idcode
  | 3 => .highz
  | 4 => .clamp
  | 5 => .extestPulse
  | 6 => .extestTrain
  | _ => .bypass

/-- The instructions that take control of the balls (R484). -/
def TapIns.drives (i : TapIns) : Bool :=
  match i with
  | .extest => true
  | .highz => true
  | .clamp => true
  | .extestPulse => true
  | .extestTrain => true
  | _ => false

/-- What the instruction register acts as: outside RESET_N low, an instruction that would take the balls acts as BYPASS (R484). -/
def Dev.tapActs (d : Dev) : TapIns := if (tapIns d.tap.ir).drives && d.pwr.resetN then .bypass else tapIns d.tap.ir

/-- Does boundary scan control the balls? -/
def Dev.tapTakes (d : Dev) : Bool := d.tapActs.drives

/-- A ball's cell in the boundary register; the order of the cells is the model's (log entry 91). -/
def Ball.cell (b : Ball) : Nat :=
  match b with
  | .aio n => n
  | .encClk n => 160 + n
  | .encDat n => 176 + n
  | .sin n chB => 192 + 2 * n + b2n chB
  | .srb n => 224 + n
  | .sout n => 232 + n
  | .tx l => 240 + l
  | .rx l neg => 254 + 2 * l + b2n neg
  | .qspi i => 282 + i
  | .mspi i => 288 + i
  | .pmb i => 292 + i
  | .pmicEn => 295
  | .pgood => 296
  | .ppsIn => 297
  | .ppsOut => 298
  | .trig n => 299 + n
  | .resetN => 307
  | .faultN => 308
  | .perstN => 309

/-- The balls that scan may drive: those that are outputs in function. SOUT0 to SOUT7 have observe-only cells, and inputs are not driven. -/
def Ball.driven (b : Ball) : Bool :=
  match b with
  | .sin _ _ => false
  | .srb _ => false
  | .sout _ => false
  | .rx _ _ => false
  | .pgood => false
  | .ppsIn => false
  | .resetN => false
  | .perstN => false
  | _ => true

/-- What scan puts on a ball that it controls: nothing under HIGHZ, else the cell's update latch; open-drain FAULT_N, PMB_SCL and PMB_SDA are
pulled low or let go (R476). -/
def Dev.tapBall (b : Ball) (d : Dev) : Option Bool :=
  if b.driven = false ∨ d.tapActs = .highz then none
  else
    let v := d.tap.latch.getLsbD b.cell
    match b with
    | .faultN => if v then none else some false
    | .pmb _ => if v then none else some false
    | _ => some v

/-- What a lane's transmitter sends under IEEE 1149.6: the latched level, a pulse of it, or a train. -/
inductive LaneTest where
  | level (b : Bool)
  | pulse (b : Bool)
  | train (b : Bool)
  deriving DecidableEq, Repr

/-- What scan makes lane l's transmitter send (R483). -/
def Dev.tapLane (l : Fin 14) (d : Dev) : Option LaneTest :=
  let v := d.tap.latch.getLsbD (Ball.tx l).cell
  match d.tapActs with
  | .extest => some (.level v)
  | .clamp => some (.level v)
  | .extestPulse => some (.pulse v)
  | .extestTrain => some (.train v)
  | _ => none

/-- What a pin shows in a SYS clock: none while it is high-impedance. -/
def Dev.aioPin (d : Dev) (pin : Fin 160) (clk : Nat) : Option Bool :=
  if d.tapTakes then d.tapBall (.aio pin)
  else if d.aioDriven pin then (d.aioFn pin).map (fun u => d.aioLevel u clk) else none

/-- The level of an output ball that the model holds, in function: none while the ball is not driven, or where no state says its level. -/
def Dev.ballFn (b : Ball) (clk : Nat) (d : Dev) : Option Bool :=
  match b with
  | .aio n => if d.aioDriven n then (d.aioFn n).map (fun u => d.aioLevel u clk) else none
  | .sout k => some (d.soutOn k)
  | .ppsOut => d.ppsPin
  | .trig n => if d.timerOut n then some (d.timerLevel n) else none
  | .pmicEn => some d.pwr.pmicEn
  | .faultN => if d.drives then some false else none
  | _ => none

/-- What an output ball shows: SOUT is never scan's. -/
def Dev.ball (b : Ball) (clk : Nat) (d : Dev) : Option Bool := if d.tapTakes && b.driven then d.tapBall b else d.ballFn b clk

end Sys2Proof.Machine
end

