-- ==== Sys2Proof/Machine/Tap.lean ====
section
/-! DEFINITION. The test access port (21 R483, R484): the instruction loaded, and what it captures and latches. -/
namespace Sys2Proof.Machine

/-- An instruction is loaded (Table 21.13), and the register it selects captures: the bypass register 0, the identification register
IDCODE. -/
def Dev.tapLoad (code : BitVec 8) (d : Dev) : Dev :=
  let d := { d with tap := { d.tap with ir := code } }
  match d.tapActs with
  | .idcode => { d with tap := { d.tap with idReg := tapIdcode } }
  | .bypass => { d with tap := { d.tap with bypass := false } }
  | .clamp => { d with tap := { d.tap with bypass := false } }
  | .highz => { d with tap := { d.tap with bypass := false } }
  | _ => d

/-- Every ball with a cell. -/
def balls : List Ball :=
  (List.finRange 160).map .aio ++ (List.finRange 16).flatMap (fun n => [.encClk n, .encDat n, .sin n false, .sin n true])
    ++ (List.finRange 8).flatMap (fun n => [.srb n, .sout n, .trig n])
    ++ (List.finRange 14).flatMap (fun l => [.tx l, .rx l false, .rx l true])
    ++ (List.finRange 6).map .qspi ++ (List.finRange 4).map .mspi ++ (List.finRange 3).map .pmb
    ++ [.pmicEn, .pgood, .ppsIn, .ppsOut, .resetN, .faultN, .perstN]

/-- The cells sample the balls: the level of an output the model holds, what is on any other ball is free. -/
def Dev.tapSample (seen : Nat) (d : Dev) : BitVec 310 :=
  balls.foldl (fun r b =>
    let v := match d.ball b d.sysClk with | some v => v | none => seen.testBit b.cell
    if v then r ||| BitVec.twoPow 310 b.cell else r) 0

/-- SAMPLE/PRELOAD: the boundary register captures the balls, and the latches take what the tester shifts in, which no operand gives: free. -/
def Dev.tapPreload (d : Dev) : Dev :=
  let (seen, d) := (d.tapLoad 1).draw (2 ^ 310)
  let (v, d) := d.draw (2 ^ 310)
  { d with tap := { d.tap with scan := d.tapSample seen, latch := BitVec.ofNat 310 v } }

/-- TAP_RESET (R483): TRST_N low; IDCODE is then in force. -/
def execTapReset (s : State) : Host.Outcome State Fault Refusal := onDev (Dev.tapLoad 2) s

/-- EXTEST (R484). -/
def execJtagExtest (s : State) : Host.Outcome State Fault Refusal := onDev (Dev.tapLoad 0) s

/-- SAMPLE/PRELOAD (R483). -/
def execJtagSamplePreload (s : State) : Host.Outcome State Fault Refusal := onDev Dev.tapPreload s

/-- IDCODE (R483). -/
def execJtagIdcode (s : State) : Host.Outcome State Fault Refusal := onDev (Dev.tapLoad 2) s

/-- HIGHZ (R484). -/
def execJtagHighz (s : State) : Host.Outcome State Fault Refusal := onDev (Dev.tapLoad 3) s

/-- CLAMP (R484). -/
def execJtagClamp (s : State) : Host.Outcome State Fault Refusal := onDev (Dev.tapLoad 4) s

/-- EXTEST_PULSE (R484). -/
def execJtagExtestPulse (s : State) : Host.Outcome State Fault Refusal := onDev (Dev.tapLoad 5) s

/-- EXTEST_TRAIN (R484). -/
def execJtagExtestTrain (s : State) : Host.Outcome State Fault Refusal := onDev (Dev.tapLoad 6) s

/-- BYPASS (R483). -/
def execJtagBypass (s : State) : Host.Outcome State Fault Refusal := onDev (Dev.tapLoad 0xFF) s

end Sys2Proof.Machine
end

