-- ==== Sys2Proof/Machine/Dispatch.lean ====
section
/-! DEFINITION. The meaning of each command: one arm per constructor of Instr. -/
namespace Sys2Proof.Machine

def exec (i : Instr) (s : State) : Host.Outcome State Fault Refusal :=
  match i with
  | .vbusRise => Sys2Proof.Machine.execVbusRise s
  | .resetNRise => Sys2Proof.Machine.execResetNRise s
  | .powerLoss reset store => Sys2Proof.Machine.execPowerLoss reset store s
  | .pgoodRise v => Sys2Proof.Machine.execPgoodRise v s
  | .railsTimeout => Sys2Proof.Machine.execRailsTimeout s
  | .pllLock => Sys2Proof.Machine.execPllLock s
  | .pllLockTimeout => Sys2Proof.Machine.execPllLockTimeout s
  | .bistDone ok => Sys2Proof.Machine.execBistDone ok s
  | .imageLoad mode fa fb ecc pm => Sys2Proof.Machine.execImageLoad mode fa fb ecc pm s
  | .islandSelftestDone ok => Sys2Proof.Machine.execIslandSelftestDone ok s
  | .enterRun ms => Sys2Proof.Machine.execEnterRun ms s
  | .cycStart encLow => Sys2Proof.Machine.execCycStart encLow s
  | .halfTick => Sys2Proof.Machine.execHalfTick s
  | .currentStage => Sys2Proof.Machine.execCurrentStage s
  | .vbusLow => Sys2Proof.Machine.execVbusLow s
  | .inCut => Sys2Proof.Machine.execInCut s
  | .loopOverrun current => Sys2Proof.Machine.execLoopOverrun current s
  | .arbTick => Sys2Proof.Machine.execArbTick s
  | .planExhausted g => Sys2Proof.Machine.execPlanExhausted g s
  | .trajEnd => Sys2Proof.Machine.execTrajEnd s
  | .trajLate g => Sys2Proof.Machine.execTrajLate g s
  | .snap => Sys2Proof.Machine.execSnap s
  | .usTick => Sys2Proof.Machine.execUsTick s
  | .pllLoss lock => Sys2Proof.Machine.execPllLoss lock s
  | .sramScrubError a correctable => Sys2Proof.Machine.execSramScrubError a correctable s
  | .extFault => Sys2Proof.Machine.execExtFault s
  | .overtemp => Sys2Proof.Machine.execOvertemp s
  | .regWrite p off be w => Sys2Proof.Machine.execRegWrite p off be w s
  | .bar2Write off be w => Sys2Proof.Machine.execBar2Write off be w s
  | .eventWriteBack p off v => Sys2Proof.Machine.execEventWriteBack p off v s
  | .counterLoad p => Sys2Proof.Machine.execCounterLoad p s
  | .guardValueWrite p off w => Sys2Proof.Machine.execGuardValueWrite p off w s
  | .guardTimeout p => Sys2Proof.Machine.execGuardTimeout p s
  | .csrParity off => Sys2Proof.Machine.execCsrParity off s
  | .clockRegate blk => Sys2Proof.Machine.execClockRegate blk s
  | .pcieReset kind => Sys2Proof.Machine.execPcieReset kind s
  | .msixUnmask v => Sys2Proof.Machine.execMsixUnmask v s
  | .mspiWriteFrame bytes => Sys2Proof.Machine.execMspiWriteFrame bytes s
  | .mspiReadFrame bytes => Sys2Proof.Machine.execMspiReadFrame bytes s
  | .dmaStart n => Sys2Proof.Machine.execDmaStart n s
  | .dmaAbort n => Sys2Proof.Machine.execDmaAbort n s
  | .dmaEnd n e data => Sys2Proof.Machine.execDmaEnd n e data s
  | .dmaHostTimeout n data => Sys2Proof.Machine.execDmaHostTimeout n data s
  | .tunnelStart => Sys2Proof.Machine.execTunnelStart s
  | .tunnelRequest p f stamp => Sys2Proof.Machine.execTunnelRequest p f stamp s
  | .tunnelResponse p f stamp => Sys2Proof.Machine.execTunnelResponse p f stamp s
  | .tunnelTimeout => Sys2Proof.Machine.execTunnelTimeout s
  | .nomTrimWrite p w => Sys2Proof.Machine.execNomTrimWrite p w s
  | .syncReceive p f stamp => Sys2Proof.Machine.execSyncReceive p f stamp s
  | .ppsInEdge rising t => Sys2Proof.Machine.execPpsInEdge rising t s
  | .todAlign => Sys2Proof.Machine.execTodAlign s
  | .ppsLoss t => Sys2Proof.Machine.execPpsLoss t s
  | .ppsOutPulse => Sys2Proof.Machine.execPpsOutPulse s
  | .evModeWrite n w => Sys2Proof.Machine.execEvModeWrite n w s
  | .evArm n => Sys2Proof.Machine.execEvArm n s
  | .evTgtWrite n hi w => Sys2Proof.Machine.execEvTgtWrite n hi w s
  | .tevFire n encLow => Sys2Proof.Machine.execTevFire n encLow s
  | .trigCapture p rising t => Sys2Proof.Machine.execTrigCapture p rising t s
  | .portModeWrite p w => Sys2Proof.Machine.execPortModeWrite p w s
  | .portSignalDetect p => Sys2Proof.Machine.execPortSignalDetect p s
  | .portSignalLoss p => Sys2Proof.Machine.execPortSignalLoss p s
  | .portAlign l gs => Sys2Proof.Machine.execPortAlign l gs s
  | .alignLoss l gs => Sys2Proof.Machine.execAlignLoss l gs s
  | .frameReceive p f stamp => Sys2Proof.Machine.execFrameReceive p f stamp s
  | .egressSend p => Sys2Proof.Machine.execEgressSend p s
  | .delayReqSend => Sys2Proof.Machine.execDelayReqSend s
  | .delayReqReceive p f stamp => Sys2Proof.Machine.execDelayReqReceive p f stamp s
  | .delayRspReceive p f stamp => Sys2Proof.Machine.execDelayRspReceive p f stamp s
  | .delayRspTimeout p => Sys2Proof.Machine.execDelayRspTimeout p s
  | .dlyValidLoss p => Sys2Proof.Machine.execDlyValidLoss p s
  | .helloReceive p f stamp => Sys2Proof.Machine.execHelloReceive p f stamp s
  | .discoveryStart => Sys2Proof.Machine.execDiscoveryStart s
  | .probeReceive p f stamp => Sys2Proof.Machine.execProbeReceive p f stamp s
  | .reportReceive p f stamp => Sys2Proof.Machine.execReportReceive p f stamp s
  | .tableReceive p f stamp => Sys2Proof.Machine.execTableReceive p f stamp s
  | .commitReceive p f stamp => Sys2Proof.Machine.execCommitReceive p f stamp s
  | .discAckReceive p f stamp => Sys2Proof.Machine.execDiscAckReceive p f stamp s
  | .discNackReceive p f stamp => Sys2Proof.Machine.execDiscNackReceive p f stamp s
  | .discRetryTimeout => Sys2Proof.Machine.execDiscRetryTimeout s
  | .discoveryRepeat => Sys2Proof.Machine.execDiscoveryRepeat s
  | .prbsChkEnable n => Sys2Proof.Machine.execPrbsChkEnable n s
  | .prbsInj n => Sys2Proof.Machine.execPrbsInj n s
  | .injCode p => Sys2Proof.Machine.execInjCode p s
  | .injCrc p => Sys2Proof.Machine.execInjCrc p s
  | .prbsLock r => Sys2Proof.Machine.execPrbsLock r s
  | .prbsLockLoss n bits errs => Sys2Proof.Machine.execPrbsLockLoss n bits errs s
  | .enterListen => Sys2Proof.Machine.execEnterListen s
  | .listenTimerExpire => Sys2Proof.Machine.execListenTimerExpire s
  | .dawnReceive p f stamp => Sys2Proof.Machine.execDawnReceive p f stamp s
  | .dawnWaitTimeout => Sys2Proof.Machine.execDawnWaitTimeout s
  | .dawnWindowEnd => Sys2Proof.Machine.execDawnWindowEnd s
  | .noSyncTimeout => Sys2Proof.Machine.execNoSyncTimeout s
  | .integrationTimeout => Sys2Proof.Machine.execIntegrationTimeout s
  | .holdMaxSilence => Sys2Proof.Machine.execHoldMaxSilence s
  | .zenithSuccession => Sys2Proof.Machine.execZenithSuccession s
  | .slotTx k => Sys2Proof.Machine.execSlotTx k s
  | .windowClose k => Sys2Proof.Machine.execWindowClose k s
  | .ageFault j => Sys2Proof.Machine.execAgeFault j s
  | .echoReceive p f stamp => Sys2Proof.Machine.execEchoReceive p f stamp s
  | .modePropose p w => Sys2Proof.Machine.execModePropose p w s
  | .quadTransition n a b clk => Sys2Proof.Machine.execQuadTransition n a b clk s
  | .quadFault n => Sys2Proof.Machine.execQuadFault n s
  | .zEdge z => Sys2Proof.Machine.execZEdge z s
  | .stepInputEdge n xs clk => Sys2Proof.Machine.execStepInputEdge n xs clk s
  | .standstillTimeout n clk => Sys2Proof.Machine.execStandstillTimeout n clk s
  | .encWordDone j raw => Sys2Proof.Machine.execEncWordDone j raw s
  | .encFault j => Sys2Proof.Machine.execEncFault j s
  | .encStandstill j t => Sys2Proof.Machine.execEncStandstill j t s
  | .divOutputStep k clk => Sys2Proof.Machine.execDivOutputStep k clk s
  | .divCtlWrite k w => Sys2Proof.Machine.execDivCtlWrite k w s
  | .divRatioWrite k w => Sys2Proof.Machine.execDivRatioWrite k w s
  | .rseqTrigger c q => Sys2Proof.Machine.execRseqTrigger c q s
  | .conversionDone c v => Sys2Proof.Machine.execConversionDone c v s
  | .cmpEvent n v => Sys2Proof.Machine.execCmpEvent n v s
  | .adcCal m => Sys2Proof.Machine.execAdcCal m s
  | .calStart c => Sys2Proof.Machine.execCalStart c s
  | .calStepEnd c => Sys2Proof.Machine.execCalStepEnd c s
  | .calDone c ok => Sys2Proof.Machine.execCalDone c ok s
  | .calWaitTimeout c => Sys2Proof.Machine.execCalWaitTimeout c s
  | .bgWindowEnd c idle total => Sys2Proof.Machine.execBgWindowEnd c idle total s
  | .bgTrimUpdate k skew => Sys2Proof.Machine.execBgTrimUpdate k skew s
  | .trajNop n imm ramp => Sys2Proof.Machine.execTrajNop n imm ramp s
  | .moveAbs n imm ramp => Sys2Proof.Machine.execMoveAbs n imm ramp s
  | .moveRel n imm ramp => Sys2Proof.Machine.execMoveRel n imm ramp s
  | .jogPos n imm ramp => Sys2Proof.Machine.execJogPos n imm ramp s
  | .jogNeg n imm ramp => Sys2Proof.Machine.execJogNeg n imm ramp s
  | .axisStop n imm ramp => Sys2Proof.Machine.execAxisStop n imm ramp s
  | .axisResume n imm ramp => Sys2Proof.Machine.execAxisResume n imm ramp s
  | .axisLimits n imm ramp => Sys2Proof.Machine.execAxisLimits n imm ramp s
  | .gearEngage n imm ramp => Sys2Proof.Machine.execGearEngage n imm ramp s
  | .gearChange n imm ramp => Sys2Proof.Machine.execGearChange n imm ramp s
  | .gearOff n imm ramp => Sys2Proof.Machine.execGearOff n imm ramp s
  | .setPos n imm ramp => Sys2Proof.Machine.execSetPos n imm ramp s
  | .pathOn g => Sys2Proof.Machine.execPathOn g s
  | .pathOff g => Sys2Proof.Machine.execPathOff g s
  | .groupStop g => Sys2Proof.Machine.execGroupStop g s
  | .groupResume g => Sys2Proof.Machine.execGroupResume g s
  | .stepEmit n t => Sys2Proof.Machine.execStepEmit n t s
  | .energise n => Sys2Proof.Machine.execEnergise n s
  | .deenergise n => Sys2Proof.Machine.execDeenergise n s
  | .bootEnd n => Sys2Proof.Machine.execBootEnd n s
  | .compTimeout n => Sys2Proof.Machine.execCompTimeout n s
  | .angOfsWrite p n w => Sys2Proof.Machine.execAngOfsWrite p n w s
  | .tripInput j x => Sys2Proof.Machine.execTripInput j x s
  | .tripClr m => Sys2Proof.Machine.execTripClr m s
  | .feedbackReceive p f stamp => Sys2Proof.Machine.execFeedbackReceive p f stamp s
  | .solvPublish c => Sys2Proof.Machine.execSolvPublish c s
  | .solvCold c => Sys2Proof.Machine.execSolvCold c s
  | .solveStart => Sys2Proof.Machine.execSolveStart s
  | .factorDone => Sys2Proof.Machine.execFactorDone s
  | .iterationDone => Sys2Proof.Machine.execIterationDone s
  | .checkDone => Sys2Proof.Machine.execCheckDone s
  | .outputDone => Sys2Proof.Machine.execOutputDone s
  | .solvDeadline c => Sys2Proof.Machine.execSolvDeadline c s
  | .solvFrameReceive p f stamp => Sys2Proof.Machine.execSolvFrameReceive p f stamp s
  | .arbReserve p g => Sys2Proof.Machine.execArbReserve p g s
  | .arbExtend p g => Sys2Proof.Machine.execArbExtend p g s
  | .arbRelease p g => Sys2Proof.Machine.execArbRelease p g s
  | .arbRevoke p w => Sys2Proof.Machine.execArbRevoke p w s
  | .arbFrameReceive p f stamp => Sys2Proof.Machine.execArbFrameReceive p f stamp s
  | .reservationExpire => Sys2Proof.Machine.execReservationExpire s
  | .arbRetryTimeout g q => Sys2Proof.Machine.execArbRetryTimeout g q s
  | .restoreEnd => Sys2Proof.Machine.execRestoreEnd s
  | .spNop c => Sys2Proof.Machine.execSpNop c s
  | .spAdd c rd rs rt => Sys2Proof.Machine.execSpAdd c rd rs rt s
  | .spSub c rd rs rt => Sys2Proof.Machine.execSpSub c rd rs rt s
  | .spAnd c rd rs rt => Sys2Proof.Machine.execSpAnd c rd rs rt s
  | .spOr c rd rs rt => Sys2Proof.Machine.execSpOr c rd rs rt s
  | .spXor c rd rs rt => Sys2Proof.Machine.execSpXor c rd rs rt s
  | .spAsh c rd rs rt => Sys2Proof.Machine.execSpAsh c rd rs rt s
  | .spLsh c rd rs rt => Sys2Proof.Machine.execSpLsh c rd rs rt s
  | .spMul c rd rs rt => Sys2Proof.Machine.execSpMul c rd rs rt s
  | .spMulh c rd rs rt => Sys2Proof.Machine.execSpMulh c rd rs rt s
  | .spMin c rd rs rt => Sys2Proof.Machine.execSpMin c rd rs rt s
  | .spMax c rd rs rt => Sys2Proof.Machine.execSpMax c rd rs rt s
  | .spAbs c rd rs => Sys2Proof.Machine.execSpAbs c rd rs s
  | .spNeg c rd rs => Sys2Proof.Machine.execSpNeg c rd rs s
  | .spCmp c rs rt => Sys2Proof.Machine.execSpCmp c rs rt s
  | .spMov c rd rs => Sys2Proof.Machine.execSpMov c rd rs s
  | .spMfc c rd idx => Sys2Proof.Machine.execSpMfc c rd idx s
  | .spMtc c idx rs => Sys2Proof.Machine.execSpMtc c idx rs s
  | .spExa c rd k sh => Sys2Proof.Machine.execSpExa c rd k sh s
  | .spLda c k rs sh => Sys2Proof.Machine.execSpLda c k rs sh s
  | .spClra c k => Sys2Proof.Machine.execSpClra c k s
  | .spNorm c rd rs => Sys2Proof.Machine.execSpNorm c rd rs s
  | .spAdda c k j => Sys2Proof.Machine.execSpAdda c k j s
  | .spAddi c rd rs imm => Sys2Proof.Machine.execSpAddi c rd rs imm s
  | .spAndi c rd rs imm => Sys2Proof.Machine.execSpAndi c rd rs imm s
  | .spOri c rd rs imm => Sys2Proof.Machine.execSpOri c rd rs imm s
  | .spXori c rd rs imm => Sys2Proof.Machine.execSpXori c rd rs imm s
  | .spMovi c rd imm => Sys2Proof.Machine.execSpMovi c rd imm s
  | .spMovhi c rd imm => Sys2Proof.Machine.execSpMovhi c rd imm s
  | .spAshi c rd rs k => Sys2Proof.Machine.execSpAshi c rd rs k s
  | .spLshi c rd rs k => Sys2Proof.Machine.execSpLshi c rd rs k s
  | .spLd c rd ar imm => Sys2Proof.Machine.execSpLd c rd ar imm s
  | .spSt c rd ar imm => Sys2Proof.Machine.execSpSt c rd ar imm s
  | .spLdg c rd rs imm => Sys2Proof.Machine.execSpLdg c rd rs imm s
  | .spStg c rd rs imm => Sys2Proof.Machine.execSpStg c rd rs imm s
  | .spCmpi c rs imm => Sys2Proof.Machine.execSpCmpi c rs imm s
  | .spModa c ar imm => Sys2Proof.Machine.execSpModa c ar imm s
  | .spJ c t => Sys2Proof.Machine.execSpJ c t s
  | .spJc c k t => Sys2Proof.Machine.execSpJc c k t s
  | .spCall c t => Sys2Proof.Machine.execSpCall c t s
  | .spRet c => Sys2Proof.Machine.execSpRet c s
  | .spJr c r => Sys2Proof.Machine.execSpJr c r s
  | .spLoopi c n t => Sys2Proof.Machine.execSpLoopi c n t s
  | .spLoop c r t => Sys2Proof.Machine.execSpLoop c r t s
  | .spEndl c => Sys2Proof.Machine.execSpEndl c s
  | .spGettask c t => Sys2Proof.Machine.execSpGettask c t s
  | .spTdone c r t => Sys2Proof.Machine.execSpTdone c r t s
  | .spTpost c r t => Sys2Proof.Machine.execSpTpost c r t s
  | .spRfe c => Sys2Proof.Machine.execSpRfe c s
  | .spSync c => Sys2Proof.Machine.execSpSync c s
  | .spBset c m => Sys2Proof.Machine.execSpBset c m s
  | .spBclr c m => Sys2Proof.Machine.execSpBclr c m s
  | .spMpy c k s1 s2 xm ym => Sys2Proof.Machine.execSpMpy c k s1 s2 xm ym s
  | .spMac c k s1 s2 xm ym => Sys2Proof.Machine.execSpMac c k s1 s2 xm ym s
  | .spMsu c k s1 s2 xm ym => Sys2Proof.Machine.execSpMsu c k s1 s2 xm ym s
  | .spMovp c xm ym => Sys2Proof.Machine.execSpMovp c xm ym s
  | .spTap c k xm ym => Sys2Proof.Machine.execSpTap c k xm ym s
  | .spMacm c k xm ym => Sys2Proof.Machine.execSpMacm c k xm ym s
  | .spClrm c k xm ym => Sys2Proof.Machine.execSpClrm c k xm ym s
  | .eventTake c => Sys2Proof.Machine.execEventTake c s
  | .taskHandover c t => Sys2Proof.Machine.execTaskHandover c t s
  | .spHalt c => Sys2Proof.Machine.execSpHalt c s
  | .spResume c => Sys2Proof.Machine.execSpResume c s
  | .spStep c => Sys2Proof.Machine.execSpStep c s
  | .doorRing c => Sys2Proof.Machine.execDoorRing c s
  | .schedPost p k t => Sys2Proof.Machine.execSchedPost p k t s
  | .schedDpost k t => Sys2Proof.Machine.execSchedDpost k t s
  | .delayDue k => Sys2Proof.Machine.execDelayDue k s
  | .periodDue k => Sys2Proof.Machine.execPeriodDue k s
  | .affinityExpire k => Sys2Proof.Machine.execAffinityExpire k s
  | .mailboxWrite p k w => Sys2Proof.Machine.execMailboxWrite p k w s
  | .contrailReset => Sys2Proof.Machine.execContrailReset s
  | .safeEvaluation => Sys2Proof.Machine.execSafeEvaluation s
  | .discFault n => Sys2Proof.Machine.execDiscFault n s
  | .stopTExpire src => Sys2Proof.Machine.execStopTExpire src s
  | .offPulse k => Sys2Proof.Machine.execOffPulse k s
  | .xlink => Sys2Proof.Machine.execXlink s
  | .cmdMismatch => Sys2Proof.Machine.execCmdMismatch s
  | .safeSupply => Sys2Proof.Machine.execSafeSupply s
  | .safeClock c => Sys2Proof.Machine.execSafeClock c s
  | .periodicTest ecc => Sys2Proof.Machine.execPeriodicTest ecc s
  | .safeBind p w => Sys2Proof.Machine.execSafeBind p w s
  | .safeBindDone ok => Sys2Proof.Machine.execSafeBindDone ok s
  | .ssmResult => Sys2Proof.Machine.execSsmResult s
  | .pstopEnd g => Sys2Proof.Machine.execPstopEnd g s
  | .safeMsgReceive p f stamp => Sys2Proof.Machine.execSafeMsgReceive p f stamp s
  | .smsgWd j => Sys2Proof.Machine.execSmsgWd j s
  | .redListenEnd => Sys2Proof.Machine.execRedListenEnd s
  | .stateFrameReceive ws t => Sys2Proof.Machine.execStateFrameReceive ws t s
  | .bulkFrameReceive ws t => Sys2Proof.Machine.execBulkFrameReceive ws t s
  | .redHelloReceive ws t => Sys2Proof.Machine.execRedHelloReceive ws t s
  | .redWatchdog => Sys2Proof.Machine.execRedWatchdog s
  | .relinquishReceive ws t => Sys2Proof.Machine.execRelinquishReceive ws t s
  | .takeover => Sys2Proof.Machine.execTakeover s
  | .redRelease p => Sys2Proof.Machine.execRedRelease p s
  | .redDrill p => Sys2Proof.Machine.execRedDrill p s
  | .drillFrameReceive ws t => Sys2Proof.Machine.execDrillFrameReceive ws t s
  | .pwrReq p w => Sys2Proof.Machine.execPwrReq p w s
  | .pwrFabReq p w => Sys2Proof.Machine.execPwrFabReq p w s
  | .quiesceEnd => Sys2Proof.Machine.execQuiesceEnd s
  | .quiesceTimeout => Sys2Proof.Machine.execQuiesceTimeout s
  | .entryDone => Sys2Proof.Machine.execEntryDone s
  | .exitDone => Sys2Proof.Machine.execExitDone s
  | .wakeInput w => Sys2Proof.Machine.execWakeInput w s
  | .pwrPerf p w ok => Sys2Proof.Machine.execPwrPerf p w ok s
  | .solvDividerChange ok => Sys2Proof.Machine.execSolvDividerChange ok s
  | .statusPoll r => Sys2Proof.Machine.execStatusPoll r s
  | .voutTimeout => Sys2Proof.Machine.execVoutTimeout s
  | .pgoodLoss => Sys2Proof.Machine.execPgoodLoss s
  | .pmbAlert r => Sys2Proof.Machine.execPmbAlert r s
  | .pmbusPoll r vout iout => Sys2Proof.Machine.execPmbusPoll r vout iout s
  | .companionLoadStart => Sys2Proof.Machine.execCompanionLoadStart s
  | .comploadAckReceive p f stamp => Sys2Proof.Machine.execComploadAckReceive p f stamp s
  | .comploadNackReceive p f stamp => Sys2Proof.Machine.execComploadNackReceive p f stamp s
  | .comploadReadyReceive p f stamp => Sys2Proof.Machine.execComploadReadyReceive p f stamp s
  | .comploadAckTimeout => Sys2Proof.Machine.execComploadAckTimeout s
  | .readyTimeout => Sys2Proof.Machine.execReadyTimeout s
  | .updWinWrite p node k w => Sys2Proof.Machine.execUpdWinWrite p node k w s
  | .updOpen p node => Sys2Proof.Machine.execUpdOpen p node s
  | .updProgram p node k => Sys2Proof.Machine.execUpdProgram p node k s
  | .updCommit p node => Sys2Proof.Machine.execUpdCommit p node s
  | .updAbort p node => Sys2Proof.Machine.execUpdAbort p node s
  | .updRetain p node k => Sys2Proof.Machine.execUpdRetain p node k s
  | .updWorkDone r => Sys2Proof.Machine.execUpdWorkDone r s
  | .updIdleExpire => Sys2Proof.Machine.execUpdIdleExpire s
  | .patchSelWrite w => Sys2Proof.Machine.execPatchSelWrite w s
  | .patchIdxWrite w => Sys2Proof.Machine.execPatchIdxWrite w s
  | .patchDataWrite w => Sys2Proof.Machine.execPatchDataWrite w s
  | .patchApply => Sys2Proof.Machine.execPatchApply s
  | .patchAbort => Sys2Proof.Machine.execPatchAbort s
  | .tapReset => Sys2Proof.Machine.execTapReset s
  | .jtagExtest => Sys2Proof.Machine.execJtagExtest s
  | .jtagSamplePreload => Sys2Proof.Machine.execJtagSamplePreload s
  | .jtagIdcode => Sys2Proof.Machine.execJtagIdcode s
  | .jtagHighz => Sys2Proof.Machine.execJtagHighz s
  | .jtagClamp => Sys2Proof.Machine.execJtagClamp s
  | .jtagExtestPulse => Sys2Proof.Machine.execJtagExtestPulse s
  | .jtagExtestTrain => Sys2Proof.Machine.execJtagExtestTrain s
  | .jtagBypass => Sys2Proof.Machine.execJtagBypass s
  | .pwmValley n => Sys2Proof.Machine.execPwmValley n s
  | .regRead p off be => Sys2Proof.Machine.execRegRead p off be s
  | .bar2Read off => Sys2Proof.Machine.execBar2Read off s
  | .pcieConfigWrite c => Sys2Proof.Machine.execPcieConfigWrite c s
  | .illegalOpcode c => Sys2Proof.Machine.execIllegalOpcode c s
  | .globalStoreEffect c => Sys2Proof.Machine.execGlobalStoreEffect c s
  | .faultNNetHigh => Sys2Proof.Machine.execFaultNNetHigh s
  | .safeClockRestored => Sys2Proof.Machine.execSafeClockRestored s
  | .inputSample a b rb => Sys2Proof.Machine.execInputSample a b rb s
  | .railsRetry => Sys2Proof.Machine.execRailsRetry s

end Sys2Proof.Machine
end

