-- ==== Sys2Proof/Safety.lean ====
section
/-! DEFINITION. The terms the statements are made in: a command answers a settled next state; what it leaves alone; the registers
that settling writes; and what is called a good state. -/
namespace Sys2Proof.Machine

/-- A command on s answers the next state x, settled: faults that have cleared leave, EXT_FAULT follows the net and the fault
levels show the result. -/
def answers (i : Instr) (s x : State) : Prop := exec i s = .next x.settle

/-- A command on s answers a settled next state that q describes. -/
def leads (i : Instr) (s : State) (q : State → Prop) : Prop := ∃ x, answers i s x ∧ q x

/-- SRAM, flash, OTP and the waiting commands are as before. -/
def State.sameMem (s x : State) : Prop := x.mem = s.mem ∧ x.flash = s.flash ∧ x.otp = s.otp ∧ x.pending = s.pending

/-- SRAM is as before but for the contrail; flash, OTP and the waiting commands are as before. -/
def State.sameTrail (s x : State) : Prop :=
  (∀ a, a < 0x1000000 ∨ 0x1200000 ≤ a → tblGet sramReset x.mem a = tblGet sramReset s.mem a) ∧
    x.flash = s.flash ∧ x.otp = s.otp ∧ x.pending = s.pending

/-- Every register outside a list reads as before. -/
def Dev.sameRegs (d e : Dev) (l : List Nat) : Prop := ∀ o, o ∉ l → e.rd o = d.rd o

/-- The registers that settling after a command may write: the fault report (01 R37 to R39) and, for axes that react to
EXT_FAULT, LOOP's control, status and events (01 R36). -/
def settles (off : Nat) : Prop :=
  off = R.SYS_FAULT_LVL ∨ off = R.SYS_FAULT_EVT ∨
    ∃ n < 128, off = R.LOOP_CTL n ∨ off = R.LOOP_STS n ∨ off = R.LOOP_EVT n

/-- SYS_FAULT_LVL shows the classes in force and what the device drives (01 Table 1.10). -/
def Dev.shows (d : Dev) : Prop :=
  (∀ c < 4, bitOf (d.rd R.SYS_FAULT_LVL).toNat c = d.clsAct c) ∧ d.flag F.SYS_FAULT_LVL_FAULTN_DRIVE = d.drives

/-- EXT_FAULT's cause is the net low while this device does not drive it (01 R38). -/
def Dev.netSeen (d : Dev) : Prop := d.host.extCause = (d.host.faultnExt && !d.drives)

/-- The invariant every command leaves: the fault levels are those of the faults in force, and EXT_FAULT's cause is the net's. -/
def State.Inv (s : State) : Prop := s.dev.shows ∧ s.dev.netSeen

/-- The memories are in their canonical form: addresses rising, no entry equal to what an unlisted address reads as. -/
def State.memWf (s : State) : Prop := s.mem.wf sramReset = true ∧ s.flash.wf flashReset = true

/-- The device at the START of tx entry i, which is marked as sent in this cycle (06 R151). -/
def Dev.atStart (d : Dev) (i : Nat) (e : Config.Slot) : Dev :=
  let y := d.runInCycle (25 * e.start)
  { y with link := { y.link with sent := i :: y.link.sent } }

/-- Core c is about to execute f: it is in RUN, its clock is not gated, and the word at its pc spells f (14 R343). -/
def State.runs (s : State) (c : Nat) (f : SpFmt) : Prop :=
  s.dev.spRuns c = true ∧ ∃ w, s.spFetch c = some w ∧ spDecode w = some f

/-- A port's doubleword access reaches a register of a powered block (03 R68, R75, R88). -/
def Dev.reaches (d : Dev) (p : Port) (off : Nat) : Prop :=
  d.mayAccess p = true ∧ off % 4 = 0 ∧ off < 0xF00000 ∧ off / 0x100000 ≠ 11 ∧ d.blockOff off = false

/-- A write of a port's doubleword acts on a register: not on one of LINK while recovery keeps LINK in reset (20 R459). -/
def Dev.takes (d : Dev) (p : Port) (off : Nat) : Prop := d.reaches p off ∧ (d.host.recovery = true → off / 0x100000 ≠ 3)

/-- A register whose write only stores its RW fields or clears its event bits (03 R78, R79). -/
def plainReg (p : Port) (off : Nat) (r : RegRow) : Prop :=
  regAt off = some r ∧ r.rg = 0 ∧ ¬ (off % 8 = 4 ∧ guardedAt (off - 4) = true) ∧ (actAt (plainActs p 0) off).isNone

/-- What such a register holds after a write of w. -/
def RegRow.stored (r : RegRow) (old w : Word) : Word := (old &&& ~~~ (BitVec.ofNat 32 r.rw)) ||| (w &&& BitVec.ofNat 32 r.rw)

/-- Of d and e: e has one more error in the log at base (0x10 BUSERR, 0x20 GUARD, 0x30 PARITY), with its cause and offset (03 R84,
R86, R89), and no other register differs. -/
def Dev.logged (d e : Dev) (base cause : Nat) (write : Bool) (off : Nat) : Prop :=
  e.get ⟨base, 15, 12⟩ = cause ∧ e.flag ⟨base, 8, 8⟩ = write ∧ e.flag ⟨base, 0, 0⟩ = true ∧ (e.rd (base + 4)).toNat = off % 2 ^ 26 ∧
    (e.rd (base + 8)).toNat = min ((d.rd (base + 8)).toNat + 1) (2 ^ 32 - 1) ∧ d.sameRegs e [base, base + 4, base + 8]

end Sys2Proof.Machine
end

