-- ==== Sys2Proof/Certificates/Slice0/Obligations.lean ====
section
/-! DEFINITION. The statements for the provers. Each says what commands do by the rules its docstring cites; answers and leads
(Safety.lean) say that exec answers a next state. -/
open Sys2Proof Sys2Proof.Machine Sys2Proof.Config

/-- O1. A step runs the command at the front of the queue; on an empty queue the block idles (the model's choice, log entry 3) (00_scope.md) -/
def Obligations.StepTakesTheFront : Prop :=
  (∀ (c : Instr) (s : State), step { s with pending := c :: s.pending } = exec c s) ∧
  ∀ s : State, s.pending = [] → step s = .next s

/-- O2. At reset every register has its table's value, no command waits and no fault is in force; what blank flash and OTP and the hidden registers hold is the model's choice (log entries 1 and 2) (03_registers.md, R21, R483, R487) -/
def Obligations.ResetValues : Prop :=
  (∀ o, State.reset.dev.rd o = regReset o) ∧ State.reset.mem = [] ∧ State.reset.flash = [] ∧ State.reset.otp = [] ∧
  State.reset.pending = [] ∧ State.reset.dev.faults = [] ∧ State.reset.dev.tap.ir = 2 ∧
  State.reset.Inv ∧ State.reset.memWf ∧ State.reset.dev.time.tb = 31250

/-- O3. Every step leaves the fault levels true of the faults in force, and EXT_FAULT true of the net (R36, R37, R38, R39) -/
def Obligations.StepsKeepTheFaultReport : Prop :=
  ∀ s t : State, s.Inv → step s = .next t → t.Inv

/-- O4. Every step keeps SRAM and flash in their canonical form (01_architecture.md, 20_startup_update.md) -/
def Obligations.MemoriesStayCanonical : Prop :=
  ∀ s t : State, s.memWf → step s = .next t → t.memWf

/-- O5. No command touches the queue, and only the binding of the safety key changes OTP (R396) -/
def Obligations.QueueAndOtpFrames : Prop :=
  ∀ (c : Instr) (s t : State), exec c s = .next t → t.pending = s.pending ∧
    ((∀ ok, c ≠ .safeBindDone ok) → (∀ reset, c ≠ .powerLoss reset true) → t.otp = s.otp)

/-- O6. The CRC of the image is CRC-32C (R46) -/
def Obligations.CrcCheckValue : Prop :=
  crc32c [0x31, 0x32, 0x33, 0x34, 0x35, 0x36, 0x37, 0x38, 0x39] = 0xE3069283 ∧ crc32c [] = 0 ∧ ∀ bs, crc32c bs < 2 ^ 32

/-- O7. A register write stores the RW fields, clears the events that were read, or is one half of a guarded pair; what is not allowed is logged (R66, R68, R78, R79, R82, R83, R84, R85, R87, R88, R89, R459) -/
def Obligations.RegisterAccess : Prop :=
  (∀ (s : State) (p : Port) (off : BitVec 26) (be : BitVec 4) (w : Word), let o := off.toNat
    (s.dev.mayAccess p = false → answers (.regWrite p off be w) s s) ∧
    (s.dev.mayAccess p = true → s.dev.guardOf p = none → (be ≠ 15 ∨ o % 4 ≠ 0) → leads (.regWrite p off be w) s fun x =>
      s.dev.logged x.dev 0x10 3 true o ∧ s.sameMem x) ∧
    (s.dev.mayAccess p = true → s.dev.guardOf p = none → be = 15 → o % 4 = 0 → 0xF01000 ≤ o → leads (.regWrite p off be w) s fun x =>
      s.dev.logged x.dev 0x10 2 true o ∧ s.sameMem x) ∧
    (s.dev.mayAccess p = true → s.dev.guardOf p = none → be = 15 → o % 4 = 0 → o / 0x100000 = 11 → s.dev.blockOff o = false →
      answers (.regWrite p off be w) s s) ∧
    (s.dev.reaches p o → s.dev.host.recovery = true → o / 0x100000 = 3 → s.dev.guardOf p = none → be = 15 → leads (.regWrite p off be w) s fun x =>
      x.dev.regs = s.dev.regs ∧ s.sameMem x) ∧
    (∀ r, s.dev.takes p o → s.dev.guardOf p = none → be = 15 → plainReg p o r → r.rc = 0 → leads (.regWrite p off be w) s fun x =>
      x.dev.rd o = r.stored (s.dev.rd o) w ∧ s.dev.sameRegs x.dev [o] ∧ s.sameMem x)) ∧
  (∀ (s : State) (p : Port) (off : BitVec 26) (v : BitVec 8) (r : RegRow), let o := off.toNat
    s.dev.takes p o → s.dev.guardOf p = none → plainReg p o r → r.rc ≠ 0 → leads (.eventWriteBack p off v) s fun x =>
      s.dev.sameRegs x.dev [o] ∧ s.sameMem x ∧
      x.dev.rd o = if (s.dev.rd o).toNat / 2 ^ 24 = v.toNat then s.dev.rd o &&& ~~~ (BitVec.ofNat 32 (r.rc % 2 ^ 24)) else s.dev.rd o) ∧
  (∀ (s : State) (p : Port) (off : BitVec 26) (w : Word), let o := off.toNat
    (guardedAt o = false → answers (.guardValueWrite p off w) s s) ∧
    (guardedAt o = true → s.dev.takes p o → s.dev.guardOf p = none → leads (.guardValueWrite p off w) s fun x =>
      x.dev.guardOf p = some (o, w.toNat) ∧ x.dev.regs = s.dev.regs ∧ s.sameMem x) ∧
    (∀ v y, guardedAt o = true → s.dev.takes p o → s.dev.guardOf p = some (v, y) → o ≠ v + 4 → leads (.guardValueWrite p off w) s fun x =>
      x.dev.guardOf p = some (o, w.toNat) ∧ s.dev.logged x.dev 0x20 4 true v ∧ s.sameMem x)) ∧
  (∀ (s : State) (p : Port) (off : BitVec 26) (w : Word), let o := off.toNat
    s.dev.takes p o → guardedAt o = false → o % 8 = 4 → guardedAt (o - 4) = true →
    (s.dev.guardOf p = none → leads (.regWrite p off 15 w) s fun x => s.dev.logged x.dev 0x20 3 true (o - 4) ∧ s.sameMem x) ∧
    (∀ y, s.dev.guardOf p = some (o - 4, y) → y + w.toNat ≠ 2 ^ 32 - 1 → leads (.regWrite p off 15 w) s fun x =>
      s.dev.logged x.dev 0x20 2 true (o - 4) ∧ x.dev.guardOf p = none ∧ s.sameMem x) ∧
    (∀ y, s.dev.guardOf p = some (o - 4, y) → y + w.toNat = 2 ^ 32 - 1 → o = R.PWR_REQ + 4 → y < 4 → s.dev.pwrPhase < 2 →
      leads (.regWrite p off 15 w) s fun x => x.dev.pwr.reqs = s.dev.pwr.reqs ++ [y] ∧ x.dev.guardOf p = none ∧
        s.dev.sameRegs x.dev [R.PWR_STS] ∧ s.sameMem x)) ∧
  (∀ (s : State) (p : Port), (s.dev.guardOf p = none → answers (.guardTimeout p) s s) ∧
    ∀ v y, s.dev.guardOf p = some (v, y) → leads (.guardTimeout p) s fun x => s.dev.logged x.dev 0x20 1 true v ∧
      x.dev.guardOf p = none ∧ s.sameMem x) ∧
  (∀ (s : State) (p : Port), let o := 4 * s.dev.get F.SYS_CNT_SEL_OFFSET
    s.dev.reaches p R.SYS_CNT_CMD → s.dev.guardOf p = none →
    (∀ r, regAt o = some r → r.cnt ≠ 0 → o / 0x100000 ≠ 11 → leads (.counterLoad p) s fun x =>
      x.dev.rd o &&& BitVec.ofNat 32 r.cnt = s.dev.rd R.SYS_CNT_VAL &&& BitVec.ofNat 32 r.cnt ∧
      x.dev.rd o &&& ~~~ (BitVec.ofNat 32 r.cnt) = s.dev.clkCounts.rd o &&& ~~~ (BitVec.ofNat 32 r.cnt) ∧
      s.dev.clkCounts.sameRegs x.dev [o] ∧ s.sameMem x) ∧
    ((regAt o = none ∨ (∃ r, regAt o = some r ∧ r.cnt = 0) ∨ o / 0x100000 = 11) → leads (.counterLoad p) s fun x =>
      s.dev.clkCounts.logged x.dev 0x10 5 true R.SYS_CNT_CMD ∧ s.sameMem x)) ∧
  (∀ (s : State) (off : BitVec 26) (r : RegRow), let o := off.toNat
    regAt o = some r → (r.rw ≠ 0 ∨ r.rg ≠ 0) → s.dev.blockOff o = false → o / 0x100000 ≠ 11 → s.dev.answers = true →
    leads (.csrParity off) s fun x => o ∈ x.dev.host.parityBad ∧ x.dev.flag F.SYS_PARITY_LOG_EVT = true ∧
      x.dev.get F.SYS_PARITY_ADDR_OFFSET = o ∧ x.dev.get F.SYS_PARITY_LOG_CAUSE = 1 ∧ s.sameMem x ∧
      ∃ f ∈ x.dev.faults, f.kind = FaultKind.csrParity ∧ f.idx = o ∧ f.cls = parityCls o ∧ f.cause = true) ∧
  ∀ (s : State) (b : Fin 16), leads (.clockRegate b) s fun x => b.val ∉ x.dev.host.ungated ∧ x.dev.regs = s.dev.regs ∧ s.sameMem x

/-- O8. Reads by the host change no register but the clock counts; BAR2 is read and written by bytes; in D3hot neither acts (the endpoint's power states are taken from the family, log entry 18) (R32, R66, R68, R69, R76, R77, R89, R252) -/
def Obligations.HostReads : Prop :=
  (∀ (s : State) (p : Port) (off : BitVec 26) (be : BitVec 4), let o := off.toNat
    (s.dev.answers = true → s.dev.mayAccess .pcie = false → leads (.regRead .pcie off be) s fun x =>
      x.dev.host.rdData = 0xFFFFFFFF ∧ x.dev.regs = s.dev.regs ∧ s.sameMem x) ∧
    (s.dev.mayAccess .pcie = true → (be ≠ 15 ∨ o % 4 ≠ 0) → leads (.regRead .pcie off be) s fun x =>
      x.dev.host.rdData = 0xFFFFFFFF ∧ s.dev.logged x.dev 0x10 3 false o ∧ s.sameMem x) ∧
    (∀ r, s.dev.reaches .pcie o → be = 15 → regAt o = some r → partners o = [] → copyOf (R.SPC_WIN 0 0) 4 1024 o = none →
      (∀ k v, (k, v) ∈ s.dev.host.snaps → k ≠ snapKey .pcie o) → o ∉ [R.TIME_NOW_HI, R.TIME_NOW_FRAC, R.UPD_CRC] →
      leads (.regRead .pcie off be) s fun x => x.dev.host.rdData = s.dev.clkCounts.rd o &&& ~~~ (BitVec.ofNat 32 r.wo) ∧
        s.dev.clkCounts.sameRegs x.dev [] ∧ s.sameMem x) ∧
    (s.dev.reaches p o → be = 15 → leads (.regRead p off be) s fun x => s.dev.clkCounts.sameRegs x.dev [] ∧ s.sameMem x)) ∧
  (∀ (s : State) (off : BitVec 25) (be : BitVec 4) (w : Word), let a := off.toNat / 4 * 4
    let go := s.dev.answers = true ∧ s.dev.host.granted = true ∧ s.dev.host.d3hot = false
    (¬ go → answers (.bar2Write off be w) s s) ∧
    (∀ c, go → s.dev.guardOf .pcie = none → s.dev.bar2Bad true a = some c → leads (.bar2Write off be w) s fun x =>
      s.dev.logged x.dev 0x10 c true a ∧ x.dev.flag F.SYS_BUSERR_LOG_BAR = true ∧ s.sameMem x) ∧
    (go → s.dev.guardOf .pcie = none → s.dev.bar2Bad true a = none → leads (.bar2Write off be w) s fun x =>
      (∀ i < 4, tblGet sramReset x.mem (a + i) =
        if bitOf be.toNat i then BitVec.ofNat 8 (w.toNat / 2 ^ (8 * i)) else tblGet sramReset s.mem (a + i)) ∧
      (∀ b, b < a ∨ a + 4 ≤ b → tblGet sramReset x.mem b = tblGet sramReset s.mem b) ∧ x.dev.regs = s.dev.regs ∧
      x.flash = s.flash ∧ x.otp = s.otp ∧ x.pending = s.pending)) ∧
  (∀ (s : State) (off : BitVec 25), let a := off.toNat / 4 * 4
    let go := s.dev.answers = true ∧ s.dev.host.granted = true ∧ s.dev.host.d3hot = false
    (s.dev.answers = false → answers (.bar2Read off) s s) ∧
    (∀ c, go → s.dev.bar2Bad false a = some c → leads (.bar2Read off) s fun x => x.dev.host.rdData = 0xFFFFFFFF ∧
      s.dev.logged x.dev 0x10 c false a ∧ s.sameMem x) ∧
    (go → s.dev.bar2Bad false a = none → (bar2Region a = 3 → s.dev.boot.shadow = false) → a ∉ s.dev.eccBad → leads (.bar2Read off) s fun x =>
      x.dev.host.rdData = s.mem.word a ∧ x.dev.regs = s.dev.regs ∧ s.sameMem x)) ∧
  ∀ (s : State) (p : Port) (n : Fin 128) (w : Word),
    (s.dev.energised n = true → answers (.angOfsWrite p n w) s (s.upd (Dev.illegal p (R.LOOP_ANG n)))) ∧
    (s.dev.energised n = false → leads (.angOfsWrite p n w) s fun x => x.dev.rd (R.LOOP_ANG n) = w ∧
      s.dev.sameRegs x.dev [R.LOOP_ANG n] ∧ s.sameMem x)

/-- O9. A PCIe reset clears the endpoint and ends the transfers; messages follow the masks (MSI-X reset values, D3hot and the end of messages under way are the model's, log entries 18 and 86) (R66, R67, R70, R71) -/
def Obligations.EndpointAndMessages : Prop :=
  (∀ (s : State) (k : PcieReset), leads (.pcieReset k) s fun x => x.dev.host.msixEn = false ∧ x.dev.host.msixMask = false ∧
    x.dev.host.msixTbl = [] ∧ x.dev.host.pba = 0 ∧ x.dev.host.msgs = [] ∧ x.dev.host.d3hot = false ∧ x.dev.host.dmaRun = [] ∧
    (∀ n < 8, (s.dev.dmaOf n).isSome → x.dev.get (F.SYS_DMA_STS_RESULT n) = 2 ∧ x.dev.flag (F.SYS_DMA_STS_BUSY n) = false ∧
      x.dev.flag (F.SYS_DMA_STS_DONE_EVT n) = true) ∧ x.flash = s.flash ∧ x.otp = s.otp ∧ x.pending = s.pending ∧
    (s.dev.host.dmaRun = [] → x.dev.regs = s.dev.regs ∧ x.mem = s.mem)) ∧
  (∀ (s : State) (c : PcieCfg), (s.dev.host.granted = false ∨ c = .other → answers (.pcieConfigWrite c) s s) ∧
    (s.dev.host.granted = true → leads (.pcieConfigWrite c) s fun x => x.dev.regs = s.dev.regs ∧ s.sameMem x ∧
      (∀ d3, c = .power d3 → x.dev.host.d3hot = d3) ∧
      ∀ en mask, c = .msix en mask → x.dev.host.msixEn = en ∧ x.dev.host.msixMask = mask)) ∧
  ∀ (s : State) (v : Fin 64), (s.dev.host.granted = false ∨ s.dev.host.d3hot = true → answers (.msixUnmask v) s s) ∧
    (s.dev.host.granted = true → s.dev.host.d3hot = false → leads (.msixUnmask v) s fun x =>
      x.dev.msixMasked v = s.dev.host.msixMask ∧ x.dev.regs = s.dev.regs ∧ s.sameMem x ∧
      (s.dev.host.msixEn = true → s.dev.host.msixMask = false → bitOf s.dev.host.pba v = true →
        v.val ∈ x.dev.host.msgs ∧ bitOf x.dev.host.pba v = false))

/-- O10. An MSPI frame is answered byte for byte, with the status of the frame before it; only a good write frame writes (R72, R73, R74) -/
def Obligations.MspiFrames : Prop :=
  (∀ (s : State) (bs : List Byte), ∀ c ∈ ([.mspiWriteFrame bs, .mspiReadFrame bs] : List Instr),
    ((s.dev.answers = false ∨ bs = []) → answers c s s) ∧
    (s.dev.answers = true → bs ≠ [] → ((bs.getD 0 0).toNat ≠ 2 ∨ s.dev.host.granted = false) → leads c s fun x =>
      x.dev.host.miso.length = bs.length ∧ x.dev.host.miso.head? = some (BitVec.ofNat 8 s.dev.mspiStatus))) ∧
  (∀ (s : State) (bs : List Byte), let L := (bs.getD 5 0).toNat + 1
    let good := 6 ≤ bs.length ∧ L ≤ 16 ∧ bs.length = 7 + 4 * L
    let crcOk := crc8 (bs.take (bs.length - 1)) = (bs.getD (bs.length - 1) 0).toNat
    s.dev.answers = true → s.dev.host.granted = true → bs ≠ [] → (bs.getD 0 0).toNat = 2 →
    (¬ good → leads (.mspiWriteFrame bs) s fun x => s.dev.sameRegs x.dev [R.SYS_MSPI_ERR] ∧ s.sameMem x ∧ x.dev.host.mspiFrame = true ∧
      x.dev.get F.SYS_MSPI_ERR_FRAME_ERR = min (s.dev.get F.SYS_MSPI_ERR_FRAME_ERR + 1) (2 ^ 16 - 1)) ∧
    (good → ¬ crcOk → leads (.mspiWriteFrame bs) s fun x => s.dev.sameRegs x.dev [R.SYS_MSPI_ERR] ∧ s.sameMem x ∧ x.dev.host.mspiCrc = true ∧
      x.dev.get F.SYS_MSPI_ERR_CRC_ERR = min (s.dev.get F.SYS_MSPI_ERR_CRC_ERR + 1) (2 ^ 16 - 1)) ∧
    (good → crcOk → mspiAddrBad (beNat ((bs.drop 1).take 4)) = false → answers (.mspiWriteFrame bs) s
      (State.mspiCommit (beNat ((bs.drop 1).take 4)) (beWords32 ((bs.drop 6).take (4 * L)))
        (s.upd fun d => d.mspiNew.miso (BitVec.ofNat 8 s.dev.mspiStatus :: List.replicate (bs.length - 1) 0)))) ∧
    (∀ r, good → crcOk → L = 1 → let o := beNat ((bs.drop 1).take 4)
      s.dev.takes .mspi o → s.dev.guardOf .mspi = none → plainReg .mspi o r → r.rc = 0 → leads (.mspiWriteFrame bs) s fun x =>
        x.dev.rd o = r.stored (s.dev.rd o) (BitVec.ofNat 32 (beNat ((bs.drop 6).take 4))) ∧ s.dev.sameRegs x.dev [o] ∧ s.sameMem x)) ∧
  ∀ (s : State) (bs : List Byte), let L := (bs.getD 5 0).toNat + 1
    let off := beNat ((bs.drop 1).take 4)
    let got := Dev.mspiFetch L off s.dev.mspiNew
    s.dev.answers = true → s.dev.host.granted = true → (bs.getD 0 0).toNat = 3 → L ≤ 16 → 9 + 4 * L ≤ bs.length → mspiAddrBad off = false →
      leads (.mspiReadFrame bs) s fun x => let data := got.1.flatMap (fun w => beBytes 4 w.toNat)
        x.dev.host.miso.take (9 + 4 * L) =
          BitVec.ofNat 8 s.dev.mspiStatus :: (List.replicate 7 0 ++ data ++ [BitVec.ofNat 8 (crc8 data)]) ∧
        x.dev.regs = got.2.regs ∧ s.sameMem x

/-- O11. A DMA channel starts, is aborted and ends with its result; a transfer moves its words and no other (R70) -/
def Obligations.DmaTransfers : Prop :=
  (∀ (s : State) (n : Fin 8), let d := s.dev
    ((d.dmaOf n).isSome → answers (.dmaStart n) s (s.upd (Dev.parityWritten (R.SYS_DMA_CTL n)))) ∧
    (d.dmaOf n = none → answers (.dmaAbort n) s (s.upd (Dev.parityWritten (R.SYS_DMA_CTL n)))) ∧
    (d.dmaOf n = none → d.dmaBad n = true → leads (.dmaStart n) s fun x => x.dev.get (F.SYS_DMA_STS_RESULT n) = 3 ∧
      x.dev.flag (F.SYS_DMA_STS_BUSY n) = false ∧ x.dev.flag (F.SYS_DMA_STS_DONE_EVT n) = true ∧ x.dev.dmaOf n = none ∧
      d.sameRegs x.dev [R.SYS_DMA_CTL n, R.SYS_DMA_STS n] ∧ s.sameMem x) ∧
    (d.dmaOf n = none → d.dmaBad n = false → leads (.dmaStart n) s fun x => x.dev.flag (F.SYS_DMA_STS_BUSY n) = true ∧
      x.dev.flag (F.SYS_DMA_CTL_START n) = true ∧ x.dev.dmaOf n = some (d.get (F.SYS_DMA_SRAM_VALUE n), d.get (F.SYS_DMA_LEN_VALUE n)) ∧
      tget x.dev.host.dmaHost n = d.get64 (R.SYS_DMA_HOST_LO n) ∧
      (d.flag (F.SYS_DMA_CTL_DIR n) = false → x.dev.host.dmaIn = dmaReqs 512 (d.get64 (R.SYS_DMA_HOST_LO n)) (d.get (F.SYS_DMA_LEN_VALUE n))) ∧
      d.sameRegs x.dev [R.SYS_DMA_CTL n, R.SYS_DMA_STS n] ∧ s.sameMem x) ∧
    ((d.dmaOf n).isSome → leads (.dmaAbort n) s fun x => x.dev.flag (F.SYS_DMA_CTL_ABORT n) = true ∧
      d.sameRegs x.dev [R.SYS_DMA_CTL n] ∧ s.sameMem x)) ∧
  (∀ (s : State) (n : Fin 8) (e : DmaEnd) (data : List Word), s.dev.dmaOf n = none →
    answers (.dmaEnd n e data) s s ∧ answers (.dmaHostTimeout n data) s s) ∧
  (∀ (s : State) (n : Fin 8) (data : List Word) (a len : Nat), s.dev.dmaOf n = some (a, len) →
    s.dev.flag (F.SYS_DMA_CTL_ABORT n) = false → len / 4 ≤ data.length → s.dev.regionOff (bar2Region a) = false →
    (n.val ∉ s.dev.host.dmaToHost → leads (.dmaEnd n .moved data) s fun x => x.dev.get (F.SYS_DMA_STS_RESULT n) = 0 ∧
      x.dev.flag (F.SYS_DMA_STS_DONE_EVT n) = true ∧ x.dev.flag (F.SYS_DMA_STS_BUSY n) = false ∧ x.dev.dmaOf n = none ∧
      (∀ k < len / 4, x.mem.word (a + 4 * k) = data.getD k 0) ∧
      (∀ b, b < a ∨ a + 4 * (len / 4) ≤ b → tblGet sramReset x.mem b = tblGet sramReset s.mem b) ∧
      s.dev.sameRegs x.dev [R.SYS_DMA_CTL n, R.SYS_DMA_STS n] ∧ x.flash = s.flash ∧ x.otp = s.otp ∧ x.pending = s.pending) ∧
    (n.val ∈ s.dev.host.dmaToHost → (∀ b ∈ s.dev.eccBad, b < a ∨ a + len ≤ b) → (bar2Region a = 3 → s.dev.boot.shadow = false) → leads (.dmaEnd n .moved data) s fun x =>
      x.dev.get (F.SYS_DMA_STS_RESULT n) = 0 ∧ x.dev.flag (F.SYS_DMA_STS_DONE_EVT n) = true ∧
      x.dev.host.dmaOut = s.dev.dmaWrites (tget s.dev.host.dmaHost n) ((s.mem.words a (len / 4)).flatMap (fun w => leBytes 4 w.toNat)) ∧ s.sameMem x ∧ s.dev.sameRegs x.dev [R.SYS_DMA_CTL n, R.SYS_DMA_STS n])) ∧
  ∀ (s : State) (n : Fin 8) (data : List Word), (s.dev.dmaOf n).isSome →
    (leads (.dmaEnd n .sramErr data) s fun x => x.dev.get (F.SYS_DMA_STS_RESULT n) = 4 ∧ x.dev.dmaOf n = none) ∧
    (leads (.dmaEnd n .hostErr data) s fun x => x.dev.get (F.SYS_DMA_STS_RESULT n) = 5 ∧ x.dev.dmaOf n = none) ∧
    leads (.dmaHostTimeout n data) s fun x => x.dev.get (F.SYS_DMA_STS_RESULT n) = 5 ∧ x.dev.dmaOf n = none ∧
      x.dev.flag (F.SYS_DMA_STS_DONE_EVT n) = true

/-- O12. A tunnel request leaves, is served or turned away, and its response or its time limit ends it (that a refused request counts in SERVED, that a length above 59 acts as 59 and that every other response counts TUN_LATE are the model's choices, log entry 71) (R90, R91, R92) -/
def Obligations.TunnelRequests : Prop :=
  (∀ s : State, let d := s.dev
    let dst := d.get F.SYS_TUN_CTL_DST
    (d.flag F.SYS_TUN_STS_BUSY = true → answers .tunnelStart s s) ∧
    (d.flag F.SYS_TUN_STS_BUSY = false → d.tunRoute dst = false → leads .tunnelStart s fun x => x.dev.get F.SYS_TUN_STS_RESULT = 0x10 ∧
      x.dev.flag F.SYS_TUN_STS_DONE_EVT = true ∧ x.dev.host.tunReq = none ∧ d.sameRegs x.dev [R.SYS_TUN_STS, R.SYS_TUN_CMD] ∧ s.sameMem x) ∧
    (d.flag F.SYS_TUN_STS_BUSY = false → d.tunRoute dst = true → leads .tunnelStart s fun x =>
      x.dev.flag F.SYS_TUN_STS_BUSY = true ∧ x.dev.host.tunTag = (d.host.tunTag + 1) % 256 ∧
      x.dev.host.tunReq = some (dst, d.host.tunTag, d.get F.SYS_TUN_CTL_OP, min 59 (d.get F.SYS_TUN_CTL_LM1) + 1) ∧ s.sameMem x) ∧
    (d.host.tunReq = none → answers .tunnelTimeout s s) ∧
    (d.host.tunReq ≠ none → leads .tunnelTimeout s fun x => x.dev.get F.SYS_TUN_STS_RESULT = 0x11 ∧ x.dev.host.tunReq = none ∧
      x.dev.flag F.SYS_TUN_STS_BUSY = false ∧ x.dev.flag F.SYS_TUN_STS_DONE_EVT = true ∧
      d.sameRegs x.dev [R.SYS_TUN_STS, R.SYS_TUN_CMD] ∧ s.sameMem x)) ∧
  (∀ (s : State) (p : Fin 8) (f : Frame) (t : Nat) (d : Dev) (here : Bool), s.dev.frameIn p f t = (d, here) →
    ((here = false ∨ f.typ ≠ 8 ∨ bitsOf (f.w 0) 31 24 ≠ 2) → answers (.tunnelResponse p f t) s { s with dev := d }) ∧
    (∀ op n, here = true → f.typ = 8 → bitsOf (f.w 0) 31 24 = 2 → n ≤ 60 → d.host.tunFab.contains (f.src, bitsOf (f.w 0) 23 16) = false →
      d.host.tunReq = some (f.src, bitsOf (f.w 0) 23 16, op, n) → leads (.tunnelResponse p f t) s fun x =>
        x.dev.get F.SYS_TUN_STS_RESULT = bitsOf (f.w 0) 7 0 ∧ x.dev.get F.SYS_TUN_STS_FAIL = bitsOf (f.w 2) 7 0 ∧
        x.dev.flag F.SYS_TUN_STS_DONE_EVT = true ∧ x.dev.flag F.SYS_TUN_STS_BUSY = false ∧ x.dev.host.tunReq = none ∧
        (op = 1 → ∀ i < n, 3 + i < f.body.length → x.dev.rd (R.SYS_TUN_DATA i) = f.body.getD (3 + i) 0) ∧ s.sameMem x) ∧
    (here = true → f.typ = 8 → bitsOf (f.w 0) 31 24 = 2 → d.host.tunFab.contains (f.src, bitsOf (f.w 0) 23 16) = false →
      d.host.tunReq = none → leads (.tunnelResponse p f t) s fun x =>
        x.dev.get F.SYS_TUN_CNT_TUN_LATE = min (d.get F.SYS_TUN_CNT_TUN_LATE + 1) 255 ∧ d.sameRegs x.dev [R.SYS_TUN_CNT] ∧ s.sameMem x)) ∧
  ∀ (s : State) (p : Fin 8) (f : Frame) (t : Nat) (d : Dev) (here : Bool), s.dev.frameIn p f t = (d, here) →
    let op := bitsOf (f.w 0) 15 14
    let n := min 59 (bitsOf (f.w 0) 13 8) + 1
    let busy := (d.host.tunFin.filter (fun t => decide (d.nowPs.toNat < t))).length
    let mine := here = true ∧ f.typ = 8 ∧ bitsOf (f.w 0) 31 24 = 1
    (¬ mine → answers (.tunnelRequest p f t) s { s with dev := d }) ∧
    (mine → 5 ≤ busy → leads (.tunnelRequest p f t) s fun x =>
      x.dev.get F.SYS_TUN_CNT_TUN_DROP = min (d.get F.SYS_TUN_CNT_TUN_DROP + 1) 255 ∧ d.sameRegs x.dev [R.SYS_TUN_CNT] ∧ s.sameMem x) ∧
    (mine → busy < 5 → (d.tunAllowed f.src op (f.w 1) n = false ∨ op = 1) → leads (.tunnelRequest p f t) s fun x =>
      x.dev.get F.SYS_TUN_CNT_SERVED = (d.get F.SYS_TUN_CNT_SERVED + 1) % 2 ^ 16 ∧ s.sameMem x) ∧
    (∀ r w, mine → busy < 5 → op = 2 → n = 1 → d.tunAllowed f.src op (f.w 1) n = true → f.body.drop 3 = [w] → d.takes .tunnel (f.w 1) →
      d.guardOf .tunnel = none → plainReg .tunnel (f.w 1) r → r.rc = 0 → f.w 1 / 0x100000 ≠ 3 → f.w 1 ≠ R.SYS_TUN_CNT →
      leads (.tunnelRequest p f t) s fun x => x.dev.rd (f.w 1) = r.stored (d.rd (f.w 1)) w ∧ s.sameMem x)

/-- O13. Device faults act on every axis by their class (a contrail word stays bad where its KIND is not recorded, the model's reading, log entry 84) (R18, R34, R38, R371, R428, R482) -/
def Obligations.DeviceFaults : Prop :=
  (∀ (s : State) (lock : Bool), (s.dev.time.running = false → answers (.pllLoss lock) s s) ∧
    (s.dev.time.running = true → leads (.pllLoss lock) s fun x => (lock = true → x.dev.flag F.CLK_STS_ROOT_LOCK = false) ∧
      (s.dev.redRole = 2 → x.dev.redRole = 6) ∧
      (∃ f ∈ x.dev.faults, f.kind = FaultKind.pllLoss ∧ f.cls = 3 ∧ f.axes = allAxes ∧ f.cause = true) ∧
      (∀ n < 128, x.dev.flag (F.LOOP_CTL_EN n) = false ∧ (n < 32 → x.dev.energised n = false)) ∧ s.sameMem x)) ∧
  (∀ (s : State) (a : BitVec 25) (ce : Bool), let b := a.toNat / 4 * 4
    (bar2Region b = 0x7F ∨ s.dev.regionOff (bar2Region b) = true → answers (.sramScrubError a ce) s s) ∧
    (bar2Region b ≠ 0x7F → s.dev.regionOff (bar2Region b) = false → leads (.sramScrubError a ce) s fun x =>
      (ce = true → s.sameMem x ∧ x.dev.eccBad = s.dev.eccBad ∧ x.dev.eccCe = s.dev.eccCe + 1 ∧ s.dev.sameRegs x.dev [R.SYS_FAULT_EVT]) ∧
      (ce = false → bar2Region b ≠ 2 → b ∈ x.dev.eccBad ∧ s.sameMem x ∧
        ∃ f ∈ x.dev.faults, f.kind = FaultKind.sramUe ∧ f.cls = 2 ∧ f.axes = allAxes ∧ f.cause = true) ∧
      (ce = false → bar2Region b = 2 → s.dev.sameRegs x.dev [R.SYS_FAULT_EVT] ∧ x.flash = s.flash ∧
        (s.dev.trailOn 15 = false → b ∈ x.dev.eccBad ∧ s.sameMem x) ∧
        (s.dev.trailOn 15 = true → b ∉ x.dev.eccBad ∧ bitsOf (x.mem.word (b / 16 * 16 + 4)).toNat 31 28 = 15 ∧
          ∀ c, c < b / 16 * 16 ∨ b / 16 * 16 + 16 ≤ c → tblGet sramReset x.mem c = tblGet sramReset s.mem c)))) ∧
  (∀ s : State, answers .extFault s { s with dev := { s.dev with host := { s.dev.host with faultnExt := true } } } ∧
    answers .faultNNetHigh s { s with dev := { s.dev with host := { s.dev.host with faultnExt := false } } }) ∧
  ∀ s : State, (s.dev.adc.hotRun < 32 ∨ s.dev.causeOn .overtemp 0 = true → answers .overtemp s s) ∧
    (32 ≤ s.dev.adc.hotRun → s.dev.causeOn .overtemp 0 = false → leads .overtemp s fun x => s.sameMem x ∧
      (∃ f ∈ x.dev.faults, f.kind = FaultKind.overtemp ∧ f.cls = 2 ∧ f.axes = allAxes ∧ f.cause = true) ∧
      s.dev.sameRegs x.dev [R.SYS_FAULT_EVT])

/-- O14. TIME first ticks, the nominal trim is guarded, PPS edges, PPS loss and the time of day act (which edge and which alignment PPS_LOSS counts from is the model's choice, log entry 76) (R110, R97, R106, R107, R108, R109) -/
def Obligations.ClockCommands : Prop :=
  (
  (∀ (d : Dev) (ns : Nat), d.time.running = true → 0 < d.tickInc → d.nowNs < ns →
    ∃ k, 1 ≤ k ∧ (d.runTo ns).time.now = d.time.now + k * d.tickInc ∧ (d.runTo ns).time.ticks = d.time.ticks + k ∧
      ns ≤ (d.runTo ns).nowNs ∧ (d.time.now + (k - 1) * d.tickInc) / 2 ^ 32 < ns ∧ (d.runTo ns).regs = d.regs) ∧
  ∀ s : State, answers .usTick s (s.upd (Dev.runTo ((s.dev.nowNs / 1000 + 1) * 1000))).dueTick) ∧
  (
  ∀ (s : State) (p : Port) (w : Word),
    ((sInt 32 w.toNat).natAbs ≤ 8589935 → leads (.nomTrimWrite p w) s fun x =>
      x.dev.rd R.TIME_INC_NOM = w ∧ x.dev.time = s.dev.time ∧
      x.dev.tickInc = (5 * 2 ^ 32 + sInt 32 w.toNat - s.dev.time.trim).toNat ∧
      (x.dev.get F.TIME_INC_ACT_LO_INC_FRAC = x.dev.tickInc % 2 ^ 32 ∧
        x.dev.get F.TIME_INC_ACT_HI_INC_INT = x.dev.tickInc / 2 ^ 32 % 2 ^ (F.TIME_INC_ACT_HI_INC_INT.hi + 1)) ∧
      s.dev.sameRegs x.dev [R.TIME_INC_NOM, R.TIME_INC_ACT_LO, R.TIME_INC_ACT_HI] ∧ s.sameMem x) ∧
    (8589935 < (sInt 32 w.toNat).natAbs → answers (.nomTrimWrite p w) s (s.upd (Dev.illegal p R.TIME_INC_NOM)) ∧
      (s.dev.illegal p R.TIME_INC_NOM).rd R.TIME_INC_NOM = s.dev.rd R.TIME_INC_NOM)) ∧
  (
  (∀ (s : State) (r : Bool) (t : Nat), s.dev.time.running = true → 0 < s.dev.tickInc → s.dev.nowNs < t →
    (r != (s.dev.runBelow t).flag F.TIME_PPS_CTL_PPS_IN_POL) = true →
    (∀ l, s.dev.time.ppsLast = some l → l + 500000000 ≤ s.dev.upAt t) → (s.dev.runBelow t).isZenith = false →
    (answers (.ppsInEdge r t) s (s.upd fun d => { (d.runBelow t).put64 R.TIME_PPS_CAP_LO (d.runBelow t).nowNs with
      time := { (d.runBelow t).time with ppsLast := some ((d.runBelow t).upAt t) } })) ∧
    (s.dev.runBelow t).time.now ≤ 2 ^ 32 * t ∧ 2 ^ 32 * t < (s.dev.runBelow t).time.now + s.dev.tickInc) ∧
  (∀ s : State, s.dev.isZenith = true → answers .todAlign s (s.upd fun d => (d.parityWritten R.TIME_PPS_CTL).up F.TIME_PPS_CTL_ALIGN true)) ∧
  (∀ (s : State) (t : Nat), s.dev.isZenith = true → s.dev.flag F.TIME_PPS_CTL_PPS_EN = true → s.dev.time.aligned = true →
    (∀ u, s.dev.time.ppsUsed = some u → u + 1500000000 ≤ (s.dev.runTo t).upNs) →
    answers (.ppsLoss t) s (s.upd fun d => (d.runTo t).event0 F.TIME_SERVO_EVT_PPS_LOSS_EVT)) ∧
  ∀ (s : State) (at_ : Nat), (at_ : Int) = ((s.dev.nowNs + s.dev.todOffset) / 1000000000 + 1) * 1000000000 - s.dev.todOffset →
    s.dev.flag F.TIME_PPS_CTL_PPS_OUT_EN = true → s.dev.flag F.TIME_SERVO_STS_TOD_VALID = true →
    (∀ l, s.dev.time.ppsOutLast = some l → l + 500000000 ≤ (s.dev.runTo at_).upNs) →
    leads .ppsOutPulse s fun x => x.dev.time.now = (s.dev.runTo at_).time.now ∧
      x.dev.time.ppsOutLast = some x.dev.upNs ∧ x.dev.time.ppsOutEnd = some (x.dev.upNs + s.dev.ppsWidth) ∧
      x.dev.regs = s.dev.regs ∧ s.sameMem x)

/-- O15. An event channel is armed, moved, fires and captures (R112, R113, R114, R115, 21_package_electrical.md) -/
def Obligations.EventChannels : Prop :=
  (∀ (s : State) (n : Fin 8) (w : Word), leads (.evModeWrite n w) s fun x =>
    x.dev.get (F.TIME_EV_CTL_MODE n) = w.toNat % 4 ∧
    x.dev.flag (F.TIME_EV_CTL_ARM n) = (bitOf w.toNat 2 && (w.toNat % 4 == 1 || w.toNat % 4 == 2) && !x.dev.evBad n) ∧
    s.dev.sameRegs x.dev [R.TIME_EV_CTL n, R.TIME_EV_STS n] ∧ s.sameMem x) ∧
  (∀ (s : State) (n : Fin 8), s.dev.get (F.TIME_EV_CTL_MODE n) = 1 → leads (.evArm n) s fun x =>
    x.dev.flag (F.TIME_EV_CTL_ARM n) = true ∧ x.dev.get (F.TIME_EV_CTL_MODE n) = 1 ∧
    (tget x.dev.time.ev n).late = decide (s.dev.get64 (R.TIME_EV_TGT_LO n) ≤ s.dev.nowNs)) ∧
  (∀ (s : State) (n : Fin 8) (hi : Bool) (w : Word), s.dev.flag (F.TIME_EV_CTL_ARM n) = true →
    s.dev.get (F.TIME_EV_CTL_MODE n) = 1 → leads (.evTgtWrite n hi w) s fun x =>
      x.dev.rd (R.TIME_EV_TGT_LO n + (if hi then 4 else 0)) = w ∧
      s.dev.sameRegs x.dev [R.TIME_EV_TGT_LO n + (if hi then 4 else 0)] ∧
      (tget x.dev.time.ev n).late = decide (x.dev.get64 (R.TIME_EV_TGT_LO n) ≤ x.dev.nowNs)) ∧
  (∀ (s : State) (n : Fin 8) (m : BitVec 16) (t : Nat), s.dev.evDue n = some t → leads (.tevFire n m) s fun x =>
    ∃ y : Dev, y = s.dev.evFire n t ∧ x = (s.upd fun _ => (y.encRequests (8 + n) m.toNat).adcTrigger (8 + n)).tevTasks n ∧
      y.flag (F.TIME_EV_STS_FIRE_EVT n) = true ∧
      ((tget s.dev.time.ev n).late = true → y.flag (F.TIME_EV_STS_LATE_EVT n) = true) ∧
      (s.dev.get (F.TIME_EV_CTL_MODE n) = 1 → y.flag (F.TIME_EV_CTL_ARM n) = false)) ∧
  (∀ (s : State) (p : TrigAt) (r : Bool) (t : Nat), (s.dev.runBelow t).captureAt p = false →
    answers (.trigCapture p r t) s (s.upd (Dev.runBelow t))) ∧
  ∀ (s : State) (p : TrigAt) (r : Bool) (t : Nat), let n := p.n.val
    (s.dev.runBelow t).captureAt p = true → s.dev.get (F.TIME_EV_CTL_MODE n) = 3 →
    bitOf (s.dev.get (F.TIME_EV_CTL_EDGE n)) (if r then 0 else 1) = true →
    (∀ l, (tget s.dev.time.ev n).lastEdge = some l → l + 10 ≤ s.dev.upAt t) → s.dev.flag (F.ADC_TRIG_EN n) = false →
    leads (.trigCapture p r t) s fun x =>
      x.dev.get64 (R.TIME_EV_CAP_LO n) = (s.dev.runBelow t).nowNs % 2 ^ 64 ∧
      x.dev.flag (F.TIME_EV_STS_CAP_EVT n) = true ∧
      (s.dev.flag (F.TIME_EV_STS_CAP_EVT n) = true → x.dev.flag (F.TIME_EV_STS_OVR_EVT n) = true) ∧ s.sameMem x

/-- O16. CYC_START falls at NEXT_CYC and advances CYCNO, CYC_PH and PLAN_PH (R96, R22, R487, R110) -/
def Obligations.CycleStart : Prop :=
  (∀ (s : State) (m : BitVec 16), s.dev.time.running = true →
    answers (.cycStart m) s ((s.upd Dev.cycTick).cycFollow s.dev.sstate m.toNat)) ∧
  (∀ d : Dev, d.time.pendCfg = none →
    d.cycTick.time.cycno = (d.time.cycno + 1) % 2 ^ 32 ∧ d.cycTick.time.cycPh = (d.time.cycPh + 1) % 1680 ∧
    d.cycTick.time.planPh = (d.time.planPh + 1) % d.time.m ∧ d.cycTick.time.cycStart = d.time.nextCyc ∧
    d.cycTick.time.nextCyc = d.time.nextCyc + d.time.tb ∧ d.cycTick.time.now = (d.runTo d.time.nextCyc).time.now ∧
    d.cycTick.regs = d.regs) ∧
  (∀ (d : Dev) (tb ic m : Nat), d.time.pendCfg = some (tb, ic, m) →
    d.cycTick.time.tb = tb ∧ d.cycTick.time.inCut = ic ∧ d.cycTick.time.m = m ∧ d.cycTick.time.pendCfg = none ∧
    d.cycTick.time.nextCyc = d.time.nextCyc + tb ∧ d.cycTick.time.planPh = (d.time.planPh + 1) % m) ∧
  (∀ s : State, s.dev.time.running = true → answers .halfTick s (s.upd fun d =>
    let y := d.runTo (d.time.cycStart + (d.time.tb + 1) / 2)
    ({ y with loop := { y.loop with atHalf := true, centre := y.sysClk } } : Dev).adcTrigger 1)) ∧
  (∀ s : State, s.dev.time.running = true →
    leads .inCut s fun x => ∃ y : Dev, y = (s.dev.runTo (s.dev.time.cycStart + s.dev.time.inCut)).redQuarantine.encInCut ∧
      x = s.upd fun _ => if y.inPark then y else y.loopInCut) ∧
  (∀ s : State, s.dev.time.running = true →
    leads .arbTick s fun x => ∃ y : State, y = (s.upd (Dev.runTo (s.dev.time.cycStart + (s.dev.time.inCut + 4000)))).arbTick ∧
      x = if y.dev.inPark then y else { y with dev := ((y.dev.trajGroups).solvTake y.mem).trajAxes y.mem }) ∧
  (∀ s : State, s.dev.time.running = true →
    leads .trajEnd s fun x => ∃ y : Dev, y = s.dev.runTo (s.dev.time.cycStart + (s.dev.time.inCut + 10000)) ∧
      x = s.upd fun _ => ((if y.inPark then y else y.trajEnd).patchDecide).powDecide) ∧
  ∀ s : State, s.dev.time.running = true → answers .snap s
    (s.upd fun d => (d.runTo (d.time.cycStart + (d.time.tb - 1250))).redSnap s.mem)

/-- O17. The integration step: TIME_NOW := TIME_NOW - e and i := 0, with STEP_EVT; outside LISTEN no SYNC moves TIME_NOW (rounding and the cut at 0 are the model's, log entry 24) (R103, R157) -/
def Obligations.IntegrationStep : Prop :=
  (∀ (d : Dev) (p : Fin 8) (f : Frame) (stamp : Nat), d.sstate = 1 →
    (d.recentDawns = [] ∨ (∀ n ∈ d.recentDawns, f.src ≤ n) ∧ f.src ∈ d.recentDawns) →
    let e := d.syncOffset p f stamp
    let x := d.syncIn p f stamp
    (x.time.now : Int) = max 0 ((d.time.now : Int) - (e * 2 ^ 32).fdiv 1000) ∧ x.time.servoI = 0 ∧ x.time.integrated = true ∧
      x.flag F.TIME_SERVO_EVT_STEP_EVT = true) ∧
  (∀ (d : Dev) (p : Fin 8) (f : Frame) (stamp : Nat), d.sstate = 1 → d.recentDawns ≠ [] →
    (f.src ∉ d.recentDawns ∨ ∃ n ∈ d.recentDawns, n < f.src) → d.syncIn p f stamp = d) ∧
  (∀ (d : Dev) (p : Fin 8) (f : Frame) (stamp : Nat), d.sstate ≠ 1 → (d.syncIn p f stamp).time.now = d.time.now) ∧
  (∀ d : Dev, d.toListen.time.integrated = false ∧ d.toListen.sstate = 1 ∧ d.toListen.time.now = d.time.now)

/-- O18. A port goes through its states; its test patterns send, check and count (that CHK_EN clears LOCK and INJ_CODE leaves within the command are the model's, log entries 26 and 79) (R122, R123, R459, R141, R142, R143, R428) -/
def Obligations.PortStatesAndPatterns : Prop :=
  (
  (∀ (s : State) (p : Fin 8), s.dev.host.recovery = true → answers (.portSignalDetect p) s s) ∧
  (∀ (s : State) (p : Fin 8), s.dev.host.recovery = false → s.dev.portState p = 0 → s.dev.get (F.LINK_PORT_CTL_MODE p) = 1 →
    leads (.portSignalDetect p) s fun x => x.dev.portState p = 1 ∧ (tget x.dev.link.ports p).signal = true ∧
      s.dev.sameRegs x.dev [R.LINK_PORT_STS p] ∧ s.sameMem x) ∧
  (∀ (s : State) (p : Fin 8), leads (.portSignalLoss p) s fun x => x.dev.portState p = 0 ∧
    (tget x.dev.link.ports p).signal = false ∧ (tget x.dev.link.ports p).helloSeen = false ∧
    s.dev.sameRegs x.dev [R.LINK_PORT_STS p, R.LINK_PORT_EVT p, R.SYS_FAULT_EVT] ∧ s.sameMem x) ∧
  (∀ (s : State) (p : Fin 8) (l : Fin 10) (pos : Fin 10) (inv : Bool), l.val = p.val → s.dev.host.recovery = false → s.dev.portState p = 1 →
    (tget s.dev.link.rx p).coms = 0 →
    (leads (.portAlign l (List.replicate 2 (pos, BitVec.ofNat 10 (comma inv)))) s fun x =>
      x.dev.portState p = 1 ∧ x.dev.regs = s.dev.regs ∧ s.sameMem x) ∧
    leads (.portAlign l (List.replicate 3 (pos, BitVec.ofNat 10 (comma inv)))) s fun x =>
      x.dev.portState p = 2 ∧ x.dev.flag (F.LINK_PORT_STS_RX_INV p) = inv ∧
      (tget x.dev.link.rx p).errRun = 0 ∧ s.dev.sameRegs x.dev [R.LINK_PORT_STS p] ∧ s.sameMem x) ∧
  (∀ (r : LaneRx) (g : Nat) (rd : Bool), r.inv = false → decode10 r.rd g = some rd → 3 ≤ r.okRun → (r.track g).1.errRun = 0) ∧
  (∀ (s : State) (p : Fin 8) (l : Fin 10) (g : BitVec 10), l.val = p.val → 2 ≤ s.dev.portState p →
    (∀ rd, decode10 rd g.toNat = none ∧ decode10 rd (1023 - g.toNat) = none) → (tget s.dev.link.rx p).errRun = 0 →
    leads (.alignLoss l (List.replicate 4 g)) s fun x => x.dev.portState p = 1 ∧
      x.dev.get (F.LINK_PORT_CNT0_CODE_ERR p) = min (s.dev.get (F.LINK_PORT_CNT0_CODE_ERR p) + 4) 0xFFFF ∧
      x.dev.get (F.LINK_PORT_CNT0_ALIGN_LOSS p) = min (s.dev.get (F.LINK_PORT_CNT0_ALIGN_LOSS p) + 1) 0xFFFF ∧
      x.dev.flag (F.LINK_PORT_EVT_ALIGN_LOSS_EVT p) = true ∧
      s.dev.sameRegs x.dev [R.LINK_PORT_STS p, R.LINK_PORT_CNT0 p, R.LINK_PORT_EVT p, R.SYS_FAULT_EVT] ∧ s.sameMem x) ∧
  (∀ (s : State) (p : Fin 8) (w : Word), s.dev.host.recovery = true → answers (.portModeWrite p w) s s) ∧
  (∀ (s : State) (p : Fin 8) (w : Word), s.dev.host.recovery = false → w.toNat % 4 ≠ 1 → leads (.portModeWrite p w) s fun x =>
    x.dev.portState p = 0 ∧ x.dev.get (F.LINK_PORT_CTL_MODE p) = w.toNat % 4 ∧
    s.dev.sameRegs x.dev [R.LINK_PORT_CTL p, R.LINK_PORT_STS p, R.LINK_PORT_EVT p, R.SYS_FAULT_EVT] ∧ s.sameMem x) ∧
  (∀ (s : State) (l : Fin 10) (pos : Fin 10) (inv : Bool), 8 ≤ l.val → s.dev.host.recovery = false → bitOf s.dev.red.lanes (l - 8) = false →
    (tget s.dev.link.rx l).coms = 0 → leads (.portAlign l (List.replicate 3 (pos, BitVec.ofNat 10 (comma inv)))) s fun x =>
      bitOf x.dev.red.lanes (l - 8) = true ∧ x.dev.flag F.RED_STS_LINK_UP = (x.dev.red.lanes == 3) ∧ s.sameMem x) ∧
  ∀ (s : State) (l : Fin 10) (g : BitVec 10), 8 ≤ l.val → bitOf s.dev.red.lanes (l - 8) = true →
    (∀ rd, decode10 rd g.toNat = none ∧ decode10 rd (1023 - g.toNat) = none) → (tget s.dev.link.rx l).errRun = 0 →
    leads (.alignLoss l (List.replicate 4 g)) s fun x => bitOf x.dev.red.lanes (l - 8) = false ∧
      x.dev.flag F.RED_STS_LINK_UP = (x.dev.red.lanes == 3) ∧ s.sameMem x) ∧
  (
  (∀ (s : State) (n : Fin 10), s.dev.host.recovery = false → s.dev.flag (F.LINK_PRBS_CTL_CHK_EN n) = false → leads (.prbsChkEnable n) s fun x =>
    x.dev.flag (F.LINK_PRBS_CTL_CHK_EN n) = true ∧ x.dev.rd (R.LINK_PRBS_ERR n) = 0 ∧ x.dev.get64 (R.LINK_PRBS_BITS_LO n) = 0 ∧
    x.dev.flag (F.LINK_PRBS_STS_LOCK n) = false ∧
    s.dev.sameRegs x.dev [R.LINK_PRBS_CTL n, R.LINK_PRBS_ERR n, R.LINK_PRBS_BITS_LO n, R.LINK_PRBS_BITS_HI n, R.LINK_PRBS_STS n] ∧
    s.sameMem x) ∧
  (∀ (s : State) (n : Fin 10), s.dev.host.recovery = false → s.dev.red.txOff = false → s.dev.flag (F.LINK_PRBS_CTL_GEN_EN n) = true → s.dev.prbsActs n = true → leads (.prbsInj n) s fun x =>
    x.dev.flag (F.LINK_PRBS_CTL_INJ n) = false ∧ x.dev.link.prbsInj = n.val :: s.dev.link.prbsInj ∧
    (tget x.dev.link.prbs n).sent = [xor ((tget x.dev.link.prbs n).gen.getD 0 false) (!s.dev.flag (F.LINK_PRBS_CTL_INV n))] ∧
    s.dev.sameRegs x.dev [R.LINK_PRBS_CTL n] ∧ s.sameMem x) ∧
  (∀ (s : State) (p : Fin 8), s.dev.host.recovery = false → s.dev.get (F.LINK_PORT_CTL_MODE p) = 1 → s.dev.red.txOff = false →
    (s.dev.portState p = 0 → (tget s.dev.link.ports p).signal = false) → leads (.injCode p) s fun x =>
    x.dev.flag (F.LINK_PORT_CTL_INJ_CODE p) = false ∧ x.dev.get (F.LINK_PORT_CTL_MODE p) = 1 ∧
    (tget x.dev.link.ports p).line.getLast? = some LineSym.invalid ∧
    s.dev.sameRegs x.dev [R.LINK_PORT_CTL p] ∧ s.sameMem x) ∧
  (∀ (s : State) (p : Fin 8), s.dev.host.recovery = false → s.dev.get (F.LINK_PORT_CTL_MODE p) = 1 →
    (s.dev.portState p = 0 → (tget s.dev.link.ports p).signal = false) → leads (.injCrc p) s fun x =>
    x.dev.flag (F.LINK_PORT_CTL_INJ_CRC p) = true ∧ x.dev.get (F.LINK_PORT_CTL_MODE p) = 1 ∧
    s.dev.sameRegs x.dev [R.LINK_PORT_CTL p] ∧ s.sameMem x) ∧
  ∀ (s : State) (n : Fin 10) (b : Bool), s.dev.flag (F.LINK_PRBS_CTL_CHK_EN n) = true → s.dev.prbsActs n = true →
    let q := tget s.dev.link.prbs n
    let pat := s.dev.get (F.LINK_PRBS_CTL_PATTERN n)
    let want := xor (prbsNext pat q.chk) (s.dev.flag (F.LINK_PRBS_CTL_INV n))
    let errs := (((want != b) :: q.win).take 1024).filter id
    (s.dev.flag (F.LINK_PRBS_STS_LOCK n) = false → (prbsTaps pat).1 ≤ q.chk.length → b = want → leads (.prbsLock ⟨n, [b]⟩) s fun x =>
      x.dev.flag (F.LINK_PRBS_STS_LOCK n) = decide (63 ≤ q.run) ∧ (63 ≤ q.run → x.dev.flag (F.LINK_PRBS_STS_LOCK_EVT n) = true) ∧
      (q.run < 63 → (tget x.dev.link.prbs n).run = q.run + 1) ∧
      (s.dev.flag (F.LINK_PRBS_CTL_INJ n) = false → x.dev.rd (R.LINK_PRBS_CTL n) = s.dev.rd (R.LINK_PRBS_CTL n)) ∧
      s.dev.sameRegs x.dev [R.LINK_PRBS_CTL n, R.LINK_PRBS_STS n, R.SYS_FAULT_EVT] ∧ s.sameMem x) ∧
    (s.dev.flag (F.LINK_PRBS_STS_LOCK n) = true → leads (.prbsLockLoss n [] [b]) s fun x =>
      x.dev.get64 (R.LINK_PRBS_BITS_LO n) = (s.dev.get64 (R.LINK_PRBS_BITS_LO n) + 1) % 2 ^ 64 ∧
      x.dev.get (F.LINK_PRBS_ERR_ERR n) = min (s.dev.get (F.LINK_PRBS_ERR_ERR n) + b2n (want != b)) (2 ^ 32 - 1) ∧
      x.dev.flag (F.LINK_PRBS_STS_LOCK n) = decide (errs.length < 32) ∧
      (32 ≤ errs.length → x.dev.flag (F.LINK_PRBS_STS_LOCK_LOSS_EVT n) = true) ∧
      (tget x.dev.link.prbs n).sent.length = b2n (s.dev.flag (F.LINK_PRBS_CTL_GEN_EN n) && !s.dev.red.txOff) ∧
      (s.dev.flag (F.LINK_PRBS_CTL_INJ n) = false → x.dev.rd (R.LINK_PRBS_CTL n) = s.dev.rd (R.LINK_PRBS_CTL n)) ∧
      s.dev.sameRegs x.dev [R.LINK_PRBS_CTL n, R.LINK_PRBS_STS n, R.LINK_PRBS_ERR n, R.LINK_PRBS_BITS_LO n, R.LINK_PRBS_BITS_HI n, R.SYS_FAULT_EVT] ∧
      s.sameMem x))

/-- O19. An egress port sends, holds one frame or drops it, delay frames first; a frame that arrives is checked before anything acts on it (R130, R132, R125, R127, R128) -/
def Obligations.QueueAndAcceptance : Prop :=
  (
  (∀ (d : Dev) (p : Fin 8) (it : EgrItem) (t : Nat), let q := tget d.link.ports p
    let free := q.busyUntil ≤ t ∧ q.buf = none ∧ q.dq = []
    let x := d.egressAt p it t
    (free → x = d.letOut p it t) ∧
    (¬ free → d.egressBehind p it = none → q.buf = none → x = d.modPort p fun q => { q with buf := some it }) ∧
    (∀ b, ¬ free → d.egressBehind p it = none → q.buf = some b →
      (tget x.link.ports p).buf = some (if it.sof = b.sof ∧ it.rank < b.rank then it else b) ∧
      x.get (F.LINK_PORT_CNT2_EGR_DROP p) = min (d.get (F.LINK_PORT_CNT2_EGR_DROP p) + 1)
        (2 ^ ((F.LINK_PORT_CNT2_EGR_DROP p).hi + 1 - (F.LINK_PORT_CNT2_EGR_DROP p).lo) - 1) ∧
      x.flag (F.LINK_PORT_EVT_DROP_EVT p) = true ∧
      d.sameRegs x [R.LINK_PORT_CNT2 p, R.LINK_PORT_EVT p, R.SYS_FAULT_EVT]) ∧
    (∀ c t0 inj, ¬ free → q.cur = some (c, t0, inj) → it.sof = c.sof → it.rank < c.rank → q.buf = none → d.red.txOff = false →
      (tget x.link.ports p).buf = some c ∧ ∃ i, (tget x.link.ports p).cur = some (it, t0, i))) ∧
  (∀ (s : State) (p : Fin 8) (it : EgrItem) (r : List EgrItem), (tget s.dev.link.ports p).dq = it :: r →
    let t := max (tget s.dev.link.ports p).busyUntil s.dev.nowPs.toNat
    answers (.egressSend p) s (s.upd fun d => ((d.runToPs t).modPort p fun q => { q with dq := r }).letOut p it t)) ∧
  (∀ (s : State) (p : Fin 8) (it : EgrItem), (tget s.dev.link.ports p).dq = [] → (tget s.dev.link.ports p).buf = some it →
    let t := max (max (tget s.dev.link.ports p).busyUntil s.dev.nowPs.toNat) (tget s.dev.link.ports p).hold
    let y := (s.dev.runToPs t).modPort p fun q => { q with buf := none, hold := 0 }
    ((it.own = false ∨ s.dev.guardian it.frame = true) → answers (.egressSend p) s (s.upd fun _ => y.letOut p it t)) ∧
    (it.own = true → s.dev.guardian it.frame = false → answers (.egressSend p) s (s.upd fun _ => y))) ∧
  (∀ s : State, s.dev.host.recovery = true → answers .delayReqSend s (s.upd (Dev.runInCycle (s.dev.time.tb - 2250)))) ∧
  (∀ s : State, s.dev.host.recovery = false → leads .delayReqSend s fun x =>
    let y := s.dev.runTo (s.dev.time.cycStart + (s.dev.time.tb - 2250))
    x.dev.time = y.time ∧
    (∀ p : Fin 8, 2 ≤ s.dev.portState p → let q := tget s.dev.link.ports p
      let z := tget x.dev.link.ports p
      let hello := if y.time.cycno % 256 = 0 then 1 else 0
      z.dlyMiss = q.dlyMiss + 1 ∧ z.buf = q.buf ∧
      (q.busyUntil ≤ y.nowPs.toNat → q.dq = [] → s.dev.red.txOff = false → z.out.map Frame.typ = some 10 ∧ z.reqT1.isSome = true ∧
        z.dq.length = hello ∧ z.dq.all (fun it => isHello it.frame) = true) ∧
      (y.nowPs.toNat < q.busyUntil ∨ q.dq ≠ [] → z.out = q.out ∧ z.reqT1 = q.reqT1 ∧ z.dq.take q.dq.length = q.dq ∧
        z.dq.length = q.dq.length + 1 + hello ∧ (z.dq[q.dq.length]?).map (fun it => it.frame.typ) = some 10)) ∧
    (∀ p : Fin 8, s.dev.portState p < 2 → tget x.dev.link.ports p =
      { tget s.dev.link.ports p with dlyMiss := (tget s.dev.link.ports p).dlyMiss + 1 }) ∧ s.sameMem x) ∧
  (∀ (s : State) (p : Fin 8), answers (.delayRspTimeout p) s (s.upd (Dev.modPort p fun q => { q with reqT1 := none }))) ∧
  ∀ (s : State) (p : Fin 8), s.dev.flag (F.LINK_PORT_STS_DLY_VALID p) = true → 8 ≤ (tget s.dev.link.ports p).dlyMiss →
    leads (.dlyValidLoss p) s fun x => x.dev.flag (F.LINK_PORT_STS_DLY_VALID p) = false ∧
      (s.dev.portState p = 3 → x.dev.portState p = 2) ∧ (s.dev.portState p ≠ 3 → x.dev.portState p = s.dev.portState p) ∧
      s.dev.sameRegs x.dev [R.LINK_PORT_STS p, R.LINK_PORT_EVT p, R.SYS_FAULT_EVT] ∧ s.sameMem x) ∧
  (
  ∀ (d : Dev) (p : Fin 8) (f : Frame) (stamp : Nat), d.sstate < 3 →
    (d.portState p < 2 → d.frameIn p f stamp = (d.runToPs stamp, false)) ∧
    (d.portState p = 3 → f.headOk = false → (d.frameIn p f stamp).2 = false ∧
      (d.frameIn p f stamp).1 = (((d.runToPs stamp).frameGroups p f).cnt (F.LINK_PORT_CNT1_HCRC_ERR p)).event0 (F.LINK_PORT_EVT_CRC_EVT p)) ∧
    (d.portState p = 3 → f.headOk = true → f.typ = 0 ∨ 12 ≤ f.typ → (d.frameIn p f stamp).2 = false ∧
      (d.frameIn p f stamp).1 = (((d.runToPs stamp).frameGroups p f).cnt (F.LINK_PORT_CNT3_UNROUTABLE p)).event0 (F.LINK_PORT_EVT_DROP_EVT p)) ∧
    (2 ≤ d.portState p → f.headOk = true → f.typ = 10 → f.good = true →
      (d.frameIn p f stamp).2 = true ∧ (d.frameIn p f stamp).1.regs = d.regs) ∧
    (3 ≤ f.typ → f.typ ≤ 7 → (d.frameIn p f stamp).2 = false) ∧
    (d.portState p = 3 → f.headOk = true → f.typ = 1 ∨ f.typ = 2 ∨ f.typ = 9 ∨ f.typ = 11 ∨ (f.typ = 8 ∧ f.stream = 0) → f.good = true →
      d.route f = some (true, []) → (d.frameIn p f stamp).2 = true ∧ (d.frameIn p f stamp).1.regs = d.regs))

/-- O20. Delay measurements are filtered, the eighth outlier in a row taken; discovery probes, reports and ends with a result of Table 5.9 (R133, R136, R137) -/
def Obligations.DelayAndDiscovery : Prop :=
  (
  ∀ (d : Dev) (p : Fin 8) (v : Int),
    let q := tget d.link.ports p
    let dl := d.gets (F.LINK_PORT_DLY_DELAY p)
    let e := d.dlySample p v
    (v < 0 ∨ 400000 < v → e.flag (F.LINK_PORT_STS_DLY_VALID p) = false ∧ (tget e.link.ports p).dlyCount = 0 ∧
      e.flag (F.LINK_PORT_EVT_DLY_RANGE_EVT p) = true ∧ e.gets (F.LINK_PORT_DLY_DELAY p) = dl) ∧
    (0 ≤ v → v ≤ 400000 → q.dlyCount = 0 → e.gets (F.LINK_PORT_DLY_DELAY p) = v ∧ (tget e.link.ports p).dlyCount = 1) ∧
    (0 ≤ v → v ≤ 400000 → 0 < q.dlyCount → 0 ≤ dl → dl ≤ 400000 → (v - dl).natAbs ≤ 2000 →
      e.gets (F.LINK_PORT_DLY_DELAY p) = dl + (v - dl).fdiv 8 ∧ (tget e.link.ports p).dlyCount = q.dlyCount + 1 ∧
      (tget e.link.ports p).dlyOut = 0 ∧ (3 ≤ q.dlyCount → e.flag (F.LINK_PORT_STS_DLY_VALID p) = true)) ∧
    (0 ≤ v → v ≤ 400000 → 0 < q.dlyCount → 2000 < (v - dl).natAbs → q.dlyOut + 1 ≠ 8 →
      e.gets (F.LINK_PORT_DLY_DELAY p) = dl ∧ (tget e.link.ports p).dlyOut = q.dlyOut + 1 ∧
      (tget e.link.ports p).dlyCount = q.dlyCount) ∧
    (0 ≤ v → v ≤ 400000 → 0 < q.dlyCount → 2000 < (v - dl).natAbs → q.dlyOut + 1 = 8 →
      e.gets (F.LINK_PORT_DLY_DELAY p) = v ∧ (tget e.link.ports p).dlyOut = 0 ∧ (tget e.link.ports p).dlyCount = 1 ∧
      e.flag (F.LINK_PORT_STS_DLY_VALID p) = false)) ∧
  (
  (∀ s : State, s.dev.flag F.LINK_STS_ROOT = true → s.dev.phase = 1 → s.dev.link.disc.conflict = false →
    answers .discoveryStart s (s.upd fun d => (d.modDisc fun x => { x with
      running := true, graph := [⟨d.link.serial, 0x960, [], d.ownLinks, [], 0, none⟩], todo := [], abandoned := [], wait := .idle }).discProbe)) ∧
  (∀ s : State, s.dev.flag F.LINK_STS_ROOT = true → s.dev.phase = 1 → s.dev.link.disc.conflict = false →
    s.dev.link.disc.running = false → s.dev.get F.LINK_DISC_EVT_DISC_RESULT ≠ 0 →
    answers .discoveryRepeat s (s.upd fun d => (d.modDisc fun x => { x with
      running := true, graph := [⟨d.link.serial, 0x960, [], d.ownLinks, [], 0, none⟩], todo := [], abandoned := [], wait := .idle }).discProbe)) ∧
  (∀ s : State, s.dev.link.disc.running = true → s.dev.link.disc.attempts < 3 →
    answers .discRetryTimeout s (s.upd fun d => (d.modDisc fun x => { x with attempts := x.attempts + 1 }).discSend)) ∧
  (∀ (s : State) (ser : Nat) (path ret : List Nat) (e : Nat), s.dev.link.disc.running = true → 3 ≤ s.dev.link.disc.attempts →
    s.dev.link.disc.wait = .probe ser path ret e →
    answers .discRetryTimeout s (s.upd fun d => (d.modDisc fun x => { x with abandoned := ser :: x.abandoned, wait := .idle }).discProbe)) ∧
  (∀ (d : Dev) (p : Fin 8) (f : Frame),
    (d.flag F.LINK_STS_ROOT = false → ∃ ws : List Word, ws.length = 32 ∧ d.probeIn p f =
      d.discReply p f 3 ([0x960, BitVec.ofNat 32 d.link.serial, BitVec.ofNat 32 (d.link.serial / 2 ^ 32)] ++ ws) ∧
      ∀ n < 8, ws.getD (4 * n) 0 = BitVec.ofNat 32 (d.portState n)) ∧
    (d.flag F.LINK_STS_ROOT = true → d.phase = 1 → d.probeIn p f = d.discEnd 4 0 ∧ (d.probeIn p f).link.disc.conflict = true) ∧
    (d.flag F.LINK_STS_ROOT = true → d.tableIn p f = d ∧ d.commitIn p f = (d, false)) ∧
    (d.link.disc.conflict = true → d.discStart = d)) ∧
  (∀ (d : Dev) (f : Frame) (ser : Nat) (path ret : List Nat) (e : Nat), d.link.disc.wait = .probe ser path ret e →
    d.link.disc.running = true → bitsOf (f.w 0) 7 0 = d.link.disc.tag → ∃ n : GNode, n.serial = f.w 8 + 2 ^ 32 * f.w 9 ∧
      n.member = f.w 7 % 2 ^ 16 ∧ n.path = path ∧ n.links = reportLinks f ∧
      d.reportIn f = (d.modDisc fun x => { x with graph := x.graph ++ [n], wait := .idle }).discProbe) ∧
  (∀ d : Dev, let at' := fun (e : NodeEntry) => d.link.disc.graph.find? (fun n => n.path == e.path)
    (∀ e, d.link.cfg.nodes.find? (fun e => e.required && (at' e).isNone) = some e → d.discAssign = d.discEnd 1 e.id) ∧
    (∀ e n, (∀ x ∈ d.link.cfg.nodes, x.required = true → (at' x).isSome = true) →
      d.link.cfg.nodes.find? (fun e => match at' e with | some n => n.member != e.member | none => false) = some e → at' e = some n →
      n.member ≠ e.member ∧ d.discAssign = d.discEnd 2 e.id) ∧
    (d.link.disc.todo = [] → (d.discNextNode).get F.LINK_DISC_EVT_DISC_RESULT = 0 ∧ d.discNextNode.phase = 2 ∧
      d.discNextNode.idValid = true ∧ d.discNextNode.nodeId = 0 ∧ d.discNextNode.flag F.LINK_DISC_EVT_DISC_DONE_EVT = true)) ∧
  (∀ (d : Dev) (f : Frame) (id : Nat), d.link.disc.running = true → bitsOf (f.w 0) 7 0 = d.link.disc.tag →
    (d.link.disc.wait = .commit id ∨ ∃ part, d.link.disc.wait = .table id part) → d.nackIn f = d.discEnd 5 id) ∧
  ∀ (d : Dev) (code id : Nat), code < 6 → id < 32 → let x := d.discEnd code id
    x.get F.LINK_DISC_EVT_DISC_RESULT = code ∧ x.get F.LINK_DISC_EVT_DISC_DETAIL = id ∧ x.link.disc.running = false ∧ x.phase = d.phase ∧
    (code = 0 → x.flag F.LINK_DISC_EVT_DISC_DONE_EVT = true) ∧ (code ≠ 0 → x.flag F.LINK_DISC_EVT_DISC_FAIL_EVT = true) ∧
    (code = 4 → x.flag F.LINK_DISC_EVT_ROOT_CONFLICT_EVT = true) ∧ d.sameRegs x [R.LINK_DISC_EVT, R.SYS_FAULT_EVT])

/-- O21. A frame delivered here acts by its TYPE, SUB, OP and stream (R127, R128, R132, R136, R99, R154, R157) -/
def Obligations.FramesDelivered : Prop :=
  ∀ (s : State) (p : Fin 8) (f : Frame) (stamp : Nat) (d : Dev),
    (s.dev.frameIn p f stamp = (d, false) → answers (.frameReceive p f stamp) s { s with dev := d }) ∧
    (s.dev.frameIn p f stamp = (d, true) →
      answers (.frameReceive p f stamp) s (State.deliver p f stamp { s with dev := d }) ∧
      (f.typ = 10 → answers (.delayReqReceive p f stamp) s { s with dev := d.delayFrame p f stamp } ∧
        answers (.delayRspReceive p f stamp) s { s with dev := d.delayFrame p f stamp }) ∧
      (isHello f = true → answers (.helloReceive p f stamp) s { s with dev := d.helloIn p f }) ∧
      (f.typ = 9 → bitsOf (f.w 0) 15 8 = 2 → answers (.probeReceive p f stamp) s { s with dev := d.probeIn p f }) ∧
      (f.typ = 9 → bitsOf (f.w 0) 15 8 = 3 → answers (.reportReceive p f stamp) s { s with dev := d.reportIn f }) ∧
      (f.typ = 9 → bitsOf (f.w 0) 15 8 = 4 → answers (.tableReceive p f stamp) s { s with dev := d.tableIn p f }) ∧
      (f.typ = 9 → bitsOf (f.w 0) 15 8 = 5 → answers (.commitReceive p f stamp) s { s with dev := d.commitFrame p f }) ∧
      (f.typ = 9 → bitsOf (f.w 0) 15 8 = 6 → answers (.discAckReceive p f stamp) s { s with dev := d.ackIn f }) ∧
      (f.typ = 9 → bitsOf (f.w 0) 15 8 = 7 → answers (.discNackReceive p f stamp) s { s with dev := d.nackIn f }) ∧
      (f.typ = 1 → f.stream = 0xFFFF → answers (.syncReceive p f stamp) s { s with dev := d.syncIn p f stamp }) ∧
      (f.typ = 1 → f.stream = 0xFFFE → answers (.echoReceive p f stamp) s { s with dev := d.echoIn f }) ∧
      (f.typ = 2 → answers (.dawnReceive p f stamp) s { s with dev := d.dawnIn f }) ∧
      (f.typ = 3 → answers (.feedbackReceive p f stamp) s { s with dev := d.feedbackIn f }))

/-- O22. A COMMIT after five TABLE parts records the peers, makes the ID valid and enters LOAD (R136) -/
def Obligations.CommitAssignsNode : Prop :=
  ∀ (d : Dev) (p : Fin 8) (f : Frame),
    (d.flag F.LINK_STS_ROOT = false → d.phase = 1 → d.link.tblGot = 31 → d.link.cfg.nodeId = none →
      (d.commitIn p f).2 = true ∧
      (let e := (d.commitIn p f).1
       e.nodeId = f.w 7 % 32 ∧ e.idValid = true ∧ e.phase = 2 ∧ e.flag F.LINK_DISC_EVT_DISC_DONE_EVT = true ∧
       ∀ q : Fin 8, (tget e.link.ports q).recorded = (tget d.link.ports q).peer.map fun x => (x.2.1, x.2.2.1))) ∧
    (d.link.tblGot ≠ 31 → (d.commitIn p f).2 = false ∧
      (let e := (d.commitIn p f).1
       e.nodeId = d.nodeId ∧ e.idValid = d.idValid ∧ e.phase = d.phase))

/-- O23. A node moves between the states of Table 6.8 on its timers and counts (R155, R156, R157, R160) -/
def Obligations.ScheduleStates : Prop :=
  (∀ s : State, s.dev.idValid = true → s.dev.phase = 2 → s.dev.sstate = 0 → 8 ≤ s.dev.get F.CFG_BOOT_STS_STAGE →
    checkTables s.dev.link.cfg s.dev.nodeId = none → leads .enterListen s fun x =>
      x.dev.sstate = 1 ∧ x.dev.link.listenTimer = 2 * s.dev.time.tb + 1000 * s.dev.nodeId ∧
      x.dev.link.listenFrom = s.dev.nowNs ∧ x.dev.link.dawns = [] ∧
      s.dev.sameRegs x.dev [R.LINK_SCHED_STS, R.TIME_SERVO_STS, R.TIME_SERVO_EVT, R.SYS_FAULT_EVT] ∧ s.sameMem x) ∧
  (∀ s : State, s.dev.sstate = 1 → s.dev.link.cfg.coldstart.contains s.dev.nodeId = true → s.dev.link.dawns = [] →
    leads .listenTimerExpire s fun x => x.dev.sstate = 2 ∧ x.dev.link.dawnSent = s.dev.link.dawnSent + 1 ∧
      x.dev.time = (s.dev.runTo (s.dev.link.listenFrom + s.dev.link.listenTimer)).time ∧
      x.dev.link.dawnEnd = x.dev.nowNs + 2 * s.dev.time.tb ∧ s.sameMem x) ∧
  (∀ (s : State) (n t : Nat) (r : List (Nat × Nat)), s.dev.link.dawns = (n, t) :: r → s.dev.sstate = 1 →
    answers .dawnWaitTimeout s (s.upd fun d =>
      let y := d.runTo (t + 4 * d.time.tb)
      { y with link := { y.link with dawns := [], listenTimer := (y.nowNs - d.link.listenFrom) + (2 * d.time.tb + 1000 * d.nodeId) } })) ∧
  (∀ s : State, s.dev.sstate = 2 → leads .dawnWindowEnd s fun x => x.dev.link.becomeZenith = true ∧ x.dev.sstate = 2 ∧
    x.dev.time = (s.dev.runTo s.dev.link.dawnEnd).time ∧ x.dev.regs = s.dev.regs ∧ s.sameMem x) ∧
  (∀ s : State, s.dev.sstate = 1 → s.dev.link.noSyncDone = false → leads .noSyncTimeout s fun x =>
    x.dev.flag F.LINK_SCHED_EVT_NO_SYNC_EVT = true ∧ x.dev.link.noSyncDone = true ∧ x.dev.sstate = 1 ∧
    s.dev.sameRegs x.dev [R.LINK_SCHED_EVT, R.SYS_FAULT_EVT] ∧ s.sameMem x) ∧
  (∀ s : State, s.dev.sstate = 3 → 16 ≤ s.dev.link.integCycles → leads .integrationTimeout s fun x => x.dev.sstate = 1 ∧
    x.dev.get F.LINK_SCHED_CNT2_SILENCE = s.dev.get F.LINK_SCHED_CNT2_SILENCE ∧ s.sameMem x) ∧
  (∀ s : State, s.dev.sstate = 4 → s.dev.link.cfg.holdMax ≤ s.dev.get F.LINK_SCHED_STS_MISS_RUN → leads .holdMaxSilence s fun x =>
    x.dev.sstate = 1 ∧ x.dev.flag F.LINK_SCHED_EVT_SILENCE_EVT = true ∧
    x.dev.get F.LINK_SCHED_CNT2_SILENCE = min (s.dev.get F.LINK_SCHED_CNT2_SILENCE + 1)
      (2 ^ (F.LINK_SCHED_CNT2_SILENCE.hi + 1 - F.LINK_SCHED_CNT2_SILENCE.lo) - 1) ∧ s.sameMem x) ∧
  ∀ (s : State) (k : Nat), s.dev.rank = some k → s.dev.sstate = 4 → 4 + 2 * k ≤ s.dev.get F.LINK_SCHED_STS_MISS_RUN →
    leads .zenithSuccession s fun x => x.dev.link.succ = true ∧ x.dev.regs = s.dev.regs ∧ x.dev.time = s.dev.time ∧ s.sameMem x

/-- O24. A stream ages and is declared lost; slots go out; a mode change is proposed, agreed and made (R162, R163, R164, R13, R151, R152, R153, R165, R166, R167) -/
def Obligations.StreamsSlotsModes : Prop :=
  (
  (∀ (s : State) (i : Fin 512) (e : Slot) (k j : Nat), s.dev.slots.find? (fun x => x.2 == i.val) = some (e, k) → e.tx = false → e.dlv = true →
    slotActive s.dev.zenithId e = true → s.dev.link.closed.contains i.val = false → 4 ≤ s.dev.sstate → s.dev.link.goods.contains (i.val, s.dev.closeCyc e) = false →
    s.dev.link.cfg.rx.findIdx? (fun x => x.stream == e.stream) = some j →
    s.dev.link.cfg.rx.findIdx? (fun x => x.typ == 7 && x.stream == e.stream) = none →
    leads (.windowClose i) s fun x =>
      x.dev.get (F.LINK_STRM_AGE j) = min 255 (s.dev.get (F.LINK_STRM_AGE j) + 1) ∧ x.dev.flag (F.LINK_STRM_STALE j) = true ∧
      x.dev.flag (F.LINK_STRM_VALID j) = s.dev.flag (F.LINK_STRM_VALID j) ∧ x.dev.link.closed = i.val :: s.dev.link.closed ∧
      s.dev.sameRegs x.dev [R.LINK_STRM j] ∧ s.sameMem x) ∧
  (∀ (s : State) (j : Fin 256) (t : RxStream), s.dev.link.cfg.rx[j.val]? = some t → t.typ = 3 → s.dev.ageOver j = true →
    s.dev.flag (F.LINK_STRM_FAULT j) = false → leads (.ageFault j) s fun x =>
      x.dev.flag (F.LINK_STRM_FAULT j) = true ∧ x.dev.flag F.LINK_SCHED_EVT_AGE_FAULT_EVT = true ∧
      (∃ r ∈ x.dev.faults, r.kind = FaultKind.streamAge ∧ r.idx = j.val ∧ r.cls = 3 ∧ r.cause = true) ∧ s.sameMem x) ∧
  ∀ (d : Dev) (st j : Nat) (b : List Word), d.link.cfg.rx.findIdx? (fun x => x.stream == st) = some j →
    let e := d.streamGood st b
    e.get (F.LINK_STRM_AGE j) = 0 ∧ e.flag (F.LINK_STRM_STALE j) = false ∧ e.flag (F.LINK_STRM_VALID j) = true ∧
    e.flag (F.LINK_STRM_FAULT j) = false ∧ tget e.link.bufs j = b ∧ d.sameRegs e [R.LINK_STRM j]) ∧
  (
  (∀ (s : State) (i : Fin 512) (e : Slot), s.dev.txSlot i = some e → e.kind = 1 → s.dev.sstate = 5 →
    answers (.slotTx i) s (s.upd fun d => let y := d.atStart i e; y.slotSend e 1 y.syncBody .tsync)) ∧
  (∀ (s : State) (i : Fin 512) (e : Slot), s.dev.txSlot i = some e → e.kind = 2 → s.dev.sstate = 4 →
    answers (.slotTx i) s (s.upd fun d => let y := d.atStart i e; y.slotSend e 1 y.echoBody .plain)) ∧
  (∀ (s : State) (i : Fin 512) (e : Slot) (t : TxStream) (b : List Word) (d : Dev), s.dev.txSlot i = some e → e.kind = 0 →
    s.dev.link.cfg.tx.find? (fun x => x.stream == e.stream) = some t → (s.dev.atStart i e).slotBody e t = (some b, d) →
    answers (.slotTx i) s { s with dev := d.slotSend e t.typ b .plain }) ∧
  (∀ (s : State) (p : Port) (w : Word), s.dev.proposeOk w = true → bitOf w.toNat 0 = true → leads (.modePropose p w) s fun x =>
    x.dev.get F.LINK_MODE_STS_PROP_MODE = bitsOf w.toNat 2 1 ∧ x.dev.get F.LINK_MODE_STS_PROP_STATE = 1 ∧
    x.dev.rd R.LINK_MODE_ACC = 0 ∧ x.dev.rd R.LINK_MODE_EXP = 0 ∧
    x.dev.link.propCyc = (s.dev.rd R.LINK_MODE_CYC).toNat ∧
    s.dev.sameRegs x.dev [R.LINK_MODE_REQ, R.LINK_MODE_STS, R.LINK_MODE_ACC, R.LINK_MODE_EXP] ∧ s.sameMem x) ∧
  (∀ (s : State) (p : Port) (w : Word), s.dev.sstate ≠ 5 → answers (.modePropose p w) s (s.upd (Dev.illegal p R.LINK_MODE_REQ))) ∧
  (∀ (d : Dev) (f : Frame), let st := bitsOf (f.w 0) 6 5
    let m := bitsOf (f.w 0) 4 3
    let c := f.w 9
    let x := d.propSync f
    x.get F.LINK_MODE_STS_PROP_STATE = st ∧ x.get F.LINK_MODE_STS_PROP_MODE = m ∧
    (st = 1 → d.sstate = 4 → d.holdsMode m = true → 3 ≤ cycDist d.time.cycno c → x.link.acc = some (m, c)) ∧
    (st = 1 → d.link.acc ≠ some (m, c) → (d.sstate ≠ 4 ∨ d.holdsMode m = false ∨ cycDist d.time.cycno c < 3) →
      x.link.acc = none ∧ x.link.conf = none) ∧
    (st = 1 → d.link.acc = some (m, c) → x.link = d.link) ∧
    (st = 2 → x.link.acc = none ∧ x.link.conf = some (m, c)) ∧ (st = 3 → x.link.acc = none ∧ x.link.conf = none) ∧
    (st = 0 → x.link = d.link)) ∧
  (∀ (d : Dev) (c : Nat), d.get F.LINK_MODE_STS_PROP_STATE = 1 → d.link.propSent = some c → 2 ≤ cycDist c d.time.cycno →
    let miss := fun n => bitOf (d.rd R.LINK_MODE_EXP).toNat n = true ∧ bitOf (d.rd R.LINK_MODE_ACC).toNat n = false
    let x := d.propCycle
    ((∀ n < 32, ¬ miss n) → x.get F.LINK_MODE_STS_PROP_STATE = 2 ∧ d.sameRegs x [R.LINK_MODE_STS]) ∧
    ((∃ n < 32, miss n) → x.get F.LINK_MODE_STS_PROP_STATE = 3 ∧ x.link.propSent = none ∧ x.flag F.LINK_SCHED_EVT_MODE_VOID_EVT = true ∧
      ((∀ n < 32, miss n → bitOf d.link.declined n = true) → x.get F.LINK_MODE_STS_VOID_REASON = 4) ∧
      ((∃ n < 32, miss n ∧ bitOf d.link.declined n = false) → x.get F.LINK_MODE_STS_VOID_REASON = 3))) ∧
  (∀ (d : Dev) (m : Nat), m < 4 → d.link.conf = some (m, d.time.cycno) → let x := d.followCycle
    x.get F.LINK_SCHED_STS_CUR_MODE = m ∧ x.flag F.LINK_SCHED_EVT_MODE_SWITCH_EVT = true ∧ x.link.conf = none ∧ x.link.acc = none) ∧
  ∀ (d : Dev) (m : Nat), d.link.conf = none → d.link.acc = some (m, d.time.cycno) → d.sstate = 4 → let x := d.followCycle
    x.sstate = 1 ∧ x.flag F.LINK_SCHED_EVT_SILENCE_EVT = true ∧ x.link.acc = none)

/-- O25. Quadrature edges count; the Z line, the step input, standstill and the output dividers act (R170, R171, R172, R173, R175, R178, R180, R189, R190, R191) -/
def Obligations.EncoderEvents : Prop :=
  (
  (∀ (s : State) (n : Fin 32) (a b : Bool) (clk : Nat), s.dev.chanMode n = 1 → s.dev.inPark = false → (tget s.dev.fb.chans n).clk = clk →
    let c := tget s.dev.fb.chans n
    let since := fun (l : LineF) => if l.run = 0 then clk else l.since
    let t := if a = c.a.lvl then since c.b else since c.a
    let k := (quadPos a b + 4 - quadPos c.a.lvl c.b.lvl) % 4
    let neg := (k == 3) != s.dev.flag (F.FB_QCFG_INV_DIR n)
    ((a ≠ c.a.lvl → c.a.run + 1 < s.dev.chanN n) → (b ≠ c.b.lvl → c.b.run + 1 < s.dev.chanN n) →
      leads (.quadTransition n [a] [b] clk) s fun x => x.dev.regs = s.dev.regs ∧ (tget x.dev.fb.chans n).a.lvl = c.a.lvl ∧
        (tget x.dev.fb.chans n).b.lvl = c.b.lvl ∧ s.sameMem x) ∧
    ((a ≠ c.a.lvl → s.dev.chanN n ≤ c.a.run + 1) → (b ≠ c.b.lvl → s.dev.chanN n ≤ c.b.run + 1) →
      (k = 1 ∨ k = 3 → c.latClk ≤ t → leads (.quadTransition n [a] [b] clk) s fun x =>
        x.dev.get (F.FB_QCNT_COUNT n) = uNat 32 ((s.dev.get (F.FB_QCNT_COUNT n) : Int) + (if neg then -1 else 1)) ∧
        x.dev.flag (F.FB_QSTS_DIR n) = neg ∧ x.dev.flag (F.FB_QSTS_DIR_KNOWN n) = true ∧ x.dev.flag (F.FB_QSTS_STANDSTILL n) = false ∧
        (tget x.dev.fb.chans n).a.lvl = a ∧ (tget x.dev.fb.chans n).b.lvl = b ∧ (tget x.dev.fb.chans n).last = some t ∧ s.sameMem x) ∧
      (k = 2 → s.dev.flag (F.FB_QCFG_CATCHUP n) = false → leads (.quadTransition n [a] [b] clk) s fun x =>
        x.dev.get (F.FB_QERR_QUAD_ERR n) = min (s.dev.get (F.FB_QERR_QUAD_ERR n) + 1)
          (2 ^ ((F.FB_QERR_QUAD_ERR n).hi + 1 - (F.FB_QERR_QUAD_ERR n).lo) - 1) ∧
        x.dev.flag (F.FB_QEVT_QERR_EVT n) = true ∧ x.dev.rd (R.FB_QCNT n) = s.dev.rd (R.FB_QCNT n) ∧
        x.dev.flag (F.FB_QSTS_PER_VALID n) = false ∧
        s.dev.sameRegs x.dev [R.FB_QERR n, R.FB_QEVT n, R.FB_QSTS n, R.SYS_FAULT_EVT] ∧ s.sameMem x))) ∧
  ∀ (s : State) (n : Fin 32), s.dev.inPark = false → 0 < s.dev.get (F.FB_QCFG_QERR_THR n) → s.dev.get (F.FB_QCFG_QERR_THR n) ≤ (tget s.dev.fb.chans n).cycErr →
    s.dev.flag (F.FB_QSTS_FAULT n) = false → s.dev.sourcedBy (.chan n) ≠ 0 → leads (.quadFault n) s fun x =>
      x.dev.flag (F.FB_QSTS_FAULT n) = true ∧ x.dev.flag (F.FB_QEVT_FAULT_EVT n) = true ∧
      (∃ r ∈ x.dev.faults, r.kind = FaultKind.quadErr ∧ r.idx = n.val ∧ r.cls = 3 ∧ r.axes = s.dev.sourcedBy (.chan n) ∧ r.cause = true) ∧
      s.sameMem x) ∧
  (
  (∀ (s : State) (n : Fin 32) (clk : Nat), let c := tget s.dev.fb.chans n
    s.dev.chanMode n ≠ 0 → c.zClk = clk → c.z.lvl = false → s.dev.chanN n ≤ c.z.run + 1 → leads (.zEdge (n, ⟨[true], clk⟩)) s fun x =>
    x.dev.rd (R.FB_QZCAP n) = s.dev.rd (R.FB_QCNT n) ∧ x.dev.flag (F.FB_QEVT_Z_EVT n) = true ∧
    (tget x.dev.fb.chans n).z.lvl = true ∧ s.dev.sameRegs x.dev [R.FB_QZCAP n, R.FB_QEVT n, R.SYS_FAULT_EVT] ∧ s.sameMem x) ∧
  (∀ (s : State) (n : Fin 32) (a : Bool) (clk : Nat), let c := tget s.dev.fb.chans n
    let t := if c.a.run = 0 then clk else c.a.since
    let neg := c.dirAt ((t : Int) - s.dev.get (F.FB_QCFG_DIR_SU n)) == s.dev.flag (F.FB_QCFG_INV_DIR n)
    s.dev.chanMode n = 2 → s.dev.inPark = false → c.clk = clk → a ≠ c.a.lvl → s.dev.chanN n ≤ c.a.run + 1 → c.latClk ≤ t →
      leads (.stepInputEdge n [(a, c.b.lvl)] clk) s fun x =>
        (a = s.dev.flag (F.FB_QCFG_STEP_EDGE n) → x.dev.regs = s.dev.regs) ∧
        (a ≠ s.dev.flag (F.FB_QCFG_STEP_EDGE n) →
          x.dev.get (F.FB_QCNT_COUNT n) = uNat 32 ((s.dev.get (F.FB_QCNT_COUNT n) : Int) + (if neg then -1 else 1)) ∧
          x.dev.flag (F.FB_QSTS_DIR n) = neg ∧ (tget x.dev.fb.chans n).last = some t) ∧ s.sameMem x) ∧
  (∀ (s : State) (n : Fin 32) (clk : Nat), s.dev.chanMode n ≠ 0 → s.dev.inPark = false → s.dev.flag (F.FB_QSTS_STANDSTILL n) = false →
    s.dev.stillFrom n + s.dev.stillClks n ≤ clk → leads (.standstillTimeout n clk) s fun x =>
      x.dev.flag (F.FB_QSTS_STANDSTILL n) = true ∧ x.dev.rd (R.FB_QSPD n) = 0 ∧ x.dev.flag (F.FB_QEVT_STILL_EVT n) = true ∧
      s.dev.sameRegs x.dev [R.FB_QSTS n, R.FB_QSPD n, R.FB_QEVT n, R.SYS_FAULT_EVT] ∧ s.sameMem x) ∧
  (∀ (s : State) (k : Fin 8) (clk : Nat), divEn (tget s.dev.fb.divs k).ctl = true → s.dev.gets (F.FB_DIV_STS_BACKLOG k) ≠ 0 →
    (∀ l, (tget s.dev.fb.divs k).lastStep = some l → l + max 10 (bitsOf (tget s.dev.fb.divs k).ctl.toNat 15 8) ≤ clk) →
    leads (.divOutputStep k clk) s fun x =>
      (x.dev.gets (F.FB_DIV_STS_BACKLOG k)).natAbs + 1 = (s.dev.gets (F.FB_DIV_STS_BACKLOG k)).natAbs ∧
      (tget x.dev.fb.divs k).phase = ((tget s.dev.fb.divs k).phase +
        (if decide (0 < s.dev.gets (F.FB_DIV_STS_BACKLOG k)) != bitOf (tget s.dev.fb.divs k).ctl.toNat 7 then 1 else 3)) % 4 ∧
      (tget x.dev.fb.divs k).lastStep = some clk ∧
      s.dev.sameRegs x.dev [R.FB_DIV_STS k] ∧ s.sameMem x) ∧
  (∀ (s : State) (k : Fin 8) (w : Word), leads (.divCtlWrite k w) s fun x =>
    x.dev.rd (R.FB_DIV_CTL k) = w &&& 0x0001FFFF ∧ x.dev.fb = s.dev.fb ∧ s.dev.sameRegs x.dev [R.FB_DIV_CTL k] ∧ s.sameMem x) ∧
  ∀ (s : State) (k : Fin 8) (w : Word), leads (.divRatioWrite k w) s fun x =>
    x.dev.rd (R.FB_DIV_RATIO k) = w ∧ (tget x.dev.fb.divs k).ratio = (tget s.dev.fb.divs k).ratio ∧
    (tget x.dev.fb.divs k).pendRatio = true ∧ s.dev.sameRegs x.dev [R.FB_DIV_RATIO k] ∧ s.sameMem x)

/-- O26. An encoder word ends a transfer; a good first word gives POS; failures beyond FAIL_LIMIT fault (R182, R185, R186, R188) -/
def Obligations.EncoderWords : Prop :=
  (∀ (s : State) (j : Fin 16) (raw : BitVec 40), s.dev.flag (F.FB_ENCSTS_BUSY j) = true → s.dev.inPark = false →
    let w := raw.toNat % 2 ^ s.dev.encLen j
    (s.dev.encBad j w = none → s.dev.flag (F.FB_ENCSTS_VALID j) = false → leads (.encWordDone j raw) s fun x =>
      x.dev.flag (F.FB_ENCSTS_BUSY j) = false ∧ x.dev.flag (F.FB_ENCSTS_VALID j) = true ∧
      x.dev.get (F.FB_ENCPOS_POS j) = s.dev.encPosField j w % 2 ^ 32 ∧ x.dev.get (F.FB_ENCRAW_LO_RAW j) = w % 2 ^ 32 ∧
      (tget x.dev.fb.encs j).goodWord = true ∧ s.sameMem x) ∧
    (∀ c v, s.dev.encBad j w = some (c, v) → leads (.encWordDone j raw) s fun x =>
      x.dev.flag (F.FB_ENCSTS_BUSY j) = false ∧ x.dev.rd (R.FB_ENCPOS j) = s.dev.rd (R.FB_ENCPOS j) ∧
      x.dev.flag (F.FB_ENCSTS_VALID j) = s.dev.flag (F.FB_ENCSTS_VALID j) ∧ x.dev.flag v = true ∧
      x.dev.get c = min (s.dev.get c + 1) (2 ^ (c.hi + 1 - c.lo) - 1) ∧
      (tget x.dev.fb.encs j).goodWord = (tget s.dev.fb.encs j).goodWord ∧ s.sameMem x)) ∧
  (∀ (s : State) (j : Fin 16) (raw : BitVec 40), s.dev.flag (F.FB_ENCSTS_BUSY j) = false → answers (.encWordDone j raw) s s) ∧
  (∀ (s : State) (j : Fin 16) (t : Nat), s.dev.encSrc j ≠ 0 → s.dev.inPark = false → leads (.encStandstill j t) s fun x =>
    x.dev.flag (F.FB_ENCSTS_STANDSTILL j) = (s.dev.flag (F.FB_ENCSTS_STANDSTILL j) ||
      decide ((tget s.dev.fb.encs j).lastMove + 10000 * ((tget s.dev.fb.encs j).stillT : Int) ≤ (s.dev.runTo t).upNs)) ∧
    x.dev.time = (s.dev.runTo t).time ∧ s.dev.sameRegs x.dev [R.FB_ENCSTS j] ∧ s.sameMem x) ∧
  ∀ (s : State) (j : Fin 16), s.dev.inPark = false → max 1 (s.dev.get (F.FB_ENCCFG2_FAIL_LIMIT j)) < s.dev.get (F.FB_ENCSTS_FAILRUN j) →
    s.dev.flag (F.FB_ENCSTS_FAULT j) = false → s.dev.sourcedBy (.enc j) ≠ 0 → leads (.encFault j) s fun x =>
      x.dev.flag (F.FB_ENCSTS_FAULT j) = true ∧ x.dev.flag (F.FB_ENCEVT_FAULT_EVT j) = true ∧
      (∃ r ∈ x.dev.faults, r.kind = FaultKind.encoder ∧ r.idx = j.val ∧ r.cls = 3 ∧ r.axes = s.dev.sourcedBy (.enc j) ∧ r.cause = true) ∧
      s.sameMem x

/-- O27. A conversion gives its code and its sequence runs (that a further trigger of a held sequence counts, log entry 15, and that CMP_EVENT is reported without a bit of its own and how its hysteresis holds, log entry 80, is the model's choice) (R193, R209, R194, R196, R197, R198, R199, R201) -/
def Obligations.Conversions : Prop :=
  (
  (∀ (diff : Bool) (v : Int), -32768 ≤ adcCode diff v ∧ adcCode diff v ≤ 32767) ∧
  (∀ v : Int, -1800000000 ≤ v → v < 1799900000 →
    2 * (adcCode true v) * 1800000000 - 1800000000 ≤ 2 * v * 32768 ∧ 2 * v * 32768 < 2 * (adcCode true v) * 1800000000 + 1800000000) ∧
  (∀ v : Int, 0 ≤ v → v < 1799950000 →
    2 * (adcCode false v) * 900000000 - 900000000 ≤ 2 * (v - 900000000) * 32768 ∧
    2 * (v - 900000000) * 32768 < 2 * (adcCode false v) * 900000000 + 900000000) ∧
  ∀ (diff : Bool) (v w : Int), v ≤ w → adcCode diff v ≤ adcCode diff w) ∧
  (
  (∀ (s : State) (c q : Fin 4) (x : AdcSeq), s.dev.adc.cfg.seqs.find? (fun y => y.conv == c.val && y.seq == q.val) = some x →
    let d := s.dev.pumpNow c
    let k := tget d.adc.convs c
    k.ready = true →
    (k.busySeq q = false → d.calRun c = false → d.calWait c = false → answers (.rseqTrigger c q) s
      (s.upd fun _ => d.modConv c fun k => { k with work := placeJobs d.time.ticks (x.seq + 1) (d.jobsOf x) k.work })) ∧
    (k.busySeq q = true → d.calRun c = false → d.calWait c = false → answers (.rseqTrigger c q) s
      (s.upd fun _ => (d.cnt F.ADC_CNT0_SEQ_OVR).event0 F.ADC_EVT_SEQ_OVR_EVT)) ∧
    (d.calRun c = true ∨ d.calWait c = true →
      (q.val ∉ k.heldSeq → answers (.rseqTrigger c q) s (s.upd fun _ => d.modConv c fun k => { k with heldSeq := k.heldSeq ++ [q.val] })) ∧
      (q.val ∈ k.heldSeq → answers (.rseqTrigger c q) s
        (s.upd fun _ => (d.cnt F.ADC_CNT0_SEQ_OVR).event0 F.ADC_EVT_SEQ_OVR_EVT)))) ∧
  (∀ (s : State) (n : Fin 64) (v : Int) (t : Nat), bitOf s.dev.pwr.off 2 = false →
    (n.val % 2 = 1 → s.dev.flag (F.ADC_INCFG_DIFF (n - 1)) = false) →
    let was := bitOf s.dev.adc.cmp n
    let now := cmpCond (s.dev.get (F.ADC_INCFG_CMP_MODE n)) (s.dev.flag (F.ADC_INCFG_DIFF (n / 2 * 2))) was
      (s.dev.get (F.ADC_INCFG_LO n)) (s.dev.get (F.ADC_INCFG_HI n)) v
    let d := s.dev.runTo t
    let d := { d with adc := { d.adc with cmp := setBit d.adc.cmp n now } }
    (now = true → was = false → answers (.cmpEvent n ⟨v, t⟩) s
      (s.upd fun _ => (d.record .report (R.ADC_EVT * 32 + 9) 0 0 false none).injRequest n)) ∧
    (now = false ∨ was = true → answers (.cmpEvent n ⟨v, t⟩) s (s.upd fun _ => d))) ∧
  ∀ (s : State) (c : Fin 4) (v : Int) (t : Nat) (x : AdcConv) (late : Bool) (d : Dev),
    s.dev.nextResult c = (some (t, x, late), d) → leads (.conversionDone c v) s fun y =>
      y.dev = ((d.runOsc t).modConv c fun k => { k with begun := k.begun.tail }).adcResult c x late v ∧
      (x.store = none → y.mem = s.mem) ∧
      (∀ a, x.store = some a → (∀ b, b < a ∨ a + 2 ≤ b → tblGet sramReset y.mem b = tblGet sramReset s.mem b) ∧
        leNat [tblGet sramReset y.mem a, tblGet sramReset y.mem (a + 1)]
          = uNat 16 (adcCode (((d.runOsc t).flag (F.ADC_INCFG_DIFF (x.input / 2 * 2)))) v)) ∧
      y.flash = s.flash ∧ y.otp = s.otp ∧ y.pending = s.pending)

/-- O28. A calibration is refused, waits, runs its steps, ends or is given up (that BG_WINDOW_END needs the converter's own counts, what a trim update needs and the tone run are the model's choice, log entry 80) (R202, R203, R204, R205, R206) -/
def Obligations.Calibration : Prop :=
  (∀ (s : State) (m : BitVec 4) (c : Fin 4), onesBelow 4 m.toNat = [c.val] → bitOf (s.dev.get F.ADC_CTL_CAL) c = false →
    (bitOf s.dev.pwr.off 2 = true → answers (.adcCal m) s s) ∧
    (bitOf s.dev.pwr.off 2 = false → s.dev.calAxis c = true → answers (.adcCal m) s (s.upd (Dev.calEvent F.ADC_EVT_CAL_REFUSED_EVT c 1))) ∧
    (bitOf s.dev.pwr.off 2 = false → s.dev.calAxis c = false → leads (.adcCal m) s fun x => bitOf (x.dev.get F.ADC_CTL_CAL) c = true ∧ x.dev.calWait c = true ∧
      (tget x.dev.adc.convs c).waitFrom = s.dev.oscPs ∧ (tget x.dev.adc.convs c).aborts = 0 ∧
      s.dev.sameRegs x.dev [R.ADC_CTL, R.ADC_STS] ∧ s.sameMem x)) ∧
  (∀ (s : State) (c : Fin 4), s.dev.calWait c = true → s.dev.calRun c = false → (tget (s.dev.pumpNow c).adc.convs c).inj = [] →
    (tget (s.dev.pumpNow c).adc.convs c).begun = [] → leads (.calStart c) s fun x =>
      x.dev.calWait c = false ∧ x.dev.calRun c = true ∧ (tget x.dev.adc.convs c).calStep = 1 ∧
      (tget x.dev.adc.convs c).calFrom = (s.dev.pumpNow c).nextSlot c ∧
      s.dev.sameRegs x.dev [R.ADC_STS] ∧ s.sameMem x) ∧
  (∀ (s : State) (c : Fin 4), s.dev.calRun c = true → (tget s.dev.adc.convs c).inj = [] → leads (.calStepEnd c) s fun x =>
    (tget x.dev.adc.convs c).calStep = min 16 ((tget s.dev.adc.convs c).calStep + 1) ∧ x.dev.regs = s.dev.regs ∧ s.sameMem x) ∧
  (∀ (s : State) (c : Fin 4), s.dev.calRun c = true → (tget s.dev.adc.convs c).inj ≠ [] → (tget s.dev.adc.convs c).aborts < 7 →
    leads (.calStepEnd c) s fun x => x.dev.calRun c = false ∧ x.dev.calWait c = true ∧ x.dev.flag F.ADC_EVT_CAL_ABORT_EVT = true ∧
      (tget x.dev.adc.convs c).aborts = (tget s.dev.adc.convs c).aborts + 1 ∧ (tget x.dev.adc.convs c).calStep = 0 ∧
      s.dev.sameRegs x.dev [R.ADC_STS, R.ADC_EVT, R.ADC_CNT1, R.SYS_FAULT_EVT] ∧ s.sameMem x) ∧
  (∀ (s : State) (c : Fin 4) (ok : Bool), s.dev.calRun c = true → (tget s.dev.adc.convs c).calStep = 16 →
    (tget s.dev.adc.convs c).inj = [] → leads (.calDone c ok) s fun x =>
      bitOf (x.dev.get F.ADC_CTL_CAL) c = false ∧ x.dev.calWait c = false ∧ x.dev.calRun c = false ∧
      (tget x.dev.adc.convs c).calStep = 0 ∧
      (ok = true → x.dev.flag F.ADC_EVT_CAL_DONE_EVT = true) ∧
      (ok = false → x.dev.flag F.ADC_EVT_CAL_FAIL_EVT = true ∧ x.dev.get F.ADC_EVT_REASON = 4 ∧
        ∀ i : Fin 16, x.dev.rd (R.ADC_SLICE i) = s.dev.rd (R.ADC_SLICE i)) ∧ s.sameMem x) ∧
  (∀ (s : State) (c : Fin 4), s.dev.calWait c = true →
    let d := (s.dev.runOsc ((tget s.dev.adc.convs c).waitFrom + 1000000000)).pumpNow c
    (d.calFree c = true → answers (.calWaitTimeout c) s (s.upd fun _ => d.calStart c)) ∧
    (d.calFree c = false → leads (.calWaitTimeout c) s fun x =>
    bitOf (x.dev.get F.ADC_CTL_CAL) c = false ∧ x.dev.calWait c = false ∧ x.dev.flag F.ADC_EVT_CAL_REFUSED_EVT = true ∧
    x.dev.get F.ADC_EVT_REASON = 2 ∧ s.sameMem x)) ∧
  (∀ (s : State) (c : Fin 4) (idle : Nat), (tget s.dev.adc.convs c).ready = true →
    let d := s.dev.windowEnd c
    (idle = (tget d.adc.convs c).winIdle → leads (.bgWindowEnd c idle 400000) s fun x =>
      bitOf (x.dev.get F.ADC_STS_BG_STARVED) c = decide (10 * idle < 400000) ∧
        (tget x.dev.adc.convs c).winIdle = 0 ∧ x.dev.time = d.time ∧ s.dev.sameRegs x.dev [R.ADC_STS] ∧ s.sameMem x) ∧
    ∀ total, (idle ≠ (tget d.adc.convs c).winIdle ∨ total ≠ 400000) → answers (.bgWindowEnd c idle total) s s) ∧
  ∀ (s : State) (k : Fin 16) (skew : Bool), let d := s.dev.pumpNow (k / 4)
    let q := tget d.adc.convs (k.val / 4)
    (bitOf (s.dev.get F.ADC_STS_BG_STARVED) (k / 4) = true → answers (.bgTrimUpdate k skew) s (s.upd fun _ => d)) ∧
    (bitOf (s.dev.get F.ADC_STS_BG_STARVED) (k / 4) = false → q.ready = true →
      (skew = false → tget q.refs (k.val % 4) < 256 → answers (.bgTrimUpdate k skew) s (s.upd fun _ => d)) ∧
      (skew = true → q.toneRun = false → answers (.bgTrimUpdate k skew) s (s.upd fun _ => d)) ∧
      (skew = false → 256 ≤ tget q.refs (k.val % 4) → leads (.bgTrimUpdate k skew) s fun x =>
        s.dev.sameRegs x.dev [R.ADC_SLICE k] ∧
        bitsOf (x.dev.rd (R.ADC_SLICE k)).toNat 31 24 = bitsOf (s.dev.rd (R.ADC_SLICE k)).toNat 31 24 ∧
        tget (tget x.dev.adc.convs (k.val / 4)).refs (k.val % 4) = tget q.refs (k.val % 4) - 256 ∧ s.sameMem x) ∧
      (skew = true → q.toneRun = true → leads (.bgTrimUpdate k skew) s fun x =>
        s.dev.sameRegs x.dev ((List.range 4).map fun i => R.ADC_SLICE (4 * (k.val / 4) + i)) ∧
        (∀ i : Fin 16, bitsOf (x.dev.rd (R.ADC_SLICE i)).toNat 23 0 = bitsOf (s.dev.rd (R.ADC_SLICE i)).toNat 23 0) ∧ s.sameMem x))

/-- O29. An axis command is taken or refused and its result shown (R215, R216, R213) -/
def Obligations.AxisCommandsAndResults : Prop :=
  (
  ∀ (s : State) (n : Fin 128) (imm ramp : Bool),
    ∀ p ∈ ([(0, .trajNop n imm ramp), (1, .moveAbs n imm ramp), (2, .moveRel n imm ramp), (3, .jogPos n imm ramp), (4, .jogNeg n imm ramp),
        (5, .axisStop n imm ramp), (6, .axisResume n imm ramp), (7, .axisLimits n imm ramp), (8, .gearEngage n imm ramp),
        (9, .gearChange n imm ramp), (10, .gearOff n imm ramp), (11, .setPos n imm ramp)] : List (Nat × Instr)),
      leads p.2 s fun x =>
        (x.dev.ax n).pend = some ⟨p.1, imm, ramp, s.dev.gets64 (R.TRAJ_AX_TGT_LO n), s.dev.get64 (R.TRAJ_AX_VEL_LO n),
          s.dev.get64 (R.TRAJ_AX_ACC_LO n), s.dev.get64 (R.TRAJ_AX_DEC_LO n), s.dev.get64 (R.TRAJ_AX_JERK_LO n),
          s.dev.gets (F.TRAJ_GEAR_NUM_NUM n), max 1 (s.dev.get (F.TRAJ_GEAR_DEN_DEN n)), s.dev.gets (F.TRAJ_GEAR_MPOS_MPOS n),
          s.dev.gets (F.TRAJ_GEAR_MDIST_MDIST n)⟩ ∧
        x.dev.flag (F.TRAJ_AX_STS_PENDING n) = true ∧ x.dev.flag (F.TRAJ_AX_STS_STILL n) = false ∧ x.dev.axState n = s.dev.axState n ∧
        ((s.dev.ax n).pend.isSome = true → x.dev.get (F.TRAJ_AX_EVT_RESULT n) = 1 ∧ x.dev.flag (F.TRAJ_AX_EVT_CMD_EVT n) = true) ∧
        ((s.dev.ax n).pend = none → x.dev.rd (R.TRAJ_AX_EVT n) = s.dev.rd (R.TRAJ_AX_EVT n) ∧
          x.dev.faults = (s.dev.parityWritten (R.TRAJ_AX_CMD n)).faults) ∧
        (x.dev.ax n).np = (s.dev.ax n).np ∧ (x.dev.ax n).prof = (s.dev.ax n).prof ∧ (∀ k, k ≠ n.val → x.dev.ax k = s.dev.ax k) ∧
        s.dev.sameRegs x.dev [R.TRAJ_AX_CMD n, R.TRAJ_AX_STS n, R.TRAJ_AX_EVT n, R.SYS_FAULT_EVT] ∧ s.sameMem x) ∧
  (
  (∀ (d : Dev) (n : Fin 128) (c : AxCmd) (x : Int × Int × Int), c.op ≠ 0 →
    (d.axCheck n c x = 2 ↔ d.axState n = axOff) ∧
    (d.axState n ≠ axOff → (d.axCheck n c x = 3 ↔ d.axState n = axFaultStop ∨ d.uncleared n = true)) ∧
    (d.axState n ≠ axOff → d.axState n ≠ axFaultStop → d.uncleared n = false → opAllowed c.op (d.axState n) = false →
      d.axCheck n c x = 4)) ∧
  ∀ (d : Dev) (n : Fin 128) (c : AxCmd) (x : Int × Int × Int), (d.ax n).pend = some c → d.axCheck n c x ≠ 0 →
    let e := d.axDecide n x
    e.get (F.TRAJ_AX_EVT_RESULT n) = d.axCheck n c x ∧ e.flag (F.TRAJ_AX_EVT_CMD_EVT n) = true ∧
    e.flag (F.TRAJ_AX_STS_PENDING n) = false ∧ (e.ax n).pend = none ∧ (e.ax n).prof = (d.ax n).prof ∧ (e.ax n).np = (d.ax n).np ∧
    e.axState n = d.axState n ∧ d.sameRegs e [R.TRAJ_AX_STS n, R.TRAJ_AX_EVT n, R.SYS_FAULT_EVT])

/-- O30. A group command waits, is decided and acts on the group and its axes; a step pulse is one step of the resolution in force, once the line has crossed it (DIR high for a rising position: PRESUMED, log entry 81) (R226, R230, R232, R35, R239, R240, R241, R242) -/
def Obligations.GroupsAndSteps : Prop :=
  (
  (∀ (s : State) (g : Fin 16), ∀ p ∈ ([(1, .pathOn g), (2, .pathOff g), (3, .groupStop g), (4, .groupResume g)] : List (Nat × Instr)),
    leads p.2 s fun x => (x.dev.gr g).pend = some p.1 ∧ x.dev.grMode g = s.dev.grMode g ∧
      ((s.dev.gr g).pend.isSome = true → x.dev.get (F.TRAJ_G_EVT_RESULT g) = 1 ∧ x.dev.flag (F.TRAJ_G_EVT_CMD_EVT g) = true) ∧
      ((s.dev.gr g).pend = none → x.dev.regs = s.dev.regs) ∧
      s.dev.sameRegs x.dev [R.TRAJ_G_EVT g, R.SYS_FAULT_EVT] ∧ s.sameMem x) ∧
  (∀ (d : Dev) (g : Fin 16) (op : Nat), (d.gr g).pend = some op → 1 ≤ op → op ≤ 4 → (∀ n ∈ d.groupAxes g, n < 128) →
    let r := d.grCheck g op
    let e := d.grDecide g
    (op = 1 → (r = 0 ↔ d.grMode g = 0 ∧ d.groupAxes g ≠ [] ∧
      ∀ n ∈ d.groupAxes g, d.axState n = axHold ∧ d.flag (F.TRAJ_AX_STS_STILL n) = true) ∧
      (r = 9 → ∀ n ∈ d.groupAxes g, d.axState n = axHold)) ∧
    (op = 2 ∨ op = 3 → (r = 0 ↔ d.grMode g = 1)) ∧
    (op = 4 → (r = 3 ↔ ∃ n ∈ d.groupAxes g, d.uncleared n = true) ∧
      (r = 0 ↔ d.grMode g = 1 ∧ ∀ n ∈ d.groupAxes g, d.uncleared n = false)) ∧
    e.get (F.TRAJ_G_EVT_RESULT g) = r ∧ e.flag (F.TRAJ_G_EVT_CMD_EVT g) = true ∧ (e.gr g).pend = none ∧
    (r ≠ 0 → (e.gr g) = { d.gr g with pend := none } ∧ d.sameRegs e [R.TRAJ_G_EVT g, R.SYS_FAULT_EVT]) ∧
    (r = 0 →
      (op = 1 → e.grMode g = 1 ∧ e.get (F.TRAJ_G_SCALE_SCALE g) = 0 ∧ (e.gr g).hasPlan = false ∧ (e.gr g).pathStop = 0 ∧
        ∀ n ∈ d.groupAxes g, e.axState n = axPath) ∧
      (op = 2 ∨ op = 3 → e.grMode g = (if op = 2 then 2 else 1) ∧ (e.gr g).pathStop = max 1 (d.gr g).pathStop ∧
        ∀ n ∈ d.groupAxes g, e.axState n = (if d.axState n = axPath then axStopping else d.axState n)) ∧
      (op = 4 → e.grMode g = 1 ∧ (e.gr g).pathStop = 0 ∧ e.flag (F.TRAJ_G_STS_HELD g) = false ∧
        ∀ n ∈ d.groupAxes g, e.axState n =
          (if d.axState n = axStopping ∨ d.axState n = axFaultStop then axPath else d.axState n)))) ∧
  (∀ (s : State) (g : Fin 16), s.dev.grMode g ≠ 0 → (s.dev.gr g).hasPlan = true → (s.dev.gr g).next = none → (s.dev.gr g).exhausted = false →
    s.dev.lastSigma g ≤ s.dev.get (F.TRAJ_G_SIGMA_SIGMA g) → leads (.planExhausted g) s fun x =>
      (x.dev.gr g).pathStop = (if (s.dev.gr g).pathStop = 0 then 3 else (s.dev.gr g).pathStop) ∧ (x.dev.gr g).exhausted = true ∧ x.dev.flag (F.TRAJ_G_EVT_EXHAUSTED_EVT g) = true ∧
      (∃ r ∈ x.dev.faults, r.kind = FaultKind.planExhausted ∧ r.idx = g.val ∧ r.cls = 1 ∧ r.axes = maskOf (s.dev.groupAxes g)) ∧
      (∀ n ∈ s.dev.groupAxes g, n < 128 → 1 ≤ (x.dev.ax n).react) ∧ s.sameMem x) ∧
  (∀ (s : State) (g : Fin 16), leads (.trajLate g) s fun x =>
    (∃ r ∈ x.dev.faults, r.kind = FaultKind.trajLate ∧ r.idx = g.val ∧ r.cls = 2 ∧ r.axes = maskOf (s.dev.groupAxes g) ∧ r.cause = true) ∧
    (∀ n ∈ s.dev.groupAxes g, n < 128 → 2 ≤ (x.dev.ax n).react ∧ (x.dev.ax n).doneNext = false) ∧
    s.dev.sameRegs x.dev [R.SYS_FAULT_EVT] ∧ s.sameMem x) ∧
  ∀ (d : Dev) (g : Fin 16), d.get (F.TRAJ_G_SCALE_SCALE g) ≤ 0x8000 →
    let s := d.get (F.TRAJ_G_SCALE_SCALE g)
    let goal := d.grGoal g
    ((d.gr g).pathStop ≠ 0 → goal = 0) ∧ (d.grMode g ≠ 0 → (d.gr g).hasPlan = false → goal = 0) ∧
    ((d.gr g).pathStop = 0 → (d.grMode g = 0 ∨ (d.gr g).hasPlan = true) → goal = min 0x8000 (d.get (F.TRAJ_G_SCALE_SCALE_LIM g))) ∧
    min s goal ≤ (d.grScale g).get (F.TRAJ_G_SCALE_SCALE g) ∧ (d.grScale g).get (F.TRAJ_G_SCALE_SCALE g) ≤ max s goal ∧
    d.sameRegs (d.grScale g) [R.TRAJ_G_SCALE g]) ∧
  (
  (∀ (s : State) (n : Fin 32) (t : Nat), s.dev.flag (F.TRAJ_STEP_CFG_EN n) = false → answers (.stepEmit n t) s (s.upd (Dev.runTo t))) ∧
  ∀ (s : State) (n : Fin 32) (t : Nat), s.dev.flag (F.TRAJ_STEP_CFG_EN n) = true →
    let d := (s.dev.runTo t).stepRes n
    let a := d.ax n
    let size : Int := 2 ^ (8 - min 8 a.resLog)
    let gap := wrap64 (d.stepLine n - a.stepPos * 2 ^ 32)
    let up := decide (size * 2 ^ 32 ≤ gap)
    let go := up || decide (gap ≤ -(size * 2 ^ 32))
    let dirClk := if a.dirHigh = up then a.dirClk else d.sysClk
    let ready := (match a.stepClk with | some c => decide (c + 2 * d.get (F.TRAJ_STEP_CFG_STEP_W n) ≤ d.sysClk) | none => true) &&
      decide (dirClk + d.get (F.TRAJ_STEP_CFG_DIR_SU n) ≤ d.sysClk) && decide (a.resClk + d.get (F.TRAJ_STEP_CFG_RES_SU n) ≤ d.sysClk)
    ((s.dev.ax n).stepPos % 256 ≠ 0 → a.resLog = (s.dev.ax n).resLog) ∧ leads (.stepEmit n t) s fun x =>
      let b := x.dev.ax n
      x.dev.time = (s.dev.runTo t).time ∧
      b.dirHigh = (if go then up else (s.dev.ax n).dirHigh) ∧
      (go = true → ready = true → b.stepPos = (s.dev.ax n).stepPos + (if up then size else -size) ∧ b.stepClk = some d.sysClk ∧
        x.dev.gets (F.TRAJ_STEP_POS_STEP_POS n) = sInt 32 (uNat 32 b.stepPos)) ∧
      (go = false ∨ ready = false → b.stepPos = (s.dev.ax n).stepPos ∧ b.stepClk = (s.dev.ax n).stepClk ∧
        x.dev.rd (R.TRAJ_STEP_POS n) = s.dev.rd (R.TRAJ_STEP_POS n)) ∧
      x.dev.flag (F.TRAJ_AX_STS_STEP_LAG n) = decide (512 * 2 ^ 32 < (wrap64 (x.dev.stepLine n - b.stepPos * 2 ^ 32)).natAbs) ∧
      (∀ k, k ≠ n.val → x.dev.ax k = (s.dev.ax k)) ∧ s.sameMem x)

/-- O31. EN writes wait for IN_CUT, where Table 10.7 decides; a companion that does not answer times out (R263, R264) -/
def Obligations.Energising : Prop :=
  (∀ (s : State) (n : Fin 128), ∀ p ∈ ([(true, .energise n), (false, .deenergise n)] : List (Bool × Instr)), leads p.2 s fun x =>
    x.dev.flag (F.LOOP_CTL_EN n) = p.1 ∧ x.dev.flag (F.LOOP_STS_PEND n) = true ∧ (x.dev.lax n).pendEn = some p.1 ∧
    x.dev.energised n = s.dev.energised n ∧ s.dev.sameRegs x.dev [R.LOOP_CTL n, R.LOOP_STS n] ∧ s.sameMem x) ∧
  (∀ (d : Dev) (n : Fin 128), (d.lax n).pendEn = some true →
    (d.topo n = 0 → d.energCheck n = 1) ∧
    (d.topo n ≠ 0 → d.uncleared n = true → d.energCheck n = 2) ∧
    (d.topo n ≠ 0 → d.uncleared n = false → bitOf d.safe.permit n = false → d.energCheck n = 3) ∧
    (d.topo n ≠ 0 → d.uncleared n = false → bitOf d.safe.permit n = true → d.tripped n = true → d.energCheck n = 4) ∧
    (d.topo n ≠ 0 → d.uncleared n = false → bitOf d.safe.permit n = true → d.tripped n = false → n.val < 32 →
      d.get F.ADC_VBUS_VOLT < d.get F.LOOP_GCFG_VBUS_MIN → d.energCheck n = 5) ∧
    (d.energCheck n ≠ 0 → (d.energDecide n).get (F.LOOP_EVT_RESULT n) = d.energCheck n ∧
      (d.energDecide n).energised n = d.energised n ∧ (d.energDecide n).flag (F.LOOP_STS_PEND n) = false ∧
      d.sameRegs (d.energDecide n) [R.LOOP_STS n, R.LOOP_EVT n]) ∧
    (d.energCheck n = 0 → d.topo n = 1 → (d.energDecide n).energised n = true ∧ (d.energDecide n).get (F.LOOP_EVT_RESULT n) = 0 ∧
      ((d.energDecide n).lax n).intD = 0 ∧ ((d.energDecide n).lax n).intQ = 0 ∧ ((d.energDecide n).lax n).iInt = 0)) ∧
  (∀ (d : Dev) (n : Fin 32), (d.lax n).pendEn = some false →
    (d.energDecide n).energised n = false ∧ (d.energDecide n).flag (F.LOOP_CTL_EN n) = false ∧
    ((d.energDecide n).lax n).off = true ∧ (d.energDecide n).get (F.LOOP_EVT_RESULT n) = 0) ∧
  (∀ (s : State) (n : Fin 32), (s.dev.lax n).bootLeft = 0 → leads (.bootEnd n) s fun x =>
    x.dev.flag (F.LOOP_STS_BOOTING n) = false ∧ x.dev.energised n = s.dev.energised n ∧ s.dev.sameRegs x.dev [R.LOOP_STS n] ∧ s.sameMem x) ∧
  ∀ (s : State) (n : Fin 128), (s.dev.lax n).energise = true → (s.dev.lax n).intReset = true → s.dev.energised n = false → 4 ≤ (s.dev.lax n).compWait →
    leads (.compTimeout n) s fun x => x.dev.flag (F.LOOP_CTL_EN n) = false ∧ x.dev.get (F.LOOP_EVT_RESULT n) = 7 ∧
      (x.dev.lax n).energise = false ∧ s.dev.sameRegs x.dev [R.LOOP_CTL n, R.LOOP_EVT n] ∧ s.sameMem x

/-- O32. Trips switch outputs off; a valley loads the duties; the stages of a loop keep their limits (R255, R256, R257, R258, R244, R250, R254, R266, R35) -/
def Obligations.LoopProtection : Prop :=
  (
  (∀ (s : State) (j : Fin 16) (high : Bool), s.dev.flag (F.LOOP_TCFG_EN j) = true → (high == s.dev.flag (F.LOOP_TCFG_TPOL j)) = true →
    high ≠ (tget s.dev.loop.tripF j).lvl → min 16 (max 1 (tget s.dev.loop.tripN j)) ≤ (tget s.dev.loop.tripF j).run + 1 →
    bitOf (s.dev.get F.LOOP_TRIP_STS_TRIP) j = false → leads (.tripInput j ⟨[high], tget s.dev.loop.tripClk j⟩) s fun x =>
      (tget x.dev.loop.tripF j).lvl = high ∧
      bitOf (x.dev.get F.LOOP_TRIP_STS_TRIP) j = true ∧ bitOf x.dev.loop.tripIn j = true ∧
      (∀ n : Fin 32, bitOf (s.dev.get (F.LOOP_TAXES_AXES j)) n = true →
        x.dev.flag (F.LOOP_STS_TRIP n) = true ∧ x.dev.flag (F.LOOP_EVT_TRIP_EVT n) = true ∧ x.dev.flag (F.LOOP_CTL_EN n) = false ∧
        x.dev.energised n = false ∧ (x.dev.lax n).off = true ∧
        ∃ r ∈ x.dev.faults, r.kind = FaultKind.trip ∧ r.cls = 3 ∧ r.axes = 2 ^ n.val ∧ r.cause = true) ∧
      s.sameMem x) ∧
  (∀ (s : State) (j : Fin 16) (high : Bool), high ≠ (tget s.dev.loop.tripF j).lvl →
    (tget s.dev.loop.tripF j).run + 1 < min 16 (max 1 (tget s.dev.loop.tripN j)) → leads (.tripInput j ⟨[high], tget s.dev.loop.tripClk j⟩) s fun x =>
      (tget x.dev.loop.tripF j).lvl = (tget s.dev.loop.tripF j).lvl ∧ (tget x.dev.loop.tripF j).run = (tget s.dev.loop.tripF j).run + 1 ∧
      s.dev.sameRegs x.dev [] ∧ s.sameMem x) ∧
  (∀ (s : State) (m : BitVec 16), leads (.tripClr m) s fun x =>
    (∀ j : Fin 16, bitOf (x.dev.get F.LOOP_TRIP_STS_TRIP) j =
      (bitOf (s.dev.get F.LOOP_TRIP_STS_TRIP) j && !(bitOf m.toNat j && !bitOf s.dev.loop.tripIn j))) ∧
    (∀ o, o ≠ R.LOOP_TRIP_STS → (∀ n < 32, o ≠ R.LOOP_STS n) → x.dev.rd o = s.dev.rd o) ∧
    (∀ n : Fin 32, x.dev.energised n = s.dev.energised n) ∧ s.sameMem x) ∧
  (∀ (s : State) (n : Fin 32) (l : List Nat), (s.dev.lax n).shadow = some l → (∀ v ∈ l, v ≤ 0x8000) → leads (.pwmValley n) s fun x =>
    x.dev.get (F.LOOP_DUTY01_DUTY0 n) = l.getD 0 0 ∧ x.dev.get (F.LOOP_DUTY01_DUTY1 n) = l.getD 1 0 ∧
    x.dev.get (F.LOOP_DUTY23_DUTY2 n) = l.getD 2 0 ∧ x.dev.get (F.LOOP_DUTY23_DUTY3 n) = l.getD 3 0 ∧
    (x.dev.lax n).shadow = none ∧ (x.dev.lax n).off = !s.dev.energised n ∧ (x.dev.lax n).loadClk = s.dev.nextValley n ∧
    (x.dev.lax n).cmp = l.flatMap (fun v => (s.dev.pwmLens n).map (fun len =>
      cmpOf v len (s.dev.get (F.LOOP_PCFG_DT n) + s.dev.get (F.LOOP_PCFG_MINP n)))) ∧
    (∀ b clk : Nat, (x.dev.lax n).off = true → x.dev.pwmOn n b clk = (false, false)) ∧
    s.dev.sameRegs x.dev [R.LOOP_DUTY01 n, R.LOOP_DUTY23 n] ∧ s.sameMem x) ∧
  (∀ h k : Nat, 0 < k → (rampLens h k).sum = h ∧ (rampLens h k).length = k ∧ ∀ x ∈ rampLens h k, x = h / k ∨ x = h / k + 1) ∧
  ∀ duty len minp : Nat,
    cmpOf duty len minp = 0 ∨ cmpOf duty len minp = len ∨
      ((minp + 1) / 2 ≤ cmpOf duty len minp ∧ cmpOf duty len minp + (minp + 1) / 2 ≤ len)) ∧
  (
  (∀ (d : Dev) (n : Fin 128), 0 ≤ d.gets (F.LOOP_ILIM_ILIM n) →
    ((d.velStage n).gets (F.LOOP_IQREF_IQREF n)).natAbs ≤ (d.gets (F.LOOP_ILIM_ILIM n)).natAbs ∧
    ((d.velStage n).lax n).iqRef = (d.velStage n).gets (F.LOOP_IQREF_IQREF n) ∧
    ((d.velStage n).flag (F.LOOP_STS_SAT n) = true → ((d.velStage n).gets (F.LOOP_IQREF_IQREF n)).natAbs = (d.gets (F.LOOP_ILIM_ILIM n)).natAbs) ∧
    ((d.velStage n).flag (F.LOOP_STS_SAT n) = true → d.flag (F.LOOP_STS_SAT n) = false → (d.velStage n).flag (F.LOOP_EVT_SAT_EVT n) = true)) ∧
  (∀ s : State, s.dev.inPark = false → leads .currentStage s fun x =>
    (∀ n : Fin 32, s.dev.topo n = 1 → (s.dev.lax n).stageReady = true → (x.dev.lax n).stageReady = false ∧
      ((s.dev.lax n).bootLeft = 0 → ∃ l, (x.dev.lax n).shadow = some l ∧ ∀ v ∈ l, v ≤ 0x8000) ∧
      ((s.dev.lax n).bootLeft ≠ 0 → (x.dev.lax n).bootLeft + 1 = (s.dev.lax n).bootLeft)) ∧ s.sameMem x) ∧
  (∀ s : State, s.dev.loop.vbusLowRun = 16 → s.dev.causeOn .vbusLow 0 = false → leads .vbusLow s fun x =>
    x.dev.flag F.LOOP_GEVT_VBUS_LOW_EVT = true ∧
    (∃ r ∈ x.dev.faults, r.kind = FaultKind.vbusLow ∧ r.cls = 2 ∧ r.axes = maskOf s.dev.servoAxes ∧ r.cause = true) ∧ s.sameMem x) ∧
  ∀ (s : State) (cur : Bool), leads (.loopOverrun cur) s fun x =>
    x.dev.flag F.LOOP_GEVT_OVERRUN_EVT = true ∧ (∀ n : Fin 128, x.dev.flag (F.LOOP_CTL_EN n) = false) ∧
    (∀ n : Fin 32, x.dev.energised n = false ∧ (x.dev.lax n).off = true) ∧
    (∃ r ∈ x.dev.faults, r.kind = FaultKind.loopOverrun ∧ r.cls = 3 ∧ r.axes = allAxes) ∧
    (cur = false → ∀ n ∈ s.dev.axisList, (x.dev.lax n).iqRef = (s.dev.lax n).prevIq) ∧
    s.sameMem x)

/-- O33. A step of the solver that completes in time moves the running context on (R294, R296, R295, R287) -/
def Obligations.SolverSteps : Prop :=
  (∀ (s : State) (c t : Nat), s.dev.stepDone .factor SolvSched.factCyc = some (c, t) → leads .factorDone s fun x =>
    (x.dev.sctx c).buf = 1 - (s.dev.sctx c).buf ∧ (x.dev.sctx c).stage = .iterate ∧ x.dev.flag (F.SOLV_CTX_STS_FVALID c) = true ∧
    x.dev.solv.now = t ∧ s.dev.sameRegs x.dev [R.SOLV_CTX_STS c] ∧ x.flash = s.flash ∧ x.otp = s.otp ∧ x.pending = s.pending) ∧
  (∀ (s : State) (c t : Nat), s.dev.stepDone .iterate SolvSched.iterCyc = some (c, t) → leads .iterationDone s fun x =>
    (x.dev.sctx c).iters = (s.dev.sctx c).iters + 1 ∧
    (x.dev.sctx c).stage = (if ((s.dev.sctx c).iters + 1) % (s.dev.sctx c).checkK = 0 then .check else .iterate) ∧
    x.dev.solv.now = t ∧ x.dev.regs = s.dev.regs ∧ x.flash = s.flash ∧ x.otp = s.otp ∧ x.pending = s.pending) ∧
  (∀ (s : State) (c t : Nat), s.dev.stepDone .check SolvSched.checkCyc = some (c, t) → leads .checkDone s fun x =>
    (x.dev.sctx c).resValid = true ∧ (x.dev.sctx c).iters = (s.dev.sctx c).iters ∧
    ((x.dev.sctx c).rp ≤ (s.dev.sctx c).param 248 → (x.dev.sctx c).rd ≤ (s.dev.sctx c).param 249 →
      (x.dev.sctx c).stage = .output ∧ (x.dev.sctx c).code = 0) ∧
    (¬((x.dev.sctx c).rp ≤ (s.dev.sctx c).param 248 ∧ (x.dev.sctx c).rd ≤ (s.dev.sctx c).param 249) →
      (s.dev.sctx c).maxIter ≤ (s.dev.sctx c).iters → (x.dev.sctx c).stage = .output ∧ (x.dev.sctx c).code = 1) ∧
    s.dev.sameRegs x.dev [R.SOLV_CTX_RHO c] ∧ x.flash = s.flash ∧ x.otp = s.otp ∧ x.pending = s.pending) ∧
  ∀ s : State, (s.dev.stepDone .factor SolvSched.factCyc = none → answers .factorDone s s) ∧
    (s.dev.stepDone .iterate SolvSched.iterCyc = none → answers .iterationDone s s) ∧
    (s.dev.stepDone .check SolvSched.checkCyc = none → answers .checkDone s s)

/-- O34. Problems are taken in order and their deadlines enforced (R288, R299, R303, R305, R304, R309) -/
def Obligations.SolverOrdering : Prop :=
  (
  (∀ (s : State) (c : Fin 16), (s.dev.solv.on = false → answers (.solvPublish c) s s ∧ answers (.solvCold c) s s) ∧
    (s.dev.solv.on = true →
      (leads (.solvPublish c) s fun x => x.dev.flag (F.SOLV_C_IN_PUBLISH c) = true ∧ s.dev.sameRegs x.dev [R.SOLV_C_IN c] ∧
        x.dev.solv = s.dev.solv ∧ s.sameMem x) ∧
      (leads (.solvCold c) s fun x => x.dev.flag (F.SOLV_CTX_CMD_COLD c) = true ∧ s.dev.sameRegs x.dev [R.SOLV_CTX_CMD c] ∧
        x.dev.solv = s.dev.solv ∧ s.sameMem x))) ∧
  (∀ s : State, (s.dev.solv.on = false ∨ s.dev.solvBusy ≠ none ∨ s.dev.solvNext = none) → answers .solveStart s s) ∧
  (∀ (d : Dev) (c : Nat), d.solvNext = some c → c < 16 ∧ (d.sctx c).stage = .waiting ∧ d.solv.now ≤ (d.sctx c).deadline ∧
    ∀ e < 16, (d.sctx e).stage = .waiting → d.solv.now ≤ (d.sctx e).deadline →
      (d.sctx c).deadline < (d.sctx e).deadline ∨ ((d.sctx c).deadline = (d.sctx e).deadline ∧ c ≤ e)) ∧
  (∀ (s : State) (c : Nat), s.dev.solv.on = true → s.dev.solvBusy = none → s.dev.solvNext = some c → (s.dev.sctx c).settingsOk = false →
    leads .solveStart s fun x => x.dev.get (F.SOLV_CTX_STS_CODE c) = 4 ∧ x.dev.get (F.SOLV_CTX_STS_NR_REASON c) = 3 ∧
      x.dev.flag (F.SOLV_CTX_STS_BUSY c) = false ∧ x.dev.flag (F.SOLV_CTX_EVT_DONE_EVT c) = true ∧ (x.dev.sctx c).stage = .idle ∧
      s.sameMem x) ∧
  (∀ (s : State) (c : Nat), s.dev.solv.on = true → s.dev.solvBusy = none → s.dev.solvNext = some c → (s.dev.sctx c).settingsOk = true →
    s.dev.solv.now + (s.dev.ctxSched c).asm * s.dev.solvTick ≤ (s.dev.sctx c).deadline → leads .solveStart s fun x =>
      ((x.dev.sctx c).stage = .iterate ∧ (x.dev.sctx c).nfact = 0 ∧ s.dev.flag (F.SOLV_CTX_STS_FVALID c) = true ∨
        (x.dev.sctx c).stage = .factor ∧ (x.dev.sctx c).nfact = 1) ∧
      (x.dev.sctx c).iters = 0 ∧ (x.dev.sctx c).resValid = false ∧ (x.dev.sctx c).code = 0 ∧ (x.dev.sctx c).start = s.dev.solv.now ∧
      (x.dev.sctx c).run = s.dev.rd (R.SOLV_CTX_RUN c) ∧ (x.dev.sctx c).pol = s.dev.rd (R.SOLV_CTX_POL c) ∧
      x.dev.solv.now = s.dev.solv.now + (s.dev.ctxSched c).asm * s.dev.solvTick ∧ x.dev.flag (F.SOLV_CTX_STS_BUSY c) = true ∧
      (∀ e, e ≠ c → x.dev.sctx e = s.dev.sctx e) ∧
      s.dev.sameRegs x.dev [R.SOLV_CTX_STS c, R.SOLV_CTX_RHO c, R.SOLV_CTX_CMD c] ∧
      x.flash = s.flash ∧ x.otp = s.otp ∧ x.pending = s.pending) ∧
  (∀ (s : State) (c : Nat), s.dev.solv.on = true → s.dev.solvBusy = none → s.dev.solvNext = some c → (s.dev.sctx c).settingsOk = true →
    (s.dev.sctx c).deadline < s.dev.solv.now + (s.dev.ctxSched c).asm * s.dev.solvTick → leads .solveStart s fun x =>
      (x.dev.sctx c).stage = .assembly ∧ (x.dev.sctx c).start = s.dev.solv.now ∧ x.dev.flag (F.SOLV_CTX_STS_BUSY c) = true ∧
      s.dev.sameRegs x.dev [R.SOLV_CTX_STS c] ∧ s.sameMem x) ∧
  (∀ (s : State) (c t : Nat), s.dev.stepDone .output (fun q => q.out + 100) = some (c, t) → (s.dev.sctx c).codeOf < 16 →
    leads .outputDone s fun x => x.dev.get (F.SOLV_CTX_STS_CODE c) = (s.dev.sctx c).codeOf ∧
      x.dev.flag (F.SOLV_CTX_STS_BUSY c) = false ∧ x.dev.flag (F.SOLV_CTX_EVT_DONE_EVT c) = true ∧ (x.dev.sctx c).stage = .idle ∧
      (x.dev.sctx c).fresh = true ∧ ((s.dev.sctx c).iters = 0 → x.mem = s.mem) ∧
      x.flash = s.flash ∧ x.otp = s.otp ∧ x.pending = s.pending) ∧
  ∀ s : State, s.dev.stepDone .output (fun q => q.out + 100) = none → answers .outputDone s s) ∧
  (
  (∀ (s : State) (c : Fin 16), ((s.dev.sctx c).stage = .idle ∨ (s.dev.sctx c).stage = .output) → answers (.solvDeadline c) s s) ∧
  (∀ (s : State) (c : Fin 16), (s.dev.sctx c).stage = .waiting → (s.dev.sctx c).deadline < s.dev.solv.now →
    leads (.solvDeadline c) s fun x => x.dev.get (F.SOLV_CTX_STS_CODE c) = 4 ∧ x.dev.get (F.SOLV_CTX_STS_NR_REASON c) = 1 ∧
      x.dev.flag (F.SOLV_CTX_EVT_DONE_EVT c) = true ∧ (x.dev.sctx c).stage = .idle ∧ s.sameMem x) ∧
  (∀ (s : State) (c : Fin 16), (s.dev.sctx c).stage ≠ .waiting →
    s.dev.solv.now + s.dev.stepClocks c * s.dev.solvTick ≤ (s.dev.sctx c).deadline → answers (.solvDeadline c) s s) ∧
  (∀ (s : State) (c : Fin 16), ((s.dev.sctx c).stage = .iterate ∨ (s.dev.sctx c).stage = .check) →
    (s.dev.sctx c).deadline < s.dev.solv.now + s.dev.stepClocks c * s.dev.solvTick → leads (.solvDeadline c) s fun x =>
      (x.dev.sctx c).stage = .output ∧ (x.dev.sctx c).code = 2 ∧ (s.dev.sctx c).hits ≤ (x.dev.sctx c).hits ∧
      (x.dev.sctx c).rangeF = ((s.dev.sctx c).rangeF || decide ((s.dev.sctx c).hits < (x.dev.sctx c).hits)) ∧
      x.dev.regs = s.dev.regs ∧ s.sameMem x) ∧
  (∀ (s : State) (c : Fin 16), (s.dev.sctx c).stage = .assembly →
    (s.dev.sctx c).deadline < s.dev.solv.now + s.dev.stepClocks c * s.dev.solvTick → leads (.solvDeadline c) s fun x =>
      x.dev.get (F.SOLV_CTX_STS_CODE c) = 4 ∧ x.dev.get (F.SOLV_CTX_STS_NR_REASON c) = 1 ∧
      x.dev.flag (F.SOLV_CTX_EVT_DONE_EVT c) = true ∧ (x.dev.sctx c).stage = .idle ∧ s.sameMem x) ∧
  ∀ (s : State) (p : Fin 8) (f : Frame) (stamp j : Nat), (s.dev.frameIn p f stamp).2 = true → f.typ = 7 →
    ((s.dev.frameIn p f stamp).1.link.cfg.rx.findIdx? (fun x => x.typ == 7 && x.stream == f.stream)) = some j →
    leads (.solvFrameReceive p f stamp) s fun x => x.dev = (s.dev.frameIn p f stamp).1 ∧
      (∀ i, i < min 63 f.body.length → x.mem.word (solvArea j + 4 * i) = f.body.getD i 0) ∧
      (∀ a, a < solvArea j ∨ solvArea j + 256 ≤ a → tblGet sramReset x.mem a = tblGet sramReset s.mem a) ∧
      x.flash = s.flash ∧ x.otp = s.otp ∧ x.pending = s.pending)

/-- O35. A reservation, an extension, a release or a revocation is asked for and its result arrives; reservations end (that a running window released at or before both T_START and UT is deleted is the model's choice, log entry 35) (R317, R323, R332, R316, R322, R325, R326) -/
def Obligations.Reservations : Prop :=
  (
  (∀ (s : State) (p : Port) (g : Fin 16), s.dev.flag (F.ARB_RS_PENDING g (s.dev.get (F.ARB_G_STS_NEXT_RSEQ g) % 8)) = true →
    ∀ c ∈ ([.arbReserve p g, .arbExtend p g, .arbRelease p g] : List Instr), answers c s (s.upd (Dev.illegal p (R.ARB_G_CMD g)))) ∧
  (∀ (s : State) (p : Port) (g : Fin 16), s.dev.flag (F.ARB_RS_PENDING g (s.dev.get (F.ARB_G_STS_NEXT_RSEQ g) % 8)) = false →
    ∀ c ∈ ([(1, .arbReserve p g), (2, .arbExtend p g), (3, .arbRelease p g)] : List (Nat × Instr)), leads c.2 s fun x =>
      let q := s.dev.get (F.ARB_G_STS_NEXT_RSEQ g)
      x.dev.flag (F.ARB_RS_PENDING g (q % 8)) = true ∧ x.dev.get (F.ARB_RS_RSEQ g (q % 8)) = q ∧
      x.dev.get (F.ARB_RS_OP g (q % 8)) = c.1 ∧ x.dev.get (F.ARB_G_STS_NEXT_RSEQ g) = (q + 1) % 16 ∧
      (∃ blk, x.dev.arb.reqs = s.dev.arb.reqs ++ [⟨g.val, q, c.1, blk, s.dev.get (F.ARB_G_HDL_HANDLE g), s.dev.get (F.ARB_G_TA_T_A g),
        s.dev.get (F.ARB_G_TB_T_B g)⟩] ∧ (c.1 = 1 → blk = s.dev.get (F.ARB_G_BLK_BLOCK g))) ∧
      (∀ o, o ≠ R.ARB_RS g (q % 8) → o ≠ R.ARB_STS → (∀ k < 16, o ≠ R.ARB_G_STS k) → x.dev.rd o = s.dev.rd o) ∧ s.sameMem x) ∧
  (∀ (s : State) (p : Port) (w : Word), bitsOf w.toNat 23 12 = 0 →
    s.homeEnts.any (fun e => e.idx == bitsOf w.toNat 11 0 && e.handle / 2 ^ 24 == bitsOf w.toNat 31 24) = true →
    leads (.arbRevoke p w) s fun x => x.dev.arb.revokes = s.dev.arb.revokes ++
        [(bitsOf w.toNat 11 0, bitsOf w.toNat 31 24, s.dev.get F.ARB_REVOKE_T_T_REV)] ∧ x.dev.regs = s.dev.regs ∧ s.sameMem x) ∧
  (∀ (s : State) (p : Port) (w : Word), (bitsOf w.toNat 23 12 ≠ 0 ∨
    s.homeEnts.any (fun e => e.idx == bitsOf w.toNat 11 0 && e.handle / 2 ^ 24 == bitsOf w.toNat 31 24) = false) →
    answers (.arbRevoke p w) s (s.upd (Dev.illegal p R.ARB_REVOKE))) ∧
  ∀ s : State, (s.dev.arb.restoreLeft = 0 → leads .restoreEnd s fun x => x.dev.flag F.ARB_STS_RESTORE = false ∧
      s.dev.sameRegs x.dev [R.ARB_STS] ∧ s.sameMem x) ∧ (s.dev.arb.restoreLeft ≠ 0 → answers .restoreEnd s s)) ∧
  (
  (∀ s : State, s.memWf → leads .reservationExpire s fun x =>
    (∀ e ∈ x.homeEnts, e.orphan = true ∨ utBefore s.dev.ut e.te = true) ∧ (∀ e ∈ x.heldEnts, utBefore s.dev.ut e.te = true) ∧
    (∀ a, a < arbHeld ∨ arbGeo ≤ a → tblGet sramReset x.mem a = tblGet sramReset s.mem a) ∧
    x.flash = s.flash ∧ x.otp = s.otp ∧ x.pending = s.pending) ∧
  (∀ (ut t : Nat) (e : ArbEnt), (utBefore t e.te = false → arbCut ut t e = some e) ∧
    (utBefore t e.te = true → utBefore e.ts t = false → arbCut ut t e = none) ∧
    (utBefore t e.te = true → utBefore e.ts t = true → utBefore ut t = true → arbCut ut t e = some { e with te := t }) ∧
    (utBefore t e.te = true → utBefore e.ts t = true → utBefore ut t = false → arbCut ut t e = some { e with te := (ut + 1) % 2 ^ 32 })) ∧
  (∀ (s : State) (r : ArbMsg), r.auto = false → r.code < 256 →
    s.dev.arb.outs.any (fun o => o.m.grp == r.grp && o.m.rseq == r.rseq) = true →
    let x := s.resultIn r
    x.dev.flag (F.ARB_RS_PENDING (r.grp % 16) (r.rseq % 8)) = false ∧ x.dev.get (F.ARB_RS_CODE (r.grp % 16) (r.rseq % 8)) = r.code ∧
    x.dev.flag (F.ARB_G_EVT_RESULT_EVT (r.grp % 16)) = true ∧
    x.dev.arb.outs.any (fun o => o.m.grp == r.grp && o.m.rseq == r.rseq) = false) ∧
  (∀ (s : State) (g q : Fin 16) (o : ArbOut) (t : Nat),
    s.dev.arb.outs.find? (fun o => o.m.grp == s.dev.nodeId * 16 + g.val && o.m.rseq == q.val) = some o → o.sent = some t → o.m.auto = false →
    (o.tries < s.dev.get F.ARB_CFG_RETRIES → leads (.arbRetryTimeout g q) s fun x =>
      { o with sent := none, tries := o.tries + 1 } ∈ x.dev.arb.outs ∧
      x.dev.get F.ARB_CNT1_RESENT = min (s.dev.get F.ARB_CNT1_RESENT + 1) (2 ^ (F.ARB_CNT1_RESENT.hi + 1 - F.ARB_CNT1_RESENT.lo) - 1) ∧
      ((tget s.dev.arb.queues o.dest).length < 64 → tget x.dev.arb.queues o.dest = tget s.dev.arb.queues o.dest ++ [o.m]) ∧
      (64 ≤ (tget s.dev.arb.queues o.dest).length → x.dev.arb.queues = s.dev.arb.queues ∧
        tget x.dev.arb.spill o.dest = tget s.dev.arb.spill o.dest ++ [o.m]) ∧ s.dev.sameRegs x.dev [R.ARB_CNT1] ∧ s.sameMem x) ∧
    (s.dev.get F.ARB_CFG_RETRIES ≤ o.tries → leads (.arbRetryTimeout g q) s fun x =>
      x.dev.flag (F.ARB_RS_PENDING g (q.val % 8)) = false ∧ x.dev.get (F.ARB_RS_CODE g (q.val % 8)) = 0x0A ∧
      x.dev.flag (F.ARB_G_EVT_RESULT_EVT g) = true ∧ s.sameMem x)) ∧
  ∀ (s : State) (p : Fin 8) (f : Frame) (stamp : Nat) (x : RxStream), (s.dev.frameIn p f stamp).2 = true → f.typ = 5 →
    (s.dev.frameIn p f stamp).1.link.cfg.rx.find? (fun x => x.typ == 5 && x.stream == f.stream) = some x →
    bitsOf (f.body.getD 0 0).toNat 31 24 = 1 → (s.dev.frameIn p f stamp).1.arb.down.contains x.arg = false →
    leads (.arbFrameReceive p f stamp) s fun y => y = (((List.range (min 12 (bitsOf (f.body.getD 0 0).toNat 3 0))).foldl
      (fun s i => s.msgIn x.arg (arbUnpack ((f.body.drop (1 + 5 * i)).take 5))) (s.upd fun _ => (s.dev.frameIn p f stamp).1)).arbShow))

/-- O36. The home never grants a window that overlaps a live reservation of the same block (UT times compared as log entry 82 says, the model's choice) (R319, R320, R321) -/
def Obligations.GrantsNeverOverlap : Prop :=
  (∀ (s : State) (x : ArbMsg), (s.homeReserve x).1.code = 0 →
    (∀ e ∈ s.homeEnts, e.block = x.block → utOverlap e.ts e.te x.ta x.tb = false ∧ (e.orphan = true → utBefore e.ts x.tb = false)) ∧ s.dev.flag F.ARB_STS_RESTORE = false ∧
    utBefore s.dev.ut x.tb = true ∧ ∃ i < 4096, (∀ e ∈ s.homeEnts, e.idx ≠ i) ∧ (s.homeReserve x).1.handle % 4096 = i ∧
      (s.homeReserve x).1.grp = x.grp ∧
      (s.homeReserve x).2.mem.arbEnt arbHome i = ⟨i, false, x.grp % 512, x.block % 1024, (s.homeReserve x).1.handle % 2 ^ 32, x.ta % 2 ^ 32, x.tb % 2 ^ 32⟩ ∧
      ∀ a, a < arbHome + 16 * i ∨ arbHome + 16 * i + 16 ≤ a → tblGet sramReset (s.homeReserve x).2.mem a = tblGet sramReset s.mem a) ∧
  ∀ (s : State) (x : ArbMsg), (s.homeExtend x).1.code = 0x0D →
    ∃ e ∈ s.homeEnts, e.idx = x.handle % 4096 ∧ e.handle = x.handle ∧ e.grp = x.grp ∧
      (∀ o ∈ s.homeEnts, o.block = e.block → o.idx ≠ e.idx → utOverlap o.ts o.te e.te x.tb = false ∧
        (o.orphan = true → utBefore o.ts x.tb = false)) ∧
      ∀ a, a < arbHome + 16 * e.idx ∨ arbHome + 16 * e.idx + 16 ≤ a →
        tblGet sramReset (s.homeExtend x).2.mem a = tblGet sramReset s.mem a

/-- O37. Every SP instruction's word spells it again, and a word that spells an instruction is its word (R343) -/
def Obligations.SpWordsRoundTrip : Prop :=
  (∀ f : SpFmt, f.fits = true → f.listed = true → spDecode f.encode = some f ∧ f.encode < 2 ^ 32) ∧
  ∀ (w : Nat) (f : SpFmt), spDecode w = some f → f.encode = w ∧ f.listed = true ∧ f.fits = true

/-- O38. Words written out from Tables 14.6 to 14.8 spell the instructions they stand for (R343) -/
def Obligations.SpWordsSpelled : Prop :=
  spDecode 0x00000000 = some (.r 0 0 0 0 0) ∧ spDecode 0x01123000 = some (.r 1 1 2 3 0) ∧ spDecode 0x44010005 = none ∧
  spDecode 0x44100005 = some (.i 4 1 0 5) ∧ spDecode 0x80000010 = some (.b 0 0 0x10) ∧
  spDecode 0xD0009090 = some (.p 4 0 0 0 0x48 0x48) ∧ spDecode 0xD4009090 = some (.p 5 0 0 0 0x48 0x48) ∧
  spDecode 0x49000001 = some (.i 9 0 0 1) ∧ spDecode 0x122003C0 = some (.r 0x12 2 0 0 15) ∧ spDecode 0xFFFFFFFF = none

/-- O39. SP instructions write what they compute, at once or two instructions later (R344, R345, R338, R337) -/
def Obligations.SpRegisterResults : Prop :=
  (
  ∀ (s : State) (c rd rs rt : Fin 16) (imm : BitVec 16) (k : Fin 64),
    let x := s.dev.core c
    let u := x.dv rs
    let v := x.dv rt
    let a := x.ds rs
    let b := x.ds rt
    ∀ p ∈ ([(.spNop c, .r 0 0 0 0 0, []), (.spAdd c rd rs rt, .r 1 rd rs rt 0, x.addW rd u v), (.spSub c rd rs rt, .r 2 rd rs rt 0, x.subW rd u v),
        (.spAnd c rd rs rt, .r 3 rd rs rt 0, dznvc rd (Nat.land u v) false false),
        (.spOr c rd rs rt, .r 4 rd rs rt 0, dznvc rd (Nat.lor u v) false false),
        (.spXor c rd rs rt, .r 5 rd rs rt 0, dznvc rd (Nat.xor u v) false false),
        (.spAsh c rd rs rt, .r 6 rd rs rt 0, dzn rd (shift32 true u (v % 64))), (.spLsh c rd rs rt, .r 7 rd rs rt 0, dzn rd (shift32 false u (v % 64))),
        (.spMin c rd rs rt, .r 0x0A rd rs rt 0, dzn rd (uNat 32 (min a b))), (.spMax c rd rs rt, .r 0x0B rd rs rt 0, dzn rd (uNat 32 (max a b))),
        (.spAbs c rd rs, .r 0x0C rd rs 0 0, dznv rd (x.sat32 a.natAbs) (over32 a.natAbs)),
        (.spNeg c rd rs, .r 0x0D rd rs 0 0, dznv rd (x.sat32 (-a)) (over32 (-a))), (.spCmp c rs rt, .r 0x0E 0 rs rt 0, cmpW u v),
        (.spMov c rd rs, .r 0x0F rd rs 0 0, dzn rd u), (.spNorm c rd rs, .r 0x15 rd rs 0 0, dzn rd (redundant u)),
        (.spAddi c rd rs imm, .i 0 rd rs imm.toNat, x.addW rd u (uNat 32 imm.toInt)),
        (.spAndi c rd rs imm, .i 1 rd rs imm.toNat, dznvc rd (Nat.land u imm.toNat) false false),
        (.spOri c rd rs imm, .i 2 rd rs imm.toNat, dznvc rd (Nat.lor u imm.toNat) false false),
        (.spXori c rd rs imm, .i 3 rd rs imm.toNat, dznvc rd (Nat.xor u imm.toNat) false false),
        (.spMovi c rd imm, .i 4 rd 0 imm.toNat, [.dreg rd (uNat 32 imm.toInt) false]),
        (.spMovhi c rd imm, .i 5 rd 0 imm.toNat, [.dreg rd (imm.toNat * 2 ^ 16 + x.dv rd % 2 ^ 16) false]),
        (.spAshi c rd rs k, .i 6 rd rs k, dzn rd (shift32 true u k)), (.spLshi c rd rs k, .i 7 rd rs k, dzn rd (shift32 false u k)),
        (.spCmpi c rs imm, .i 0x0C 0 rs imm.toNat, cmpW u (uNat 32 imm.toInt))] : List (Instr × SpFmt × List SpWrite)),
      s.runs c p.2.1 → answers p.1 s (s.spPass c { now := p.2.2 } x)) ∧
  (
  (∀ (s : State) (c rd rs rt : Fin 16) (k j : Fin 2) (sh idx : Fin 64),
    let x := s.dev.core c
    let prod := x.ds rs * x.ds rt
    let e := rshrI (x.accVis k) sh
    ∀ p ∈ ([(.spMul c rd rs rt, .r 8 rd rs rt 0, { now := [.sr 3 (znOf (uNat 32 prod))], late := [(1, .dreg rd (uNat 32 prod) false)] }),
        (.spMulh c rd rs rt, .r 9 rd rs rt 0,
          { now := [.sr 3 (znOf (uNat 32 (prod / 2 ^ 32)))], late := [(1, .dreg rd (uNat 32 (prod / 2 ^ 32)) false)] }),
        (.spMfc c rd idx, .r 0x10 rd 0 0 idx, { late := [(1, .dreg rd (s.dev.creg c idx) false)] }),
        (.spExa c rd k sh, .r 0x12 rd k 0 sh, 
          { now := [.sr 7 (znOf (uNat 32 (satI 32 e)) + 4 * b2n (decide (satI 32 e ≠ e)))], late := [(1, .dreg rd (uNat 32 (satI 32 e)) false)] }),
        (.spLda c k rs sh, .r 0x13 k rs 0 sh, { now := (accW k (x.ds rs * 2 ^ sh.val)).1, late := (accW k (x.ds rs * 2 ^ sh.val)).2 }),
        (.spClra c k, .r 0x14 k 0 0 0, { now := [.acc k 0], late := [(1, .vis k 0)] }),
        (.spAdda c k j, .r 0x16 k j 0 0, { now := (accW k (x.acc k + x.accVis j)).1, late := (accW k (x.acc k + x.accVis j)).2 })]
        : List (Instr × SpFmt × SpEff)),
      s.runs c p.2.1 → answers p.1 s (s.spPass c p.2.2 x)) ∧
  ∀ (s : State) (c rs : Fin 16) (idx : Fin 64), s.runs c (.r 0x11 0 rs 0 idx) →
    (idx.val < 34 → answers (.spMtc c idx rs) s (s.spPass c { late := [(2, .creg idx (Nat.land ((s.dev.core c).dv rs) (cregMask idx)))] } (s.dev.core c))) ∧
    (35 ≤ idx.val → idx.val < 38 → answers (.spMtc c idx rs) s
      (s.spPass c { now := [.creg idx (Nat.land ((s.dev.core c).dv rs) (cregMask idx))] } (s.dev.core c))) ∧
    (idx.val = 34 → answers (.spMtc c idx rs) s (s.spPass c 
      { now := [.sr 0x47F ((s.dev.core c).dv rs)], late := [(1, .eie (bitOf ((s.dev.core c).dv rs) 10))] } (s.dev.core c))) ∧
    (40 ≤ idx.val → idx.val < 46 → let k := (idx.val - 40) / 3
      let v := accSet ((s.dev.core c).acc k) ((idx.val - 40) % 3) ((s.dev.core c).dv rs)
      answers (.spMtc c idx rs) s (s.spPass c { now := [.acc k v, .vis k v] } (s.dev.core c))) ∧
    ((idx.val = 38 ∨ idx.val = 39 ∨ 46 ≤ idx.val) → answers (.spMtc c idx rs) s (s.spExcept c 1)))

/-- O40. The cores' arithmetic is that of 32-bit words: sums, differences, shifts, redundant sign bits, accumulators, circular buffers (R344, R338, R342) -/
def Obligations.SpArithmetic : Prop :=
  (∀ (x : SpCore) (rd : Nat) (u v : BitVec 32),
    let out := fun (i : Int) (w : BitVec 32) => if bitOf x.srv 4 ∧ 2 ^ 31 ≤ i then 0x7FFFFFFF else if bitOf x.srv 4 ∧ i < -2 ^ 31 then 0x80000000 else w.toNat
    let fl := fun (i : Int) (r : Nat) (cy : Bool) =>
      b2n (decide (r = 0)) + 2 * b2n (decide (2 ^ 31 ≤ r)) + 4 * b2n (decide (2 ^ 31 ≤ i ∨ i < -2 ^ 31)) + 8 * b2n cy
    x.addW rd u.toNat v.toNat = [.dreg rd (out (u.toInt + v.toInt) (u + v)) false,
      .sr 15 (fl (u.toInt + v.toInt) (out (u.toInt + v.toInt) (u + v)) (decide (2 ^ 32 ≤ u.toNat + v.toNat)))] ∧
    x.subW rd u.toNat v.toNat = [.dreg rd (out (u.toInt - v.toInt) (u - v)) false,
      .sr 15 (fl (u.toInt - v.toInt) (out (u.toInt - v.toInt) (u - v)) (decide (v.toNat ≤ u.toNat)))] ∧
    cmpW u.toNat v.toNat = [.sr 15 (fl (u.toInt - v.toInt) (u - v).toNat (decide (v.toNat ≤ u.toNat)))]) ∧
  (∀ (u : BitVec 32) (k : BitVec 6),
    shift32 true u.toNat k.toNat = (if 0 ≤ k.toInt then u <<< k.toInt.toNat else u.sshiftRight (-k.toInt).toNat).toNat ∧
    shift32 false u.toNat k.toNat = (if 0 ≤ k.toInt then u <<< k.toInt.toNat else u >>> (-k.toInt).toNat).toNat) ∧
  (∀ u : BitVec 32, redundant u.toNat ≤ 31 ∧ satI 32 (u.toInt * 2 ^ redundant u.toNat) = u.toInt * 2 ^ redundant u.toNat ∧
    (redundant u.toNat < 31 → satI 32 (u.toInt * 2 ^ (redundant u.toNat + 1)) ≠ u.toInt * 2 ^ (redundant u.toNat + 1))) ∧
  (∀ (k : Nat) (i : Int), let v := max (-2 ^ 71) (min (2 ^ 71 - 1) i)
    accW k i = ([.acc k v] ++ (if v = i then [] else [.sr 0x20 0x20]), [(1, .vis k v)])) ∧
  ∀ (a b l : Nat) (m : Int), b ≤ a → a < b + l → b + l ≤ 2 ^ 14 → m.natAbs ≤ l → 0 ≤ a + m → a + m < 2 ^ 14 →
    b ≤ modAddr a m b l ∧ modAddr a m b l < b + l ∧ (l : Int) ∣ (modAddr a m b l : Int) - (a + m)

/-- O41. Local and global loads and stores of the SP cores (R339, R340, R341, R345) -/
def Obligations.SpMemoryOps : Prop :=
  (∀ (s : State) (c rd ar : Fin 16) (imm : BitVec 16) (a : Nat) (w : List SpWrite), (s.dev.core c).ea ar imm.toNat = .ok (a, w) →
    (∀ v, s.spRead c (decide (4 ≤ ar.val)) a = some v → s.runs c (.i 8 rd ar imm.toNat) →
      answers (.spLd c rd ar imm) s (s.spPass c { now := w, late := [(1, .dreg rd v true)] } (s.dev.core c))) ∧
    (s.spRead c (decide (4 ≤ ar.val)) a = none → s.runs c (.i 8 rd ar imm.toNat) → answers (.spLd c rd ar imm) s (s.spExcept c 3)) ∧
    (s.runs c (.i 9 rd ar imm.toNat) → answers (.spSt c rd ar imm) s (s.spPass c
      { now := w, late := [(1, if 4 ≤ ar.val then .ymem a ((s.dev.core c).dv rd) else .xmem a ((s.dev.core c).dv rd))] } (s.dev.core c))) ∧
    (s.runs c (.i 0x0D 0 ar imm.toNat) → answers (.spModa c ar imm) s (s.spPass c { now := w } (s.dev.core c)))) ∧
  (∀ (s : State) (c rd ar : Fin 16) (imm : BitVec 16), 8 ≤ ar.val →
    (s.runs c (.i 8 rd ar imm.toNat) → answers (.spLd c rd ar imm) s (s.spExcept c 1)) ∧
    (s.runs c (.i 9 rd ar imm.toNat) → answers (.spSt c rd ar imm) s (s.spExcept c 1)) ∧
    (s.runs c (.i 0x0D 0 ar imm.toNat) → answers (.spModa c ar imm) s (s.spExcept c 1))) ∧
  (∀ (s : State) (c rd rs : Fin 16) (imm : BitVec 16), let a := uNat 32 ((s.dev.core c).ds rs + imm.toInt)
    (s.dev.globalBad c false a = true → s.runs c (.i 0x0A rd rs imm.toNat) → answers (.spLdg c rd rs imm) s (s.spExcept c 2)) ∧
    (s.dev.globalBad c true a = true → s.runs c (.i 0x0B rd rs imm.toNat) → answers (.spStg c rd rs imm) s (s.spExcept c 2)) ∧
    (s.dev.globalBad c false a = false → s.runs c (.i 0x0A rd rs imm.toNat) → a < 0x800000 → s.dev.regionOff 0 = false →
      (s.dev.core c).stores = [] → ∀ v, s.eccWord a = some v →
      answers (.spLdg c rd rs imm) s (s.spPass c { now := dzn rd v } (s.dev.core c))) ∧
    (s.dev.globalBad c true a = false → s.runs c (.i 0x0B rd rs imm.toNat) → (s.dev.core c).stores.length < 8 →
      answers (.spStg c rd rs imm) s ((s.upd (Dev.modCore c fun y => { y with stores := y.stores ++ [(a, y.dv rd)] })).spPass c {} (s.dev.core c)))) ∧
  (∀ (s : State) (c : Fin 16), s.runs c (.b 0x0C 0 0) → answers (.spSync c) s ((s.storesEffect c).spPass c {} (s.dev.core c))) ∧
  ∀ (s : State) (c : Fin 16) (a v : Nat) (r : List (Nat × Nat)), (s.dev.core c).stores = (a, v) :: r → a < 0x800000 →
    s.dev.regionOff 0 = false → leads (.globalStoreEffect c) s fun y =>
      (y.dev.core c).stores = r ∧ y.mem.word a = BitVec.ofNat 32 v ∧ y.dev.regs = s.dev.regs ∧
      (∀ b, b < a ∨ a + 4 ≤ b → tblGet sramReset y.mem b = tblGet sramReset s.mem b) ∧ y.flash = s.flash ∧ y.otp = s.otp ∧ y.pending = s.pending

/-- O42. SP transfers of control and parallel operations (what a loop of count 0 sets is the model's choice, log entry 36) (R346, R349, R350, R347, R348, R345) -/
def Obligations.SpControlAndParallel : Prop :=
  (
  (∀ (s : State) (c r k : Fin 16) (t : BitVec 13) (n : BitVec 11), let x := s.dev.core c
    x.slot = none → x.atLe = false →
    (∀ p ∈ ([(.spJ c t, .b 0 0 t.toNat, { next := .jump t.toNat }),
        (.spCall c t, .b 2 0 t.toNat, { now := [.creg 35 ((x.pc + 2) % 2 ^ 13)], next := .jump t.toNat }),
        (.spRet c, .b 3 0 0, { next := .jump (x.cv 35) }), (.spJr c r, .b 4 r 0, { next := .jump (x.dv r % 2 ^ 13) }),
        (.spRfe c, .b 0x0B 0 0, { now := [.sr 0x77F (x.cv 37), .eie (bitOf (x.cv 37) 10)], next := .go (x.cv 36) })] : List (Instr × SpFmt × SpEff)),
      s.runs c p.2.1 → answers p.1 s (s.spPass c p.2.2 x)) ∧
    (s.runs c (.b 1 k t.toNat) →
      (x.cond k = some true → answers (.spJc c k t) s (s.spPass c { next := .jump t.toNat } x)) ∧
      (x.cond k = some false → answers (.spJc c k t) s (s.spPass c {} x)) ∧
      (10 ≤ k.val → answers (.spJc c k t) s (s.spExcept c 1))) ∧
    (let l := if bitOf x.srv 8 then 1 else 0
      let ok := !(bitOf x.srv 8 && bitOf x.srv 9) && decide ((x.pc + 1) % 2 ^ 13 ≤ t.toNat) && (l == 0 || decide (t.toNat ≤ x.cv 30))
      ∀ p ∈ ([(.spLoopi c n t, .b 5 n.toNat t.toNat, n.toNat), (.spLoop c r t, .b 6 r t.toNat, x.dv r % 2 ^ 16)] : List (Instr × SpFmt × Nat)),
        s.runs c p.2.1 →
        (ok = false → answers p.1 s (s.spExcept c 1)) ∧
        (ok = true → p.2.2 ≠ 0 → answers p.1 s (s.spPass c { now := [.creg (29 + 3 * l) ((x.pc + 1) % 2 ^ 13),
          .creg (30 + 3 * l) t.toNat, .creg (28 + 3 * l) p.2.2, .sr (2 ^ (8 + l)) (2 ^ (8 + l))] } x)) ∧
        (ok = true → p.2.2 = 0 → answers p.1 s (s.spPass c { now := [.creg (29 + 3 * l) ((x.pc + 1) % 2 ^ 13),
          .creg (30 + 3 * l) t.toNat, .creg (28 + 3 * l) 0], next := .skip ((t.toNat + 1) % 2 ^ 13) } x)))) ∧
  (∀ (s : State) (c r k : Fin 16) (t : BitVec 13) (n : BitVec 11) (u : Nat), ((s.dev.core c).slot.isSome = true ∨ (s.dev.core c).atLe = true) →
    ∀ p ∈ ([(.spJ c t, .b 0 0 t.toNat), (.spJc c k t, .b 1 k t.toNat), (.spCall c t, .b 2 0 t.toNat), (.spRet c, .b 3 0 0), (.spJr c r, .b 4 r 0),
        (.spLoopi c n t, .b 5 n.toNat t.toNat), (.spLoop c r t, .b 6 r t.toNat), (.spGettask c u, .b 8 0 0), (.spRfe c, .b 0x0B 0 0)]
        : List (Instr × SpFmt)), s.runs c p.2 → answers p.1 s (s.spExcept c 1)) ∧
  ∀ (s : State) (c : Fin 16) (m : BitVec 11), let x := s.dev.core c
    (s.runs c (.b 7 0 0) → (x.atLe = true → answers (.spEndl c) s (s.spExcept c 1)) ∧
      (x.atLe = false → answers (.spEndl c) s (s.spPass c { now := [.sr (if bitOf x.srv 9 then 0x200 else 0x100) 0] } x))) ∧
    (s.runs c (.b 0x0D m.toNat 0) → answers (.spBset c m) s (s.spPass c
      { now := [.sr (Nat.land m.toNat 0x47F) 0x47F], late := if bitOf m.toNat 10 then [(1, .eie true)] else [] } x)) ∧
    (s.runs c (.b 0x0E m.toNat 0) → answers (.spBclr c m) s (s.spPass c
      { now := [.sr (Nat.land m.toNat 0x47F) 0], late := if bitOf m.toNat 10 then [(1, .eie false)] else [] } x))) ∧
  (
  (∀ (s : State) (c s1 s2 : Fin 16) (k : Fin 2) (xm ym : BitVec 8), let x := s.dev.core c
    let prod := x.ds s1 * x.ds s2
    ∀ p ∈ ([(.spMpy c k s1 s2 xm ym, .p 0 k s1 s2 xm.toNat ym.toNat, accW k prod),
        (.spMac c k s1 s2 xm ym, .p 1 k s1 s2 xm.toNat ym.toNat, accW k (x.acc k + prod)),
        (.spMsu c k s1 s2 xm ym, .p 2 k s1 s2 xm.toNat ym.toNat, accW k (x.acc k - prod)),
        (.spMovp c xm ym, .p 3 0 0 0 xm.toNat ym.toNat, ([], [])), (.spClrm c k xm ym, .p 6 k 0 0 xm.toNat ym.toNat, accW k 0)]
        : List (Instr × SpFmt × (List SpWrite × List (Nat × SpWrite)))),
      s.runs c p.2.1 →
      (∀ e, s.spMoves c xm.toNat ym.toNat = .ok e →
        answers p.1 s (s.spPass c { e with now := p.2.2.1 ++ e.now, late := p.2.2.2 ++ e.late } x)) ∧
      (mvMode xm.toNat = 2 → mvMode ym.toNat = 2 → answers p.1 s (s.spExcept c 1))) ∧
  ∀ (s : State) (c : Fin 16) (k : Fin 2) (xm ym : BitVec 8) (t q : Nat), let x := s.dev.core c
    mvMode xm.toNat = 1 → mvMode ym.toNat = 1 → mvReg xm.toNat = 0 → mvReg ym.toNat = 0 → mvBad xm.toNat ym.toNat = false →
    s.spRead c false (x.ar false (mvAr xm.toNat)) = some t → s.spRead c true (x.ar true (mvAr ym.toNat)) = some q →
    let w := accW k (x.acc k + sInt 32 t * sInt 32 q)
    let post := x.mvPost false xm.toNat ++ x.mvPost true ym.toNat
    (s.runs c (.p 5 k 0 0 xm.toNat ym.toNat) → answers (.spMacm c k xm ym) s (s.spPass c { now := w.1 ++ post, late := w.2 } x)) ∧
    (s.runs c (.p 4 k 0 0 xm.toNat ym.toNat) →
      ((mvMod xm.toNat = 1 ∨ mvMod xm.toNat = 2) → answers (.spTap c k xm ym) s (s.spPass c 
        { now := w.1 ++ post, late := w.2 ++ [(1, .xmem (x.arMod false (mvAr xm.toNat) (if mvMod xm.toNat = 1 then -1 else 1)) t)] } x)) ∧
      (mvMod xm.toNat ≠ 1 → mvMod xm.toNat ≠ 2 → answers (.spTap c k xm ym) s (s.spExcept c 1))))

/-- O43. An instruction passes: writes at once, writes one instruction later, the delay slot, the loop end (that a waiting control register write wins over the ending instruction's own is the model's choice, log entry 36) (R345, R350, R346) -/
def Obligations.SpPipeline : Prop :=
  (∀ (s : State) (c : Nat) (e : SpEff), let x := s.dev.core c
    s.dev.coreState c = 1 → x.late = [] → x.stepping = false → s.dev.flag (F.SPC_CTL_HALT c) = false → (∀ w ∈ e.late, 0 < w.1) →
    let y := (s.spPass c e x).dev.core c
    (x.slot = none → x.level = none → e.next = .seq → y.pc = (x.pc + 1) % 2 ^ 13 ∧ y.slot = none ∧ y.late = e.late) ∧
    (x.slot = none → x.level = none → e.next = .seq → ∀ r v, e.now = [.dreg r v false] →
      y.dv r = v % 2 ^ 32 ∧ (∀ q, q ≠ r → y.dv q = x.dv q) ∧ y.cr = x.cr ∧ y.a0 = x.a0 ∧ y.a1 = x.a1 ∧ (s.spPass c e x).mem = s.mem) ∧
    (∀ t, e.next = .jump t → y.pc = (x.pc + 1) % 2 ^ 13 ∧ y.slot = some t) ∧
    (∀ t, x.slot = some t → x.level = none → e.next = .seq → y.pc = t ∧ y.slot = none) ∧
    (x.slot = none → bitOf x.srv 8 = true → bitOf x.srv 9 = false → x.cv 30 = x.pc → e.now = [] → e.next = .seq →
      (1 < x.cv 28 → y.pc = x.cv 29 ∧ y.cv 28 = x.cv 28 - 1 ∧ bitOf y.srv 8 = true) ∧
      (x.cv 28 ≤ 1 → y.pc = (x.pc + 1) % 2 ^ 13 ∧ y.cv 28 = 0 ∧ bitOf y.srv 8 = false))) ∧
  (∀ (s : State) (c r v w : Nat), let x := s.dev.core c
    s.dev.coreState c = 1 → x.late = [(1, .creg r v)] → x.stepping = false → s.dev.flag (F.SPC_CTL_HALT c) = false → x.slot = none →
    x.level = none → ((s.spPass c { now := [.creg r w] } x).dev.core c).cv r = v ∧ ((s.spPass c { now := [.creg r w] } x).dev.core c).late = []) ∧
  ∀ (s : State) (c r v : Nat) (l : Bool),
    ((s.dev.core c).late = [(1, .dreg r v l)] → ((s.spLand c).dev.core c).dv r = v % 2 ^ 32 ∧ ((s.spLand c).dev.core c).late = []) ∧
    ((s.dev.core c).late = [(1, .xmem r v)] → (s.spLand c).mem.word (xOff c r) = BitVec.ofNat 32 v) ∧
    ((s.dev.core c).late = [(2, .creg r v)] → ((s.spLand c).dev.core c).cr = (s.dev.core c).cr ∧
      ((s.spLand c).dev.core c).late = [(1, .creg r v)])

/-- O44. Exceptions, core events, HALT, RESUME and STEP of an SP core; an illegal word is an ILLEGAL exception (R351, R352, R354, R343) -/
def Obligations.SpEvents : Prop :=
  (∀ (d : Dev) (c cause : Fin 16), let x := d.core c
    let y := (d.exception c cause).core c
    y.cv 36 = x.pc ∧ y.cv 37 = x.srv ∧ y.cv 38 = cause ∧ y.pc = 8 ∧ y.slot = none ∧
    bitOf y.srv 10 = false ∧ bitOf y.srv 9 = false ∧ bitOf y.srv 8 = false ∧ (∀ b < 8, bitOf y.srv b = bitOf x.srv b) ∧
    y.d = x.d ∧ y.a0 = x.a0 ∧ y.a1 = x.a1 ∧ (d.exception c cause).flag (F.SPC_EVT_EXC_EVT c) = true ∧
    (bitOf x.srv 10 = false → (d.exception c cause).coreState c = 3 ∧ (d.exception c cause).get (F.SPC_STS_HCAUSE c) = 2) ∧
    (bitOf x.srv 10 = true → (d.exception c cause).coreState c = d.coreState c)) ∧
  (∀ (s : State) (c : Fin 16), let x := s.dev.core c
    (s.dev.coreState c = 1 ∨ s.dev.coreState c = 2) → s.dev.frozen = false → s.dev.flag (F.SPC_CTL_HALT c) = false → x.stepping = false →
    x.eieVis = true → x.atBoundary = true → x.taskLatch = true → leads (.eventTake c) s fun y =>
      (y.dev.core c).cv 36 = x.pc ∧ (y.dev.core c).cv 37 = x.srv ∧ (y.dev.core c).cv 38 = 8 ∧ (y.dev.core c).pc = 8 ∧
      (y.dev.core c).hostLatch = x.hostLatch ∧ (y.dev.core c).d = x.d ∧ y.dev.coreState c = 1 ∧ s.sameTrail y ∧
      (s.dev.readyIds = [] → (y.dev.core c).taskLatch = false ∧ s.sameMem y)) ∧
  (∀ (s : State) (c : Fin 16), let x := s.dev.core c
    (s.dev.coreState c = 1 ∨ s.dev.coreState c = 2) → s.dev.frozen = true → leads (.spHalt c) s fun y =>
      y.dev.coreState c = s.dev.coreState c ∧ y.dev.flag (F.SPC_CTL_HALT c) = true ∧ (y.dev.core c).pc = x.pc) ∧
  (∀ (s : State) (c : Fin 16), let x := s.dev.core c
    (s.dev.coreState c = 1 ∨ s.dev.coreState c = 2) → s.dev.frozen = false → x.atBoundary = true → leads (.spHalt c) s fun y =>
      y.dev.coreState c = 3 ∧ y.dev.get (F.SPC_STS_HCAUSE c) = 1 ∧ y.dev.flag (F.SPC_CTL_HALT c) = false ∧
      y.dev.flag (F.SPC_EVT_HALT_EVT c) = true ∧ (x.eventNow = none → (y.dev.core c).pc = x.pc) ∧ (x.eventNow ≠ none → (y.dev.core c).pc = 8)) ∧
  (∀ (s : State) (c : Fin 16), s.dev.coreState c = 3 →
    (leads (.spResume c) s fun y => y.dev.coreState c = 1 ∧ (y.dev.core c).pc = (s.dev.core c).pc ∧ (y.dev.core c).d = (s.dev.core c).d ∧ s.sameTrail y ∧
      (s.dev.readyIds = [] → s.sameMem y)) ∧
    (leads (.spStep c) s fun y => y.dev.coreState c = 1 ∧ (y.dev.core c).stepping = true ∧ (y.dev.core c).d = (s.dev.core c).d ∧
      s.sameTrail y ∧ (s.dev.readyIds = [] → s.sameMem y))) ∧
  (∀ (s : State) (c : Fin 16), (leads (.doorRing c) s fun y => (y.dev.core c).hostLatch = true ∧ y.dev.flag (F.SPC_DOOR_RING c) = true ∧
    s.dev.sameRegs y.dev [R.SPC_DOOR c] ∧ s.sameMem y)) ∧
  ∀ (s : State) (c : Fin 16), s.dev.spRuns c = true →
    (∀ w, s.spFetch c = some w → spDecode w = none → answers (.illegalOpcode c) s (s.spExcept c 1)) ∧
    (∀ w f, s.spFetch c = some w → spDecode w = some f → answers (.illegalOpcode c) s s) ∧
    (s.spFetch c = none → answers (.illegalOpcode c) s (s.spExcept c 3))

/-- O45. Tasks are posted, handed over and end (what a DPOST does to an entry that is due, the ends of windows, a hand-over before a post at COUNT 255 and the 4th clock are the model's choice, log entry 84) (R359, R360, R361, R362, R365, R370, R372, R355, R356, R363, R364) -/
def Obligations.Tasks : Prop :=
  (
  (∀ (s : State) (p : Port) (i : Fin 1024) (t : Nat),
    (s.dev.taskValid i = true → s.dev.get (F.SCHED_TSK_COUNT i) < 255 → leads (.schedPost p i t) s fun x =>
      x.dev.get (F.SCHED_TSK_COUNT i) = s.dev.get (F.SCHED_TSK_COUNT i) + 1 ∧
      ((s.dev.task i).core = none → (s.dev.task i).ready = none →
        (x.dev.task i).ready.isSome = true ∧ x.dev.get (F.SCHED_TSK_STATE i) = 1) ∧
      s.sameTrail x) ∧
    (s.dev.taskValid i = true → s.dev.get (F.SCHED_TSK_COUNT i) = 255 → let y := (s.clockAt t).dev
      (y.handDue i = none → leads (.schedPost p i t) s fun x =>
        x.dev.flag F.SCHED_EVT_POST_OVF_EVT = true ∧ x.dev.get (F.SCHED_TSK_COUNT i) = 255) ∧
      (∀ c u, y.handDue i = some c → c < 16 → (y.core c).got = some (i.val, u) → u + 6 ≤ y.sched.clk.2 → y.coreState c = 2 → y.frozen = false →
        leads (.schedPost p i t) s fun x => x.dev.get (F.SCHED_TSK_COUNT i) = 255 ∧ (x.dev.task i).core = some c ∧
          x.dev.rd R.SCHED_CNT0 = s.dev.rd R.SCHED_CNT0)) ∧
    (s.dev.taskValid i = false → leads (.schedPost p i t) s fun x => x.dev.flag F.SCHED_EVT_BAD_POST_EVT = true ∧
      x.dev.get (F.SCHED_TSK_COUNT i) = s.dev.get (F.SCHED_TSK_COUNT i))) ∧
  (∀ (s : State) (i : Fin 1024) (t : Nat), s.dev.taskValid i = true → s.dev.taskTrig i ≠ 1 → leads (.schedDpost i t) s fun x =>
    (x.dev.task i).due = (if s.dev.get F.SCHED_DPOST_T_DELAY = 0 then none
      else some (((s.dev.runTo t).ut + min (2 ^ 30) (s.dev.get F.SCHED_DPOST_T_DELAY)) % 2 ^ 32)) ∧ s.sameTrail x ∧
    ((s.dev.runTo t).lateBy i = none → (x.dev.task i).ready = (s.dev.task i).ready ∧
      ((∀ q ∈ s.dev.sched.tasks, q.2.expiring = false) → s.dev.sameRegs x.dev [R.SCHED_TSK i, R.SCHED_STS] ∧ s.sameMem x)) ∧
    ((s.dev.runTo t).lateBy i ≠ none → s.dev.get (F.SCHED_TSK_COUNT i) < 255 →
      x.dev.get (F.SCHED_TSK_COUNT i) = s.dev.get (F.SCHED_TSK_COUNT i) + 1)) ∧
  (∀ (s : State) (i : Fin 1024) (u : Nat), (s.dev.task i).due = some u → tblWf (fun _ => default) 0 s.dev.sched.tasks = true →
    (s.dev.runToUt u).lateBy i ≠ none →
    ∀ p ∈ ([(false, .delayDue i, none), (true, .periodDue i, some ((u + s.dev.taskVal i) % 2 ^ 32))] : List (Bool × Instr × Option Nat)),
      (s.dev.taskTrig i == 1) = p.1 → leads p.2.1 s fun x => (x.dev.task i).due = p.2.2 ∧ s.sameTrail x ∧
        (s.dev.taskValid i = true → s.dev.get (F.SCHED_TSK_COUNT i) < 255 →
          x.dev.get (F.SCHED_TSK_COUNT i) = s.dev.get (F.SCHED_TSK_COUNT i) + 1)) ∧
  (∀ (d : Dev) (l r : List Nat) (i j k : Nat), d.dueIds = l ++ i :: j :: r → ((d.lateBy i).getD 0) = k →
    (d.lateBy j).getD 0 ≤ k ∧ ((d.lateBy j).getD 0 = k → i ≤ j)) ∧
  (∀ (s : State) (i : Fin 1024), ((s.dev.task i).win = none → answers (.affinityExpire i) s s) ∧
    ∀ t, (s.dev.task i).win = some t → (s.dev.task i).expiring = false → tblWf (fun _ => default) 0 s.dev.sched.tasks = true →
      leads (.affinityExpire i) s fun x => (x.dev.task i).win = some t ∧ (x.dev.task i).expiring = true ∧
        (x.dev.task i).ready = (s.dev.task i).ready ∧ x.dev.time = (s.dev.runTo t).time ∧ s.sameTrail x) ∧
  (∀ (s : State) (t : Nat) (i : Fin 1024), s.dev.sched.clk ≠ (s.dev.time.ticks, t) → (s.dev.task i).expiring = true →
    tblWf (fun _ => default) 0 s.dev.sched.tasks = true →
    ((s.newClock t).dev.task i).ready = (s.dev.task i).ready ∧
    ((s.newClock t).dev.task i).win = (if s.dev.serve.given.contains i.val then (s.dev.task i).win else none)) ∧
  (∀ (s : State) (p : Port) (k : Fin 8) (w : Word), leads (.mailboxWrite p k w) s fun x =>
    x.dev.rd (R.SCHED_MB_DATA k) = w ∧ (∀ c, p = .sp c → x.dev.flag (F.SCHED_MB_EVT_MSG_EVT k) = true) ∧
    s.dev.sameRegs x.dev [R.SCHED_MB_DATA k, R.SCHED_MB_EVT k] ∧ s.sameMem x) ∧
  ∀ s : State, leads .contrailReset s fun x => x.dev.get F.SCHED_CTR_POS_LO_WPTR = 0 ∧ x.dev.flag F.SCHED_CTR_POS_LO_FULL = false ∧
    x.dev.get F.SCHED_CTR_POS_HI_WRAPS = 0 ∧ s.dev.sameRegs x.dev [R.SCHED_CTR_POS_LO, R.SCHED_CTR_POS_HI] ∧ s.sameMem x) ∧
  (
  (∀ (d : Dev) (c i : Nat), (d.assign d.waiters d.given).find? (fun x => x.1 == c) = some (c, i) →
    (d.serve.core c).got = some (i, d.sched.clk.2)) ∧
  (∀ (s : State) (c : Fin 16) (i t u : Nat),
    s.dev.coreState c = 2 → s.dev.frozen = false → s.dev.flag (F.SPC_CTL_HALT c) = false → (s.dev.core c).stepping = false → i < 1024 →
    ((s.clockAt t).dev.core c).got = some (i, u) → leads (.taskHandover c t) s fun y =>
      y.dev.get (F.SCHED_TSK_COUNT i) = s.dev.get (F.SCHED_TSK_COUNT i) - 1 ∧ (y.dev.core c).got = none ∧
      y.dev.time = (s.dev.runTo t |>.runTo (max t (u + 6))).time ∧
      (y.dev.core c).dv 0 = s.dev.taskPrio i * 2 ^ 16 + i ∧ (y.dev.core c).dv 1 = s.dev.desc i 2 ∧
      (y.dev.core c).pc = bitsOf (s.dev.desc i 1) 12 0 ∧ (y.dev.core c).held = some i ∧ bitOf (y.dev.core c).srv 8 = false ∧
      bitOf (y.dev.core c).srv 9 = false ∧ y.dev.coreState c = 1 ∧ (y.dev.task i).core = some c.val ∧ (y.dev.task i).ready = none ∧
      s.sameTrail y) ∧
  (∀ (d : Dev) (i j : Nat), d.taskPrio j < d.taskPrio i → d.before i j = true ∧ d.before j i = false) ∧
  (∀ (s : State) (c r : Fin 16) (t : Nat), let x := s.dev.core c
    (s.runs c (.b 8 0 0) → x.slot = none → x.atLe = false → answers (.spGettask c t) s
      (((s.clockAt t).complete c 0xFE).spPass c { next := .wait } x)) ∧
    (s.runs c (.b 9 r 0) → x.held = none → answers (.spTdone c r t) s (s.spExcept c 1)) ∧
    (∀ i < 1024, s.runs c (.b 9 r 0) → x.held = some i → leads (.spTdone c r t) s fun y => (y.dev.core c).held = none ∧
      y.dev.get (F.SCHED_TSK_LAST_STATUS i) = x.dv r % 256 ∧ (y.dev.task i).core = none)) ∧
  ∀ (s : State) (c r : Fin 16) (t : Nat), let i := (s.dev.core c).dv r % 1024
    s.runs c (.b 0x0A r 0) → s.dev.taskValid i = true → s.dev.get (F.SCHED_TSK_COUNT i) < 255 → leads (.spTpost c r t) s fun y =>
      y.dev.get (F.SCHED_TSK_COUNT i) = s.dev.get (F.SCHED_TSK_COUNT i) + 1)

/-- O46. In ACTIVE an output is energised exactly while USE is 1, RB_FAULT clear and no demand keeps it off; in every other state it is off (R389) -/
def Obligations.SafeOutputs : Prop :=
  ∀ s : State, s.dev.safe.on = true → s.dev.safe.run = true → leads .safeEvaluation s fun x =>
    (x.dev.istate = 4 → ∀ k : Fin 8, bitOf x.dev.safe.outOn k = true ↔
      (∃ p ∈ x.dev.safe.cfg.outs, p.1 = k.val ∧ p.2.used = true) ∧ bitOf x.dev.safe.rbFault k = false ∧ bitOf x.dev.safe.esc k = false ∧
      ∀ y ∈ x.dev.safe.demands, (y.cat = 0 → bitOf y.outs k = false) ∧ (y.cat = 1 → bitOf y.past k = false)) ∧
    (x.dev.istate ≠ 4 → ∀ k : Fin 8, bitOf x.dev.safe.outOn k = false) ∧ s.sameMem x

/-- O47. An energise permit is 1 only in ACTIVE, with the axis's output energised and no CAT 0 or CAT 1 demand or SOS escalation covering it (R388) -/
def Obligations.EnergisePermit : Prop :=
  (∀ s : State, s.dev.safe.on = true → s.dev.safe.run = true → leads .safeEvaluation s fun x => ∀ n : Fin 128,
    (bitOf x.dev.safe.permit n = true → x.dev.istate = 4 ∧
      (∃ a ∈ x.dev.safe.cfg.axes, a.axis = n.val ∧ bitOf x.dev.safe.outOn a.out = true) ∧
      (∀ y ∈ x.dev.safe.demands, y.cat < 2 → bitOf y.axes n = false) ∧
      ∀ a ∈ x.dev.safe.cfg.axes, a.axis = n.val → bitOf x.dev.safe.esc a.out = false) ∧
    bitOf (x.dev.get (F.SAFE_PERMIT_PERMIT (n / 32))) (n % 32) = bitOf x.dev.safe.permit n) ∧
  ∀ (d : Dev) (n : Fin 128), d.topo n ≠ 0 → d.uncleared n = false → bitOf d.safe.permit n = false → d.energCheck n = 3

/-- O48. Every LOCKOUT cause opens the outputs, withdraws every permit and stops every axis (R376, R377, R378, R392, R393) -/
def Obligations.Lockout : Prop :=
  (∀ s : State, s.dev.safe.on = true → s.dev.istate ≠ 5 →
    ∀ p ∈ ([(0x10, .xlink), (0x11, .cmdMismatch), (0x12, .safeSupply), (0x13, .safeClock .offFreq), (0x13, .safeClock .interval), (0x14, .periodicTest false),
        (0x15, .periodicTest true)] : List (Nat × Instr)), leads p.2 s fun x =>
      x.dev.istate = 5 ∧ x.dev.get F.SAFE_STS_LOCK_CAUSE = p.1 ∧ (∀ k : Fin 8, bitOf x.dev.safe.outOn k = false) ∧ x.dev.safe.permit = 0 ∧
      (∀ n : Fin 128, x.dev.flag (F.LOOP_CTL_EN n) = false) ∧ (∀ n : Fin 32, x.dev.energised n = false) ∧
      (∃ r ∈ x.dev.faults, r.kind = FaultKind.island ∧ r.idx = p.1 * 2 ^ 16 ∧ r.cls = 3 ∧ r.axes = allAxes ∧ r.cause = true) ∧
      x.dev.get F.SAFE_EVT_CODE = p.1 ∧ (p.2 = .safeClock .offFreq → x.dev.flag F.CLK_STS_SAFE_LOCK = false) ∧
      (∀ a, a < logRam ∨ logRam + 0x10000 ≤ a → tblGet sramReset x.mem a = tblGet sramReset s.mem a) ∧ x.otp = s.otp ∧ x.pending = s.pending) ∧
  (∀ s : State, s.dev.safe.on = true → s.dev.istate = 5 →
    ∀ p ∈ ([(0x10, .xlink), (0x11, .cmdMismatch), (0x12, .safeSupply), (0x14, .periodicTest false), (0x15, .periodicTest true)] : List (Nat × Instr)),
      leads p.2 s fun x => x.dev.istate = 5 ∧ x.dev.get F.SAFE_STS_LOCK_CAUSE = s.dev.get F.SAFE_STS_LOCK_CAUSE ∧
        x.dev.get F.SAFE_EVT_CODE = p.1 ∧ x.dev.get F.SAFE_EVT_SEQ = (s.dev.get F.SAFE_EVT_SEQ + 1) % 256 ∧ s.sameMem x) ∧
  (∀ s : State, s.dev.safe.on = true → leads (.safeClock .stopped) s fun x => (∀ k : Fin 8, bitOf x.dev.safe.outOn k = false) ∧
    x.dev.safe.permit = 0 ∧ x.dev.safe.run = false ∧ x.dev.flag F.CLK_STS_SAFE_LOCK = false ∧ x.dev.istate = s.dev.istate ∧ s.sameMem x) ∧
  ∀ s : State, s.dev.safe.on = true →
    (s.dev.safe.run = false → leads .safeClockRestored s fun x =>
      x.dev.safe.run = true ∧ x.dev.flag F.CLK_STS_SAFE_LOCK = true ∧ x.dev.istate = 5 ∧
      (s.dev.istate ≠ 5 → x.dev.get F.SAFE_STS_LOCK_CAUSE = 0x13)) ∧
    (s.dev.safe.run = true → leads .safeClockRestored s fun x =>
      x.dev.safe.run = true ∧ x.dev.flag F.CLK_STS_SAFE_LOCK = true ∧ x.dev.istate = s.dev.istate ∧ s.sameMem x)

/-- O49. Input filters, latched discrepancies, the end of STOP_T and off-pulses (R380, R382, R383, R385, R390) -/
def Obligations.InputsAndPulses : Prop :=
  (∀ (s : State) (a b : BitVec 16) (rb : BitVec 8), s.dev.safe.on = true → s.dev.safe.run = true → leads (.inputSample a b rb) s fun x =>
    x.dev.safe.samples = s.dev.safe.samples + 1 ∧ x.dev.safe.rb = rb.toNat ∧
    (∀ n : Fin 16, (s.dev.safeIn n).typ ≠ 0 →
      let lvA := safeLevel (s.dev.safeIn n).typ false (bitOf a.toNat n)
      let lvB := safeLevel (s.dev.safeIn n).typ true (bitOf b.toNat n)
      (lvA = bitOf s.dev.safe.filtA n → bitOf x.dev.safe.filtA n = lvA ∧ tget x.dev.safe.runA n = 0) ∧
      (lvA ≠ bitOf s.dev.safe.filtA n → tget s.dev.safe.runA n + 1 < 25 * (s.dev.safeIn n).filt →
        bitOf x.dev.safe.filtA n = bitOf s.dev.safe.filtA n ∧ tget x.dev.safe.runA n = tget s.dev.safe.runA n + 1) ∧
      (lvA ≠ bitOf s.dev.safe.filtA n → 25 * (s.dev.safeIn n).filt ≤ tget s.dev.safe.runA n + 1 →
        bitOf x.dev.safe.filtA n = lvA ∧ tget x.dev.safe.runA n = 0) ∧
      (lvB ≠ bitOf s.dev.safe.filtB n → 25 * (s.dev.safeIn n).filt ≤ tget s.dev.safe.runB n + 1 →
        bitOf x.dev.safe.filtB n = lvB ∧ tget x.dev.safe.runB n = 0)) ∧ s.sameMem x) ∧
  (∀ (s : State) (n : Fin 16), s.dev.safe.run = true → (s.dev.safeIn n).typ ≠ 0 → bitOf s.dev.safe.disc n = false →
    (s.dev.safeIn n).discT < tget s.dev.safe.dcnt n → leads (.discFault n) s fun x =>
      bitOf x.dev.safe.disc n = true ∧ tget x.dev.safe.test n = 1 ∧
      x.dev.get F.SAFE_CNT0_DISC_CNT = min (s.dev.get F.SAFE_CNT0_DISC_CNT + 1)
        (2 ^ (F.SAFE_CNT0_DISC_CNT.hi + 1 - F.SAFE_CNT0_DISC_CNT.lo) - 1) ∧ s.sameMem x) ∧
  (∀ (s : State) (src : Fin 48) (y : Demand), s.dev.safe.demands.find? (fun x => x.src == src.val) = some y →
    (16 ≤ src.val ∨ y.start + 1000 * (s.dev.safeIn src).stopT ≤ s.dev.safeUs) → y.expired = false → y.cat = 1 → s.dev.istate = 4 → s.dev.safe.run = true →
    leads (.stopTExpire src) s fun x => (∃ z ∈ x.dev.safe.demands, z.src = src.val ∧ z.expired = true ∧ z.past = y.outs) ∧
      (∀ k : Fin 8, bitOf y.outs k = true → bitOf x.dev.safe.outOn k = false) ∧ s.sameMem x) ∧
  ∀ (s : State) (k : Fin 8), bitOf s.dev.safe.outOn k = true →
    let due := tget s.dev.safe.due k
    let start := match s.dev.safe.pulse with | some (_, _, b) => if due < b then b + 100 else due | none => due
    start ≤ s.dev.safeUs →
    (∀ j : Fin 8, bitOf s.dev.safe.outOn j = true → due < tget s.dev.safe.due j ∨ (due = tget s.dev.safe.due j ∧ k ≤ j)) →
    leads (.offPulse k) s fun x => x.dev.safe.pulse = some (k.val, start, start + (s.dev.safeOut k).pulseW) ∧
      tget x.dev.safe.due k = due + (s.dev.safeOut k).pulseP ∧ x.dev.regs = s.dev.regs ∧ s.sameMem x

/-- O50. The safe messages of the island and its binding (a first copy with any SEQ, log entry 41, and OTP word 17, log entries 53 and 66, are the model's choice) (R414, R415, R416, R408, R410, R396) -/
def Obligations.SafeChannel : Prop :=
  (
  (∀ (s : State) (p : Fin 8) (f : Frame) (stamp : Nat), (s.dev.frameIn p f stamp).2 = true → f.typ = 6 →
    answers (.safeMsgReceive p f stamp) s (s.upd fun _ => (s.dev.frameIn p f stamp).1.smsgTake f.src f.stream f.body)) ∧
  (∀ (d : Dev) (src : Nat) (body : List Word) (c : SafeStream), d.safe.on = true → d.safe.run = true →
    d.safe.ssm.rx.find? (fun r => r.node == src && (r.stream == c.stream || r.stream + 1 == c.stream)) = some c →
    let n := c.axes.length
    let ws := body.take (6 + n)
    7 + n ≤ body.length → planeCrc false ws = body.getD (6 + n) 0 → (ws.getD 0 0).toNat = 0x01400000 + n →
    bitsOf (ws.getD 3 0).toNat 31 16 = c.safeId →
    let r := tget d.safe.rx c.idx
    ((∀ l, r.lastA = some l → within 1 (2 ^ 31 - 1) (((ws.getD 1 0).toNat + 2 ^ 32 - l) % 2 ^ 32) = true) →
      (tget (d.smsgTake src c.stream body).safe.rx c.idx).lastA = some (ws.getD 1 0).toNat ∧
      (tget (d.smsgTake src c.stream body).safe.rx c.idx).newA = r.newA ++ [ws] ∧ (d.smsgTake src c.stream body).regs = d.regs) ∧
    (∀ l, r.lastA = some l → within 1 (2 ^ 31 - 1) (((ws.getD 1 0).toNat + 2 ^ 32 - l) % 2 ^ 32) = false →
      tget (d.smsgTake src c.stream body).safe.rx c.idx = r)) ∧
  (∀ (s : State) (j : Fin 32) (c : SafeStream), s.dev.safe.ssm.rx.find? (fun c => c.idx == j.val) = some c →
    (tget s.dev.safe.rx j).wd = false → c.wd ≤ (tget s.dev.safe.rx j).miss → leads (.smsgWd j) s fun x =>
      (tget x.dev.safe.rx j).wd = true ∧ (tget x.dev.safe.rx j).run = 0 ∧ x.dev.flag (F.SAFE_SMSG_STS_WD j) = true ∧
      x.dev.flag (F.SAFE_SMSG_STS_GOOD j) = false ∧
      x.dev.get (F.SAFE_SMSG_CNT1_WDS j) = min (s.dev.get (F.SAFE_SMSG_CNT1_WDS j) + 1)
        (2 ^ ((F.SAFE_SMSG_CNT1_WDS j).hi + 1 - (F.SAFE_SMSG_CNT1_WDS j).lo) - 1) ∧ s.sameMem x) ∧
  (∀ (s : State) (g : Fin 16) (c : SsmGroup), s.dev.safe.ssm.groups.find? (fun c => c.g == g.val) = some c →
    s.dev.safe.run = true → s.dev.demanded (16 + g) = true → c.manual = false → c.resumeN ≤ (tget s.dev.safe.grp g).clear → leads (.pstopEnd g) s fun x =>
      x.dev.demanded (16 + g) = false ∧ s.sameMem x) ∧
  (∀ s : State, s.dev.safe.on = true → s.dev.safe.run = true → s.dev.safe.snap ≠ none → leads .ssmResult s fun x =>
    x.dev.safe.snap = none ∧ (∀ a, a < logRam ∨ logRam + 0x10000 ≤ a → tblGet sramReset x.mem a = tblGet sramReset s.mem a) ∧ x.otp = s.otp ∧ x.pending = s.pending) ∧
  (∀ s : State, s.dev.safe.snap = none → answers .ssmResult s s) ∧
  ∀ (d : Dev) (active : Bool) (x : SsmView) (srcs : List SsmSrc), x.t.g < 16 →
    let e := d.ssmGroup active x srcs
    e.get (F.SAFE_SSM_STS_SLIM x.t.g) = e.get (F.TRAJ_G_SCALE_SCALE_LIM x.t.g) ∧
    (d.safe.ssmFull = false → e.get (F.TRAJ_G_SCALE_SCALE_LIM x.t.g) = 0) ∧
    (active = true → x.miss = true → e.demanded (16 + x.t.g) = true)) ∧
  (
  (∀ (s : State) (p : Port) (w : Word), s.dev.flag F.CFG_SAFE_BIND_STS_BUSY = true →
    answers (.safeBind p w) s (s.upd (Dev.illegal p R.CFG_SAFE_BIND))) ∧
  (∀ (s : State) (p : Port) (w : Word), s.dev.flag F.CFG_SAFE_BIND_STS_BUSY = false →
    let refused := fun (code : Nat) => leads (.safeBind p w) s fun x => x.dev.get F.CFG_SAFE_BIND_STS_RESULT = code ∧
      x.dev.flag F.CFG_SAFE_BIND_STS_DONE_EVT = true ∧ x.dev.flag F.CFG_SAFE_BIND_STS_BUSY = false ∧
      s.dev.sameRegs x.dev [R.CFG_SAFE_BIND_STS, R.SYS_FAULT_EVT] ∧ s.sameMem x
    (otpBlank s.otp 8 = false → refused 1) ∧
    (otpBlank s.otp 8 = true → s.dev.istate ≠ 1 → refused 2) ∧
    (otpBlank s.otp 8 = true → s.dev.istate = 1 → some w ≠ (leWords s.dev.safe.keyHash).head? → refused 3) ∧
    (otpBlank s.otp 8 = true → s.dev.istate = 1 → some w = (leWords s.dev.safe.keyHash).head? → (List.range 128).any s.dev.energised = false →
      s.dev.updOwner = 0 → s.dev.nvOk 3 = true → leads (.safeBind p w) s fun x => x.dev.flag F.CFG_SAFE_BIND_STS_BUSY = true ∧
        s.dev.sameRegs x.dev [R.CFG_SAFE_BIND_STS] ∧ s.sameMem x)) ∧
  ∀ (s : State) (ok : Bool), (s.dev.flag F.CFG_SAFE_BIND_STS_BUSY = false → answers (.safeBindDone ok) s s) ∧
    (s.dev.flag F.CFG_SAFE_BIND_STS_BUSY = true → leads (.safeBindDone ok) s fun x => x.dev.flag F.CFG_SAFE_BIND_STS_BUSY = false ∧
      x.dev.get F.CFG_SAFE_BIND_STS_RESULT = (if ok then 0 else 7) ∧ x.dev.flag F.CFG_SAFE_BIND_STS_DONE_EVT = true ∧
      (∀ i < 8, ∀ w, (leWords s.dev.safe.keyHash)[i]? = some w → otpWord x.otp (8 + i) = w) ∧
      (∀ j, j < 8 ∨ 8 + (leWords s.dev.safe.keyHash).length ≤ j → (ok = true ∨ j ≠ 17) → otpWord x.otp j = otpWord s.otp j) ∧
      (ok = false → otpWord x.otp 17 = 1) ∧ x.mem = s.mem ∧ x.flash = s.flash ∧ x.pending = s.pending) ∧
    ∀ key : List Byte, (leWords (sha256 key)).length = 8)

/-- O51. A redundant unit takes its roles and takes over (that TAKEOVER counts the CLAIMs of the last cycle's FEEDBACK and that RELEASE outside QUARANTINE has no effect is the model's choice, log entry 42) (R423, R428, R433, R434, R430) -/
def Obligations.RedRolesAndTakeover : Prop :=
  (
  (∀ s : State, s.dev.redRole = 1 → 16 ≤ s.dev.red.listen →
    (0 < s.dev.get F.RED_SEEN_SEEN → leads .redListenEnd s fun x => x.dev.redRole = 3 ∧ x.dev.red.copies = 0 ∧
      s.dev.sameRegs x.dev [R.RED_STS] ∧ s.sameMem x) ∧
    (s.dev.get F.RED_SEEN_SEEN = 0 → s.dev.red.cfg.primary = true → leads .redListenEnd s fun x =>
      x.dev.redRole = 2 ∧ x.dev.get F.RED_CLAIM_CLAIM = 1 ∧ s.dev.sameRegs x.dev [R.RED_STS, R.RED_CLAIM] ∧ s.sameMem x) ∧
    (s.dev.get F.RED_SEEN_SEEN = 0 → s.dev.red.cfg.primary = false →
      (s.dev.red.listen < 64 → answers .redListenEnd s s) ∧
      (64 ≤ s.dev.red.listen → leads .redListenEnd s fun x => x.dev.redRole = (if s.dev.red.hello then 3 else 2) ∧
        (s.dev.red.hello = false → x.dev.get F.RED_CLAIM_CLAIM = 2) ∧ s.sameMem x))) ∧
  (∀ s : State, (s.dev.redRole ≠ 2 → answers .redWatchdog s s) ∧
    (s.dev.redRole = 2 → leads .redWatchdog s fun x => x.dev.redRole = 6 ∧ x.dev.time = (s.dev.runUp (s.dev.red.wdAt + 4 * s.dev.time.tb)).time ∧ x.dev.red.txOff = true ∧ x.dev.red.out = [] ∧
      (∃ r ∈ x.dev.faults, r.kind = FaultKind.relinquish ∧ r.cls = 3 ∧ r.axes = s.dev.directMask ∧ r.cause = true) ∧
      (∀ n : Fin 32, bitOf s.dev.directMask n = true → x.dev.flag (F.LOOP_CTL_EN n) = false ∧ x.dev.energised n = false) ∧ s.sameMem x)) ∧
  (∀ (s : State) (p : Port), (s.dev.redRole ≠ 5 → answers (.redRelease p) s (s.upd (Dev.parityWritten R.RED_CMD))) ∧
    (s.dev.redRole = 5 → (s.dev.redUp = false ∨ s.dev.red.fb.any (fun x => x.2 == s.dev.get F.RED_CLAIM_CLAIM) = true) →
      answers (.redRelease p) s (s.upd (Dev.illegal p R.RED_CMD))) ∧
    (s.dev.redRole = 5 → s.dev.redUp = true → s.dev.red.fb.any (fun x => x.2 == s.dev.get F.RED_CLAIM_CLAIM) = false →
      leads (.redRelease p) s fun x => x.dev.redRole = 3 ∧ x.dev.causeOn .quarantine 0 = false ∧ s.dev.sameRegs x.dev [R.RED_STS] ∧ s.sameMem x)) ∧
  ∀ (s : State) (p : Port), let D := s.dev.get F.RED_DRILL_CYC_D
    ((s.dev.redRole ≠ 2 ∨ s.dev.liveStandby = false ∨ cycDist s.dev.time.cycno D < 4 ∨ s.dev.red.drillD ≠ none) →
      answers (.redDrill p) s (s.upd (Dev.illegal p R.RED_CMD))) ∧
    (s.dev.redRole = 2 → s.dev.liveStandby = true → 4 ≤ cycDist s.dev.time.cycno D → s.dev.red.drillD = none → leads (.redDrill p) s fun x =>
      x.dev.red.drillD = some D ∧ x.dev.flag F.RED_STS_DRILL_PEND = true ∧ s.dev.sameRegs x.dev [R.RED_STS] ∧ s.sameMem x)) ∧
  (
  (∀ (s : State) (c : RedCopy), s.dev.red.takeDue = true → s.dev.redRole = 4 → s.dev.red.copy = some c →
      (∀ a ∈ s.dev.traj.axes, a.axis < 128 ∧ a.group < 16) → leads .takeover s fun x =>
    x.dev.redRole = 2 ∧ x.dev.get F.RED_CLAIM_CLAIM = (max c.claim s.dev.red.fbPrev + 1) % 2 ^ 32 ∧
    x.dev.flag F.RED_EVT_TAKEOVER_EVT = true ∧ x.dev.red.takeDue = false ∧
    (∀ a, a < logRam ∨ logRam + 0x10000 ≤ a → tblGet sramReset x.mem a = tblGet sramReset s.mem a) ∧ x.otp = s.otp ∧ x.pending = s.pending) ∧
  (∀ s : State, s.dev.red.takeDue = true → s.dev.redRole = 4 → s.dev.red.copy = none → leads .takeover s fun x =>
    x.dev.redRole = 3 ∧ s.dev.sameRegs x.dev [R.RED_STS] ∧ s.sameMem x) ∧
  ∀ s : State, (s.dev.red.takeDue = false ∨ s.dev.redRole ≠ 4) → answers .takeover s s)

/-- O52. A frame of the private link is read as it was made; frames that arrive act on the standby (R422, R424, R426, R429, R434) -/
def Obligations.RedFrames : Prop :=
  (∀ (typ chunk cyc claim : Nat) (p : List Word), typ < 16 → chunk < 256 → p.length < 2 ^ 16 → cyc < 2 ^ 32 →
    let ws := redFrame typ chunk cyc claim p
    redGood ws = true ∧ ws.length = p.length + 4 ∧ bitsOf (ws.getD 0 0).toNat 31 28 = typ ∧ bitsOf (ws.getD 0 0).toNat 23 16 = chunk ∧
    (ws.getD 1 0).toNat = cyc ∧ (ws.drop 3).take (bitsOf (ws.getD 0 0).toNat 15 0) = p) ∧
  (∀ (s : State) (ws : List Word) (t : Nat), s.dev.redUp = true → s.dev.red.cfg.en = true → redGood ws = false →
    ∀ c ∈ ([.stateFrameReceive ws t, .bulkFrameReceive ws t, .redHelloReceive ws t, .relinquishReceive ws t, .drillFrameReceive ws t] : List Instr),
      leads c s fun x => x.dev.get F.RED_CNT0_LINK_CRC = min (s.dev.get F.RED_CNT0_LINK_CRC + 1)
          (2 ^ (F.RED_CNT0_LINK_CRC.hi + 1 - F.RED_CNT0_LINK_CRC.lo) - 1) ∧
        x.dev.red.good = s.dev.red.good ∧ s.dev.sameRegs x.dev [R.RED_CNT0] ∧ x.dev.time = (s.dev.runTo t).time ∧ s.sameMem x) ∧
  (∀ (s : State) (ws : List Word) (t chunk cyc : Nat) (p : List Word), (s.dev.redIn 1 ws t).2 = some (chunk, cyc, p) →
    s.dev.redRole = 3 ∨ s.dev.redRole = 4 → leads (.stateFrameReceive ws t) s fun x =>
      tget x.dev.red.rx chunk = p ∧ x.dev.red.rxCyc = some cyc ∧ x.dev.red.good = true ∧ (x.dev.redRole = 3 ∨ x.dev.redRole = s.dev.redRole) ∧ s.sameMem x) ∧
  (∀ (s : State) (ws : List Word) (t chunk cyc : Nat) (p : List Word), (s.dev.redIn 2 ws t).2 = some (chunk, cyc, p) →
    ((s.dev.redRole ≠ 3 ∧ s.dev.redRole ≠ 4) ∨ s.dev.red.rxCyc ≠ some cyc ∨ (List.range 24).any (fun i => (tget s.dev.red.rx i).isEmpty) = true →
      answers (.bulkFrameReceive ws t) s (s.upd fun d => (d.redIn 2 ws t).1)) ∧
    ((s.dev.redRole = 3 ∨ s.dev.redRole = 4) → s.dev.red.rxCyc = some cyc → (List.range 24).any (fun i => (tget s.dev.red.rx i).isEmpty) = false →
      leads (.bulkFrameReceive ws t) s fun x => (∃ c, x.dev.red.copy = some c ∧ c.cyc = cyc) ∧ x.dev.red.copies = s.dev.red.copies + 1 ∧
        x.dev.red.rxCyc = none ∧ x.flash = s.flash ∧ x.otp = s.otp ∧ x.pending = s.pending)) ∧
  (∀ (s : State) (ws : List Word) (t chunk cyc : Nat) (p : List Word), (s.dev.redIn 3 ws t).2 = some (chunk, cyc, p) →
    leads (.redHelloReceive ws t) s fun x => x.dev.red.hello = true ∧ x.dev.red.partner = redHelloRole p ∧
      x.dev.red.drillAck = (s.dev.red.drillAck || (s.dev.red.drillD.isSome && redHelloRole p == 4 && redHelloDrill p)) ∧ x.dev.regs = s.dev.regs ∧ s.sameMem x) ∧
  (∀ (s : State) (ws : List Word) (t chunk cyc : Nat) (p : List Word), (s.dev.redIn 4 ws t).2 = some (chunk, cyc, p) →
    leads (.relinquishReceive ws t) s fun x => x.dev.red.relinq = some t ∧ x.dev.red.drillIn = none ∧ x.dev.regs = s.dev.regs ∧ s.sameMem x) ∧
  ∀ (s : State) (ws : List Word) (t chunk cyc : Nat) (p : List Word), (s.dev.redIn 5 ws t).2 = some (chunk, cyc, p) → s.dev.redRole = 4 →
    leads (.drillFrameReceive ws t) s fun x => x.dev.red.drillIn = some ((cyc + 1) % 2 ^ 32) ∧ x.dev.red.drillWin = some cyc ∧ x.dev.regs = s.dev.regs ∧ s.sameMem x

/-- O53. A power state is asked for, vetoed, quiesced, entered and left (that a request below an entry's TARGET is its wake is the model's choice, log entry 44) (R438, R439, R440, R441, R442, R443, R444, R445) -/
def Obligations.PowerEntries : Prop :=
  (∀ (s : State) (p : Port) (w : Word), s.dev.mayAccess p = false → answers (.pwrReq p w) s s ∧ answers (.pwrFabReq p w) s s) ∧
  (∀ (s : State) (p : Port) (w : Word), let d := s.dev
    d.mayAccess p = true →
    (4 ≤ w.toNat ∨ ((d.pwrPhase = 2 ∨ d.pwrPhase = 3) ∧ d.get F.PWR_STS_TARGET ≤ w.toNat) ∨ (d.pwrPhase = 4 ∧ d.pwrState < w.toNat) →
      answers (.pwrReq p w) s (s.upd (Dev.illegal p R.PWR_REQ))) ∧
    (w.toNat < 4 → d.pwrPhase < 2 → leads (.pwrReq p w) s fun x => x.dev.pwr.reqs = d.pwr.reqs ++ [w.toNat] ∧ x.dev.pwrPhase = 1 ∧
      x.dev.pwrState = d.pwrState ∧ (d.pwrPhase = 0 → x.dev.get F.PWR_STS_TARGET = w.toNat) ∧ d.sameRegs x.dev [R.PWR_STS] ∧ s.sameMem x) ∧
    (w.toNat < 4 → d.pwrPhase = 2 ∨ d.pwrPhase = 3 → w.toNat < d.get F.PWR_STS_TARGET → leads (.pwrReq p w) s fun x =>
      x.dev.pwr.wake = some ((d.pwr.wake.map (fun y => min y w.toNat)).getD w.toNat) ∧ x.dev.flag F.PWR_STS_WAKE_PEND = true ∧
      d.sameRegs x.dev [R.PWR_STS] ∧ s.sameMem x) ∧
    (w.toNat < 4 → d.pwrPhase = 4 → w.toNat ≤ d.pwrState → leads (.pwrReq p w) s fun x =>
      x.dev.pwr.reqs = d.pwr.reqs ++ [w.toNat] ∧ x.dev.regs = d.regs ∧ s.sameMem x)) ∧
  (∀ (s : State) (p : Port) (w : Word), s.dev.mayAccess p = true →
    (s.dev.sstate ≠ 5 ∨ 4 ≤ w.toNat → answers (.pwrFabReq p w) s (s.upd (Dev.illegal p R.PWR_FAB_REQ))) ∧
    (s.dev.sstate = 5 → w.toNat < 4 → leads (.pwrFabReq p w) s fun x => s.sameMem x ∧
      ∀ n ∈ onesBelow 32 (s.dev.rd R.LINK_LIVE).toNat, n ≠ s.dev.nodeId → ∃ tag, (n, tag) ∈ x.dev.host.tunFab)) ∧
  (∀ (d : Dev) (t : Nat) (r : List Nat), d.pwrPhase = 1 → d.pwr.reqs = t :: r → (∀ y ∈ t :: r, y < 4) → let m := r.foldl min t
    (m = d.pwrState → d.powDecide.pwrPhase = 0 ∧ d.powDecide.pwrState = m ∧ d.powDecide.flag F.PWR_EVT_ENTERED_EVT = true) ∧
    (m < d.pwrState → d.powDecide.pwrPhase = 4 ∧ d.powDecide.get F.PWR_STS_TARGET = m) ∧
    (d.pwrState < m → d.powVeto m = none → d.powDecide.pwrPhase = 2 ∧ d.powDecide.get F.PWR_STS_TARGET = m) ∧
    (∀ c, d.pwrState < m → d.powVeto m = some c → d.powDecide.get F.PWR_LAST_REFUSER_REFUSER = c ∧
      d.powDecide.get F.PWR_LAST_REFUSER_TARGET = m ∧ d.powDecide.flag F.PWR_EVT_REFUSED_EVT = true ∧
      d.powDecide.get F.PWR_REFUSE_CNT_COUNT = min (d.get F.PWR_REFUSE_CNT_COUNT + 1) (2 ^ 32 - 1)) ∧
    (r ≠ [] → d.powDecide.flag F.PWR_EVT_REQ_DROP_EVT = true)) ∧
  (∀ s : State, (s.dev.pwrPhase ≠ 2 ∨ s.dev.inFlight ≠ [] → answers .quiesceEnd s s) ∧
    (s.dev.pwrPhase = 2 → s.dev.inFlight = [] → s.dev.get F.PWR_STS_TARGET = 1 → leads .quiesceEnd s fun x => x.dev.pwrPhase = 3 ∧
      bitOf x.dev.pwr.off 0 = true ∧ x.flash = s.flash ∧ x.otp = s.otp ∧ x.pending = s.pending ∧
      (∀ a, tblGet sramReset x.mem a = if 0x800000 ≤ a ∧ a < 0x1000000 then sramReset a else tblGet sramReset s.mem a) ∧
      ∀ o, o ≠ R.PWR_STS → (∀ c < 16, o < R.SOLV_CTX_RUN c + 8 ∨ R.SOLV_CTX_RUN c + 0x40 ≤ o) → x.dev.rd o = s.dev.rd o) ∧
    (s.dev.pwrPhase = 2 → s.dev.inFlight = [] → 2 ≤ s.dev.get F.PWR_STS_TARGET → leads .quiesceEnd s fun x => x.dev.pwrPhase = 3 ∧
      (∀ k < 3, bitOf x.dev.pwr.off k = true) ∧ x.flash = s.flash ∧ x.otp = s.otp ∧ x.pending = s.pending ∧
      (∀ a, 0x800000 ≤ a ∧ a < 0x1000000 ∨ 0x1600000 ≤ a ∧ a < 0x1880000 → tblGet sramReset x.mem a = sramReset a) ∧
      (s.dev.get F.PWR_STS_TARGET = 3 → x.dev.pwr.pmicEn = false ∧ x.dev.pwr.sent = [(s.dev.get F.PWR_PMB_CFG_ADDR, 1, 0)]))) ∧
  (∀ s : State, (s.dev.pwrPhase ≠ 2 ∨ s.dev.inFlight = [] → answers .quiesceTimeout s s) ∧
    (∀ c r, s.dev.pwrPhase = 2 → s.dev.inFlight = c :: r → r.foldl min c < 8 → leads .quiesceTimeout s fun x =>
      x.dev.get F.PWR_LAST_REFUSER_REFUSER = 0x10 + r.foldl min c ∧ x.dev.get F.PWR_LAST_REFUSER_TARGET = s.dev.get F.PWR_STS_TARGET ∧
      x.dev.flag F.PWR_EVT_REFUSED_EVT = true ∧ x.dev.flag F.PWR_STS_WAKE_PEND = false ∧ x.dev.host.dmaRun = s.dev.host.dmaRun ∧
      s.dev.sameRegs x.dev [R.PWR_STS, R.PWR_EVT, R.PWR_REFUSE_CNT, R.PWR_LAST_REFUSER, R.SYS_FAULT_EVT] ∧ s.sameMem x)) ∧
  (∀ s : State, let t := s.dev.get F.PWR_STS_TARGET
    (s.dev.pwrPhase ≠ 3 → answers .entryDone s s) ∧
    (s.dev.pwrPhase = 3 → t ≠ 3 → leads .entryDone s fun x => x.dev.pwrState = t ∧ x.dev.flag F.PWR_EVT_ENTERED_EVT = true ∧
      x.dev.flag F.PWR_STS_WAKE_PEND = false ∧ x.dev.pwr.wake = none ∧ (s.dev.pwr.wake = none → x.dev.pwrPhase = 0) ∧
      (∀ y < 4, s.dev.pwr.wake = some y → x.dev.pwrPhase = 4 ∧ x.dev.get F.PWR_STS_TARGET = y) ∧ s.sameMem x) ∧
    (s.dev.pwrPhase = 3 → t = 3 → leads .entryDone s fun x => x.dev.pwrState = 3 ∧ x.mem = [] ∧ x.flash = s.flash ∧ x.otp = s.otp ∧
      x.pending = s.pending ∧ x.dev.rd R.PWR_WAKE = s.dev.rd R.PWR_WAKE ∧ (s.dev.pwr.wake = none → x.dev.pwrPhase = 0) ∧
      (∀ y < 4, s.dev.pwr.wake = some y → x.dev.pwrPhase = 4 ∧ x.dev.get F.PWR_STS_TARGET = y ∧ x.dev.get F.CFG_BOOT_STS_STAGE = 2 ∧
        x.dev.pwr.pmicEn = true))) ∧
  (∀ s : State, let t := s.dev.get F.PWR_STS_TARGET
    (s.dev.pwrPhase ≠ 4 ∨ s.dev.pwrState = 0 ∨ s.dev.pwrState = 3 → answers .exitDone s s) ∧
    (s.dev.pwrPhase = 4 → s.dev.pwrState = 1 ∨ s.dev.pwrState = 2 → leads .exitDone s fun x => x.dev.pwrState = t ∧
      x.dev.flag F.PWR_EVT_EXITED_EVT = true ∧ (t = 0 → bitOf x.dev.pwr.off 0 = false) ∧ (s.dev.pwr.reqs = [] → x.dev.pwrPhase = 0) ∧
      (s.dev.pwrState = 2 → bitOf x.dev.pwr.off 1 = false ∧ bitOf x.dev.pwr.off 2 = false) ∧ x.flash = s.flash ∧ x.otp = s.otp ∧
      x.pending = s.pending)) ∧
  ∀ (s : State) (w : WakeSrc), let d := s.dev
    let late := (d.pwrPhase = 2 ∨ d.pwrPhase = 3) ∧ d.get F.PWR_STS_TARGET = 3
    let asleep := d.pwrState = 3 ∧ d.pwrPhase = 0
    (d.wakeEnabled w = false ∨ (¬ late ∧ ¬ asleep) → answers (.wakeInput w) s s) ∧
    (d.wakeEnabled w = true → late → leads (.wakeInput w) s fun x => x.dev.pwr.wake = some 0 ∧ x.dev.flag F.PWR_STS_WAKE_PEND = true ∧
      d.sameRegs x.dev [R.PWR_STS] ∧ s.sameMem x) ∧
    (d.wakeEnabled w = true → asleep → leads (.wakeInput w) s fun x => x.dev.pwrPhase = 4 ∧ x.dev.get F.PWR_STS_TARGET = 0 ∧
      x.dev.get F.CFG_BOOT_STS_STAGE = 2 ∧ x.dev.pwr.pmicEn = true ∧ x.dev.host.everRun = false ∧
      d.sameRegs x.dev [R.PWR_STS, R.CFG_BOOT_STS] ∧ s.sameMem x)

/-- O54. The performance level changes by its steps; the PMIC is polled; losing PGOOD faults every axis (that the level in force changes nothing is the model's choice, log entry 44; the fault bits of STATUS_WORD are PRESUMED, log entry 63) (R446, R447, R448, R449, R450, R438, R471) -/
def Obligations.PowerLevels : Prop :=
  (∀ (s : State) (p : Port) (w : Word) (ok : Bool), let d := s.dev
    let adr := d.get F.PWR_PMB_CFG_ADDR
    (d.mayAccess p = false → answers (.pwrPerf p w ok) s s) ∧
    (d.mayAccess p = true →
    (2 ≤ w.toNat ∨ d.pwr.perf ≠ 0 → answers (.pwrPerf p w ok) s (s.upd fun d => d.pmbNew.illegal p R.PWR_PERF)) ∧
    (w.toNat < 2 → d.pwr.perf = 0 → (w.toNat == 1) = d.flag F.PWR_STS_PERF → answers (.pwrPerf p w ok) s (s.upd fun d => d.pmbNew.parityWritten R.PWR_PERF)) ∧
    (w.toNat = 1 → d.pwr.perf = 0 → d.flag F.PWR_STS_PERF = false → leads (.pwrPerf p w ok) s fun x => x.dev.pwr.perf = 1 ∧
      x.dev.flag F.PWR_STS_PERF_BUSY = true ∧ d.sameRegs x.dev [R.PWR_STS] ∧ s.sameMem x) ∧
    (w.toNat = 0 → d.pwr.perf = 0 → d.flag F.PWR_STS_PERF = true → leads (.pwrPerf p w ok) s fun x => s.sameMem x ∧
      (ok = true → x.dev.pwr.perf = 3 ∧ x.dev.pwr.sent = [(adr, 0x21, d.voutWord 75)] ∧ x.dev.flag F.PWR_STS_PERF_BUSY = true ∧
        d.sameRegs x.dev [R.PWR_STS]) ∧
      (ok = false → x.dev.pwr.perf = 0 ∧ x.dev.flag F.PWR_EVT_PERF_FAIL_EVT = true ∧ x.dev.flag F.PWR_EVT_PMB_ERR_EVT = true)))) ∧
  (∀ (s : State) (ok : Bool), let div := fun (x : State) (b : Bool) => if bitOf s.dev.pwr.off 0 = true
      then x.dev.pwr.divNext = some b ∧ x.dev.rd R.CLK_STS = s.dev.rd R.CLK_STS else x.dev.flag F.CLK_STS_SOLV_DIV8 = b
    (s.dev.solvIdle = false ∨ (s.dev.pwr.perf ≠ 1 ∧ s.dev.pwr.perf ≠ 4) → answers (.solvDividerChange ok) s (s.upd Dev.pmbNew)) ∧
    (s.dev.solvIdle = true → s.dev.pwr.perf = 1 → leads (.solvDividerChange ok) s fun x => div x true ∧ s.sameMem x ∧
      (ok = true → x.dev.pwr.perf = 2 ∧ x.dev.pwr.sent = [(s.dev.get F.PWR_PMB_CFG_ADDR, 0x21, s.dev.voutWord 68)] ∧
        s.dev.sameRegs x.dev [R.CLK_STS]) ∧
      (ok = false → x.dev.pwr.perf = 0 ∧ x.dev.flag F.PWR_EVT_PERF_FAIL_EVT = true)) ∧
    (s.dev.solvIdle = true → s.dev.pwr.perf = 4 → leads (.solvDividerChange ok) s fun x => div x false ∧
      x.dev.pwr.perf = 0 ∧ x.dev.flag F.PWR_STS_PERF = false ∧ x.dev.flag F.PWR_STS_PERF_BUSY = false ∧
      x.dev.flag F.PWR_EVT_PERF_DONE_EVT = true ∧ s.dev.sameRegs x.dev [R.CLK_STS, R.PWR_STS, R.PWR_EVT, R.SYS_FAULT_EVT] ∧ s.sameMem x)) ∧
  (∀ (s : State) (r : PmbRead), let d := s.dev
    let adr := d.get F.PWR_PMB_CFG_ADDR
    let div := fun (x : State) => if bitOf d.pwr.off 0 = true then x.dev.pwr.divNext = some true else x.dev.flag F.CLK_STS_SOLV_DIV8 = true
    (d.pwr.perf ≠ 2 → d.pwr.perf ≠ 3 → answers (.statusPoll r) s (s.upd Dev.pmbNew)) ∧
    (d.pwr.perf = 2 ∨ d.pwr.perf = 3 → leads (.statusPoll r) s fun x => s.sameMem x ∧
      d.sameRegs x.dev [R.PWR_STS, R.PWR_EVT, R.PWR_PMB_STS, R.CLK_STS, R.SYS_FAULT_EVT] ∧
      (pmbLost r = true → x.dev.pwr.perf = 0 ∧ x.dev.flag F.PWR_STS_PERF = true ∧ div x ∧ x.dev.flag F.PWR_EVT_PMB_ERR_EVT = true ∧
        x.dev.flag F.PWR_EVT_PERF_FAIL_EVT = true ∧ (adr, 0x21, d.voutWord 75) ∈ x.dev.pwr.sent) ∧
      ∀ w, r.word = some w → x.dev.get F.PWR_PMB_STS_STATUS_WORD = w.toNat ∧
        (pmbLost r = false → pmbFaulty w.toNat = true → x.dev.pwr.perf = d.pwr.perf ∧ (adr, 3, 0) ∈ x.dev.pwr.sent) ∧
        (pmbLost r = false → pmbFaulty w.toNat = false → d.pwr.perf = 2 → x.dev.pwr.perf = 0 ∧ x.dev.flag F.PWR_STS_PERF = true ∧
          x.dev.flag F.PWR_STS_PERF_BUSY = false ∧ x.dev.flag F.PWR_EVT_PERF_DONE_EVT = true) ∧
        (pmbLost r = false → pmbFaulty w.toNat = false → d.pwr.perf = 3 → x.dev.pwr.perf = if d.flag F.PWR_STS_PGOOD then 4 else 5))) ∧
  (∀ s : State, let waits := s.dev.pwr.perf = 2 ∨ s.dev.pwr.perf = 3 ∨ s.dev.pwr.perf = 5
    (¬ waits → answers .voutTimeout s s) ∧
    (waits → leads .voutTimeout s fun x => x.dev.pwr.perf = 0 ∧ x.dev.flag F.PWR_STS_PERF = true ∧
      x.dev.flag F.PWR_STS_PERF_BUSY = false ∧
      (if bitOf s.dev.pwr.off 0 = true then x.dev.pwr.divNext = some true else x.dev.flag F.CLK_STS_SOLV_DIV8 = true) ∧
      x.dev.flag F.PWR_EVT_PERF_FAIL_EVT = true ∧ x.dev.pwr.sent = [(s.dev.get F.PWR_PMB_CFG_ADDR, 0x21, s.dev.voutWord 75)] ∧
      s.dev.sameRegs x.dev [R.PWR_STS, R.PWR_EVT, R.PWR_PMB_STS, R.CLK_STS, R.SYS_FAULT_EVT] ∧ s.sameMem x)) ∧
  (∀ (s : State) (r : PmbRead), (s.dev.pmbOn = false → answers (.pmbAlert r) s s) ∧ (s.dev.pmbOn = true → leads (.pmbAlert r) s fun x => s.sameMem x ∧
    s.dev.sameRegs x.dev [R.PWR_EVT, R.PWR_PMB_STS, R.SYS_FAULT_EVT] ∧ (pmbLost r = true → x.dev.flag F.PWR_EVT_PMB_ERR_EVT = true) ∧
    (r.word = none →
      x.dev.get F.PWR_PMB_STS_PMB_ERR = min (s.dev.get F.PWR_PMB_STS_PMB_ERR + 1) (2 ^ (F.PWR_PMB_STS_PMB_ERR.hi + 1 - F.PWR_PMB_STS_PMB_ERR.lo) - 1)) ∧
    ∀ w, r.word = some w → x.dev.get F.PWR_PMB_STS_STATUS_WORD = w.toNat ∧
      (∀ v, bitOf w.toNat 15 = true → r.vout = some v → x.dev.get F.PWR_PMB_STS_STATUS_VOUT = v.toNat) ∧
      (pmbFaulty w.toNat = true → x.dev.flag F.PWR_EVT_PMIC_FAULT_EVT = true ∧
        ∃ f ∈ x.dev.faults, f.kind = FaultKind.pmicFault ∧ f.cls = 2 ∧ f.axes = allAxes ∧ f.cause = true) ∧
      (pmbFaulty w.toNat = false → x.dev.causeOn .pmicFault 0 = false))) ∧
  (∀ (s : State) (r : PmbRead) (vo io : Option (BitVec 16)), (s.dev.pmbOn = false → answers (.pmbusPoll r vo io) s s) ∧
    (s.dev.pmbOn = true → leads (.pmbusPoll r vo io) s fun x => s.sameMem x ∧
    s.dev.sameRegs x.dev [R.PWR_EVT, R.PWR_PMB_STS, R.PWR_PMB_MEAS, R.SYS_FAULT_EVT] ∧
    (∀ v, vo = some v → x.dev.get F.PWR_PMB_MEAS_VOUT = v.toNat) ∧ (∀ i, io = some i → x.dev.get F.PWR_PMB_MEAS_IOUT = i.toNat) ∧
    (∀ w, r.word = some w → x.dev.get F.PWR_PMB_STS_STATUS_WORD = w.toNat) ∧
    (pmbLost r = true ∨ vo = none ∨ io = none → x.dev.flag F.PWR_EVT_PMB_ERR_EVT = true))) ∧
  ∀ s : State, (s.dev.pwr.pmicEn = false ∨ s.dev.flag F.PWR_STS_PGOOD = false → answers .pgoodLoss s s) ∧
    (s.dev.pwr.pmicEn = true → s.dev.flag F.PWR_STS_PGOOD = true → leads .pgoodLoss s fun x => x.dev.flag F.PWR_STS_PGOOD = false ∧
      x.dev.flag F.PWR_EVT_PGOOD_LOSS_EVT = true ∧ x.dev.io.banks = 0 ∧ (∀ pin, x.dev.aioDriven pin = false) ∧ (s.dev.redRole = 2 → x.dev.redRole = 6) ∧
      (∃ f ∈ x.dev.faults, f.kind = FaultKind.pgoodLoss ∧ f.cls = 3 ∧ f.axes = allAxes ∧ f.cause = true) ∧
      (∀ n < 128, x.dev.flag (F.LOOP_CTL_EN n) = false ∧ (n < 32 → x.dev.energised n = false)) ∧ s.sameMem x)

/-- O55. A start goes through its steps, stops where one fails, and ends in RUN; loss of power resets all but the memories that keep (R452, R453, R454, R455, R436, R57, R60, R459, R378, R471) -/
def Obligations.BootSteps : Prop :=
  (∀ (s : State) (c : Instr), (c = .vbusRise ∧ s.dev.pwr.vbusOk = false ∨ c = .resetNRise ∧ s.dev.pwr.resetN = false) → leads c s fun x =>
    (c = .vbusRise → x.dev.pwr.vbusOk = true) ∧ (c = .resetNRise → x.dev.pwr.resetN = true) ∧ s.sameMem x ∧
    s.dev.sameRegs x.dev [R.CFG_BOOT_STS] ∧ (x.dev.pwr.vbusOk = true → x.dev.pwr.resetN = true →
      x.dev.stage = 2 ∧ x.dev.get F.CFG_BOOT_STS_TRIES = 1 ∧ x.dev.pwr.pmicEn = true)) ∧
  (∀ s : State, (s.dev.pwr.vbusOk = true → answers .vbusRise s s) ∧ (s.dev.pwr.resetN = true → answers .resetNRise s s)) ∧
  (∀ (s : State) (v : BankVolts), let bad := bankBad v
    let go := s.dev.stage = 2 ∧ s.dev.flag F.CFG_BOOT_STS_FAILED = false
    (s.dev.pwr.pmicEn = false ∨ s.dev.flag F.PWR_STS_PGOOD = true → answers (.pgoodRise v) s s) ∧
    (s.dev.pwr.pmicEn = true → s.dev.flag F.PWR_STS_PGOOD = false → leads (.pgoodRise v) s fun x => x.dev.flag F.PWR_STS_PGOOD = true ∧
      x.otp = s.otp ∧ x.pending = s.pending ∧ (∀ k : Fin 5, bitOf x.dev.io.banks k = ((bankAll v)[k]?.any fun mv => volt18 mv || volt33 mv) ∧
        bitOf x.dev.io.low k = ((bankAll v)[k]?.any volt18)) ∧ (s.dev.pwr.perf = 5 → x.dev.pwr.perf = 4) ∧ (¬ go → s.dev.sameRegs x.dev [R.PWR_STS] ∧ s.sameMem x) ∧
      (go → bad = none → x.dev.stage = 3 ∧ x.dev.pwrState = 0 ∧ x.dev.pwr.off = 0 ∧ x.dev.safe.on = true ∧ x.dev.istate = 0 ∧ s.sameMem x) ∧
      ∀ k, go → bad = some k → x.dev.flag F.CFG_BOOT_STS_FAILED = true ∧ x.dev.get F.CFG_BOOT_STS_DETAIL = 0x10 + k ∧ x.dev.answers = true ∧
        x.dev.host.granted = true)) ∧
  (∀ (s : State) (c : Instr), (c = .railsTimeout ∧ s.dev.stage = 2 ∧ s.dev.pwr.pmicEn = true ∧ s.dev.flag F.PWR_STS_PGOOD = false ∨
      c = .pllLockTimeout ∧ s.dev.stage = 3 ∧ s.dev.pwr.pmicEn = true) → leads c s fun x =>
    x.dev.flag F.PWR_STS_PGOOD = false ∧ x.dev.pwr.pmicEn = false ∧ x.dev.safe.on = false ∧ (∀ pin, x.dev.aioDriven pin = false) ∧ s.sameMem x ∧
    (3 ≤ s.dev.get F.CFG_BOOT_STS_TRIES → x.dev.flag F.CFG_BOOT_STS_FAILED = true) ∧
    (s.dev.get F.CFG_BOOT_STS_TRIES < 3 → x.dev.boot.retry = true ∧ x.dev.flag F.CFG_BOOT_STS_FAILED = s.dev.flag F.CFG_BOOT_STS_FAILED)) ∧
  (∀ s : State, (s.dev.boot.retry = false → answers .railsRetry s s) ∧ (s.dev.boot.retry = true → leads .railsRetry s fun x =>
    x.dev.stage = 2 ∧ x.dev.get F.CFG_BOOT_STS_TRIES = (s.dev.get F.CFG_BOOT_STS_TRIES + 1) % 256 ∧ x.dev.pwr.pmicEn = true ∧
    x.dev.boot.retry = false ∧ s.dev.sameRegs x.dev [R.CFG_BOOT_STS] ∧ s.sameMem x)) ∧
  (∀ s : State, (s.dev.pwr.pmicEn = false ∨ s.dev.stage ≠ 3 ∧ s.dev.time.running = false → answers .pllLock s s) ∧
    (s.dev.pwr.pmicEn = true → s.dev.stage ≠ 3 → s.dev.time.running = true → leads .pllLock s fun x =>
      x.dev.flag F.CLK_STS_ROOT_LOCK = true ∧ x.dev.time = s.dev.time ∧ x.dev.faults = s.dev.faults ∧ s.dev.sameRegs x.dev [R.CLK_STS] ∧
      s.sameMem x) ∧
    (s.dev.stage = 3 → s.dev.pwr.pmicEn = true → leads .pllLock s fun x => x.dev.stage = 4 ∧ x.dev.flag F.CLK_STS_ROOT_LOCK = true ∧
      x.dev.flag F.CLK_STS_SAFE_LOCK = true ∧ x.dev.time.running = true ∧ x.dev.time.now = 0 ∧ x.dev.safe.run = true ∧
      s.dev.sameRegs x.dev [R.CFG_BOOT_STS, R.CLK_STS] ∧ s.sameMem x)) ∧
  (∀ (s : State) (ok : Bool), (s.dev.stage ≠ 4 ∨ s.dev.flag F.CFG_BOOT_STS_FAILED = true → answers (.bistDone ok) s s) ∧
    (s.dev.stage = 4 → s.dev.flag F.CFG_BOOT_STS_FAILED = false → leads (.bistDone ok) s fun x => x.otp = s.otp ∧ x.pending = s.pending ∧
      (ok = true → x.dev.stage = 5 ∧ x.mem = [] ∧ x.flash = s.flash) ∧
      (ok = false → x.dev.stage = 4 ∧ x.dev.flag F.CFG_BOOT_STS_FAILED = true ∧ x.dev.get F.CFG_BOOT_STS_DETAIL = 0))) ∧
  (∀ (s : State) (m : FlashMode) (fa fb : Bool) (ecc : Option (Fin 64)) (pm : PmbRead),
    let c : Instr := .imageLoad m fa fb ecc pm
    let v := (flashImg s.flash).validate s.otp fa fb (ecc.map (·.val)) Dev.reset
    let go := s.dev.stage = 5 ∧ s.dev.host.granted = false ∧ s.dev.flag F.CFG_BOOT_STS_FAILED = false
    (¬ go → answers c s s) ∧
    (go → m = .none → leads c s fun x => x.dev.get F.CFG_LOAD_STS_CODE = 1 ∧ x.dev.host.recovery = true ∧ x.dev.host.granted = true ∧
      x.dev.flag F.UPD_STS_RECOVERY = true ∧ x.flash = s.flash ∧ x.otp = s.otp ∧ x.pending = s.pending) ∧
    (go → m ≠ .none → leads c s fun x => x.dev.host.granted = true ∧ x.otp = s.otp ∧ x.pending = s.pending ∧
      match v with
      | .error e => x.dev.get F.CFG_LOAD_STS_CODE = e.1 % 256 ∧ x.dev.get F.CFG_LOAD_STS_SUBCODE = e.2.1 % 256 ∧
        x.dev.get F.CFG_LOAD_STS_SECT_IDX = e.2.2 % 256 ∧ x.dev.host.recovery = true ∧ x.dev.flag F.UPD_STS_RECOVERY = true ∧ x.flash = s.flash
      | .ok rs => x.dev.boot.recs = rs ∧
        (∀ w, pm.word = some w → pmbFaulty w.toNat = false → x.dev.stage = 6 ∧ x.dev.get F.LINK_STS_PHASE = 1 ∧ x.flash = s.flash) ∧
        (∀ w, pm.word = some w → pmbFaulty w.toNat = true → x.dev.flag F.CFG_BOOT_STS_FAILED = true ∧ x.dev.get F.CFG_BOOT_STS_DETAIL = 2) ∧
        (pm.word = none → x.dev.flag F.CFG_BOOT_STS_FAILED = true ∧ x.dev.get F.CFG_BOOT_STS_DETAIL = 1))) ∧
  (∀ (s : State) (ok : Bool),
    (s.dev.stage < 5 ∨ s.dev.safe.on = false ∨ s.dev.istate ≠ 0 ∨ s.dev.safe.tested = true → answers (.islandSelftestDone ok) s s) ∧
    (5 ≤ s.dev.stage → s.dev.safe.on = true → s.dev.istate = 0 → s.dev.safe.tested = false → leads (.islandSelftestDone ok) s fun x =>
      x.otp = s.otp ∧ x.pending = s.pending ∧ (ok = false → x.dev.istate = 5 ∧ x.dev.get F.SAFE_STS_LOCK_CAUSE = 0x14) ∧
      (ok = true → x.dev.safe.tested = true ∧ s.sameMem x ∧
        x.dev.istate = if s.dev.safe.accepted = false then 0 else if s.dev.safe.blank then 1 else 2))) ∧
  (∀ (s : State) (ms : Nat), let go := s.dev.stage = 9 ∧ s.dev.istate ≠ 0 ∧ s.dev.flag F.CFG_BOOT_STS_FAILED = false
    (¬ go → answers (.enterRun ms) s s) ∧
    (go → leads (.enterRun ms) s fun x => x.dev.stage = 10 ∧ x.dev.get F.CFG_BOOT_TIME_MS = min ms (2 ^ 32 - 1) ∧
      x.dev.host.everRun = true ∧ x.dev.sched.armed = true ∧ x.dev.sched.trig = s.dev.sched.trig ∧ x.dev.get F.CFG_BOOT_CNT_BOOTS = (s.dev.get F.CFG_BOOT_CNT_BOOTS + 1) % 2 ^ 32 ∧
      (s.dev.red.cfg.en = true → x.dev.redRole = 1) ∧ x.otp = s.otp ∧ x.pending = s.pending)) ∧
  ∀ (s : State) (reset store : Bool), let held := if reset then s.dev.pwr.resetN else s.dev.pwr.vbusOk
    (held = false → answers (.powerLoss reset store) s s) ∧
    (held = true → leads (.powerLoss reset store) s fun x => x.mem = [] ∧ x.dev.regs = Dev.reset.regs ∧ x.dev.pwr.pmicEn = false ∧
      x.dev.pwr.resetN = (s.dev.pwr.resetN && !reset) ∧ x.dev.pwr.vbusOk = (s.dev.pwr.vbusOk && reset) ∧ x.dev.tap = s.dev.tap ∧
      (∀ pin, x.dev.aioDriven pin = false) ∧ x.pending = s.pending ∧ (store = false → x.flash = s.flash ∧ x.otp = s.otp))

/-- O56. The root loads its companions one after another and waits for them (R456, R457) -/
def Obligations.CompanionLoading : Prop :=
  (∀ s : State, let d := s.dev
    let go := d.stage = 7 ∧ d.flag F.LINK_STS_ROOT = true ∧ d.flag F.CFG_BOOT_STS_FAILED = false ∧ d.boot.cur = none ∧ d.boot.waitFrom = none
    (¬ go → answers .companionLoadStart s s) ∧
    (go → d.compNodes = [] → leads .companionLoadStart s fun x => x.dev.stage = 8 ∧ d.sameRegs x.dev [R.CFG_BOOT_STS] ∧ s.sameMem x) ∧
    (∀ n r y, go → (d.boot.sects.filter (fun z => z.typ == 13)).map (·.inst) = n :: r → n ∈ d.compNodes → d.compSect n = some y →
      crc32c (s.flash.flashBytes y.off y.len) = y.crc → leads .companionLoadStart s fun x => x.dev.boot.cur = some (n, 1) ∧
        x.dev.stage = 7 ∧ x.dev.boot.train = d.compTrain s.flash n 1 y true ∧ s.sameMem x)) ∧
  (∀ (s : State) (p : Fin 8) (f : Frame) (t n : Nat) (d : Dev), s.dev.compIn 4 p f t = (d, some n) →
    (d.compMine n f = false → answers (.comploadAckReceive p f t) s { s with dev := d }) ∧
    (d.compMine n f = true → d.boot.todo = [] → d.flag F.CFG_BOOT_STS_FAILED = false → leads (.comploadAckReceive p f t) s fun x =>
      x.dev.boot.cur = none ∧ x.dev.boot.wait = d.boot.wait ++ [n] ∧ x.dev.boot.waitFrom = some d.upNs ∧ x.dev.regs = d.regs ∧ s.sameMem x)) ∧
  (∀ (s : State) (p : Fin 8) (f : Frame) (t n : Nat) (d : Dev), s.dev.compIn 5 p f t = (d, some n) →
    (d.compMine n f = false → answers (.comploadNackReceive p f t) s { s with dev := d }) ∧
    (∀ a y, d.compMine n f = true → d.boot.cur = some (n, a) → d.compSect n = some y → a < 3 →
      crc32c (s.flash.flashBytes y.off y.len) = y.crc → leads (.comploadNackReceive p f t) s fun x =>
        x.dev.boot.cur = some (n, a + 1) ∧ x.dev.boot.train = d.compTrain s.flash n (a + 1) y true ∧ s.sameMem x) ∧
    (∀ a, d.compMine n f = true → d.boot.cur = some (n, a) → 3 ≤ a → d.compRequired n = true → n < 256 →
      leads (.comploadNackReceive p f t) s fun x => x.dev.flag F.CFG_BOOT_STS_FAILED = true ∧ x.dev.get F.CFG_BOOT_STS_DETAIL = n ∧
        n ∈ x.dev.boot.failed ∧ x.otp = s.otp ∧ x.pending = s.pending)) ∧
  (∀ (s : State) (p : Fin 8) (f : Frame) (t n : Nat) (d : Dev), s.dev.compIn 6 p f t = (d, some n) →
    (n ∉ d.boot.wait → answers (.comploadReadyReceive p f t) s { s with dev := d }) ∧
    (n ∈ d.boot.wait → leads (.comploadReadyReceive p f t) s fun x => n ∉ x.dev.boot.wait ∧ s.sameMem x ∧
      (d.boot.waitFrom ≠ none → (∀ m ∈ d.boot.wait, m = n) → x.dev.stage = 8) ∧
      ((∃ m ∈ d.boot.wait, m ≠ n) → x.dev.regs = d.regs))) ∧
  (∀ (s : State) (p : Fin 8) (f : Frame) (t : Nat) (d : Dev),
    (s.dev.compIn 4 p f t = (d, none) → answers (.comploadAckReceive p f t) s { s with dev := d }) ∧
    (s.dev.compIn 5 p f t = (d, none) → answers (.comploadNackReceive p f t) s { s with dev := d }) ∧
    (s.dev.compIn 6 p f t = (d, none) → answers (.comploadReadyReceive p f t) s { s with dev := d })) ∧
  (∀ s : State, (s.dev.boot.cur = none → answers .comploadAckTimeout s s) ∧
    (∀ n a y, s.dev.boot.cur = some (n, a) → s.dev.compSect n = some y → a < 3 → crc32c (s.flash.flashBytes y.off y.len) = y.crc →
      leads .comploadAckTimeout s fun x => x.dev.boot.cur = some (n, a + 1) ∧ x.dev.time = (s.dev.runUp (s.dev.boot.sentAt + 1000000)).time ∧
        s.sameMem x) ∧
    (∀ n a, s.dev.boot.cur = some (n, a) → 3 ≤ a → s.dev.compRequired n = true → n < 256 → leads .comploadAckTimeout s fun x =>
      x.dev.flag F.CFG_BOOT_STS_FAILED = true ∧ x.dev.get F.CFG_BOOT_STS_DETAIL = n ∧ n ∈ x.dev.boot.failed ∧ x.otp = s.otp ∧
      x.pending = s.pending)) ∧
  ∀ s : State, (s.dev.boot.waitFrom = none → answers .readyTimeout s s) ∧
    (∀ t, s.dev.boot.waitFrom = some t → s.dev.flag F.CFG_BOOT_STS_FAILED = false → (∀ n ∈ s.dev.boot.wait, s.dev.compRequired n = false) →
      leads .readyTimeout s fun x => x.dev.stage = 8 ∧ x.dev.boot.failed = s.dev.boot.failed ++ s.dev.boot.wait ∧ x.dev.boot.wait = [] ∧
        s.dev.sameRegs x.dev [R.CFG_BOOT_STS] ∧ s.sameMem x)

/-- O57. Update commands are staged, decided, carried out and expire (R460, R461, R463, R466) -/
def Obligations.FieldUpdate : Prop :=
  (∀ (s : State) (p : Port) (node : Fin 32) (i : Fin 16384) (w : Word), let d := s.dev
    (updSrc p = none ∨ d.updFrom p = false → answers (.updWinWrite p node i w) s s) ∧
    (∀ src, d.updFrom p = true → updSrc p = some src → d.updOwner ≠ 0 → d.updHolds src node = false → leads (.updWinWrite p node i w) s fun x =>
      x.dev.upd = d.upd ∧ x.dev.get F.UPD_CNT_WIN_DISCARD = min (d.get F.UPD_CNT_WIN_DISCARD + 1) (2 ^ 16 - 1) ∧
      d.sameRegs x.dev [R.UPD_CNT] ∧ s.sameMem x) ∧
    (∀ src, d.updFrom p = true → updSrc p = some src → (d.updOwner = 0 ∨ d.updHolds src node = true) → (src = 3 → d.upd.peer = none ∨ d.upd.peer = some node.val) →
      leads (.updWinWrite p node i w) s fun x => tget x.dev.upd.win (src * 2 ^ 14 + i) = w ∧ x.dev.regs = d.regs ∧ s.sameMem x)) ∧
  (∀ (s : State) (p : Port) (node : Fin 32) (i : Fin 512),
    ∀ c ∈ ([(.updOpen p node, 1, 0), (.updProgram p node i, 2, i.val), (.updCommit p node, 3, 0), (.updAbort p node, 4, 0),
        (.updRetain p node i, 5, i.val)] : List (Instr × Nat × Nat)),
      (s.dev.updFrom p = false → answers c.1 s (s.upd (Dev.parityWritten R.UPD_CMD))) ∧
      (updSrc p = none → answers c.1 s (s.upd (Dev.illegal p R.UPD_CMD))) ∧
      ∀ src, s.dev.updFrom p = true → updSrc p = some src → let busy := s.dev.upd.work.any (fun w => w.src == src && (src != 3 || w.node == node))
        (busy = true → answers c.1 s (s.upd (Dev.illegal p R.UPD_CMD))) ∧
        (∀ code, busy = false → s.dev.updCheck src node c.2.1 c.2.2 = some code → leads c.1 s fun x =>
          x.dev.get F.UPD_EVT_RESULT = code ∧ x.dev.get F.UPD_EVT_SRC = src ∧ x.dev.get F.UPD_EVT_OP = c.2.1 ∧
          x.dev.flag F.UPD_EVT_REFUSED_EVT = true ∧ x.dev.flag F.UPD_EVT_DONE_EVT = true ∧ x.dev.upd.work = s.dev.upd.work ∧
          s.dev.sameRegs x.dev [R.UPD_EVT, R.UPD_CMD, R.PWR_NV_CNT, R.PWR_EVT, R.SYS_FAULT_EVT] ∧ s.sameMem x) ∧
        (busy = false → c.2.1 ≠ 4 → s.dev.updCheck src node c.2.1 c.2.2 = none → leads c.1 s fun x =>
          x.dev.upd.work.length = s.dev.upd.work.length + 1 ∧ x.mem = s.mem ∧ x.otp = s.otp ∧ x.pending = s.pending ∧
          (c.2.1 ≠ 2 → x.flash = s.flash) ∧ s.dev.sameRegs x.dev [R.UPD_STS, R.UPD_CMD]) ∧
        (busy = false → c.2.1 = 4 → s.dev.updCheck src node 4 0 = none → leads c.1 s fun x => x.dev.updOwner = 0 ∧
          x.dev.get F.UPD_EVT_RESULT = 0x0E ∧ x.dev.flag F.UPD_EVT_DONE_EVT = true ∧ x.dev.upd.kept = [] ∧ x.otp = s.otp ∧
          (∀ a, a < logRam ∨ logRam + 0x10000 ≤ a → tblGet sramReset x.mem a = tblGet sramReset s.mem a) ∧ x.pending = s.pending)) ∧
  (∀ (s : State) (ok fa fb : Bool), (s.dev.upd.work = [] → answers (.updWorkDone ⟨ok, fa, fb⟩) s s) ∧
    ∀ w r, s.dev.upd.work = w :: r →
    (w.op = 5 → ok = true → leads (.updWorkDone ⟨ok, fa, fb⟩) s fun x => x.dev.upd.work = r ∧ x.dev.get F.UPD_EVT_RESULT = 0 ∧
      x.dev.flag F.UPD_EVT_DONE_EVT = true ∧
      (∀ k < 1023, leNat (x.flash.flashBytes (retFlash + 0x1000 * w.idx + 4 * k) 4) = (tget w.data k).toNat) ∧
      leNat (x.flash.flashBytes (retFlash + 0x1000 * w.idx + 4092) 4) = crc32c (bufBytes w.data 1023) % 2 ^ 32 ∧
      (∀ a, a < retFlash + 0x1000 * w.idx ∨ retFlash + 0x1000 * (w.idx + 1) ≤ a → tblGet flashReset x.flash a = tblGet flashReset s.flash a) ∧
      x.mem = s.mem ∧ x.otp = s.otp ∧ x.pending = s.pending) ∧
    (w.op = 1 → w.src < 16 → w.node < 32 → (s.dev.updOwner = 0 ∨ s.dev.updHolds w.src w.node = true) →
      (overImg w.data s.flash).header = none →
      (overImg w.data s.flash).sigOk = true → (overImg w.data s.flash).keyBad s.otp = false → leads (.updWorkDone ⟨ok, fa, fb⟩) s fun x =>
        x.dev.updOwner = w.src ∧ x.dev.get F.UPD_EVT_RESULT = 0 ∧ x.dev.upd.kept = w.data ∧ x.dev.upd.sectors = [] ∧
        x.dev.upd.opened = true ∧ x.dev.get F.UPD_STS_DONE_CNT = 0 ∧ s.sameMem x) ∧
    (w.op = 2 → w.second = false → ok = true → leads (.updWorkDone ⟨ok, fa, fb⟩) s fun x => w.idx ∈ x.dev.upd.sectors ∧
      x.dev.get F.UPD_EVT_RESULT = 0 ∧ x.dev.flag F.UPD_STS_FLASH_CHANGED = true ∧ x.mem = s.mem ∧ x.otp = s.otp ∧ x.pending = s.pending ∧
      (∀ k < 16384, leNat (x.flash.flashBytes (0x10000 * w.idx + 4 * k) 4) = (tget w.data k).toNat) ∧
      (∀ a, a < 0x10000 * w.idx ∨ 0x10000 * (w.idx + 1) ≤ a → tblGet flashReset x.flash a = tblGet flashReset s.flash a)) ∧
    (∀ e, w.op = 3 → (overImg w.data s.flash).validate s.otp fa fb none Dev.reset = .error e → leads (.updWorkDone ⟨ok, fa, fb⟩) s fun x =>
      x.dev.get F.UPD_EVT_RESULT = 0x0B ∧ x.dev.flag F.UPD_EVT_REFUSED_EVT = true ∧ x.dev.updOwner = s.dev.updOwner ∧ s.sameMem x) ∧
    (∀ rs, w.op = 3 → (overImg w.data s.flash).validate s.otp fa fb none Dev.reset = .ok rs → s.dev.nvOk 0 = false →
      leads (.updWorkDone ⟨ok, fa, fb⟩) s fun x =>
        x.dev.get F.UPD_EVT_RESULT = 8 ∧ x.dev.flag F.UPD_EVT_REFUSED_EVT = true ∧ x.dev.updOwner = s.dev.updOwner ∧ s.sameMem x)) ∧
  ∀ s : State, (s.dev.updOwner = 0 → answers .updIdleExpire s s) ∧
    (s.dev.updOwner ≠ 0 → leads .updIdleExpire s fun x => x.dev.updOwner = 0 ∧ x.dev.get F.UPD_EVT_RESULT = 0x0D ∧
      x.dev.flag F.UPD_EVT_EXPIRED_EVT = true ∧ x.dev.upd.kept = [] ∧ x.dev.upd.sectors = [] ∧ x.otp = s.otp ∧ x.pending = s.pending)

/-- O58. A live patch is staged, applied or aborted; while one is pending its writes are discarded (R61, R64) -/
def Obligations.PatchStaging : Prop :=
  (∀ (s : State) (w : Word), let pend := s.dev.flag F.CFG_PATCH_LVL_PENDING
    (∀ c ∈ ([.patchSelWrite w, .patchIdxWrite w, .patchDataWrite w, .patchApply] : List Instr), pend = true → leads c s fun x =>
      x.dev.flag F.CFG_PATCH_EVT_BUSY_EVT = true ∧ x.dev.upd = s.dev.upd ∧
      s.dev.sameRegs x.dev [R.CFG_PATCH_EVT, R.SYS_FAULT_EVT] ∧ s.sameMem x) ∧
    (pend = false → leads (.patchSelWrite w) s fun x => x.dev.rd R.CFG_PATCH_SEL = w &&& 0xFFFFFF03 ∧ x.dev.upd.patch = [] ∧
      x.dev.get F.CFG_PATCH_LVL_WPTR = 0 ∧ s.dev.sameRegs x.dev [R.CFG_PATCH_SEL, R.CFG_PATCH_LVL] ∧ s.sameMem x) ∧
    (pend = false → leads (.patchIdxWrite w) s fun x => x.dev.rd R.CFG_PATCH_IDX = w &&& 0x7F ∧ x.dev.upd.patch = [] ∧
      x.dev.get F.CFG_PATCH_LVL_WPTR = 0 ∧ s.dev.sameRegs x.dev [R.CFG_PATCH_IDX, R.CFG_PATCH_LVL] ∧ s.sameMem x) ∧
    (pend = false → s.dev.get F.CFG_PATCH_LVL_WPTR < 4096 → leads (.patchDataWrite w) s fun x => x.dev.upd.patch = s.dev.upd.patch ++ [w] ∧
      x.dev.get F.CFG_PATCH_LVL_WPTR = s.dev.get F.CFG_PATCH_LVL_WPTR + 1 ∧ s.dev.sameRegs x.dev [R.CFG_PATCH_LVL] ∧ s.sameMem x) ∧
    (s.dev.get F.CFG_PATCH_LVL_WPTR = 4096 → leads (.patchDataWrite w) s fun x => x.dev.flag F.CFG_PATCH_EVT_BUSY_EVT = true ∧
      x.dev.upd = s.dev.upd ∧ s.sameMem x)) ∧
  ∀ s : State,
    (s.dev.flag F.CFG_PATCH_LVL_PENDING = false → answers .patchAbort s (s.upd (Dev.parityWritten R.CFG_PATCH_CMD)) ∧ leads .patchApply s fun x =>
      x.dev.flag F.CFG_PATCH_LVL_PENDING = true ∧ x.dev.upd.patchAt = none ∧ x.dev.upd.patch = s.dev.upd.patch ∧
      s.dev.sameRegs x.dev [R.CFG_PATCH_LVL] ∧ s.sameMem x) ∧
    (s.dev.flag F.CFG_PATCH_LVL_PENDING = true → leads .patchAbort s fun x => x.dev.flag F.CFG_PATCH_LVL_PENDING = false ∧
      x.dev.get F.CFG_PATCH_EVT_RESULT = 8 ∧ x.dev.flag F.CFG_PATCH_EVT_REFUSED_EVT = true ∧
      x.dev.get F.CFG_PATCH_CNT_REFUSED = (s.dev.get F.CFG_PATCH_CNT_REFUSED + 1) % 2 ^ 16 ∧
      s.dev.sameRegs x.dev [R.CFG_PATCH_LVL, R.CFG_PATCH_EVT, R.CFG_PATCH_CNT, R.SYS_FAULT_EVT] ∧ s.sameMem x)

/-- O59. An instruction of the test access port is in force, samples the balls, and takes them only while RESET_N is low (R483, R484) -/
def Obligations.TapInstructions : Prop :=
  (∀ s : State, ∀ c ∈ ([(.tapReset, 2), (.jtagExtest, 0), (.jtagIdcode, 2), (.jtagHighz, 3), (.jtagClamp, 4),
      (.jtagExtestPulse, 5), (.jtagExtestTrain, 6), (.jtagBypass, 0xFF)] : List (Instr × BitVec 8)),
    leads c.1 s fun x => x.dev.tap.ir = c.2 ∧ x.dev = { s.dev with tap := x.dev.tap } ∧ x.dev.tap.latch = s.dev.tap.latch ∧
      x.dev.tap.scan = s.dev.tap.scan ∧ (c.2 = 2 → x.dev.tap.idReg = 0x10960ABD) ∧ (c.2 ≠ 2 → x.dev.tap.idReg = s.dev.tap.idReg) ∧ s.sameMem x) ∧
  (∀ s : State, leads .jtagSamplePreload s fun x => x.dev.tap.ir = 1 ∧ x.dev = { s.dev with tap := x.dev.tap, free := x.dev.free } ∧
    (∀ (b : Ball) (v : Bool), s.dev.ballFn b s.dev.sysClk = some v → x.dev.tap.scan.getLsbD b.cell = v) ∧ s.sameMem x) ∧
  ∀ d : Dev, (d.tap.ir ∈ [0, 3, 4, 5, 6] → d.tapActs = if d.pwr.resetN then .bypass else tapIns d.tap.ir) ∧
    (d.tap.ir ∉ [0, 3, 4, 5, 6] → d.tapTakes = false) ∧
    (d.pwr.resetN = true → ∀ (b : Ball) (clk : Nat), d.ball b clk = d.ballFn b clk) ∧
    (∀ (k : Fin 8) (clk : Nat), d.ball (.sout k) clk = d.ballFn (.sout k) clk) ∧
    (d.pwr.resetN = false → ∀ (pin : Fin 160) (clk : Nat),
      (d.tap.ir = 3 → d.aioPin pin clk = none) ∧
      (d.tap.ir ∈ [0, 4, 5, 6] → d.aioPin pin clk = some (d.tap.latch.getLsbD (Ball.aio pin).cell)))
end

