-- ==== Sys2Proof/Laws/Bits.lean ====
section
/-! SUPPORT. Laws of the plain helpers: tables, bit fields and byte order. -/
namespace Sys2Proof.Machine

/-! Tables. -/

theorem tblGet_drop_ne {α : Type} (d : Nat → α) (l : List (Nat × α)) {j k : Nat} (h : j ≠ k) :
    tblGet d (tblDrop l k) j = tblGet d l j := by
  induction l with
  | nil => rfl
  | cons x t ih =>
    obtain ⟨i, v⟩ := x
    unfold tblDrop at ih ⊢
    by_cases hk : i = k
    · subst hk
      simp [tblGet, ih, Ne.symm h]
    · simp only [List.filter_cons, bne_iff_ne, ne_eq, hk, not_false_eq_true, if_true, tblGet]
      split
      · rfl
      · exact ih

theorem tblGet_drop_same {α : Type} (d : Nat → α) (l : List (Nat × α)) (k : Nat) :
    tblGet d (tblDrop l k) k = d k := by
  induction l with
  | nil => rfl
  | cons x t ih =>
    obtain ⟨i, v⟩ := x
    unfold tblDrop at ih ⊢
    by_cases hk : i = k
    · simpa [hk] using ih
    · simpa [List.filter_cons, hk, tblGet] using ih

theorem tblGet_ins_ne {α : Type} (d : Nat → α) (l : List (Nat × α)) {j k : Nat} (v : α) (h : j ≠ k) :
    tblGet d (tblIns k v l) j = tblGet d l j := by
  induction l with
  | nil => simp [tblIns, tblGet, Ne.symm h]
  | cons x t ih =>
    obtain ⟨i, w⟩ := x
    unfold tblIns
    split
    · simp [tblGet, Ne.symm h]
    · simp only [tblGet, ih]

theorem tblGet_ins_same {α : Type} (d : Nat → α) (l : List (Nat × α)) (k : Nat) (v : α) :
    tblGet d (tblIns k v (tblDrop l k)) k = v := by
  induction l with
  | nil => simp [tblDrop, tblIns, tblGet]
  | cons x t ih =>
    obtain ⟨i, w⟩ := x
    unfold tblDrop at ih ⊢
    by_cases hk : i = k
    · simpa [hk] using ih
    · simp only [List.filter_cons, bne_iff_ne, ne_eq, hk, not_false_eq_true, if_true, tblIns]
      split
      · simp [tblGet]
      · simp only [tblGet, hk, if_false]
        exact ih

/-- A table reads what was put last. -/
theorem tblGet_set_same {α : Type} [DecidableEq α] (d : Nat → α) (l : List (Nat × α)) (k : Nat) (v : α) :
    tblGet d (tblSet d l k v) k = v := by
  unfold tblSet
  split
  · rename_i h
    rw [tblGet_drop_same, h]
  · exact tblGet_ins_same d l k v

/-- A put leaves every other key alone. -/
theorem tblGet_set_ne {α : Type} [DecidableEq α] (d : Nat → α) (l : List (Nat × α)) {j k : Nat} (v : α) (h : j ≠ k) :
    tblGet d (tblSet d l k v) j = tblGet d l j := by
  unfold tblSet
  split
  · exact tblGet_drop_ne d l h
  · rw [tblGet_ins_ne d _ v h, tblGet_drop_ne d l h]

theorem tblGet_mod_same {α : Type} [DecidableEq α] (d : Nat → α) (l : List (Nat × α)) (k : Nat) (f : α → α) :
    tblGet d (tblMod d l k f) k = f (tblGet d l k) := tblGet_set_same d l k _

theorem tblGet_mod_ne {α : Type} [DecidableEq α] (d : Nat → α) (l : List (Nat × α)) {j k : Nat} (f : α → α) (h : j ≠ k) :
    tblGet d (tblMod d l k f) j = tblGet d l j := tblGet_set_ne d l _ h

/-- The canonical form holds from every lower bound. -/
theorem tblWf_mono {α : Type} [DecidableEq α] (d : Nat → α) {a b : Nat} (h : a ≤ b) (l : List (Nat × α))
    (w : tblWf d b l = true) : tblWf d a l = true := by
  cases l with
  | nil => rfl
  | cons x t =>
    obtain ⟨k, v⟩ := x
    simp only [tblWf, Bool.and_eq_true, decide_eq_true_eq] at w ⊢
    exact ⟨⟨le_trans h w.1.1, w.1.2⟩, w.2⟩

theorem tblWf_drop {α : Type} [DecidableEq α] (d : Nat → α) (k : Nat) (l : List (Nat × α)) :
    ∀ lo, tblWf d lo l = true → tblWf d lo (tblDrop l k) = true := by
  induction l with
  | nil => intro lo h; rfl
  | cons x t ih =>
    intro lo h
    obtain ⟨i, v⟩ := x
    simp only [tblWf, Bool.and_eq_true, decide_eq_true_eq] at h
    have t' := ih (i + 1) h.2
    unfold tblDrop at t' ⊢
    by_cases hk : i = k
    · simp only [List.filter_cons, hk, bne_self_eq_false, Bool.false_eq_true, if_false]
      rw [hk] at t' h
      exact tblWf_mono d (by omega) _ t'
    · simp only [List.filter_cons, bne_iff_ne, ne_eq, hk, not_false_eq_true, if_true, tblWf, Bool.and_eq_true,
        decide_eq_true_eq]
      exact ⟨h.1, t'⟩

theorem tblWf_ins {α : Type} [DecidableEq α] (d : Nat → α) (k : Nat) (v : α) (hv : v ≠ d k) (l : List (Nat × α)) :
    ∀ lo, lo ≤ k → tblWf d lo (tblDrop l k) = true → tblWf d lo (tblIns k v (tblDrop l k)) = true := by
  induction l with
  | nil => intro lo h _; simp [tblDrop, tblIns, tblWf, h, hv]
  | cons x t ih =>
    intro lo h w
    obtain ⟨i, u⟩ := x
    unfold tblDrop at ih w ⊢
    by_cases hk : i = k
    · simp only [List.filter_cons, hk, bne_self_eq_false, Bool.false_eq_true, if_false] at w ⊢
      exact ih lo h w
    · simp only [List.filter_cons, bne_iff_ne, ne_eq, hk, not_false_eq_true, if_true, tblWf, Bool.and_eq_true,
        decide_eq_true_eq, tblIns] at w ⊢
      split
      · rename_i hlt
        simp only [tblWf, Bool.and_eq_true, decide_eq_true_eq]
        exact ⟨⟨h, by simp [hv]⟩, ⟨⟨by omega, w.1.2⟩, w.2⟩⟩
      · simp only [tblWf, Bool.and_eq_true, decide_eq_true_eq]
        exact ⟨w.1, ih (i + 1) (by omega) w.2⟩

/-- A put keeps the canonical form. -/
theorem tblWf_set {α : Type} [DecidableEq α] (d : Nat → α) (l : List (Nat × α)) (k : Nat) (v : α)
    (h : tblWf d 0 l = true) : tblWf d 0 (tblSet d l k v) = true := by
  unfold tblSet
  split
  · exact tblWf_drop d k l 0 h
  · rename_i hv
    exact tblWf_ins d k v hv l 0 (Nat.zero_le k) (tblWf_drop d k l 0 h)

/-! Bit fields. -/

theorem bitsOf_lt (v hi lo : Nat) : bitsOf v hi lo < 2 ^ (hi + 1 - lo) := Nat.mod_lt _ (by positivity)

theorem bitsOf_mul_le (v hi lo : Nat) : bitsOf v hi lo * 2 ^ lo ≤ v := by
  unfold bitsOf
  calc (v / 2 ^ lo % 2 ^ (hi + 1 - lo)) * 2 ^ lo ≤ (v / 2 ^ lo) * 2 ^ lo := Nat.mul_le_mul_right _ (Nat.mod_le _ _)
    _ ≤ v := Nat.div_mul_le_self v _

/-- A number cut at a field: what lies above it, the field, and what lies below it. -/
theorem bits_split (v hi lo : Nat) (h : lo ≤ hi) :
    v = v / 2 ^ (hi + 1) * 2 ^ (hi + 1) + bitsOf v hi lo * 2 ^ lo + v % 2 ^ lo := by
  unfold bitsOf
  have e1 : 2 ^ (hi + 1) = 2 ^ lo * 2 ^ (hi + 1 - lo) := by rw [← pow_add]; congr 1; omega
  have e2 : v / 2 ^ (hi + 1) = v / 2 ^ lo / 2 ^ (hi + 1 - lo) := by rw [e1, Nat.div_div_eq_div_mul]
  have a := Nat.div_add_mod v (2 ^ lo)
  have b := Nat.div_add_mod (v / 2 ^ lo) (2 ^ (hi + 1 - lo))
  rw [e2, e1]
  generalize v / 2 ^ lo = q at *
  generalize 2 ^ (hi + 1 - lo) = W at *
  generalize 2 ^ lo = L at *
  nlinarith

theorem putBits_split (v hi lo x : Nat) (h : lo ≤ hi) :
    putBits v hi lo x = v / 2 ^ (hi + 1) * 2 ^ (hi + 1) + (x % 2 ^ (hi + 1 - lo)) * 2 ^ lo + v % 2 ^ lo := by
  have a := bits_split v hi lo h
  unfold putBits
  omega

/-- The low part of a sum of the three pieces. -/
theorem pieces_lt (hi lo f r : Nat) (h : lo ≤ hi) (hf : f < 2 ^ (hi + 1 - lo)) (hr : r < 2 ^ lo) :
    f * 2 ^ lo + r < 2 ^ (hi + 1) := by
  have e1 : 2 ^ (hi + 1) = 2 ^ (hi + 1 - lo) * 2 ^ lo := by rw [← pow_add]; congr 1; omega
  rw [e1]
  have : (f + 1) * 2 ^ lo ≤ 2 ^ (hi + 1 - lo) * 2 ^ lo := Nat.mul_le_mul_right _ hf
  nlinarith

theorem bitsOf_putBits_same (v hi lo x : Nat) (h : lo ≤ hi) :
    bitsOf (putBits v hi lo x) hi lo = x % 2 ^ (hi + 1 - lo) := by
  rw [putBits_split v hi lo x h]
  have hx : x % 2 ^ (hi + 1 - lo) < 2 ^ (hi + 1 - lo) := Nat.mod_lt _ (by positivity)
  have hr : v % 2 ^ lo < 2 ^ lo := Nat.mod_lt _ (by positivity)
  generalize x % 2 ^ (hi + 1 - lo) = f at *
  have e1 : 2 ^ (hi + 1) = 2 ^ lo * 2 ^ (hi + 1 - lo) := by rw [← pow_add]; congr 1; omega
  unfold bitsOf
  have e : v / 2 ^ (hi + 1) * 2 ^ (hi + 1) + f * 2 ^ lo + v % 2 ^ lo
      = 2 ^ lo * (v / 2 ^ (hi + 1) * 2 ^ (hi + 1 - lo) + f) + v % 2 ^ lo := by rw [e1]; ring
  rw [e, Nat.mul_add_div (by positivity), Nat.div_eq_of_lt hr, Nat.add_zero, Nat.mul_add_mod_self_right,
    Nat.mod_eq_of_lt hx]

theorem putBits_div_above (v hi lo x : Nat) (h : lo ≤ hi) : putBits v hi lo x / 2 ^ (hi + 1) = v / 2 ^ (hi + 1) := by
  rw [putBits_split v hi lo x h, Nat.add_assoc, Nat.mul_comm, Nat.mul_add_div (by positivity)]
  have := pieces_lt hi lo (x % 2 ^ (hi + 1 - lo)) (v % 2 ^ lo) h (Nat.mod_lt _ (by positivity)) (Nat.mod_lt _ (by positivity))
  rw [Nat.div_eq_of_lt this, Nat.add_zero]

theorem putBits_mod_below (v hi lo x : Nat) (h : lo ≤ hi) : putBits v hi lo x % 2 ^ lo = v % 2 ^ lo := by
  rw [putBits_split v hi lo x h]
  have e1 : 2 ^ (hi + 1) = 2 ^ (hi + 1 - lo) * 2 ^ lo := by rw [← pow_add]; congr 1; omega
  rw [e1, ← Nat.mul_assoc, ← Nat.add_mul, Nat.mul_comm, Nat.mul_add_mod, Nat.mod_mod]

/-- A field above the one put. -/
theorem bitsOf_putBits_above (v hi lo x hi' lo' : Nat) (h : lo ≤ hi) (a : hi < lo') :
    bitsOf (putBits v hi lo x) hi' lo' = bitsOf v hi' lo' := by
  unfold bitsOf
  have e : ∀ n : Nat, n / 2 ^ lo' = n / 2 ^ (hi + 1) / 2 ^ (lo' - (hi + 1)) := by
    intro n
    rw [Nat.div_div_eq_div_mul, ← pow_add]
    congr 2
    omega
  rw [e, e v, putBits_div_above v hi lo x h]

/-- A field of the low part of a number. -/
theorem mod_div_mod (n lo a w : Nat) (h : a + w ≤ lo) : n % 2 ^ lo / 2 ^ a % 2 ^ w = n / 2 ^ a % 2 ^ w := by
  have e : 2 ^ lo = 2 ^ a * 2 ^ (lo - a) := by rw [← pow_add]; congr 1; omega
  rw [e, Nat.mod_mul_right_div_self, Nat.mod_mod_of_dvd _ (pow_dvd_pow 2 (by omega))]

/-- A field below the one put. -/
theorem bitsOf_putBits_below (v hi lo x hi' lo' : Nat) (h : lo ≤ hi) (a : hi' < lo) :
    bitsOf (putBits v hi lo x) hi' lo' = bitsOf v hi' lo' := by
  have e : ∀ n : Nat, bitsOf n hi' lo' = bitsOf (n % 2 ^ lo) hi' lo' := by
    intro n
    unfold bitsOf
    by_cases hl : lo' ≤ hi'
    · rw [mod_div_mod n lo lo' (hi' + 1 - lo') (by omega)]
    · have : hi' + 1 - lo' = 0 := by omega
      simp [this, Nat.mod_one]
  rw [e, e v, putBits_mod_below v hi lo x h]

theorem putBits_lt (v hi lo x : Nat) (h : lo ≤ hi) (hh : hi < 32) (hv : v < 2 ^ 32) : putBits v hi lo x < 2 ^ 32 := by
  rw [putBits_split v hi lo x h]
  have p := pieces_lt hi lo (x % 2 ^ (hi + 1 - lo)) (v % 2 ^ lo) h (Nat.mod_lt _ (by positivity)) (Nat.mod_lt _ (by positivity))
  have e : 2 ^ 32 = 2 ^ (31 - hi) * 2 ^ (hi + 1) := by rw [← pow_add]; congr 1; omega
  have q : v / 2 ^ (hi + 1) < 2 ^ (31 - hi) := by
    rw [Nat.div_lt_iff_lt_mul (by positivity), ← e]; exact hv
  have : (v / 2 ^ (hi + 1) + 1) * 2 ^ (hi + 1) ≤ 2 ^ (31 - hi) * 2 ^ (hi + 1) := Nat.mul_le_mul_right _ q
  rw [e]
  nlinarith

end Sys2Proof.Machine
end

