-- ==== Sys2Proof/Laws/State.lean ====
section
/-! SUPPORT. Laws of the register file and of the shared operations on it: what a put is read back as, and what it leaves alone. -/
namespace Sys2Proof.Machine

/-! A register word. -/

@[simp] theorem Dev.rd_wr_same (d : Dev) (off : Nat) (w : Word) : (d.wr off w).rd off = w :=
  tblGet_set_same _ _ _ _

theorem Dev.rd_wr_ne (d : Dev) {a b : Nat} (w : Word) (h : a ≠ b) : (d.wr b w).rd a = d.rd a :=
  tblGet_set_ne _ _ _ h

/-- What a write of one register leaves of a field of another. -/
theorem Dev.get_wr_ne (d : Dev) {f : Fld} {b : Nat} (w : Word) (h : f.reg ≠ b) : (d.wr b w).get f = d.get f := by
  simp [Dev.get, Dev.rd_wr_ne d w h]

theorem Dev.get_wr_same (d : Dev) (f : Fld) (w : Word) : (d.wr f.reg w).get f = bitsOf w.toNat f.hi f.lo := by
  simp [Dev.get]

/-! A field. -/

theorem Dev.rd_put_same (d : Dev) (f : Fld) (v : Nat) :
    (d.put f v).rd f.reg = BitVec.ofNat 32 (putBits (d.rd f.reg).toNat f.hi f.lo v) := Dev.rd_wr_same _ _ _

theorem Dev.rd_put_ne (d : Dev) {f : Fld} {a : Nat} (v : Nat) (h : a ≠ f.reg) : (d.put f v).rd a = d.rd a :=
  Dev.rd_wr_ne d _ h

/-- A field inside its word. -/
def Fld.ok (f : Fld) : Prop := f.lo ≤ f.hi ∧ f.hi < 32

theorem Dev.toNat_rd_put (d : Dev) (f : Fld) (v : Nat) (h : f.ok) :
    ((d.put f v).rd f.reg).toNat = putBits (d.rd f.reg).toNat f.hi f.lo v := by
  rw [Dev.rd_put_same, BitVec.toNat_ofNat, Nat.mod_eq_of_lt (putBits_lt _ _ _ _ h.1 h.2 (d.rd f.reg).isLt)]

/-- A field reads what was put, modulo its width. -/
theorem Dev.get_put_same (d : Dev) (f : Fld) (v : Nat) (h : f.ok) :
    (d.put f v).get f = v % 2 ^ (f.hi + 1 - f.lo) := by
  rw [Dev.get, Dev.toNat_rd_put d f v h, bitsOf_putBits_same _ _ _ _ h.1]

theorem Dev.get_put_ne (d : Dev) {f g : Fld} (v : Nat) (h : g.reg ≠ f.reg) : (d.put f v).get g = d.get g := by
  simp [Dev.get, Dev.rd_put_ne d v h]

/-- Two fields of one word that share no bit. -/
theorem Dev.get_put_apart (d : Dev) (f g : Fld) (v : Nat) (h : f.ok) (r : g.reg = f.reg) (a : f.hi < g.lo ∨ g.hi < f.lo) :
    (d.put f v).get g = d.get g := by
  rw [Dev.get, Dev.get, r, Dev.toNat_rd_put d f v h]
  rcases a with a | a
  · exact bitsOf_putBits_above _ _ _ _ _ _ h.1 a
  · exact bitsOf_putBits_below _ _ _ _ _ _ h.1 a

theorem Dev.flag_up_same (d : Dev) (f : Fld) (b : Bool) (h : f.hi = f.lo) (k : f.lo < 32) : (d.up f b).flag f = b := by
  have e := Dev.get_put_same d f (b2n b) ⟨by omega, by omega⟩
  unfold Dev.flag Dev.up
  rw [e, h, show f.lo + 1 - f.lo = 1 by omega]
  cases b <;> rfl

theorem Dev.flag_up_ne (d : Dev) {f g : Fld} (b : Bool) (h : g.reg ≠ f.reg) : (d.up f b).flag g = d.flag g := by
  simp [Dev.flag, Dev.up, Dev.get_put_ne d _ h]

theorem Dev.flag_up_apart (d : Dev) (f g : Fld) (b : Bool) (h : f.ok) (r : g.reg = f.reg) (a : f.hi < g.lo ∨ g.hi < f.lo) :
    (d.up f b).flag g = d.flag g := by
  simp [Dev.flag, Dev.up, Dev.get_put_apart d f g _ h r a]

/-- A write of a register word leaves every other part of the device alone; so does a put of a field. -/
@[simp] theorem Dev.wr_host (d : Dev) (o : Nat) (w : Word) : (d.wr o w).host = d.host := (rfl)
@[simp] theorem Dev.wr_time (d : Dev) (o : Nat) (w : Word) : (d.wr o w).time = d.time := (rfl)
@[simp] theorem Dev.wr_link (d : Dev) (o : Nat) (w : Word) : (d.wr o w).link = d.link := (rfl)
@[simp] theorem Dev.wr_fb (d : Dev) (o : Nat) (w : Word) : (d.wr o w).fb = d.fb := (rfl)
@[simp] theorem Dev.wr_adc (d : Dev) (o : Nat) (w : Word) : (d.wr o w).adc = d.adc := (rfl)
@[simp] theorem Dev.wr_traj (d : Dev) (o : Nat) (w : Word) : (d.wr o w).traj = d.traj := (rfl)
@[simp] theorem Dev.wr_loop (d : Dev) (o : Nat) (w : Word) : (d.wr o w).loop = d.loop := (rfl)
@[simp] theorem Dev.wr_arb (d : Dev) (o : Nat) (w : Word) : (d.wr o w).arb = d.arb := (rfl)
@[simp] theorem Dev.wr_solv (d : Dev) (o : Nat) (w : Word) : (d.wr o w).solv = d.solv := (rfl)
@[simp] theorem Dev.wr_sched (d : Dev) (o : Nat) (w : Word) : (d.wr o w).sched = d.sched := (rfl)
@[simp] theorem Dev.wr_safe (d : Dev) (o : Nat) (w : Word) : (d.wr o w).safe = d.safe := (rfl)
@[simp] theorem Dev.wr_red (d : Dev) (o : Nat) (w : Word) : (d.wr o w).red = d.red := (rfl)
@[simp] theorem Dev.wr_pwr (d : Dev) (o : Nat) (w : Word) : (d.wr o w).pwr = d.pwr := (rfl)
@[simp] theorem Dev.wr_boot (d : Dev) (o : Nat) (w : Word) : (d.wr o w).boot = d.boot := (rfl)
@[simp] theorem Dev.wr_upd (d : Dev) (o : Nat) (w : Word) : (d.wr o w).upd = d.upd := (rfl)
@[simp] theorem Dev.wr_tap (d : Dev) (o : Nat) (w : Word) : (d.wr o w).tap = d.tap := (rfl)
@[simp] theorem Dev.wr_eccBad (d : Dev) (o : Nat) (w : Word) : (d.wr o w).eccBad = d.eccBad := (rfl)
@[simp] theorem Dev.wr_io (d : Dev) (o : Nat) (w : Word) : (d.wr o w).io = d.io := (rfl)
@[simp] theorem Dev.wr_eccCe (d : Dev) (o : Nat) (w : Word) : (d.wr o w).eccCe = d.eccCe := (rfl)
@[simp] theorem Dev.wr_faults (d : Dev) (o : Nat) (w : Word) : (d.wr o w).faults = d.faults := (rfl)
@[simp] theorem Dev.wr_free (d : Dev) (o : Nat) (w : Word) : (d.wr o w).free = d.free := (rfl)
@[simp] theorem Dev.put_host (d : Dev) (f : Fld) (v : Nat) : (d.put f v).host = d.host := (rfl)
@[simp] theorem Dev.put_time (d : Dev) (f : Fld) (v : Nat) : (d.put f v).time = d.time := (rfl)
@[simp] theorem Dev.put_link (d : Dev) (f : Fld) (v : Nat) : (d.put f v).link = d.link := (rfl)
@[simp] theorem Dev.put_fb (d : Dev) (f : Fld) (v : Nat) : (d.put f v).fb = d.fb := (rfl)
@[simp] theorem Dev.put_adc (d : Dev) (f : Fld) (v : Nat) : (d.put f v).adc = d.adc := (rfl)
@[simp] theorem Dev.put_traj (d : Dev) (f : Fld) (v : Nat) : (d.put f v).traj = d.traj := (rfl)
@[simp] theorem Dev.put_loop (d : Dev) (f : Fld) (v : Nat) : (d.put f v).loop = d.loop := (rfl)
@[simp] theorem Dev.put_arb (d : Dev) (f : Fld) (v : Nat) : (d.put f v).arb = d.arb := (rfl)
@[simp] theorem Dev.put_solv (d : Dev) (f : Fld) (v : Nat) : (d.put f v).solv = d.solv := (rfl)
@[simp] theorem Dev.put_sched (d : Dev) (f : Fld) (v : Nat) : (d.put f v).sched = d.sched := (rfl)
@[simp] theorem Dev.put_safe (d : Dev) (f : Fld) (v : Nat) : (d.put f v).safe = d.safe := (rfl)
@[simp] theorem Dev.put_red (d : Dev) (f : Fld) (v : Nat) : (d.put f v).red = d.red := (rfl)
@[simp] theorem Dev.put_pwr (d : Dev) (f : Fld) (v : Nat) : (d.put f v).pwr = d.pwr := (rfl)
@[simp] theorem Dev.put_boot (d : Dev) (f : Fld) (v : Nat) : (d.put f v).boot = d.boot := (rfl)
@[simp] theorem Dev.put_upd (d : Dev) (f : Fld) (v : Nat) : (d.put f v).upd = d.upd := (rfl)
@[simp] theorem Dev.put_tap (d : Dev) (f : Fld) (v : Nat) : (d.put f v).tap = d.tap := (rfl)
@[simp] theorem Dev.put_eccBad (d : Dev) (f : Fld) (v : Nat) : (d.put f v).eccBad = d.eccBad := (rfl)
@[simp] theorem Dev.put_io (d : Dev) (f : Fld) (v : Nat) : (d.put f v).io = d.io := (rfl)
@[simp] theorem Dev.put_eccCe (d : Dev) (f : Fld) (v : Nat) : (d.put f v).eccCe = d.eccCe := (rfl)
@[simp] theorem Dev.put_faults (d : Dev) (f : Fld) (v : Nat) : (d.put f v).faults = d.faults := (rfl)
@[simp] theorem Dev.put_free (d : Dev) (f : Fld) (v : Nat) : (d.put f v).free = d.free := (rfl)
@[simp] theorem Dev.up_host (d : Dev) (f : Fld) (b : Bool) : (d.up f b).host = d.host := (rfl)
@[simp] theorem Dev.up_time (d : Dev) (f : Fld) (b : Bool) : (d.up f b).time = d.time := (rfl)
@[simp] theorem Dev.up_link (d : Dev) (f : Fld) (b : Bool) : (d.up f b).link = d.link := (rfl)
@[simp] theorem Dev.up_fb (d : Dev) (f : Fld) (b : Bool) : (d.up f b).fb = d.fb := (rfl)
@[simp] theorem Dev.up_adc (d : Dev) (f : Fld) (b : Bool) : (d.up f b).adc = d.adc := (rfl)
@[simp] theorem Dev.up_traj (d : Dev) (f : Fld) (b : Bool) : (d.up f b).traj = d.traj := (rfl)
@[simp] theorem Dev.up_loop (d : Dev) (f : Fld) (b : Bool) : (d.up f b).loop = d.loop := (rfl)
@[simp] theorem Dev.up_arb (d : Dev) (f : Fld) (b : Bool) : (d.up f b).arb = d.arb := (rfl)
@[simp] theorem Dev.up_solv (d : Dev) (f : Fld) (b : Bool) : (d.up f b).solv = d.solv := (rfl)
@[simp] theorem Dev.up_sched (d : Dev) (f : Fld) (b : Bool) : (d.up f b).sched = d.sched := (rfl)
@[simp] theorem Dev.up_safe (d : Dev) (f : Fld) (b : Bool) : (d.up f b).safe = d.safe := (rfl)
@[simp] theorem Dev.up_red (d : Dev) (f : Fld) (b : Bool) : (d.up f b).red = d.red := (rfl)
@[simp] theorem Dev.up_pwr (d : Dev) (f : Fld) (b : Bool) : (d.up f b).pwr = d.pwr := (rfl)
@[simp] theorem Dev.up_boot (d : Dev) (f : Fld) (b : Bool) : (d.up f b).boot = d.boot := (rfl)
@[simp] theorem Dev.up_upd (d : Dev) (f : Fld) (b : Bool) : (d.up f b).upd = d.upd := (rfl)
@[simp] theorem Dev.up_tap (d : Dev) (f : Fld) (b : Bool) : (d.up f b).tap = d.tap := (rfl)
@[simp] theorem Dev.up_eccBad (d : Dev) (f : Fld) (b : Bool) : (d.up f b).eccBad = d.eccBad := (rfl)
@[simp] theorem Dev.up_io (d : Dev) (f : Fld) (b : Bool) : (d.up f b).io = d.io := (rfl)
@[simp] theorem Dev.up_eccCe (d : Dev) (f : Fld) (b : Bool) : (d.up f b).eccCe = d.eccCe := (rfl)
@[simp] theorem Dev.up_faults (d : Dev) (f : Fld) (b : Bool) : (d.up f b).faults = d.faults := (rfl)
@[simp] theorem Dev.up_free (d : Dev) (f : Fld) (b : Bool) : (d.up f b).free = d.free := (rfl)
@[simp] theorem Dev.puts_host (d : Dev) (f : Fld) (v : Int) : (d.puts f v).host = d.host := (rfl)
@[simp] theorem Dev.puts_time (d : Dev) (f : Fld) (v : Int) : (d.puts f v).time = d.time := (rfl)
@[simp] theorem Dev.puts_link (d : Dev) (f : Fld) (v : Int) : (d.puts f v).link = d.link := (rfl)
@[simp] theorem Dev.puts_fb (d : Dev) (f : Fld) (v : Int) : (d.puts f v).fb = d.fb := (rfl)
@[simp] theorem Dev.puts_adc (d : Dev) (f : Fld) (v : Int) : (d.puts f v).adc = d.adc := (rfl)
@[simp] theorem Dev.puts_traj (d : Dev) (f : Fld) (v : Int) : (d.puts f v).traj = d.traj := (rfl)
@[simp] theorem Dev.puts_loop (d : Dev) (f : Fld) (v : Int) : (d.puts f v).loop = d.loop := (rfl)
@[simp] theorem Dev.puts_arb (d : Dev) (f : Fld) (v : Int) : (d.puts f v).arb = d.arb := (rfl)
@[simp] theorem Dev.puts_solv (d : Dev) (f : Fld) (v : Int) : (d.puts f v).solv = d.solv := (rfl)
@[simp] theorem Dev.puts_sched (d : Dev) (f : Fld) (v : Int) : (d.puts f v).sched = d.sched := (rfl)
@[simp] theorem Dev.puts_safe (d : Dev) (f : Fld) (v : Int) : (d.puts f v).safe = d.safe := (rfl)
@[simp] theorem Dev.puts_red (d : Dev) (f : Fld) (v : Int) : (d.puts f v).red = d.red := (rfl)
@[simp] theorem Dev.puts_pwr (d : Dev) (f : Fld) (v : Int) : (d.puts f v).pwr = d.pwr := (rfl)
@[simp] theorem Dev.puts_boot (d : Dev) (f : Fld) (v : Int) : (d.puts f v).boot = d.boot := (rfl)
@[simp] theorem Dev.puts_upd (d : Dev) (f : Fld) (v : Int) : (d.puts f v).upd = d.upd := (rfl)
@[simp] theorem Dev.puts_tap (d : Dev) (f : Fld) (v : Int) : (d.puts f v).tap = d.tap := (rfl)
@[simp] theorem Dev.puts_eccBad (d : Dev) (f : Fld) (v : Int) : (d.puts f v).eccBad = d.eccBad := (rfl)
@[simp] theorem Dev.puts_io (d : Dev) (f : Fld) (v : Int) : (d.puts f v).io = d.io := (rfl)
@[simp] theorem Dev.puts_eccCe (d : Dev) (f : Fld) (v : Int) : (d.puts f v).eccCe = d.eccCe := (rfl)
@[simp] theorem Dev.puts_faults (d : Dev) (f : Fld) (v : Int) : (d.puts f v).faults = d.faults := (rfl)
@[simp] theorem Dev.puts_free (d : Dev) (f : Fld) (v : Int) : (d.puts f v).free = d.free := (rfl)
@[simp] theorem Dev.cntBy_host (d : Dev) (f : Fld) (n : Nat) : (d.cntBy f n).host = d.host := (rfl)
@[simp] theorem Dev.cntBy_time (d : Dev) (f : Fld) (n : Nat) : (d.cntBy f n).time = d.time := (rfl)
@[simp] theorem Dev.cntBy_link (d : Dev) (f : Fld) (n : Nat) : (d.cntBy f n).link = d.link := (rfl)
@[simp] theorem Dev.cntBy_fb (d : Dev) (f : Fld) (n : Nat) : (d.cntBy f n).fb = d.fb := (rfl)
@[simp] theorem Dev.cntBy_adc (d : Dev) (f : Fld) (n : Nat) : (d.cntBy f n).adc = d.adc := (rfl)
@[simp] theorem Dev.cntBy_traj (d : Dev) (f : Fld) (n : Nat) : (d.cntBy f n).traj = d.traj := (rfl)
@[simp] theorem Dev.cntBy_loop (d : Dev) (f : Fld) (n : Nat) : (d.cntBy f n).loop = d.loop := (rfl)
@[simp] theorem Dev.cntBy_arb (d : Dev) (f : Fld) (n : Nat) : (d.cntBy f n).arb = d.arb := (rfl)
@[simp] theorem Dev.cntBy_solv (d : Dev) (f : Fld) (n : Nat) : (d.cntBy f n).solv = d.solv := (rfl)
@[simp] theorem Dev.cntBy_sched (d : Dev) (f : Fld) (n : Nat) : (d.cntBy f n).sched = d.sched := (rfl)
@[simp] theorem Dev.cntBy_safe (d : Dev) (f : Fld) (n : Nat) : (d.cntBy f n).safe = d.safe := (rfl)
@[simp] theorem Dev.cntBy_red (d : Dev) (f : Fld) (n : Nat) : (d.cntBy f n).red = d.red := (rfl)
@[simp] theorem Dev.cntBy_pwr (d : Dev) (f : Fld) (n : Nat) : (d.cntBy f n).pwr = d.pwr := (rfl)
@[simp] theorem Dev.cntBy_boot (d : Dev) (f : Fld) (n : Nat) : (d.cntBy f n).boot = d.boot := (rfl)
@[simp] theorem Dev.cntBy_upd (d : Dev) (f : Fld) (n : Nat) : (d.cntBy f n).upd = d.upd := (rfl)
@[simp] theorem Dev.cntBy_tap (d : Dev) (f : Fld) (n : Nat) : (d.cntBy f n).tap = d.tap := (rfl)
@[simp] theorem Dev.cntBy_eccBad (d : Dev) (f : Fld) (n : Nat) : (d.cntBy f n).eccBad = d.eccBad := (rfl)
@[simp] theorem Dev.cntBy_io (d : Dev) (f : Fld) (n : Nat) : (d.cntBy f n).io = d.io := (rfl)
@[simp] theorem Dev.cntBy_eccCe (d : Dev) (f : Fld) (n : Nat) : (d.cntBy f n).eccCe = d.eccCe := (rfl)
@[simp] theorem Dev.cntBy_faults (d : Dev) (f : Fld) (n : Nat) : (d.cntBy f n).faults = d.faults := (rfl)
@[simp] theorem Dev.cntBy_free (d : Dev) (f : Fld) (n : Nat) : (d.cntBy f n).free = d.free := (rfl)
@[simp] theorem Dev.cnt_host (d : Dev) (f : Fld) : (d.cnt f).host = d.host := (rfl)
@[simp] theorem Dev.cnt_time (d : Dev) (f : Fld) : (d.cnt f).time = d.time := (rfl)
@[simp] theorem Dev.cnt_link (d : Dev) (f : Fld) : (d.cnt f).link = d.link := (rfl)
@[simp] theorem Dev.cnt_fb (d : Dev) (f : Fld) : (d.cnt f).fb = d.fb := (rfl)
@[simp] theorem Dev.cnt_adc (d : Dev) (f : Fld) : (d.cnt f).adc = d.adc := (rfl)
@[simp] theorem Dev.cnt_traj (d : Dev) (f : Fld) : (d.cnt f).traj = d.traj := (rfl)
@[simp] theorem Dev.cnt_loop (d : Dev) (f : Fld) : (d.cnt f).loop = d.loop := (rfl)
@[simp] theorem Dev.cnt_arb (d : Dev) (f : Fld) : (d.cnt f).arb = d.arb := (rfl)
@[simp] theorem Dev.cnt_solv (d : Dev) (f : Fld) : (d.cnt f).solv = d.solv := (rfl)
@[simp] theorem Dev.cnt_sched (d : Dev) (f : Fld) : (d.cnt f).sched = d.sched := (rfl)
@[simp] theorem Dev.cnt_safe (d : Dev) (f : Fld) : (d.cnt f).safe = d.safe := (rfl)
@[simp] theorem Dev.cnt_red (d : Dev) (f : Fld) : (d.cnt f).red = d.red := (rfl)
@[simp] theorem Dev.cnt_pwr (d : Dev) (f : Fld) : (d.cnt f).pwr = d.pwr := (rfl)
@[simp] theorem Dev.cnt_boot (d : Dev) (f : Fld) : (d.cnt f).boot = d.boot := (rfl)
@[simp] theorem Dev.cnt_upd (d : Dev) (f : Fld) : (d.cnt f).upd = d.upd := (rfl)
@[simp] theorem Dev.cnt_tap (d : Dev) (f : Fld) : (d.cnt f).tap = d.tap := (rfl)
@[simp] theorem Dev.cnt_eccBad (d : Dev) (f : Fld) : (d.cnt f).eccBad = d.eccBad := (rfl)
@[simp] theorem Dev.cnt_io (d : Dev) (f : Fld) : (d.cnt f).io = d.io := (rfl)
@[simp] theorem Dev.cnt_eccCe (d : Dev) (f : Fld) : (d.cnt f).eccCe = d.eccCe := (rfl)
@[simp] theorem Dev.cnt_faults (d : Dev) (f : Fld) : (d.cnt f).faults = d.faults := (rfl)
@[simp] theorem Dev.cnt_free (d : Dev) (f : Fld) : (d.cnt f).free = d.free := (rfl)
@[simp] theorem Dev.cntWrap_host (d : Dev) (f : Fld) : (d.cntWrap f).host = d.host := (rfl)
@[simp] theorem Dev.cntWrap_time (d : Dev) (f : Fld) : (d.cntWrap f).time = d.time := (rfl)
@[simp] theorem Dev.cntWrap_link (d : Dev) (f : Fld) : (d.cntWrap f).link = d.link := (rfl)
@[simp] theorem Dev.cntWrap_fb (d : Dev) (f : Fld) : (d.cntWrap f).fb = d.fb := (rfl)
@[simp] theorem Dev.cntWrap_adc (d : Dev) (f : Fld) : (d.cntWrap f).adc = d.adc := (rfl)
@[simp] theorem Dev.cntWrap_traj (d : Dev) (f : Fld) : (d.cntWrap f).traj = d.traj := (rfl)
@[simp] theorem Dev.cntWrap_loop (d : Dev) (f : Fld) : (d.cntWrap f).loop = d.loop := (rfl)
@[simp] theorem Dev.cntWrap_arb (d : Dev) (f : Fld) : (d.cntWrap f).arb = d.arb := (rfl)
@[simp] theorem Dev.cntWrap_solv (d : Dev) (f : Fld) : (d.cntWrap f).solv = d.solv := (rfl)
@[simp] theorem Dev.cntWrap_sched (d : Dev) (f : Fld) : (d.cntWrap f).sched = d.sched := (rfl)
@[simp] theorem Dev.cntWrap_safe (d : Dev) (f : Fld) : (d.cntWrap f).safe = d.safe := (rfl)
@[simp] theorem Dev.cntWrap_red (d : Dev) (f : Fld) : (d.cntWrap f).red = d.red := (rfl)
@[simp] theorem Dev.cntWrap_pwr (d : Dev) (f : Fld) : (d.cntWrap f).pwr = d.pwr := (rfl)
@[simp] theorem Dev.cntWrap_boot (d : Dev) (f : Fld) : (d.cntWrap f).boot = d.boot := (rfl)
@[simp] theorem Dev.cntWrap_upd (d : Dev) (f : Fld) : (d.cntWrap f).upd = d.upd := (rfl)
@[simp] theorem Dev.cntWrap_tap (d : Dev) (f : Fld) : (d.cntWrap f).tap = d.tap := (rfl)
@[simp] theorem Dev.cntWrap_eccBad (d : Dev) (f : Fld) : (d.cntWrap f).eccBad = d.eccBad := (rfl)
@[simp] theorem Dev.cntWrap_io (d : Dev) (f : Fld) : (d.cntWrap f).io = d.io := (rfl)
@[simp] theorem Dev.cntWrap_eccCe (d : Dev) (f : Fld) : (d.cntWrap f).eccCe = d.eccCe := (rfl)
@[simp] theorem Dev.cntWrap_faults (d : Dev) (f : Fld) : (d.cntWrap f).faults = d.faults := (rfl)
@[simp] theorem Dev.cntWrap_free (d : Dev) (f : Fld) : (d.cntWrap f).free = d.free := (rfl)
@[simp] theorem Dev.put64_host (d : Dev) (o v : Nat) : (d.put64 o v).host = d.host := (rfl)
@[simp] theorem Dev.put64_time (d : Dev) (o v : Nat) : (d.put64 o v).time = d.time := (rfl)
@[simp] theorem Dev.put64_link (d : Dev) (o v : Nat) : (d.put64 o v).link = d.link := (rfl)
@[simp] theorem Dev.put64_fb (d : Dev) (o v : Nat) : (d.put64 o v).fb = d.fb := (rfl)
@[simp] theorem Dev.put64_adc (d : Dev) (o v : Nat) : (d.put64 o v).adc = d.adc := (rfl)
@[simp] theorem Dev.put64_traj (d : Dev) (o v : Nat) : (d.put64 o v).traj = d.traj := (rfl)
@[simp] theorem Dev.put64_loop (d : Dev) (o v : Nat) : (d.put64 o v).loop = d.loop := (rfl)
@[simp] theorem Dev.put64_arb (d : Dev) (o v : Nat) : (d.put64 o v).arb = d.arb := (rfl)
@[simp] theorem Dev.put64_solv (d : Dev) (o v : Nat) : (d.put64 o v).solv = d.solv := (rfl)
@[simp] theorem Dev.put64_sched (d : Dev) (o v : Nat) : (d.put64 o v).sched = d.sched := (rfl)
@[simp] theorem Dev.put64_safe (d : Dev) (o v : Nat) : (d.put64 o v).safe = d.safe := (rfl)
@[simp] theorem Dev.put64_red (d : Dev) (o v : Nat) : (d.put64 o v).red = d.red := (rfl)
@[simp] theorem Dev.put64_pwr (d : Dev) (o v : Nat) : (d.put64 o v).pwr = d.pwr := (rfl)
@[simp] theorem Dev.put64_boot (d : Dev) (o v : Nat) : (d.put64 o v).boot = d.boot := (rfl)
@[simp] theorem Dev.put64_upd (d : Dev) (o v : Nat) : (d.put64 o v).upd = d.upd := (rfl)
@[simp] theorem Dev.put64_tap (d : Dev) (o v : Nat) : (d.put64 o v).tap = d.tap := (rfl)
@[simp] theorem Dev.put64_eccBad (d : Dev) (o v : Nat) : (d.put64 o v).eccBad = d.eccBad := (rfl)
@[simp] theorem Dev.put64_io (d : Dev) (o v : Nat) : (d.put64 o v).io = d.io := (rfl)
@[simp] theorem Dev.put64_eccCe (d : Dev) (o v : Nat) : (d.put64 o v).eccCe = d.eccCe := (rfl)
@[simp] theorem Dev.put64_faults (d : Dev) (o v : Nat) : (d.put64 o v).faults = d.faults := (rfl)
@[simp] theorem Dev.put64_free (d : Dev) (o v : Nat) : (d.put64 o v).free = d.free := (rfl)
@[simp] theorem Dev.puts64_host (d : Dev) (o : Nat) (v : Int) : (d.puts64 o v).host = d.host := (rfl)
@[simp] theorem Dev.puts64_time (d : Dev) (o : Nat) (v : Int) : (d.puts64 o v).time = d.time := (rfl)
@[simp] theorem Dev.puts64_link (d : Dev) (o : Nat) (v : Int) : (d.puts64 o v).link = d.link := (rfl)
@[simp] theorem Dev.puts64_fb (d : Dev) (o : Nat) (v : Int) : (d.puts64 o v).fb = d.fb := (rfl)
@[simp] theorem Dev.puts64_adc (d : Dev) (o : Nat) (v : Int) : (d.puts64 o v).adc = d.adc := (rfl)
@[simp] theorem Dev.puts64_traj (d : Dev) (o : Nat) (v : Int) : (d.puts64 o v).traj = d.traj := (rfl)
@[simp] theorem Dev.puts64_loop (d : Dev) (o : Nat) (v : Int) : (d.puts64 o v).loop = d.loop := (rfl)
@[simp] theorem Dev.puts64_arb (d : Dev) (o : Nat) (v : Int) : (d.puts64 o v).arb = d.arb := (rfl)
@[simp] theorem Dev.puts64_solv (d : Dev) (o : Nat) (v : Int) : (d.puts64 o v).solv = d.solv := (rfl)
@[simp] theorem Dev.puts64_sched (d : Dev) (o : Nat) (v : Int) : (d.puts64 o v).sched = d.sched := (rfl)
@[simp] theorem Dev.puts64_safe (d : Dev) (o : Nat) (v : Int) : (d.puts64 o v).safe = d.safe := (rfl)
@[simp] theorem Dev.puts64_red (d : Dev) (o : Nat) (v : Int) : (d.puts64 o v).red = d.red := (rfl)
@[simp] theorem Dev.puts64_pwr (d : Dev) (o : Nat) (v : Int) : (d.puts64 o v).pwr = d.pwr := (rfl)
@[simp] theorem Dev.puts64_boot (d : Dev) (o : Nat) (v : Int) : (d.puts64 o v).boot = d.boot := (rfl)
@[simp] theorem Dev.puts64_upd (d : Dev) (o : Nat) (v : Int) : (d.puts64 o v).upd = d.upd := (rfl)
@[simp] theorem Dev.puts64_tap (d : Dev) (o : Nat) (v : Int) : (d.puts64 o v).tap = d.tap := (rfl)
@[simp] theorem Dev.puts64_eccBad (d : Dev) (o : Nat) (v : Int) : (d.puts64 o v).eccBad = d.eccBad := (rfl)
@[simp] theorem Dev.puts64_io (d : Dev) (o : Nat) (v : Int) : (d.puts64 o v).io = d.io := (rfl)
@[simp] theorem Dev.puts64_eccCe (d : Dev) (o : Nat) (v : Int) : (d.puts64 o v).eccCe = d.eccCe := (rfl)
@[simp] theorem Dev.puts64_faults (d : Dev) (o : Nat) (v : Int) : (d.puts64 o v).faults = d.faults := (rfl)
@[simp] theorem Dev.puts64_free (d : Dev) (o : Nat) (v : Int) : (d.puts64 o v).free = d.free := (rfl)

/-! Events. -/

/-- MSI-X touches the host's part alone. -/
theorem Dev.msix_host (d : Dev) (v : Nat) : ∃ h, d.msix v = { d with host := h } := by
  unfold Dev.msix
  split
  · exact ⟨_, rfl⟩
  · split
    · exact ⟨_, rfl⟩
    · exact ⟨_, rfl⟩

@[simp] theorem Dev.msix_regs (d : Dev) (v : Nat) : (d.msix v).regs = d.regs := by
  obtain ⟨h, e⟩ := d.msix_host v
  rw [e]
@[simp] theorem Dev.msix_time (d : Dev) (v : Nat) : (d.msix v).time = d.time := by
  obtain ⟨h, e⟩ := d.msix_host v
  rw [e]
@[simp] theorem Dev.msix_link (d : Dev) (v : Nat) : (d.msix v).link = d.link := by
  obtain ⟨h, e⟩ := d.msix_host v
  rw [e]
@[simp] theorem Dev.msix_fb (d : Dev) (v : Nat) : (d.msix v).fb = d.fb := by
  obtain ⟨h, e⟩ := d.msix_host v
  rw [e]
@[simp] theorem Dev.msix_adc (d : Dev) (v : Nat) : (d.msix v).adc = d.adc := by
  obtain ⟨h, e⟩ := d.msix_host v
  rw [e]
@[simp] theorem Dev.msix_traj (d : Dev) (v : Nat) : (d.msix v).traj = d.traj := by
  obtain ⟨h, e⟩ := d.msix_host v
  rw [e]
@[simp] theorem Dev.msix_loop (d : Dev) (v : Nat) : (d.msix v).loop = d.loop := by
  obtain ⟨h, e⟩ := d.msix_host v
  rw [e]
@[simp] theorem Dev.msix_arb (d : Dev) (v : Nat) : (d.msix v).arb = d.arb := by
  obtain ⟨h, e⟩ := d.msix_host v
  rw [e]
@[simp] theorem Dev.msix_solv (d : Dev) (v : Nat) : (d.msix v).solv = d.solv := by
  obtain ⟨h, e⟩ := d.msix_host v
  rw [e]
@[simp] theorem Dev.msix_sched (d : Dev) (v : Nat) : (d.msix v).sched = d.sched := by
  obtain ⟨h, e⟩ := d.msix_host v
  rw [e]
@[simp] theorem Dev.msix_safe (d : Dev) (v : Nat) : (d.msix v).safe = d.safe := by
  obtain ⟨h, e⟩ := d.msix_host v
  rw [e]
@[simp] theorem Dev.msix_red (d : Dev) (v : Nat) : (d.msix v).red = d.red := by
  obtain ⟨h, e⟩ := d.msix_host v
  rw [e]
@[simp] theorem Dev.msix_pwr (d : Dev) (v : Nat) : (d.msix v).pwr = d.pwr := by
  obtain ⟨h, e⟩ := d.msix_host v
  rw [e]
@[simp] theorem Dev.msix_boot (d : Dev) (v : Nat) : (d.msix v).boot = d.boot := by
  obtain ⟨h, e⟩ := d.msix_host v
  rw [e]
@[simp] theorem Dev.msix_upd (d : Dev) (v : Nat) : (d.msix v).upd = d.upd := by
  obtain ⟨h, e⟩ := d.msix_host v
  rw [e]
@[simp] theorem Dev.msix_tap (d : Dev) (v : Nat) : (d.msix v).tap = d.tap := by
  obtain ⟨h, e⟩ := d.msix_host v
  rw [e]
@[simp] theorem Dev.msix_eccBad (d : Dev) (v : Nat) : (d.msix v).eccBad = d.eccBad := by
  obtain ⟨h, e⟩ := d.msix_host v
  rw [e]
@[simp] theorem Dev.msix_io (d : Dev) (v : Nat) : (d.msix v).io = d.io := by
  obtain ⟨h, e⟩ := d.msix_host v
  rw [e]
@[simp] theorem Dev.msix_eccCe (d : Dev) (v : Nat) : (d.msix v).eccCe = d.eccCe := by
  obtain ⟨h, e⟩ := d.msix_host v
  rw [e]
@[simp] theorem Dev.msix_faults (d : Dev) (v : Nat) : (d.msix v).faults = d.faults := by
  obtain ⟨h, e⟩ := d.msix_host v
  rw [e]
@[simp] theorem Dev.msix_free (d : Dev) (v : Nat) : (d.msix v).free = d.free := by
  obtain ⟨h, e⟩ := d.msix_host v
  rw [e]

@[simp] theorem Dev.msix_rd (d : Dev) (v o : Nat) : (d.msix v).rd o = d.rd o := by simp only [Dev.rd, Dev.msix_regs]

/-- An event sets its bit and counts SEQ in its own register, and may send a message. -/
theorem Dev.raise_cases (d : Dev) (f : Fld) :
    d.raise f = (d.put f 1).cntWrap ⟨f.reg, 31, 24⟩ ∨
      ∃ v, d.raise f = ((d.put f 1).cntWrap ⟨f.reg, 31, 24⟩).msix v := by
  simp only [Dev.raise]
  cases ((d.put f 1).cntWrap ⟨f.reg, 31, 24⟩).vectorOf f.reg with
  | none => exact Or.inl rfl
  | some v => exact Or.inr ⟨v, rfl⟩

theorem Dev.raise_rd (d : Dev) (f : Fld) (o : Nat) :
    (d.raise f).rd o = ((d.put f 1).cntWrap ⟨f.reg, 31, 24⟩).rd o := by
  rcases d.raise_cases f with e | ⟨v, e⟩
  · rw [e]
  · rw [e, Dev.msix_rd]

theorem Dev.raise_rd_ne (d : Dev) {f : Fld} {o : Nat} (h : o ≠ f.reg) : (d.raise f).rd o = d.rd o := by
  rw [Dev.raise_rd, Dev.cntWrap, Dev.rd_put_ne _ _ (by simpa using h), Dev.rd_put_ne _ _ h]

theorem Dev.raise_get_ne (d : Dev) {f g : Fld} (h : g.reg ≠ f.reg) : (d.raise f).get g = d.get g := by
  simp [Dev.get, Dev.raise_rd_ne d h]

/-- An event register's own fields lie below SEQ. -/
def Fld.evt (f : Fld) : Prop := f.hi = f.lo ∧ f.lo < 24

theorem Dev.raise_flag (d : Dev) (f : Fld) (h : f.evt) : (d.raise f).flag f = true := by
  have a := h.1
  have b := h.2
  unfold Dev.flag Dev.get
  rw [Dev.raise_rd, ← Dev.get, Dev.cntWrap,
    Dev.get_put_apart _ ⟨f.reg, 31, 24⟩ f _ ⟨by simp, by simp⟩ rfl (Or.inr (by simp only; omega)),
    Dev.get_put_same d f 1 ⟨by omega, by omega⟩, a, show f.lo + 1 - f.lo = 1 by omega]
  rfl

/-- SEQ of the register counts one. -/
theorem Dev.raise_seq (d : Dev) (f : Fld) (h : f.evt) :
    (d.raise f).get ⟨f.reg, 31, 24⟩ = (d.get ⟨f.reg, 31, 24⟩ + 1) % 256 := by
  have a := h.1
  have b := h.2
  rw [Dev.get, Dev.raise_rd, Dev.cntWrap]
  show ((d.put f 1).put ⟨f.reg, 31, 24⟩ _).get ⟨f.reg, 31, 24⟩ = _
  rw [Dev.get_put_same _ _ _ ⟨by simp, by simp⟩,
    Dev.get_put_apart d f ⟨f.reg, 31, 24⟩ 1 ⟨by omega, by omega⟩ rfl (Or.inl (by simp only; omega))]
  rfl

/-- The other bits of the register stay. -/
theorem Dev.raise_get_apart (d : Dev) (f g : Fld) (h : f.evt) (r : g.reg = f.reg) (a : f.hi < g.lo ∨ g.hi < f.lo) (b : g.hi < 24) :
    (d.raise f).get g = d.get g := by
  have h1 := h.1
  have h2 := h.2
  rw [Dev.get, Dev.raise_rd, ← Dev.get, Dev.cntWrap,
    Dev.get_put_apart _ ⟨f.reg, 31, 24⟩ g _ ⟨by simp, by simp⟩ r (Or.inr b), Dev.get_put_apart d f g 1 ⟨by omega, by omega⟩ r a]

/-- The host's part but for MSI-X stays, and every other part of the device. -/
@[simp] theorem Dev.raise_time (d : Dev) (g : Fld) : (d.raise g).time = d.time := by
  rcases d.raise_cases g with e | ⟨v, e⟩ <;> simp only [e, Dev.msix_time, Dev.cntWrap_time, Dev.put_time]
@[simp] theorem Dev.raise_link (d : Dev) (g : Fld) : (d.raise g).link = d.link := by
  rcases d.raise_cases g with e | ⟨v, e⟩ <;> simp only [e, Dev.msix_link, Dev.cntWrap_link, Dev.put_link]
@[simp] theorem Dev.raise_fb (d : Dev) (g : Fld) : (d.raise g).fb = d.fb := by
  rcases d.raise_cases g with e | ⟨v, e⟩ <;> simp only [e, Dev.msix_fb, Dev.cntWrap_fb, Dev.put_fb]
@[simp] theorem Dev.raise_adc (d : Dev) (g : Fld) : (d.raise g).adc = d.adc := by
  rcases d.raise_cases g with e | ⟨v, e⟩ <;> simp only [e, Dev.msix_adc, Dev.cntWrap_adc, Dev.put_adc]
@[simp] theorem Dev.raise_traj (d : Dev) (g : Fld) : (d.raise g).traj = d.traj := by
  rcases d.raise_cases g with e | ⟨v, e⟩ <;> simp only [e, Dev.msix_traj, Dev.cntWrap_traj, Dev.put_traj]
@[simp] theorem Dev.raise_loop (d : Dev) (g : Fld) : (d.raise g).loop = d.loop := by
  rcases d.raise_cases g with e | ⟨v, e⟩ <;> simp only [e, Dev.msix_loop, Dev.cntWrap_loop, Dev.put_loop]
@[simp] theorem Dev.raise_arb (d : Dev) (g : Fld) : (d.raise g).arb = d.arb := by
  rcases d.raise_cases g with e | ⟨v, e⟩ <;> simp only [e, Dev.msix_arb, Dev.cntWrap_arb, Dev.put_arb]
@[simp] theorem Dev.raise_solv (d : Dev) (g : Fld) : (d.raise g).solv = d.solv := by
  rcases d.raise_cases g with e | ⟨v, e⟩ <;> simp only [e, Dev.msix_solv, Dev.cntWrap_solv, Dev.put_solv]
@[simp] theorem Dev.raise_sched (d : Dev) (g : Fld) : (d.raise g).sched = d.sched := by
  rcases d.raise_cases g with e | ⟨v, e⟩ <;> simp only [e, Dev.msix_sched, Dev.cntWrap_sched, Dev.put_sched]
@[simp] theorem Dev.raise_safe (d : Dev) (g : Fld) : (d.raise g).safe = d.safe := by
  rcases d.raise_cases g with e | ⟨v, e⟩ <;> simp only [e, Dev.msix_safe, Dev.cntWrap_safe, Dev.put_safe]
@[simp] theorem Dev.raise_red (d : Dev) (g : Fld) : (d.raise g).red = d.red := by
  rcases d.raise_cases g with e | ⟨v, e⟩ <;> simp only [e, Dev.msix_red, Dev.cntWrap_red, Dev.put_red]
@[simp] theorem Dev.raise_pwr (d : Dev) (g : Fld) : (d.raise g).pwr = d.pwr := by
  rcases d.raise_cases g with e | ⟨v, e⟩ <;> simp only [e, Dev.msix_pwr, Dev.cntWrap_pwr, Dev.put_pwr]
@[simp] theorem Dev.raise_boot (d : Dev) (g : Fld) : (d.raise g).boot = d.boot := by
  rcases d.raise_cases g with e | ⟨v, e⟩ <;> simp only [e, Dev.msix_boot, Dev.cntWrap_boot, Dev.put_boot]
@[simp] theorem Dev.raise_upd (d : Dev) (g : Fld) : (d.raise g).upd = d.upd := by
  rcases d.raise_cases g with e | ⟨v, e⟩ <;> simp only [e, Dev.msix_upd, Dev.cntWrap_upd, Dev.put_upd]
@[simp] theorem Dev.raise_tap (d : Dev) (g : Fld) : (d.raise g).tap = d.tap := by
  rcases d.raise_cases g with e | ⟨v, e⟩ <;> simp only [e, Dev.msix_tap, Dev.cntWrap_tap, Dev.put_tap]
@[simp] theorem Dev.raise_eccBad (d : Dev) (g : Fld) : (d.raise g).eccBad = d.eccBad := by
  rcases d.raise_cases g with e | ⟨v, e⟩ <;> simp only [e, Dev.msix_eccBad, Dev.cntWrap_eccBad, Dev.put_eccBad]
@[simp] theorem Dev.raise_io (d : Dev) (g : Fld) : (d.raise g).io = d.io := by
  rcases d.raise_cases g with e | ⟨v, e⟩ <;> simp only [e, Dev.msix_io, Dev.cntWrap_io, Dev.put_io]
@[simp] theorem Dev.raise_eccCe (d : Dev) (g : Fld) : (d.raise g).eccCe = d.eccCe := by
  rcases d.raise_cases g with e | ⟨v, e⟩ <;> simp only [e, Dev.msix_eccCe, Dev.cntWrap_eccCe, Dev.put_eccCe]
@[simp] theorem Dev.raise_faults (d : Dev) (g : Fld) : (d.raise g).faults = d.faults := by
  rcases d.raise_cases g with e | ⟨v, e⟩ <;> simp only [e, Dev.msix_faults, Dev.cntWrap_faults, Dev.put_faults]
@[simp] theorem Dev.raise_free (d : Dev) (g : Fld) : (d.raise g).free = d.free := by
  rcases d.raise_cases g with e | ⟨v, e⟩ <;> simp only [e, Dev.msix_free, Dev.cntWrap_free, Dev.put_free]

theorem Dev.record_rd_ne (d : Dev) (k : FaultKind) (idx cls axes : Nat) (c : Bool) (o : Option Fld) {a : Nat}
    (h : a ≠ R.SYS_FAULT_EVT) : (d.record k idx cls axes c o).rd a = d.rd a := by
  have e : (clsEvt cls).reg = R.SYS_FAULT_EVT := by unfold clsEvt; split <;> rfl
  unfold Dev.record
  rw [Dev.raise_rd_ne _ (by rw [e]; exact h)]
  rfl

theorem Dev.event0_rd_ne (d : Dev) {f : Fld} {a : Nat} (h : a ≠ f.reg) (k : a ≠ R.SYS_FAULT_EVT) :
    (d.event0 f).rd a = d.rd a := by
  rw [Dev.event0, Dev.record_rd_ne _ _ _ _ _ _ _ k, Dev.raise_rd_ne d h]

@[simp] theorem Dev.record_time (d : Dev) (k : FaultKind) (i c a : Nat) (b : Bool) (o : Option Fld) : (d.record k i c a b o).time = d.time := by simp [Dev.record]
@[simp] theorem Dev.event0_time (d : Dev) (g : Fld) : (d.event0 g).time = d.time := by simp [Dev.event0]
@[simp] theorem Dev.record_link (d : Dev) (k : FaultKind) (i c a : Nat) (b : Bool) (o : Option Fld) : (d.record k i c a b o).link = d.link := by simp [Dev.record]
@[simp] theorem Dev.event0_link (d : Dev) (g : Fld) : (d.event0 g).link = d.link := by simp [Dev.event0]
@[simp] theorem Dev.record_fb (d : Dev) (k : FaultKind) (i c a : Nat) (b : Bool) (o : Option Fld) : (d.record k i c a b o).fb = d.fb := by simp [Dev.record]
@[simp] theorem Dev.event0_fb (d : Dev) (g : Fld) : (d.event0 g).fb = d.fb := by simp [Dev.event0]
@[simp] theorem Dev.record_adc (d : Dev) (k : FaultKind) (i c a : Nat) (b : Bool) (o : Option Fld) : (d.record k i c a b o).adc = d.adc := by simp [Dev.record]
@[simp] theorem Dev.event0_adc (d : Dev) (g : Fld) : (d.event0 g).adc = d.adc := by simp [Dev.event0]
@[simp] theorem Dev.record_traj (d : Dev) (k : FaultKind) (i c a : Nat) (b : Bool) (o : Option Fld) : (d.record k i c a b o).traj = d.traj := by simp [Dev.record]
@[simp] theorem Dev.event0_traj (d : Dev) (g : Fld) : (d.event0 g).traj = d.traj := by simp [Dev.event0]
@[simp] theorem Dev.record_loop (d : Dev) (k : FaultKind) (i c a : Nat) (b : Bool) (o : Option Fld) : (d.record k i c a b o).loop = d.loop := by simp [Dev.record]
@[simp] theorem Dev.event0_loop (d : Dev) (g : Fld) : (d.event0 g).loop = d.loop := by simp [Dev.event0]
@[simp] theorem Dev.record_arb (d : Dev) (k : FaultKind) (i c a : Nat) (b : Bool) (o : Option Fld) : (d.record k i c a b o).arb = d.arb := by simp [Dev.record]
@[simp] theorem Dev.event0_arb (d : Dev) (g : Fld) : (d.event0 g).arb = d.arb := by simp [Dev.event0]
@[simp] theorem Dev.record_solv (d : Dev) (k : FaultKind) (i c a : Nat) (b : Bool) (o : Option Fld) : (d.record k i c a b o).solv = d.solv := by simp [Dev.record]
@[simp] theorem Dev.event0_solv (d : Dev) (g : Fld) : (d.event0 g).solv = d.solv := by simp [Dev.event0]
@[simp] theorem Dev.record_sched (d : Dev) (k : FaultKind) (i c a : Nat) (b : Bool) (o : Option Fld) : (d.record k i c a b o).sched = d.sched := by simp [Dev.record]
@[simp] theorem Dev.event0_sched (d : Dev) (g : Fld) : (d.event0 g).sched = d.sched := by simp [Dev.event0]
@[simp] theorem Dev.record_safe (d : Dev) (k : FaultKind) (i c a : Nat) (b : Bool) (o : Option Fld) : (d.record k i c a b o).safe = d.safe := by simp [Dev.record]
@[simp] theorem Dev.event0_safe (d : Dev) (g : Fld) : (d.event0 g).safe = d.safe := by simp [Dev.event0]
@[simp] theorem Dev.record_red (d : Dev) (k : FaultKind) (i c a : Nat) (b : Bool) (o : Option Fld) : (d.record k i c a b o).red = d.red := by simp [Dev.record]
@[simp] theorem Dev.event0_red (d : Dev) (g : Fld) : (d.event0 g).red = d.red := by simp [Dev.event0]
@[simp] theorem Dev.record_pwr (d : Dev) (k : FaultKind) (i c a : Nat) (b : Bool) (o : Option Fld) : (d.record k i c a b o).pwr = d.pwr := by simp [Dev.record]
@[simp] theorem Dev.event0_pwr (d : Dev) (g : Fld) : (d.event0 g).pwr = d.pwr := by simp [Dev.event0]
@[simp] theorem Dev.record_boot (d : Dev) (k : FaultKind) (i c a : Nat) (b : Bool) (o : Option Fld) : (d.record k i c a b o).boot = d.boot := by simp [Dev.record]
@[simp] theorem Dev.event0_boot (d : Dev) (g : Fld) : (d.event0 g).boot = d.boot := by simp [Dev.event0]
@[simp] theorem Dev.record_upd (d : Dev) (k : FaultKind) (i c a : Nat) (b : Bool) (o : Option Fld) : (d.record k i c a b o).upd = d.upd := by simp [Dev.record]
@[simp] theorem Dev.event0_upd (d : Dev) (g : Fld) : (d.event0 g).upd = d.upd := by simp [Dev.event0]
@[simp] theorem Dev.record_tap (d : Dev) (k : FaultKind) (i c a : Nat) (b : Bool) (o : Option Fld) : (d.record k i c a b o).tap = d.tap := by simp [Dev.record]
@[simp] theorem Dev.event0_tap (d : Dev) (g : Fld) : (d.event0 g).tap = d.tap := by simp [Dev.event0]
@[simp] theorem Dev.record_eccBad (d : Dev) (k : FaultKind) (i c a : Nat) (b : Bool) (o : Option Fld) : (d.record k i c a b o).eccBad = d.eccBad := by simp [Dev.record]
@[simp] theorem Dev.record_io (d : Dev) (k : FaultKind) (i c a : Nat) (b : Bool) (o : Option Fld) : (d.record k i c a b o).io = d.io := by simp [Dev.record]
@[simp] theorem Dev.record_eccCe (d : Dev) (k : FaultKind) (i c a : Nat) (b : Bool) (o : Option Fld) : (d.record k i c a b o).eccCe = d.eccCe := by simp [Dev.record]
@[simp] theorem Dev.event0_eccBad (d : Dev) (g : Fld) : (d.event0 g).eccBad = d.eccBad := by simp [Dev.event0]
@[simp] theorem Dev.event0_io (d : Dev) (g : Fld) : (d.event0 g).io = d.io := by simp [Dev.event0]
@[simp] theorem Dev.event0_eccCe (d : Dev) (g : Fld) : (d.event0 g).eccCe = d.eccCe := by simp [Dev.event0]
@[simp] theorem Dev.record_free (d : Dev) (k : FaultKind) (i c a : Nat) (b : Bool) (o : Option Fld) : (d.record k i c a b o).free = d.free := by simp [Dev.record]
@[simp] theorem Dev.event0_free (d : Dev) (g : Fld) : (d.event0 g).free = d.free := by simp [Dev.event0]

end Sys2Proof.Machine
end

