-- ==== Sys2Proof/Laws/Settle.lean ====
section
/-! SUPPORT. Laws of faults and of settling: what raising, reacting and settling leave alone. -/
namespace Sys2Proof.Machine

/-- The parts that no fault reaction touches. -/
def Dev.rest (d : Dev) : TimeSt × LinkSt × FbSt × AdcSt × ArbSt × SolvSt × SchedSt × SafeSt × RedSt × PwrSt × BootSt × UpdSt
    × IoSt × TapSt × List Nat × Nat × Nat :=
  (d.time, d.link, d.fb, d.adc, d.arb, d.solv, d.sched, d.safe, d.red, d.pwr, d.boot, d.upd, d.io, d.tap, d.eccBad, d.eccCe,
    d.free)

/-- What every step of a fold keeps, the fold keeps. -/
theorem foldl_keep {α β : Type} (g : Dev → β) (f : Dev → α → Dev) (h : ∀ d x, g (f d x) = g d) (l : List α) :
    ∀ d, g (l.foldl f d) = g d := by
  induction l with
  | nil => intro d; rfl
  | cons x t ih => intro d; rw [List.foldl_cons, ih, h]

/-- The same for elements of the list alone. -/
theorem foldl_keep_mem {α β : Type} (g : Dev → β) (f : Dev → α → Dev) (l : List α) :
    (∀ x ∈ l, ∀ d, g (f d x) = g d) → ∀ d, g (l.foldl f d) = g d := by
  induction l with
  | nil => intro _ d; rfl
  | cons x t ih =>
    intro h d
    rw [List.foldl_cons, ih (fun y hy => h y (List.mem_cons_of_mem _ hy)), h x List.mem_cons_self]

@[simp] theorem Dev.rest_up (d : Dev) (f : Fld) (b : Bool) : (d.up f b).rest = d.rest := by simp only [Dev.rest, Dev.up_time,
  Dev.up_link, Dev.up_fb, Dev.up_adc, Dev.up_arb, Dev.up_solv, Dev.up_sched, Dev.up_safe, Dev.up_red, Dev.up_pwr, Dev.up_boot,
  Dev.up_upd, Dev.up_tap, Dev.up_io, Dev.up_eccBad, Dev.up_eccCe, Dev.up_free]

@[simp] theorem Dev.rest_wr (d : Dev) (o : Nat) (w : Word) : (d.wr o w).rest = d.rest := by simp only [Dev.rest, Dev.wr_time,
  Dev.wr_link, Dev.wr_fb, Dev.wr_adc, Dev.wr_arb, Dev.wr_solv, Dev.wr_sched, Dev.wr_safe, Dev.wr_red, Dev.wr_pwr, Dev.wr_boot,
  Dev.wr_upd, Dev.wr_tap, Dev.wr_io, Dev.wr_eccBad, Dev.wr_eccCe, Dev.wr_free]

@[simp] theorem Dev.rest_raise (d : Dev) (f : Fld) : (d.raise f).rest = d.rest := by simp only [Dev.rest, Dev.raise_time,
  Dev.raise_link, Dev.raise_fb, Dev.raise_adc, Dev.raise_arb, Dev.raise_solv, Dev.raise_sched, Dev.raise_safe, Dev.raise_red,
  Dev.raise_pwr, Dev.raise_boot, Dev.raise_upd, Dev.raise_tap, Dev.raise_io, Dev.raise_eccBad, Dev.raise_eccCe, Dev.raise_free]

@[simp] theorem Dev.rest_record (d : Dev) (k : FaultKind) (i c a : Nat) (b : Bool) (o : Option Fld) :
    (d.record k i c a b o).rest = d.rest := by simp only [Dev.rest, Dev.record_time, Dev.record_link, Dev.record_fb,
  Dev.record_adc, Dev.record_arb, Dev.record_solv, Dev.record_sched, Dev.record_safe, Dev.record_red, Dev.record_pwr,
  Dev.record_boot, Dev.record_upd, Dev.record_tap, Dev.record_io, Dev.record_eccBad, Dev.record_eccCe, Dev.record_free]

@[simp] theorem Dev.rest_event0 (d : Dev) (f : Fld) : (d.event0 f).rest = d.rest := by simp only [Dev.event0, Dev.rest_record,
  Dev.rest_raise]

@[simp] theorem Dev.rest_loop (d : Dev) (l : LoopSt) : ({ d with loop := l } : Dev).rest = d.rest := (rfl)
@[simp] theorem Dev.rest_traj (d : Dev) (l : TrajSt) : ({ d with traj := l } : Dev).rest = d.rest := (rfl)
@[simp] theorem Dev.rest_host (d : Dev) (l : HostSt) : ({ d with host := l } : Dev).rest = d.rest := (rfl)
@[simp] theorem Dev.rest_faults (d : Dev) (l : List FaultRec) : ({ d with faults := l } : Dev).rest = d.rest := (rfl)
@[simp] theorem Dev.rd_loop (d : Dev) (l : LoopSt) (o : Nat) : ({ d with loop := l } : Dev).rd o = d.rd o := (rfl)
@[simp] theorem Dev.rd_traj (d : Dev) (l : TrajSt) (o : Nat) : ({ d with traj := l } : Dev).rd o = d.rd o := (rfl)
@[simp] theorem Dev.rd_host (d : Dev) (l : HostSt) (o : Nat) : ({ d with host := l } : Dev).rd o = d.rd o := (rfl)
@[simp] theorem Dev.rd_faults (d : Dev) (l : List FaultRec) (o : Nat) : ({ d with faults := l } : Dev).rd o = d.rd o := (rfl)

theorem Dev.rest_energOff (d : Dev) (n : Nat) : (d.energOff n).rest = d.rest := by
  unfold Dev.energOff
  split <;> simp only [Dev.rest_event0, Dev.rest_up]

theorem Dev.rest_deenergise (d : Dev) (n : Nat) : (d.deenergise n).rest = d.rest := by
  simp only [Dev.deenergise]
  split <;> simp only [Dev.rest_energOff, Dev.rest_loop, Dev.rest_up]

theorem Dev.rest_react (d : Dev) (c a : Nat) : (d.react c a).rest = d.rest := by
  unfold Dev.react
  split
  · rfl
  · refine foldl_keep Dev.rest _ (fun d n => ?_) _ d
    simp only
    split <;> simp only [Dev.rest_deenergise, Dev.rest_traj]

theorem Dev.rest_fault (d : Dev) (k : FaultKind) (i c a : Nat) (b : Bool) (o : Option Fld) :
    (d.fault k i c a b o).rest = d.rest := by
  simp only [Dev.fault, Dev.rest_react, Dev.rest_record]

theorem Dev.rest_extFault (d : Dev) : d.extFault.rest = d.rest := by
  simp only [Dev.extFault]
  split
  · rfl
  · split
    · split <;> simp only [Dev.rest_fault, Dev.rest_up, Dev.rest_raise, Dev.rest_host]
    · exact rfl

/-- Settling leaves every part alone but registers, host, axes and faults. -/
theorem Dev.rest_settle (d : Dev) : d.settle.rest = d.rest := by
  simp only [Dev.settle, Dev.levels, Dev.rest_wr, Dev.rest_extFault, Dev.prune, Dev.rest_faults]

/-! Registers. -/

theorem Dev.energOff_rd (d : Dev) {n o : Nat} (hn : n < 128) (h : ¬settles o) : (d.energOff n).rd o = d.rd o := by
  have h1 : o ≠ R.SYS_FAULT_EVT := fun e => h (Or.inr (Or.inl e))
  have h2 : o ≠ R.LOOP_STS n := fun e => h (Or.inr (Or.inr ⟨n, hn, Or.inr (Or.inl e)⟩))
  have h3 : o ≠ R.LOOP_EVT n := fun e => h (Or.inr (Or.inr ⟨n, hn, Or.inr (Or.inr e)⟩))
  unfold Dev.energOff
  split
  · rw [Dev.event0_rd_ne _ h3 h1, Dev.up, Dev.rd_put_ne _ _ h2, Dev.up, Dev.rd_put_ne _ _ h2]
  · rfl

theorem Dev.deenergise_rd (d : Dev) {n o : Nat} (hn : n < 128) (h : ¬settles o) : (d.deenergise n).rd o = d.rd o := by
  have h2 : o ≠ R.LOOP_CTL n := fun e => h (Or.inr (Or.inr ⟨n, hn, Or.inl e⟩))
  simp only [Dev.deenergise]
  split
  · rw [Dev.energOff_rd _ hn h, Dev.rd_loop, Dev.up, Dev.rd_put_ne _ _ h2]
  · rw [Dev.rd_loop, Dev.up, Dev.rd_put_ne _ _ h2]

theorem onesBelow_lt {w v n : Nat} (h : n ∈ onesBelow w v) : n < w := by
  unfold onesBelow at h
  exact List.mem_range.mp (List.mem_filter.mp h).1

theorem Dev.react_rd (d : Dev) (c a : Nat) {o : Nat} (h : ¬settles o) : (d.react c a).rd o = d.rd o := by
  unfold Dev.react
  split
  · rfl
  · refine foldl_keep_mem (fun d => d.rd o) _ _ (fun n hn d => ?_) d
    simp only
    split
    · rw [Dev.deenergise_rd _ (onesBelow_lt hn) h, Dev.rd_traj]
    · rw [Dev.rd_traj]

theorem Dev.fault_rd (d : Dev) (k : FaultKind) (i c a : Nat) (b : Bool) (w : Option Fld) {o : Nat} (h : ¬settles o) :
    (d.fault k i c a b w).rd o = d.rd o := by
  have h1 : o ≠ R.SYS_FAULT_EVT := fun e => h (Or.inr (Or.inl e))
  rw [Dev.fault, Dev.react_rd _ _ _ h, Dev.record_rd_ne _ _ _ _ _ _ _ h1]

theorem Dev.prune_rd (d : Dev) (o : Nat) : d.prune.rd o = d.rd o := by rw [Dev.prune, Dev.rd_faults]

theorem Dev.extFault_rd (d : Dev) {o : Nat} (h : ¬settles o) : d.extFault.rd o = d.rd o := by
  have h1 : o ≠ R.SYS_FAULT_EVT := fun e => h (Or.inr (Or.inl e))
  simp only [Dev.extFault]
  split
  · rfl
  · split
    · split
      · rw [Dev.fault_rd _ _ _ _ _ _ _ h, Dev.up, Dev.rd_put_ne _ _ h1, Dev.rd_host]
      · rw [Dev.raise_rd_ne _ h1, Dev.rd_host]
    · rw [Dev.prune_rd, Dev.causeOff, Dev.rd_faults, Dev.rd_host]

/-- Settling leaves every register alone but those it is for. -/
theorem Dev.settle_rd (d : Dev) {o : Nat} (h : ¬settles o) : d.settle.rd o = d.rd o := by
  have h1 : o ≠ R.SYS_FAULT_LVL := fun e => h (Or.inl e)
  simp only [Dev.settle, Dev.levels]
  rw [Dev.rd_wr_ne _ _ h1, Dev.extFault_rd _ h, Dev.extFault_rd _ h, Dev.extFault_rd _ h, Dev.prune_rd]

theorem Dev.settle_get (d : Dev) {f : Fld} (h : ¬settles f.reg) : d.settle.get f = d.get f := by
  simp only [Dev.get, Dev.settle_rd d h]

/-! A register written (03 R86). -/

/-- Making a register's parity right touches the host's part and the causes of faults alone. -/
theorem Dev.parityWritten_eq (d : Dev) (o : Nat) : ∃ h l, d.parityWritten o = { d with host := h, faults := l } := by
  unfold Dev.parityWritten
  split
  · exact ⟨_, _, rfl⟩
  · exact ⟨_, _, rfl⟩

@[simp] theorem Dev.parityWritten_regs (d : Dev) (o : Nat) : (d.parityWritten o).regs = d.regs := by
  obtain ⟨h, l, e⟩ := d.parityWritten_eq o
  rw [e]

@[simp] theorem Dev.rest_parityWritten (d : Dev) (o : Nat) : (d.parityWritten o).rest = d.rest := by
  obtain ⟨h, l, e⟩ := d.parityWritten_eq o
  rw [e]
  rfl

/-- A register whose parity is right: nothing to do. -/
theorem Dev.parityWritten_good (d : Dev) (o : Nat) (h : o ∉ d.host.parityBad) : d.parityWritten o = d := by
  unfold Dev.parityWritten
  rw [if_neg]
  simpa using h

@[simp] theorem State.settle_mem (s : State) : s.settle.mem = s.mem := (rfl)
@[simp] theorem State.settle_flash (s : State) : s.settle.flash = s.flash := (rfl)
@[simp] theorem State.settle_otp (s : State) : s.settle.otp = s.otp := (rfl)
@[simp] theorem State.settle_pending (s : State) : s.settle.pending = s.pending := (rfl)
@[simp] theorem State.settle_dev (s : State) : s.settle.dev = s.dev.settle := (rfl)

theorem onDev_eq (f : Dev → Dev) (s : State) : onDev f s = .next ({ s with dev := f s.dev } : State).settle := (rfl)
theorem done_eq (s : State) : done s = .next s.settle := (rfl)

end Sys2Proof.Machine
end

