-- ==== Sys2Proof/Laws/Dispatch.lean ====
section
/-! SUPPORT. The dispatch, one equation for each constructor: the meaning that exec calls. -/
namespace Sys2Proof.Machine

theorem exec_vbusRise (s : State) : exec (.vbusRise) s = execVbusRise s := (rfl)
theorem exec_resetNRise (s : State) : exec (.resetNRise) s = execResetNRise s := (rfl)
theorem exec_powerLoss (reset store : Bool) (s : State) : exec (.powerLoss reset store) s = execPowerLoss reset store s := (rfl)
theorem exec_pgoodRise (v : BankVolts) (s : State) : exec (.pgoodRise v) s = execPgoodRise v s := (rfl)
theorem exec_railsTimeout (s : State) : exec (.railsTimeout) s = execRailsTimeout s := (rfl)
theorem exec_pllLock (s : State) : exec (.pllLock) s = execPllLock s := (rfl)
theorem exec_pllLockTimeout (s : State) : exec (.pllLockTimeout) s = execPllLockTimeout s := (rfl)
theorem exec_bistDone (ok : Bool) (s : State) : exec (.bistDone ok) s = execBistDone ok s := (rfl)
theorem exec_imageLoad (mode : FlashMode) (fa fb : Bool) (ecc : Option (Fin 64)) (pm : PmbRead) (s : State) : exec (.imageLoad mode fa fb ecc pm) s = execImageLoad mode fa fb ecc pm s := (rfl)
theorem exec_islandSelftestDone (ok : Bool) (s : State) : exec (.islandSelftestDone ok) s = execIslandSelftestDone ok s := (rfl)
theorem exec_enterRun (ms : Nat) (s : State) : exec (.enterRun ms) s = execEnterRun ms s := (rfl)
theorem exec_cycStart (encLow : BitVec 16) (s : State) : exec (.cycStart encLow) s = execCycStart encLow s := (rfl)
theorem exec_halfTick (s : State) : exec (.halfTick) s = execHalfTick s := (rfl)
theorem exec_currentStage (s : State) : exec (.currentStage) s = execCurrentStage s := (rfl)
theorem exec_vbusLow (s : State) : exec (.vbusLow) s = execVbusLow s := (rfl)
theorem exec_inCut (s : State) : exec (.inCut) s = execInCut s := (rfl)
theorem exec_loopOverrun (current : Bool) (s : State) : exec (.loopOverrun current) s = execLoopOverrun current s := (rfl)
theorem exec_arbTick (s : State) : exec (.arbTick) s = execArbTick s := (rfl)
theorem exec_planExhausted (g : Fin 16) (s : State) : exec (.planExhausted g) s = execPlanExhausted g s := (rfl)
theorem exec_trajEnd (s : State) : exec (.trajEnd) s = execTrajEnd s := (rfl)
theorem exec_trajLate (g : Fin 16) (s : State) : exec (.trajLate g) s = execTrajLate g s := (rfl)
theorem exec_snap (s : State) : exec (.snap) s = execSnap s := (rfl)
theorem exec_usTick (s : State) : exec (.usTick) s = execUsTick s := (rfl)
theorem exec_pllLoss (lock : Bool) (s : State) : exec (.pllLoss lock) s = execPllLoss lock s := (rfl)
theorem exec_sramScrubError (a : BitVec 25) (correctable : Bool) (s : State) : exec (.sramScrubError a correctable) s = execSramScrubError a correctable s := (rfl)
theorem exec_extFault (s : State) : exec (.extFault) s = execExtFault s := (rfl)
theorem exec_overtemp (s : State) : exec (.overtemp) s = execOvertemp s := (rfl)
theorem exec_regWrite (p : Port) (off : BitVec 26) (be : BitVec 4) (w : Word) (s : State) : exec (.regWrite p off be w) s = execRegWrite p off be w s := (rfl)
theorem exec_bar2Write (off : BitVec 25) (be : BitVec 4) (w : Word) (s : State) : exec (.bar2Write off be w) s = execBar2Write off be w s := (rfl)
theorem exec_eventWriteBack (p : Port) (off : BitVec 26) (v : BitVec 8) (s : State) : exec (.eventWriteBack p off v) s = execEventWriteBack p off v s := (rfl)
theorem exec_counterLoad (p : Port) (s : State) : exec (.counterLoad p) s = execCounterLoad p s := (rfl)
theorem exec_guardValueWrite (p : Port) (off : BitVec 26) (w : Word) (s : State) : exec (.guardValueWrite p off w) s = execGuardValueWrite p off w s := (rfl)
theorem exec_guardTimeout (p : Port) (s : State) : exec (.guardTimeout p) s = execGuardTimeout p s := (rfl)
theorem exec_csrParity (off : BitVec 26) (s : State) : exec (.csrParity off) s = execCsrParity off s := (rfl)
theorem exec_clockRegate (blk : Fin 16) (s : State) : exec (.clockRegate blk) s = execClockRegate blk s := (rfl)
theorem exec_pcieReset (kind : PcieReset) (s : State) : exec (.pcieReset kind) s = execPcieReset kind s := (rfl)
theorem exec_msixUnmask (v : Fin 64) (s : State) : exec (.msixUnmask v) s = execMsixUnmask v s := (rfl)
theorem exec_mspiWriteFrame (bytes : List Byte) (s : State) : exec (.mspiWriteFrame bytes) s = execMspiWriteFrame bytes s := (rfl)
theorem exec_mspiReadFrame (bytes : List Byte) (s : State) : exec (.mspiReadFrame bytes) s = execMspiReadFrame bytes s := (rfl)
theorem exec_dmaStart (n : Fin 8) (s : State) : exec (.dmaStart n) s = execDmaStart n s := (rfl)
theorem exec_dmaAbort (n : Fin 8) (s : State) : exec (.dmaAbort n) s = execDmaAbort n s := (rfl)
theorem exec_dmaEnd (n : Fin 8) (e : DmaEnd) (data : List Word) (s : State) : exec (.dmaEnd n e data) s = execDmaEnd n e data s := (rfl)
theorem exec_dmaHostTimeout (n : Fin 8) (data : List Word) (s : State) : exec (.dmaHostTimeout n data) s = execDmaHostTimeout n data s := (rfl)
theorem exec_tunnelStart (s : State) : exec (.tunnelStart) s = execTunnelStart s := (rfl)
theorem exec_tunnelRequest (p : Fin 8) (f : Frame) (stamp : Nat) (s : State) : exec (.tunnelRequest p f stamp) s = execTunnelRequest p f stamp s := (rfl)
theorem exec_tunnelResponse (p : Fin 8) (f : Frame) (stamp : Nat) (s : State) : exec (.tunnelResponse p f stamp) s = execTunnelResponse p f stamp s := (rfl)
theorem exec_tunnelTimeout (s : State) : exec (.tunnelTimeout) s = execTunnelTimeout s := (rfl)
theorem exec_nomTrimWrite (p : Port) (w : Word) (s : State) : exec (.nomTrimWrite p w) s = execNomTrimWrite p w s := (rfl)
theorem exec_syncReceive (p : Fin 8) (f : Frame) (stamp : Nat) (s : State) : exec (.syncReceive p f stamp) s = execSyncReceive p f stamp s := (rfl)
theorem exec_ppsInEdge (rising : Bool) (t : Nat) (s : State) : exec (.ppsInEdge rising t) s = execPpsInEdge rising t s := (rfl)
theorem exec_todAlign (s : State) : exec (.todAlign) s = execTodAlign s := (rfl)
theorem exec_ppsLoss (t : Nat) (s : State) : exec (.ppsLoss t) s = execPpsLoss t s := (rfl)
theorem exec_ppsOutPulse (s : State) : exec (.ppsOutPulse) s = execPpsOutPulse s := (rfl)
theorem exec_evModeWrite (n : Fin 8) (w : Word) (s : State) : exec (.evModeWrite n w) s = execEvModeWrite n w s := (rfl)
theorem exec_evArm (n : Fin 8) (s : State) : exec (.evArm n) s = execEvArm n s := (rfl)
theorem exec_evTgtWrite (n : Fin 8) (hi : Bool) (w : Word) (s : State) : exec (.evTgtWrite n hi w) s = execEvTgtWrite n hi w s := (rfl)
theorem exec_tevFire (n : Fin 8) (encLow : BitVec 16) (s : State) : exec (.tevFire n encLow) s = execTevFire n encLow s := (rfl)
theorem exec_trigCapture (p : TrigAt) (rising : Bool) (t : Nat) (s : State) : exec (.trigCapture p rising t) s = execTrigCapture p rising t s := (rfl)
theorem exec_portModeWrite (p : Fin 8) (w : Word) (s : State) : exec (.portModeWrite p w) s = execPortModeWrite p w s := (rfl)
theorem exec_portSignalDetect (p : Fin 8) (s : State) : exec (.portSignalDetect p) s = execPortSignalDetect p s := (rfl)
theorem exec_portSignalLoss (p : Fin 8) (s : State) : exec (.portSignalLoss p) s = execPortSignalLoss p s := (rfl)
theorem exec_portAlign (l : Fin 10) (gs : List (Fin 10 × BitVec 10)) (s : State) : exec (.portAlign l gs) s = execPortAlign l gs s := (rfl)
theorem exec_alignLoss (l : Fin 10) (gs : List (BitVec 10)) (s : State) : exec (.alignLoss l gs) s = execAlignLoss l gs s := (rfl)
theorem exec_frameReceive (p : Fin 8) (f : Frame) (stamp : Nat) (s : State) : exec (.frameReceive p f stamp) s = execFrameReceive p f stamp s := (rfl)
theorem exec_egressSend (p : Fin 8) (s : State) : exec (.egressSend p) s = execEgressSend p s := (rfl)
theorem exec_delayReqSend (s : State) : exec (.delayReqSend) s = execDelayReqSend s := (rfl)
theorem exec_delayReqReceive (p : Fin 8) (f : Frame) (stamp : Nat) (s : State) : exec (.delayReqReceive p f stamp) s = execDelayReqReceive p f stamp s := (rfl)
theorem exec_delayRspReceive (p : Fin 8) (f : Frame) (stamp : Nat) (s : State) : exec (.delayRspReceive p f stamp) s = execDelayRspReceive p f stamp s := (rfl)
theorem exec_delayRspTimeout (p : Fin 8) (s : State) : exec (.delayRspTimeout p) s = execDelayRspTimeout p s := (rfl)
theorem exec_dlyValidLoss (p : Fin 8) (s : State) : exec (.dlyValidLoss p) s = execDlyValidLoss p s := (rfl)
theorem exec_helloReceive (p : Fin 8) (f : Frame) (stamp : Nat) (s : State) : exec (.helloReceive p f stamp) s = execHelloReceive p f stamp s := (rfl)
theorem exec_discoveryStart (s : State) : exec (.discoveryStart) s = execDiscoveryStart s := (rfl)
theorem exec_probeReceive (p : Fin 8) (f : Frame) (stamp : Nat) (s : State) : exec (.probeReceive p f stamp) s = execProbeReceive p f stamp s := (rfl)
theorem exec_reportReceive (p : Fin 8) (f : Frame) (stamp : Nat) (s : State) : exec (.reportReceive p f stamp) s = execReportReceive p f stamp s := (rfl)
theorem exec_tableReceive (p : Fin 8) (f : Frame) (stamp : Nat) (s : State) : exec (.tableReceive p f stamp) s = execTableReceive p f stamp s := (rfl)
theorem exec_commitReceive (p : Fin 8) (f : Frame) (stamp : Nat) (s : State) : exec (.commitReceive p f stamp) s = execCommitReceive p f stamp s := (rfl)
theorem exec_discAckReceive (p : Fin 8) (f : Frame) (stamp : Nat) (s : State) : exec (.discAckReceive p f stamp) s = execDiscAckReceive p f stamp s := (rfl)
theorem exec_discNackReceive (p : Fin 8) (f : Frame) (stamp : Nat) (s : State) : exec (.discNackReceive p f stamp) s = execDiscNackReceive p f stamp s := (rfl)
theorem exec_discRetryTimeout (s : State) : exec (.discRetryTimeout) s = execDiscRetryTimeout s := (rfl)
theorem exec_discoveryRepeat (s : State) : exec (.discoveryRepeat) s = execDiscoveryRepeat s := (rfl)
theorem exec_prbsChkEnable (n : Fin 10) (s : State) : exec (.prbsChkEnable n) s = execPrbsChkEnable n s := (rfl)
theorem exec_prbsInj (n : Fin 10) (s : State) : exec (.prbsInj n) s = execPrbsInj n s := (rfl)
theorem exec_injCode (p : Fin 8) (s : State) : exec (.injCode p) s = execInjCode p s := (rfl)
theorem exec_injCrc (p : Fin 8) (s : State) : exec (.injCrc p) s = execInjCrc p s := (rfl)
theorem exec_prbsLock (r : LaneBits) (s : State) : exec (.prbsLock r) s = execPrbsLock r s := (rfl)
theorem exec_prbsLockLoss (n : Fin 10) (bits errs : List Bool) (s : State) : exec (.prbsLockLoss n bits errs) s = execPrbsLockLoss n bits errs s := (rfl)
theorem exec_enterListen (s : State) : exec (.enterListen) s = execEnterListen s := (rfl)
theorem exec_listenTimerExpire (s : State) : exec (.listenTimerExpire) s = execListenTimerExpire s := (rfl)
theorem exec_dawnReceive (p : Fin 8) (f : Frame) (stamp : Nat) (s : State) : exec (.dawnReceive p f stamp) s = execDawnReceive p f stamp s := (rfl)
theorem exec_dawnWaitTimeout (s : State) : exec (.dawnWaitTimeout) s = execDawnWaitTimeout s := (rfl)
theorem exec_dawnWindowEnd (s : State) : exec (.dawnWindowEnd) s = execDawnWindowEnd s := (rfl)
theorem exec_noSyncTimeout (s : State) : exec (.noSyncTimeout) s = execNoSyncTimeout s := (rfl)
theorem exec_integrationTimeout (s : State) : exec (.integrationTimeout) s = execIntegrationTimeout s := (rfl)
theorem exec_holdMaxSilence (s : State) : exec (.holdMaxSilence) s = execHoldMaxSilence s := (rfl)
theorem exec_zenithSuccession (s : State) : exec (.zenithSuccession) s = execZenithSuccession s := (rfl)
theorem exec_slotTx (i : Fin 512) (s : State) : exec (.slotTx i) s = execSlotTx i s := (rfl)
theorem exec_windowClose (i : Fin 512) (s : State) : exec (.windowClose i) s = execWindowClose i s := (rfl)
theorem exec_ageFault (j : Fin 256) (s : State) : exec (.ageFault j) s = execAgeFault j s := (rfl)
theorem exec_echoReceive (p : Fin 8) (f : Frame) (stamp : Nat) (s : State) : exec (.echoReceive p f stamp) s = execEchoReceive p f stamp s := (rfl)
theorem exec_modePropose (p : Port) (w : Word) (s : State) : exec (.modePropose p w) s = execModePropose p w s := (rfl)
theorem exec_quadTransition (n : Fin 32) (a b : List Bool) (clk : Nat) (s : State) : exec (.quadTransition n a b clk) s = execQuadTransition n a b clk s := (rfl)
theorem exec_quadFault (n : Fin 32) (s : State) : exec (.quadFault n) s = execQuadFault n s := (rfl)
theorem exec_zEdge (z : Fin 32 × LineRun) (s : State) : exec (.zEdge z) s = execZEdge z s := (rfl)
theorem exec_stepInputEdge (n : Fin 32) (xs : List (Bool × Bool)) (clk : Nat) (s : State) : exec (.stepInputEdge n xs clk) s = execStepInputEdge n xs clk s := (rfl)
theorem exec_standstillTimeout (n : Fin 32) (clk : Nat) (s : State) : exec (.standstillTimeout n clk) s = execStandstillTimeout n clk s := (rfl)
theorem exec_encWordDone (j : Fin 16) (raw : BitVec 40) (s : State) : exec (.encWordDone j raw) s = execEncWordDone j raw s := (rfl)
theorem exec_encFault (j : Fin 16) (s : State) : exec (.encFault j) s = execEncFault j s := (rfl)
theorem exec_encStandstill (j : Fin 16) (t : Nat) (s : State) : exec (.encStandstill j t) s = execEncStandstill j t s := (rfl)
theorem exec_divOutputStep (k : Fin 8) (clk : Nat) (s : State) : exec (.divOutputStep k clk) s = execDivOutputStep k clk s := (rfl)
theorem exec_divCtlWrite (k : Fin 8) (w : Word) (s : State) : exec (.divCtlWrite k w) s = execDivCtlWrite k w s := (rfl)
theorem exec_divRatioWrite (k : Fin 8) (w : Word) (s : State) : exec (.divRatioWrite k w) s = execDivRatioWrite k w s := (rfl)
theorem exec_rseqTrigger (c q : Fin 4) (s : State) : exec (.rseqTrigger c q) s = execRseqTrigger c q s := (rfl)
theorem exec_conversionDone (c : Fin 4) (v : Int) (s : State) : exec (.conversionDone c v) s = execConversionDone c v s := (rfl)
theorem exec_cmpEvent (n : Fin 64) (v : VoltAt) (s : State) : exec (.cmpEvent n v) s = execCmpEvent n v s := (rfl)
theorem exec_adcCal (m : BitVec 4) (s : State) : exec (.adcCal m) s = execAdcCal m s := (rfl)
theorem exec_calStart (c : Fin 4) (s : State) : exec (.calStart c) s = execCalStart c s := (rfl)
theorem exec_calStepEnd (c : Fin 4) (s : State) : exec (.calStepEnd c) s = execCalStepEnd c s := (rfl)
theorem exec_calDone (c : Fin 4) (ok : Bool) (s : State) : exec (.calDone c ok) s = execCalDone c ok s := (rfl)
theorem exec_calWaitTimeout (c : Fin 4) (s : State) : exec (.calWaitTimeout c) s = execCalWaitTimeout c s := (rfl)
theorem exec_bgWindowEnd (c : Fin 4) (idle total : Nat) (s : State) : exec (.bgWindowEnd c idle total) s = execBgWindowEnd c idle total s := (rfl)
theorem exec_bgTrimUpdate (k : Fin 16) (skew : Bool) (s : State) : exec (.bgTrimUpdate k skew) s = execBgTrimUpdate k skew s := (rfl)
theorem exec_trajNop (n : Fin 128) (imm ramp : Bool) (s : State) : exec (.trajNop n imm ramp) s = execTrajNop n imm ramp s := (rfl)
theorem exec_moveAbs (n : Fin 128) (imm ramp : Bool) (s : State) : exec (.moveAbs n imm ramp) s = execMoveAbs n imm ramp s := (rfl)
theorem exec_moveRel (n : Fin 128) (imm ramp : Bool) (s : State) : exec (.moveRel n imm ramp) s = execMoveRel n imm ramp s := (rfl)
theorem exec_jogPos (n : Fin 128) (imm ramp : Bool) (s : State) : exec (.jogPos n imm ramp) s = execJogPos n imm ramp s := (rfl)
theorem exec_jogNeg (n : Fin 128) (imm ramp : Bool) (s : State) : exec (.jogNeg n imm ramp) s = execJogNeg n imm ramp s := (rfl)
theorem exec_axisStop (n : Fin 128) (imm ramp : Bool) (s : State) : exec (.axisStop n imm ramp) s = execAxisStop n imm ramp s := (rfl)
theorem exec_axisResume (n : Fin 128) (imm ramp : Bool) (s : State) : exec (.axisResume n imm ramp) s = execAxisResume n imm ramp s := (rfl)
theorem exec_axisLimits (n : Fin 128) (imm ramp : Bool) (s : State) : exec (.axisLimits n imm ramp) s = execAxisLimits n imm ramp s := (rfl)
theorem exec_gearEngage (n : Fin 128) (imm ramp : Bool) (s : State) : exec (.gearEngage n imm ramp) s = execGearEngage n imm ramp s := (rfl)
theorem exec_gearChange (n : Fin 128) (imm ramp : Bool) (s : State) : exec (.gearChange n imm ramp) s = execGearChange n imm ramp s := (rfl)
theorem exec_gearOff (n : Fin 128) (imm ramp : Bool) (s : State) : exec (.gearOff n imm ramp) s = execGearOff n imm ramp s := (rfl)
theorem exec_setPos (n : Fin 128) (imm ramp : Bool) (s : State) : exec (.setPos n imm ramp) s = execSetPos n imm ramp s := (rfl)
theorem exec_pathOn (g : Fin 16) (s : State) : exec (.pathOn g) s = execPathOn g s := (rfl)
theorem exec_pathOff (g : Fin 16) (s : State) : exec (.pathOff g) s = execPathOff g s := (rfl)
theorem exec_groupStop (g : Fin 16) (s : State) : exec (.groupStop g) s = execGroupStop g s := (rfl)
theorem exec_groupResume (g : Fin 16) (s : State) : exec (.groupResume g) s = execGroupResume g s := (rfl)
theorem exec_stepEmit (n : Fin 32) (t : Nat) (s : State) : exec (.stepEmit n t) s = execStepEmit n t s := (rfl)
theorem exec_energise (n : Fin 128) (s : State) : exec (.energise n) s = execEnergise n s := (rfl)
theorem exec_deenergise (n : Fin 128) (s : State) : exec (.deenergise n) s = execDeenergise n s := (rfl)
theorem exec_bootEnd (n : Fin 32) (s : State) : exec (.bootEnd n) s = execBootEnd n s := (rfl)
theorem exec_compTimeout (n : Fin 128) (s : State) : exec (.compTimeout n) s = execCompTimeout n s := (rfl)
theorem exec_angOfsWrite (p : Port) (n : Fin 128) (w : Word) (s : State) : exec (.angOfsWrite p n w) s = execAngOfsWrite p n w s := (rfl)
theorem exec_tripInput (j : Fin 16) (x : LineRun) (s : State) : exec (.tripInput j x) s = execTripInput j x s := (rfl)
theorem exec_tripClr (m : BitVec 16) (s : State) : exec (.tripClr m) s = execTripClr m s := (rfl)
theorem exec_feedbackReceive (p : Fin 8) (f : Frame) (stamp : Nat) (s : State) : exec (.feedbackReceive p f stamp) s = execFeedbackReceive p f stamp s := (rfl)
theorem exec_solvPublish (c : Fin 16) (s : State) : exec (.solvPublish c) s = execSolvPublish c s := (rfl)
theorem exec_solvCold (c : Fin 16) (s : State) : exec (.solvCold c) s = execSolvCold c s := (rfl)
theorem exec_solveStart (s : State) : exec (.solveStart) s = execSolveStart s := (rfl)
theorem exec_factorDone (s : State) : exec (.factorDone) s = execFactorDone s := (rfl)
theorem exec_iterationDone (s : State) : exec (.iterationDone) s = execIterationDone s := (rfl)
theorem exec_checkDone (s : State) : exec (.checkDone) s = execCheckDone s := (rfl)
theorem exec_outputDone (s : State) : exec (.outputDone) s = execOutputDone s := (rfl)
theorem exec_solvDeadline (c : Fin 16) (s : State) : exec (.solvDeadline c) s = execSolvDeadline c s := (rfl)
theorem exec_solvFrameReceive (p : Fin 8) (f : Frame) (stamp : Nat) (s : State) : exec (.solvFrameReceive p f stamp) s = execSolvFrameReceive p f stamp s := (rfl)
theorem exec_arbReserve (p : Port) (g : Fin 16) (s : State) : exec (.arbReserve p g) s = execArbReserve p g s := (rfl)
theorem exec_arbExtend (p : Port) (g : Fin 16) (s : State) : exec (.arbExtend p g) s = execArbExtend p g s := (rfl)
theorem exec_arbRelease (p : Port) (g : Fin 16) (s : State) : exec (.arbRelease p g) s = execArbRelease p g s := (rfl)
theorem exec_arbRevoke (p : Port) (w : Word) (s : State) : exec (.arbRevoke p w) s = execArbRevoke p w s := (rfl)
theorem exec_arbFrameReceive (p : Fin 8) (f : Frame) (stamp : Nat) (s : State) : exec (.arbFrameReceive p f stamp) s = execArbFrameReceive p f stamp s := (rfl)
theorem exec_reservationExpire (s : State) : exec (.reservationExpire) s = execReservationExpire s := (rfl)
theorem exec_arbRetryTimeout (g q : Fin 16) (s : State) : exec (.arbRetryTimeout g q) s = execArbRetryTimeout g q s := (rfl)
theorem exec_restoreEnd (s : State) : exec (.restoreEnd) s = execRestoreEnd s := (rfl)
theorem exec_spNop (c : Fin 16) (s : State) : exec (.spNop c) s = execSpNop c s := (rfl)
theorem exec_spAdd (c rd rs rt : Fin 16) (s : State) : exec (.spAdd c rd rs rt) s = execSpAdd c rd rs rt s := (rfl)
theorem exec_spSub (c rd rs rt : Fin 16) (s : State) : exec (.spSub c rd rs rt) s = execSpSub c rd rs rt s := (rfl)
theorem exec_spAnd (c rd rs rt : Fin 16) (s : State) : exec (.spAnd c rd rs rt) s = execSpAnd c rd rs rt s := (rfl)
theorem exec_spOr (c rd rs rt : Fin 16) (s : State) : exec (.spOr c rd rs rt) s = execSpOr c rd rs rt s := (rfl)
theorem exec_spXor (c rd rs rt : Fin 16) (s : State) : exec (.spXor c rd rs rt) s = execSpXor c rd rs rt s := (rfl)
theorem exec_spAsh (c rd rs rt : Fin 16) (s : State) : exec (.spAsh c rd rs rt) s = execSpAsh c rd rs rt s := (rfl)
theorem exec_spLsh (c rd rs rt : Fin 16) (s : State) : exec (.spLsh c rd rs rt) s = execSpLsh c rd rs rt s := (rfl)
theorem exec_spMul (c rd rs rt : Fin 16) (s : State) : exec (.spMul c rd rs rt) s = execSpMul c rd rs rt s := (rfl)
theorem exec_spMulh (c rd rs rt : Fin 16) (s : State) : exec (.spMulh c rd rs rt) s = execSpMulh c rd rs rt s := (rfl)
theorem exec_spMin (c rd rs rt : Fin 16) (s : State) : exec (.spMin c rd rs rt) s = execSpMin c rd rs rt s := (rfl)
theorem exec_spMax (c rd rs rt : Fin 16) (s : State) : exec (.spMax c rd rs rt) s = execSpMax c rd rs rt s := (rfl)
theorem exec_spAbs (c rd rs : Fin 16) (s : State) : exec (.spAbs c rd rs) s = execSpAbs c rd rs s := (rfl)
theorem exec_spNeg (c rd rs : Fin 16) (s : State) : exec (.spNeg c rd rs) s = execSpNeg c rd rs s := (rfl)
theorem exec_spCmp (c rs rt : Fin 16) (s : State) : exec (.spCmp c rs rt) s = execSpCmp c rs rt s := (rfl)
theorem exec_spMov (c rd rs : Fin 16) (s : State) : exec (.spMov c rd rs) s = execSpMov c rd rs s := (rfl)
theorem exec_spMfc (c rd : Fin 16) (idx : Fin 64) (s : State) : exec (.spMfc c rd idx) s = execSpMfc c rd idx s := (rfl)
theorem exec_spMtc (c : Fin 16) (idx : Fin 64) (rs : Fin 16) (s : State) : exec (.spMtc c idx rs) s = execSpMtc c idx rs s := (rfl)
theorem exec_spExa (c rd : Fin 16) (k : Fin 2) (sh : Fin 64) (s : State) : exec (.spExa c rd k sh) s = execSpExa c rd k sh s := (rfl)
theorem exec_spLda (c : Fin 16) (k : Fin 2) (rs : Fin 16) (sh : Fin 64) (s : State) : exec (.spLda c k rs sh) s = execSpLda c k rs sh s := (rfl)
theorem exec_spClra (c : Fin 16) (k : Fin 2) (s : State) : exec (.spClra c k) s = execSpClra c k s := (rfl)
theorem exec_spNorm (c rd rs : Fin 16) (s : State) : exec (.spNorm c rd rs) s = execSpNorm c rd rs s := (rfl)
theorem exec_spAdda (c : Fin 16) (k j : Fin 2) (s : State) : exec (.spAdda c k j) s = execSpAdda c k j s := (rfl)
theorem exec_spAddi (c rd rs : Fin 16) (imm : BitVec 16) (s : State) : exec (.spAddi c rd rs imm) s = execSpAddi c rd rs imm s := (rfl)
theorem exec_spAndi (c rd rs : Fin 16) (imm : BitVec 16) (s : State) : exec (.spAndi c rd rs imm) s = execSpAndi c rd rs imm s := (rfl)
theorem exec_spOri (c rd rs : Fin 16) (imm : BitVec 16) (s : State) : exec (.spOri c rd rs imm) s = execSpOri c rd rs imm s := (rfl)
theorem exec_spXori (c rd rs : Fin 16) (imm : BitVec 16) (s : State) : exec (.spXori c rd rs imm) s = execSpXori c rd rs imm s := (rfl)
theorem exec_spMovi (c rd : Fin 16) (imm : BitVec 16) (s : State) : exec (.spMovi c rd imm) s = execSpMovi c rd imm s := (rfl)
theorem exec_spMovhi (c rd : Fin 16) (imm : BitVec 16) (s : State) : exec (.spMovhi c rd imm) s = execSpMovhi c rd imm s := (rfl)
theorem exec_spAshi (c rd rs : Fin 16) (k : Fin 64) (s : State) : exec (.spAshi c rd rs k) s = execSpAshi c rd rs k s := (rfl)
theorem exec_spLshi (c rd rs : Fin 16) (k : Fin 64) (s : State) : exec (.spLshi c rd rs k) s = execSpLshi c rd rs k s := (rfl)
theorem exec_spLd (c rd ar : Fin 16) (imm : BitVec 16) (s : State) : exec (.spLd c rd ar imm) s = execSpLd c rd ar imm s := (rfl)
theorem exec_spSt (c rd ar : Fin 16) (imm : BitVec 16) (s : State) : exec (.spSt c rd ar imm) s = execSpSt c rd ar imm s := (rfl)
theorem exec_spLdg (c rd rs : Fin 16) (imm : BitVec 16) (s : State) : exec (.spLdg c rd rs imm) s = execSpLdg c rd rs imm s := (rfl)
theorem exec_spStg (c rd rs : Fin 16) (imm : BitVec 16) (s : State) : exec (.spStg c rd rs imm) s = execSpStg c rd rs imm s := (rfl)
theorem exec_spCmpi (c rs : Fin 16) (imm : BitVec 16) (s : State) : exec (.spCmpi c rs imm) s = execSpCmpi c rs imm s := (rfl)
theorem exec_spModa (c ar : Fin 16) (imm : BitVec 16) (s : State) : exec (.spModa c ar imm) s = execSpModa c ar imm s := (rfl)
theorem exec_spJ (c : Fin 16) (t : BitVec 13) (s : State) : exec (.spJ c t) s = execSpJ c t s := (rfl)
theorem exec_spJc (c k : Fin 16) (t : BitVec 13) (s : State) : exec (.spJc c k t) s = execSpJc c k t s := (rfl)
theorem exec_spCall (c : Fin 16) (t : BitVec 13) (s : State) : exec (.spCall c t) s = execSpCall c t s := (rfl)
theorem exec_spRet (c : Fin 16) (s : State) : exec (.spRet c) s = execSpRet c s := (rfl)
theorem exec_spJr (c r : Fin 16) (s : State) : exec (.spJr c r) s = execSpJr c r s := (rfl)
theorem exec_spLoopi (c : Fin 16) (n : BitVec 11) (t : BitVec 13) (s : State) : exec (.spLoopi c n t) s = execSpLoopi c n t s := (rfl)
theorem exec_spLoop (c r : Fin 16) (t : BitVec 13) (s : State) : exec (.spLoop c r t) s = execSpLoop c r t s := (rfl)
theorem exec_spEndl (c : Fin 16) (s : State) : exec (.spEndl c) s = execSpEndl c s := (rfl)
theorem exec_spGettask (c : Fin 16) (t : Nat) (s : State) : exec (.spGettask c t) s = execSpGettask c t s := (rfl)
theorem exec_spTdone (c r : Fin 16) (t : Nat) (s : State) : exec (.spTdone c r t) s = execSpTdone c r t s := (rfl)
theorem exec_spTpost (c r : Fin 16) (t : Nat) (s : State) : exec (.spTpost c r t) s = execSpTpost c r t s := (rfl)
theorem exec_spRfe (c : Fin 16) (s : State) : exec (.spRfe c) s = execSpRfe c s := (rfl)
theorem exec_spSync (c : Fin 16) (s : State) : exec (.spSync c) s = execSpSync c s := (rfl)
theorem exec_spBset (c : Fin 16) (m : BitVec 11) (s : State) : exec (.spBset c m) s = execSpBset c m s := (rfl)
theorem exec_spBclr (c : Fin 16) (m : BitVec 11) (s : State) : exec (.spBclr c m) s = execSpBclr c m s := (rfl)
theorem exec_spMpy (c : Fin 16) (k : Fin 2) (s1 s2 : Fin 16) (xm ym : BitVec 8) (s : State) : exec (.spMpy c k s1 s2 xm ym) s = execSpMpy c k s1 s2 xm ym s := (rfl)
theorem exec_spMac (c : Fin 16) (k : Fin 2) (s1 s2 : Fin 16) (xm ym : BitVec 8) (s : State) : exec (.spMac c k s1 s2 xm ym) s = execSpMac c k s1 s2 xm ym s := (rfl)
theorem exec_spMsu (c : Fin 16) (k : Fin 2) (s1 s2 : Fin 16) (xm ym : BitVec 8) (s : State) : exec (.spMsu c k s1 s2 xm ym) s = execSpMsu c k s1 s2 xm ym s := (rfl)
theorem exec_spMovp (c : Fin 16) (xm ym : BitVec 8) (s : State) : exec (.spMovp c xm ym) s = execSpMovp c xm ym s := (rfl)
theorem exec_spTap (c : Fin 16) (k : Fin 2) (xm ym : BitVec 8) (s : State) : exec (.spTap c k xm ym) s = execSpTap c k xm ym s := (rfl)
theorem exec_spMacm (c : Fin 16) (k : Fin 2) (xm ym : BitVec 8) (s : State) : exec (.spMacm c k xm ym) s = execSpMacm c k xm ym s := (rfl)
theorem exec_spClrm (c : Fin 16) (k : Fin 2) (xm ym : BitVec 8) (s : State) : exec (.spClrm c k xm ym) s = execSpClrm c k xm ym s := (rfl)
theorem exec_eventTake (c : Fin 16) (s : State) : exec (.eventTake c) s = execEventTake c s := (rfl)
theorem exec_taskHandover (c : Fin 16) (t : Nat) (s : State) : exec (.taskHandover c t) s = execTaskHandover c t s := (rfl)
theorem exec_spHalt (c : Fin 16) (s : State) : exec (.spHalt c) s = execSpHalt c s := (rfl)
theorem exec_spResume (c : Fin 16) (s : State) : exec (.spResume c) s = execSpResume c s := (rfl)
theorem exec_spStep (c : Fin 16) (s : State) : exec (.spStep c) s = execSpStep c s := (rfl)
theorem exec_doorRing (c : Fin 16) (s : State) : exec (.doorRing c) s = execDoorRing c s := (rfl)
theorem exec_schedPost (p : Port) (i : Fin 1024) (t : Nat) (s : State) : exec (.schedPost p i t) s = execSchedPost p i t s := (rfl)
theorem exec_schedDpost (i : Fin 1024) (t : Nat) (s : State) : exec (.schedDpost i t) s = execSchedDpost i t s := (rfl)
theorem exec_delayDue (i : Fin 1024) (s : State) : exec (.delayDue i) s = execDelayDue i s := (rfl)
theorem exec_periodDue (i : Fin 1024) (s : State) : exec (.periodDue i) s = execPeriodDue i s := (rfl)
theorem exec_affinityExpire (i : Fin 1024) (s : State) : exec (.affinityExpire i) s = execAffinityExpire i s := (rfl)
theorem exec_mailboxWrite (p : Port) (k : Fin 8) (w : Word) (s : State) : exec (.mailboxWrite p k w) s = execMailboxWrite p k w s := (rfl)
theorem exec_contrailReset (s : State) : exec (.contrailReset) s = execContrailReset s := (rfl)
theorem exec_safeEvaluation (s : State) : exec (.safeEvaluation) s = execSafeEvaluation s := (rfl)
theorem exec_discFault (n : Fin 16) (s : State) : exec (.discFault n) s = execDiscFault n s := (rfl)
theorem exec_stopTExpire (src : Fin 48) (s : State) : exec (.stopTExpire src) s = execStopTExpire src s := (rfl)
theorem exec_offPulse (k : Fin 8) (s : State) : exec (.offPulse k) s = execOffPulse k s := (rfl)
theorem exec_xlink (s : State) : exec (.xlink) s = execXlink s := (rfl)
theorem exec_cmdMismatch (s : State) : exec (.cmdMismatch) s = execCmdMismatch s := (rfl)
theorem exec_safeSupply (s : State) : exec (.safeSupply) s = execSafeSupply s := (rfl)
theorem exec_safeClock (c : SafeClk) (s : State) : exec (.safeClock c) s = execSafeClock c s := (rfl)
theorem exec_periodicTest (ecc : Bool) (s : State) : exec (.periodicTest ecc) s = execPeriodicTest ecc s := (rfl)
theorem exec_safeBind (p : Port) (w : Word) (s : State) : exec (.safeBind p w) s = execSafeBind p w s := (rfl)
theorem exec_safeBindDone (ok : Bool) (s : State) : exec (.safeBindDone ok) s = execSafeBindDone ok s := (rfl)
theorem exec_ssmResult (s : State) : exec (.ssmResult) s = execSsmResult s := (rfl)
theorem exec_pstopEnd (g : Fin 16) (s : State) : exec (.pstopEnd g) s = execPstopEnd g s := (rfl)
theorem exec_safeMsgReceive (p : Fin 8) (f : Frame) (stamp : Nat) (s : State) : exec (.safeMsgReceive p f stamp) s = execSafeMsgReceive p f stamp s := (rfl)
theorem exec_smsgWd (j : Fin 32) (s : State) : exec (.smsgWd j) s = execSmsgWd j s := (rfl)
theorem exec_redListenEnd (s : State) : exec (.redListenEnd) s = execRedListenEnd s := (rfl)
theorem exec_stateFrameReceive (ws : List Word) (t : Nat) (s : State) : exec (.stateFrameReceive ws t) s = execStateFrameReceive ws t s := (rfl)
theorem exec_bulkFrameReceive (ws : List Word) (t : Nat) (s : State) : exec (.bulkFrameReceive ws t) s = execBulkFrameReceive ws t s := (rfl)
theorem exec_redHelloReceive (ws : List Word) (t : Nat) (s : State) : exec (.redHelloReceive ws t) s = execRedHelloReceive ws t s := (rfl)
theorem exec_redWatchdog (s : State) : exec (.redWatchdog) s = execRedWatchdog s := (rfl)
theorem exec_relinquishReceive (ws : List Word) (t : Nat) (s : State) : exec (.relinquishReceive ws t) s = execRelinquishReceive ws t s := (rfl)
theorem exec_takeover (s : State) : exec (.takeover) s = execTakeover s := (rfl)
theorem exec_redRelease (p : Port) (s : State) : exec (.redRelease p) s = execRedRelease p s := (rfl)
theorem exec_redDrill (p : Port) (s : State) : exec (.redDrill p) s = execRedDrill p s := (rfl)
theorem exec_drillFrameReceive (ws : List Word) (t : Nat) (s : State) : exec (.drillFrameReceive ws t) s = execDrillFrameReceive ws t s := (rfl)
theorem exec_pwrReq (p : Port) (w : Word) (s : State) : exec (.pwrReq p w) s = execPwrReq p w s := (rfl)
theorem exec_pwrFabReq (p : Port) (w : Word) (s : State) : exec (.pwrFabReq p w) s = execPwrFabReq p w s := (rfl)
theorem exec_quiesceEnd (s : State) : exec (.quiesceEnd) s = execQuiesceEnd s := (rfl)
theorem exec_quiesceTimeout (s : State) : exec (.quiesceTimeout) s = execQuiesceTimeout s := (rfl)
theorem exec_entryDone (s : State) : exec (.entryDone) s = execEntryDone s := (rfl)
theorem exec_exitDone (s : State) : exec (.exitDone) s = execExitDone s := (rfl)
theorem exec_wakeInput (w : WakeSrc) (s : State) : exec (.wakeInput w) s = execWakeInput w s := (rfl)
theorem exec_pwrPerf (p : Port) (w : Word) (ok : Bool) (s : State) : exec (.pwrPerf p w ok) s = execPwrPerf p w ok s := (rfl)
theorem exec_solvDividerChange (ok : Bool) (s : State) : exec (.solvDividerChange ok) s = execSolvDividerChange ok s := (rfl)
theorem exec_statusPoll (r : PmbRead) (s : State) : exec (.statusPoll r) s = execStatusPoll r s := (rfl)
theorem exec_voutTimeout (s : State) : exec (.voutTimeout) s = execVoutTimeout s := (rfl)
theorem exec_pgoodLoss (s : State) : exec (.pgoodLoss) s = execPgoodLoss s := (rfl)
theorem exec_pmbAlert (r : PmbRead) (s : State) : exec (.pmbAlert r) s = execPmbAlert r s := (rfl)
theorem exec_pmbusPoll (r : PmbRead) (vout iout : Option (BitVec 16)) (s : State) : exec (.pmbusPoll r vout iout) s = execPmbusPoll r vout iout s := (rfl)
theorem exec_companionLoadStart (s : State) : exec (.companionLoadStart) s = execCompanionLoadStart s := (rfl)
theorem exec_comploadAckReceive (p : Fin 8) (f : Frame) (stamp : Nat) (s : State) : exec (.comploadAckReceive p f stamp) s = execComploadAckReceive p f stamp s := (rfl)
theorem exec_comploadNackReceive (p : Fin 8) (f : Frame) (stamp : Nat) (s : State) : exec (.comploadNackReceive p f stamp) s = execComploadNackReceive p f stamp s := (rfl)
theorem exec_comploadReadyReceive (p : Fin 8) (f : Frame) (stamp : Nat) (s : State) : exec (.comploadReadyReceive p f stamp) s = execComploadReadyReceive p f stamp s := (rfl)
theorem exec_comploadAckTimeout (s : State) : exec (.comploadAckTimeout) s = execComploadAckTimeout s := (rfl)
theorem exec_readyTimeout (s : State) : exec (.readyTimeout) s = execReadyTimeout s := (rfl)
theorem exec_updWinWrite (p : Port) (node : Fin 32) (i : Fin 16384) (w : Word) (s : State) : exec (.updWinWrite p node i w) s = execUpdWinWrite p node i w s := (rfl)
theorem exec_updOpen (p : Port) (node : Fin 32) (s : State) : exec (.updOpen p node) s = execUpdOpen p node s := (rfl)
theorem exec_updProgram (p : Port) (node : Fin 32) (i : Fin 512) (s : State) : exec (.updProgram p node i) s = execUpdProgram p node i s := (rfl)
theorem exec_updCommit (p : Port) (node : Fin 32) (s : State) : exec (.updCommit p node) s = execUpdCommit p node s := (rfl)
theorem exec_updAbort (p : Port) (node : Fin 32) (s : State) : exec (.updAbort p node) s = execUpdAbort p node s := (rfl)
theorem exec_updRetain (p : Port) (node : Fin 32) (i : Fin 512) (s : State) : exec (.updRetain p node i) s = execUpdRetain p node i s := (rfl)
theorem exec_updWorkDone (r : WorkEnd) (s : State) : exec (.updWorkDone r) s = execUpdWorkDone r s := (rfl)
theorem exec_updIdleExpire (s : State) : exec (.updIdleExpire) s = execUpdIdleExpire s := (rfl)
theorem exec_patchSelWrite (w : Word) (s : State) : exec (.patchSelWrite w) s = execPatchSelWrite w s := (rfl)
theorem exec_patchIdxWrite (w : Word) (s : State) : exec (.patchIdxWrite w) s = execPatchIdxWrite w s := (rfl)
theorem exec_patchDataWrite (w : Word) (s : State) : exec (.patchDataWrite w) s = execPatchDataWrite w s := (rfl)
theorem exec_patchApply (s : State) : exec (.patchApply) s = execPatchApply s := (rfl)
theorem exec_patchAbort (s : State) : exec (.patchAbort) s = execPatchAbort s := (rfl)
theorem exec_tapReset (s : State) : exec (.tapReset) s = execTapReset s := (rfl)
theorem exec_jtagExtest (s : State) : exec (.jtagExtest) s = execJtagExtest s := (rfl)
theorem exec_jtagSamplePreload (s : State) : exec (.jtagSamplePreload) s = execJtagSamplePreload s := (rfl)
theorem exec_jtagIdcode (s : State) : exec (.jtagIdcode) s = execJtagIdcode s := (rfl)
theorem exec_jtagHighz (s : State) : exec (.jtagHighz) s = execJtagHighz s := (rfl)
theorem exec_jtagClamp (s : State) : exec (.jtagClamp) s = execJtagClamp s := (rfl)
theorem exec_jtagExtestPulse (s : State) : exec (.jtagExtestPulse) s = execJtagExtestPulse s := (rfl)
theorem exec_jtagExtestTrain (s : State) : exec (.jtagExtestTrain) s = execJtagExtestTrain s := (rfl)
theorem exec_jtagBypass (s : State) : exec (.jtagBypass) s = execJtagBypass s := (rfl)
theorem exec_pwmValley (n : Fin 32) (s : State) : exec (.pwmValley n) s = execPwmValley n s := (rfl)
theorem exec_regRead (p : Port) (off : BitVec 26) (be : BitVec 4) (s : State) : exec (.regRead p off be) s = execRegRead p off be s := (rfl)
theorem exec_bar2Read (off : BitVec 25) (s : State) : exec (.bar2Read off) s = execBar2Read off s := (rfl)
theorem exec_pcieConfigWrite (c : PcieCfg) (s : State) : exec (.pcieConfigWrite c) s = execPcieConfigWrite c s := (rfl)
theorem exec_illegalOpcode (c : Fin 16) (s : State) : exec (.illegalOpcode c) s = execIllegalOpcode c s := (rfl)
theorem exec_globalStoreEffect (c : Fin 16) (s : State) : exec (.globalStoreEffect c) s = execGlobalStoreEffect c s := (rfl)
theorem exec_faultNNetHigh (s : State) : exec (.faultNNetHigh) s = execFaultNNetHigh s := (rfl)
theorem exec_safeClockRestored (s : State) : exec (.safeClockRestored) s = execSafeClockRestored s := (rfl)
theorem exec_inputSample (a b : BitVec 16) (rb : BitVec 8) (s : State) : exec (.inputSample a b rb) s = execInputSample a b rb s := (rfl)
theorem exec_railsRetry (s : State) : exec (.railsRetry) s = execRailsRetry s := (rfl)

end Sys2Proof.Machine
end

