-- ==== Sys2Proof/Laws/Exec.lean ====
section
/-! SUPPORT. Every command ends in settling: one case for each constructor. -/
namespace Sys2Proof.Machine

/-- A next state that has settled. -/
def Settled (o : Host.Outcome State Fault Refusal) : Prop := ∃ x : State, o = .next x.settle

theorem done_settles (s : State) : Settled (done s) := ⟨s, rfl⟩

theorem onDev_settles (f : Dev → Dev) (s : State) : Settled (onDev f s) := ⟨{ s with dev := f s.dev }, rfl⟩

theorem spDo_settles (c : Fin 16) (w : SpFmt) (f : SpCore → SpRes) (s : State) : Settled (spDo c w f s) := done_settles _

theorem execGuardValueWrite_settles (p : Port) (off : BitVec 26) (w : Word) (s : State) :
    Settled (execGuardValueWrite p off w s) := by
  unfold execGuardValueWrite
  split <;> exact done_settles _

theorem execPcieReset_settles (k : PcieReset) (s : State) : Settled (execPcieReset k s) := by
  cases k <;> exact done_settles _

theorem execConversionDone_settles (c : Fin 4) (v : Int) (s : State) : Settled (execConversionDone c v s) := by
  unfold execConversionDone
  generalize s.dev.nextResult c = r
  obtain ⟨r, d⟩ := r
  cases r <;> exact done_settles _

theorem execSolvFrameReceive_settles (p : Fin 8) (f : Frame) (stamp : Nat) (s : State) :
    Settled (execSolvFrameReceive p f stamp s) := by
  unfold execSolvFrameReceive
  generalize s.dev.frameIn p f stamp = r
  obtain ⟨d, here⟩ := r
  dsimp only
  split <;> exact done_settles _

theorem execArbFrameReceive_settles (p : Fin 8) (f : Frame) (stamp : Nat) (s : State) :
    Settled (execArbFrameReceive p f stamp s) := by
  unfold execArbFrameReceive
  generalize s.dev.frameIn p f stamp = r
  obtain ⟨d, here⟩ := r
  dsimp only
  split <;> exact done_settles _

theorem execEventTake_settles (c : Fin 16) (s : State) : Settled (execEventTake c s) := by
  unfold execEventTake
  split <;> exact done_settles _

theorem execIllegalOpcode_settles (c : Fin 16) (s : State) : Settled (execIllegalOpcode c s) := by
  unfold execIllegalOpcode
  split
  · split
    · split <;> exact done_settles _
    · exact done_settles _
  · exact done_settles _

theorem execBar2Read_settles (off : BitVec 25) (s : State) : Settled (execBar2Read off s) := by
  unfold execBar2Read
  generalize s.bar2Read off.toNat = r
  obtain ⟨w, t⟩ := r
  exact done_settles _

theorem execTunnelRequest_settles (p : Fin 8) (f : Frame) (stamp : Nat) (s : State) :
    Settled (execTunnelRequest p f stamp s) := by
  unfold execTunnelRequest
  generalize s.dev.frameIn p f stamp = r
  obtain ⟨d, here⟩ := r
  exact done_settles _

theorem execComploadAckReceive_settles (p : Fin 8) (f : Frame) (stamp : Nat) (s : State) :
    Settled (execComploadAckReceive p f stamp s) := by
  unfold execComploadAckReceive
  generalize s.dev.compIn 4 p f stamp = r
  obtain ⟨d, n⟩ := r
  exact done_settles _

theorem execComploadNackReceive_settles (p : Fin 8) (f : Frame) (stamp : Nat) (s : State) :
    Settled (execComploadNackReceive p f stamp s) := by
  unfold execComploadNackReceive
  generalize s.dev.compIn 5 p f stamp = r
  obtain ⟨d, n⟩ := r
  exact done_settles _

theorem execComploadReadyReceive_settles (p : Fin 8) (f : Frame) (stamp : Nat) (s : State) :
    Settled (execComploadReadyReceive p f stamp s) := by
  unfold execComploadReadyReceive
  generalize s.dev.compIn 6 p f stamp = r
  obtain ⟨d, n⟩ := r
  exact done_settles _

/-- Every command answers a next state, which has settled. -/
theorem exec_settles (i : Instr) (s : State) : ∃ x : State, exec i s = .next x.settle := by
  cases i with
  | vbusRise => rw [exec_vbusRise]; exact onDev_settles _ _
  | resetNRise => rw [exec_resetNRise]; exact onDev_settles _ _
  | powerLoss => rw [exec_powerLoss]; exact done_settles _
  | pgoodRise => rw [exec_pgoodRise]; exact done_settles _
  | railsTimeout => rw [exec_railsTimeout]; exact onDev_settles _ _
  | pllLock => rw [exec_pllLock]; exact onDev_settles _ _
  | pllLockTimeout => rw [exec_pllLockTimeout]; exact onDev_settles _ _
  | bistDone => rw [exec_bistDone]; exact done_settles _
  | imageLoad => rw [exec_imageLoad]; exact done_settles _
  | islandSelftestDone => rw [exec_islandSelftestDone]; exact done_settles _
  | enterRun => rw [exec_enterRun]; exact done_settles _
  | cycStart => rw [exec_cycStart]; exact done_settles _
  | halfTick => rw [exec_halfTick]; exact onDev_settles _ _
  | currentStage => rw [exec_currentStage]; exact onDev_settles _ _
  | vbusLow => rw [exec_vbusLow]; exact onDev_settles _ _
  | inCut => rw [exec_inCut]; exact onDev_settles _ _
  | loopOverrun => rw [exec_loopOverrun]; exact onDev_settles _ _
  | arbTick => rw [exec_arbTick]; exact done_settles _
  | planExhausted => rw [exec_planExhausted]; exact onDev_settles _ _
  | trajEnd => rw [exec_trajEnd]; exact onDev_settles _ _
  | trajLate => rw [exec_trajLate]; exact onDev_settles _ _
  | snap => rw [exec_snap]; exact done_settles _
  | usTick => rw [exec_usTick]; exact done_settles _
  | pllLoss => rw [exec_pllLoss]; exact onDev_settles _ _
  | sramScrubError => rw [exec_sramScrubError]; exact done_settles _
  | extFault => rw [exec_extFault]; exact onDev_settles _ _
  | overtemp => rw [exec_overtemp]; exact onDev_settles _ _
  | regWrite => rw [exec_regWrite]; exact done_settles _
  | bar2Write => rw [exec_bar2Write]; exact done_settles _
  | eventWriteBack => rw [exec_eventWriteBack]; exact done_settles _
  | counterLoad => rw [exec_counterLoad]; exact done_settles _
  | guardValueWrite => rw [exec_guardValueWrite]; exact execGuardValueWrite_settles _ _ _ _
  | guardTimeout => rw [exec_guardTimeout]; exact onDev_settles _ _
  | csrParity => rw [exec_csrParity]; exact onDev_settles _ _
  | clockRegate => rw [exec_clockRegate]; exact onDev_settles _ _
  | pcieReset => rw [exec_pcieReset]; exact execPcieReset_settles _ _
  | msixUnmask => rw [exec_msixUnmask]; exact onDev_settles _ _
  | mspiWriteFrame => rw [exec_mspiWriteFrame]; exact done_settles _
  | mspiReadFrame => rw [exec_mspiReadFrame]; exact done_settles _
  | dmaStart => rw [exec_dmaStart]; exact onDev_settles _ _
  | dmaAbort => rw [exec_dmaAbort]; exact onDev_settles _ _
  | dmaEnd => rw [exec_dmaEnd]; exact done_settles _
  | dmaHostTimeout => rw [exec_dmaHostTimeout]; exact done_settles _
  | tunnelStart => rw [exec_tunnelStart]; exact onDev_settles _ _
  | tunnelRequest => rw [exec_tunnelRequest]; exact execTunnelRequest_settles _ _ _ _
  | tunnelResponse => rw [exec_tunnelResponse]; exact onDev_settles _ _
  | tunnelTimeout => rw [exec_tunnelTimeout]; exact onDev_settles _ _
  | nomTrimWrite => rw [exec_nomTrimWrite]; exact onDev_settles _ _
  | syncReceive => rw [exec_syncReceive]; exact onDev_settles _ _
  | ppsInEdge => rw [exec_ppsInEdge]; exact onDev_settles _ _
  | todAlign => rw [exec_todAlign]; exact onDev_settles _ _
  | ppsLoss => rw [exec_ppsLoss]; exact onDev_settles _ _
  | ppsOutPulse => rw [exec_ppsOutPulse]; exact onDev_settles _ _
  | evModeWrite => rw [exec_evModeWrite]; exact onDev_settles _ _
  | evArm => rw [exec_evArm]; exact onDev_settles _ _
  | evTgtWrite => rw [exec_evTgtWrite]; exact onDev_settles _ _
  | tevFire => rw [exec_tevFire]; exact done_settles _
  | trigCapture => rw [exec_trigCapture]; exact onDev_settles _ _
  | portModeWrite => rw [exec_portModeWrite]; exact onDev_settles _ _
  | portSignalDetect => rw [exec_portSignalDetect]; exact onDev_settles _ _
  | portSignalLoss => rw [exec_portSignalLoss]; exact onDev_settles _ _
  | portAlign => rw [exec_portAlign]; exact onDev_settles _ _
  | alignLoss => rw [exec_alignLoss]; exact onDev_settles _ _
  | frameReceive => rw [exec_frameReceive]; exact done_settles _
  | egressSend => rw [exec_egressSend]; exact onDev_settles _ _
  | delayReqSend => rw [exec_delayReqSend]; exact onDev_settles _ _
  | delayReqReceive => rw [exec_delayReqReceive]; exact onDev_settles _ _
  | delayRspReceive => rw [exec_delayRspReceive]; exact onDev_settles _ _
  | delayRspTimeout => rw [exec_delayRspTimeout]; exact onDev_settles _ _
  | dlyValidLoss => rw [exec_dlyValidLoss]; exact onDev_settles _ _
  | helloReceive => rw [exec_helloReceive]; exact onDev_settles _ _
  | discoveryStart => rw [exec_discoveryStart]; exact onDev_settles _ _
  | probeReceive => rw [exec_probeReceive]; exact onDev_settles _ _
  | reportReceive => rw [exec_reportReceive]; exact onDev_settles _ _
  | tableReceive => rw [exec_tableReceive]; exact onDev_settles _ _
  | commitReceive => rw [exec_commitReceive]; exact onDev_settles _ _
  | discAckReceive => rw [exec_discAckReceive]; exact onDev_settles _ _
  | discNackReceive => rw [exec_discNackReceive]; exact onDev_settles _ _
  | discRetryTimeout => rw [exec_discRetryTimeout]; exact onDev_settles _ _
  | discoveryRepeat => rw [exec_discoveryRepeat]; exact onDev_settles _ _
  | prbsChkEnable => rw [exec_prbsChkEnable]; exact onDev_settles _ _
  | prbsInj => rw [exec_prbsInj]; exact onDev_settles _ _
  | injCode => rw [exec_injCode]; exact onDev_settles _ _
  | injCrc => rw [exec_injCrc]; exact onDev_settles _ _
  | prbsLock => rw [exec_prbsLock]; exact onDev_settles _ _
  | prbsLockLoss => rw [exec_prbsLockLoss]; exact onDev_settles _ _
  | enterListen => rw [exec_enterListen]; exact onDev_settles _ _
  | listenTimerExpire => rw [exec_listenTimerExpire]; exact onDev_settles _ _
  | dawnReceive => rw [exec_dawnReceive]; exact onDev_settles _ _
  | dawnWaitTimeout => rw [exec_dawnWaitTimeout]; exact onDev_settles _ _
  | dawnWindowEnd => rw [exec_dawnWindowEnd]; exact onDev_settles _ _
  | noSyncTimeout => rw [exec_noSyncTimeout]; exact onDev_settles _ _
  | integrationTimeout => rw [exec_integrationTimeout]; exact onDev_settles _ _
  | holdMaxSilence => rw [exec_holdMaxSilence]; exact onDev_settles _ _
  | zenithSuccession => rw [exec_zenithSuccession]; exact onDev_settles _ _
  | slotTx => rw [exec_slotTx]; exact onDev_settles _ _
  | windowClose => rw [exec_windowClose]; exact done_settles _
  | ageFault => rw [exec_ageFault]; exact done_settles _
  | echoReceive => rw [exec_echoReceive]; exact onDev_settles _ _
  | modePropose => rw [exec_modePropose]; exact onDev_settles _ _
  | quadTransition => rw [exec_quadTransition]; exact onDev_settles _ _
  | quadFault => rw [exec_quadFault]; exact onDev_settles _ _
  | zEdge => rw [exec_zEdge]; exact onDev_settles _ _
  | stepInputEdge => rw [exec_stepInputEdge]; exact onDev_settles _ _
  | standstillTimeout => rw [exec_standstillTimeout]; exact onDev_settles _ _
  | encWordDone => rw [exec_encWordDone]; exact onDev_settles _ _
  | encFault => rw [exec_encFault]; exact onDev_settles _ _
  | encStandstill => rw [exec_encStandstill]; exact onDev_settles _ _
  | divOutputStep => rw [exec_divOutputStep]; exact onDev_settles _ _
  | divCtlWrite => rw [exec_divCtlWrite]; exact onDev_settles _ _
  | divRatioWrite => rw [exec_divRatioWrite]; exact onDev_settles _ _
  | rseqTrigger => rw [exec_rseqTrigger]; exact onDev_settles _ _
  | conversionDone => rw [exec_conversionDone]; exact execConversionDone_settles _ _ _
  | cmpEvent => rw [exec_cmpEvent]; exact onDev_settles _ _
  | adcCal => rw [exec_adcCal]; exact onDev_settles _ _
  | calStart => rw [exec_calStart]; exact onDev_settles _ _
  | calStepEnd => rw [exec_calStepEnd]; exact onDev_settles _ _
  | calDone => rw [exec_calDone]; exact onDev_settles _ _
  | calWaitTimeout => rw [exec_calWaitTimeout]; exact onDev_settles _ _
  | bgWindowEnd => rw [exec_bgWindowEnd]; exact onDev_settles _ _
  | bgTrimUpdate => rw [exec_bgTrimUpdate]; exact onDev_settles _ _
  | trajNop => rw [exec_trajNop]; exact onDev_settles _ _
  | moveAbs => rw [exec_moveAbs]; exact onDev_settles _ _
  | moveRel => rw [exec_moveRel]; exact onDev_settles _ _
  | jogPos => rw [exec_jogPos]; exact onDev_settles _ _
  | jogNeg => rw [exec_jogNeg]; exact onDev_settles _ _
  | axisStop => rw [exec_axisStop]; exact onDev_settles _ _
  | axisResume => rw [exec_axisResume]; exact onDev_settles _ _
  | axisLimits => rw [exec_axisLimits]; exact onDev_settles _ _
  | gearEngage => rw [exec_gearEngage]; exact onDev_settles _ _
  | gearChange => rw [exec_gearChange]; exact onDev_settles _ _
  | gearOff => rw [exec_gearOff]; exact onDev_settles _ _
  | setPos => rw [exec_setPos]; exact onDev_settles _ _
  | pathOn => rw [exec_pathOn]; exact onDev_settles _ _
  | pathOff => rw [exec_pathOff]; exact onDev_settles _ _
  | groupStop => rw [exec_groupStop]; exact onDev_settles _ _
  | groupResume => rw [exec_groupResume]; exact onDev_settles _ _
  | stepEmit => rw [exec_stepEmit]; exact onDev_settles _ _
  | energise => rw [exec_energise]; exact onDev_settles _ _
  | deenergise => rw [exec_deenergise]; exact onDev_settles _ _
  | bootEnd => rw [exec_bootEnd]; exact onDev_settles _ _
  | compTimeout => rw [exec_compTimeout]; exact onDev_settles _ _
  | angOfsWrite => rw [exec_angOfsWrite]; exact onDev_settles _ _
  | tripInput => rw [exec_tripInput]; exact onDev_settles _ _
  | tripClr => rw [exec_tripClr]; exact onDev_settles _ _
  | feedbackReceive => rw [exec_feedbackReceive]; exact onDev_settles _ _
  | solvPublish => rw [exec_solvPublish]; exact onDev_settles _ _
  | solvCold => rw [exec_solvCold]; exact onDev_settles _ _
  | solveStart => rw [exec_solveStart]; exact done_settles _
  | factorDone => rw [exec_factorDone]; exact done_settles _
  | iterationDone => rw [exec_iterationDone]; exact done_settles _
  | checkDone => rw [exec_checkDone]; exact done_settles _
  | outputDone => rw [exec_outputDone]; exact done_settles _
  | solvDeadline => rw [exec_solvDeadline]; exact done_settles _
  | solvFrameReceive => rw [exec_solvFrameReceive]; exact execSolvFrameReceive_settles _ _ _ _
  | arbReserve => rw [exec_arbReserve]; exact done_settles _
  | arbExtend => rw [exec_arbExtend]; exact done_settles _
  | arbRelease => rw [exec_arbRelease]; exact done_settles _
  | arbRevoke => rw [exec_arbRevoke]; exact done_settles _
  | arbFrameReceive => rw [exec_arbFrameReceive]; exact execArbFrameReceive_settles _ _ _ _
  | reservationExpire => rw [exec_reservationExpire]; exact done_settles _
  | arbRetryTimeout => rw [exec_arbRetryTimeout]; exact done_settles _
  | restoreEnd => rw [exec_restoreEnd]; exact onDev_settles _ _
  | spNop => rw [exec_spNop]; exact spDo_settles _ _ _ _
  | spAdd => rw [exec_spAdd]; exact spDo_settles _ _ _ _
  | spSub => rw [exec_spSub]; exact spDo_settles _ _ _ _
  | spAnd => rw [exec_spAnd]; exact spDo_settles _ _ _ _
  | spOr => rw [exec_spOr]; exact spDo_settles _ _ _ _
  | spXor => rw [exec_spXor]; exact spDo_settles _ _ _ _
  | spAsh => rw [exec_spAsh]; exact spDo_settles _ _ _ _
  | spLsh => rw [exec_spLsh]; exact spDo_settles _ _ _ _
  | spMul => rw [exec_spMul]; exact spDo_settles _ _ _ _
  | spMulh => rw [exec_spMulh]; exact spDo_settles _ _ _ _
  | spMin => rw [exec_spMin]; exact spDo_settles _ _ _ _
  | spMax => rw [exec_spMax]; exact spDo_settles _ _ _ _
  | spAbs => rw [exec_spAbs]; exact spDo_settles _ _ _ _
  | spNeg => rw [exec_spNeg]; exact spDo_settles _ _ _ _
  | spCmp => rw [exec_spCmp]; exact spDo_settles _ _ _ _
  | spMov => rw [exec_spMov]; exact spDo_settles _ _ _ _
  | spMfc => rw [exec_spMfc]; exact done_settles _
  | spMtc => rw [exec_spMtc]; exact spDo_settles _ _ _ _
  | spExa => rw [exec_spExa]; exact spDo_settles _ _ _ _
  | spLda => rw [exec_spLda]; exact spDo_settles _ _ _ _
  | spClra => rw [exec_spClra]; exact spDo_settles _ _ _ _
  | spNorm => rw [exec_spNorm]; exact spDo_settles _ _ _ _
  | spAdda => rw [exec_spAdda]; exact spDo_settles _ _ _ _
  | spAddi => rw [exec_spAddi]; exact spDo_settles _ _ _ _
  | spAndi => rw [exec_spAndi]; exact spDo_settles _ _ _ _
  | spOri => rw [exec_spOri]; exact spDo_settles _ _ _ _
  | spXori => rw [exec_spXori]; exact spDo_settles _ _ _ _
  | spMovi => rw [exec_spMovi]; exact spDo_settles _ _ _ _
  | spMovhi => rw [exec_spMovhi]; exact spDo_settles _ _ _ _
  | spAshi => rw [exec_spAshi]; exact spDo_settles _ _ _ _
  | spLshi => rw [exec_spLshi]; exact spDo_settles _ _ _ _
  | spLd => rw [exec_spLd]; exact done_settles _
  | spSt => rw [exec_spSt]; exact spDo_settles _ _ _ _
  | spLdg => rw [exec_spLdg]; exact done_settles _
  | spStg => rw [exec_spStg]; exact done_settles _
  | spCmpi => rw [exec_spCmpi]; exact spDo_settles _ _ _ _
  | spModa => rw [exec_spModa]; exact spDo_settles _ _ _ _
  | spJ => rw [exec_spJ]; exact spDo_settles _ _ _ _
  | spJc => rw [exec_spJc]; exact spDo_settles _ _ _ _
  | spCall => rw [exec_spCall]; exact spDo_settles _ _ _ _
  | spRet => rw [exec_spRet]; exact spDo_settles _ _ _ _
  | spJr => rw [exec_spJr]; exact spDo_settles _ _ _ _
  | spLoopi => rw [exec_spLoopi]; exact spDo_settles _ _ _ _
  | spLoop => rw [exec_spLoop]; exact spDo_settles _ _ _ _
  | spEndl => rw [exec_spEndl]; exact spDo_settles _ _ _ _
  | spGettask => rw [exec_spGettask]; exact done_settles _
  | spTdone => rw [exec_spTdone]; exact done_settles _
  | spTpost => rw [exec_spTpost]; exact done_settles _
  | spRfe => rw [exec_spRfe]; exact spDo_settles _ _ _ _
  | spSync => rw [exec_spSync]; exact done_settles _
  | spBset => rw [exec_spBset]; exact spDo_settles _ _ _ _
  | spBclr => rw [exec_spBclr]; exact spDo_settles _ _ _ _
  | spMpy => rw [exec_spMpy]; exact done_settles _
  | spMac => rw [exec_spMac]; exact done_settles _
  | spMsu => rw [exec_spMsu]; exact done_settles _
  | spMovp => rw [exec_spMovp]; exact done_settles _
  | spTap => rw [exec_spTap]; exact done_settles _
  | spMacm => rw [exec_spMacm]; exact done_settles _
  | spClrm => rw [exec_spClrm]; exact done_settles _
  | eventTake => rw [exec_eventTake]; exact execEventTake_settles _ _
  | taskHandover => rw [exec_taskHandover]; exact done_settles _
  | spHalt => rw [exec_spHalt]; exact done_settles _
  | spResume => rw [exec_spResume]; exact done_settles _
  | spStep => rw [exec_spStep]; exact done_settles _
  | doorRing => rw [exec_doorRing]; exact onDev_settles _ _
  | schedPost => rw [exec_schedPost]; exact done_settles _
  | schedDpost => rw [exec_schedDpost]; exact done_settles _
  | delayDue => rw [exec_delayDue]; exact done_settles _
  | periodDue => rw [exec_periodDue]; exact done_settles _
  | affinityExpire => rw [exec_affinityExpire]; exact done_settles _
  | mailboxWrite => rw [exec_mailboxWrite]; exact onDev_settles _ _
  | contrailReset => rw [exec_contrailReset]; exact onDev_settles _ _
  | safeEvaluation => rw [exec_safeEvaluation]; exact onDev_settles _ _
  | discFault => rw [exec_discFault]; exact onDev_settles _ _
  | stopTExpire => rw [exec_stopTExpire]; exact onDev_settles _ _
  | offPulse => rw [exec_offPulse]; exact onDev_settles _ _
  | xlink => rw [exec_xlink]; exact done_settles _
  | cmdMismatch => rw [exec_cmdMismatch]; exact done_settles _
  | safeSupply => rw [exec_safeSupply]; exact done_settles _
  | safeClock => rw [exec_safeClock]; exact done_settles _
  | periodicTest => rw [exec_periodicTest]; exact done_settles _
  | safeBind => rw [exec_safeBind]; exact done_settles _
  | safeBindDone => rw [exec_safeBindDone]; exact done_settles _
  | ssmResult => rw [exec_ssmResult]; exact done_settles _
  | pstopEnd => rw [exec_pstopEnd]; exact onDev_settles _ _
  | safeMsgReceive => rw [exec_safeMsgReceive]; exact onDev_settles _ _
  | smsgWd => rw [exec_smsgWd]; exact onDev_settles _ _
  | redListenEnd => rw [exec_redListenEnd]; exact onDev_settles _ _
  | stateFrameReceive => rw [exec_stateFrameReceive]; exact onDev_settles _ _
  | bulkFrameReceive => rw [exec_bulkFrameReceive]; exact done_settles _
  | redHelloReceive => rw [exec_redHelloReceive]; exact onDev_settles _ _
  | redWatchdog => rw [exec_redWatchdog]; exact onDev_settles _ _
  | relinquishReceive => rw [exec_relinquishReceive]; exact onDev_settles _ _
  | takeover => rw [exec_takeover]; exact done_settles _
  | redRelease => rw [exec_redRelease]; exact onDev_settles _ _
  | redDrill => rw [exec_redDrill]; exact onDev_settles _ _
  | drillFrameReceive => rw [exec_drillFrameReceive]; exact onDev_settles _ _
  | pwrReq => rw [exec_pwrReq]; exact onDev_settles _ _
  | pwrFabReq => rw [exec_pwrFabReq]; exact onDev_settles _ _
  | quiesceEnd => rw [exec_quiesceEnd]; exact done_settles _
  | quiesceTimeout => rw [exec_quiesceTimeout]; exact onDev_settles _ _
  | entryDone => rw [exec_entryDone]; exact done_settles _
  | exitDone => rw [exec_exitDone]; exact done_settles _
  | wakeInput => rw [exec_wakeInput]; exact onDev_settles _ _
  | pwrPerf => rw [exec_pwrPerf]; exact onDev_settles _ _
  | solvDividerChange => rw [exec_solvDividerChange]; exact onDev_settles _ _
  | statusPoll => rw [exec_statusPoll]; exact onDev_settles _ _
  | voutTimeout => rw [exec_voutTimeout]; exact onDev_settles _ _
  | pgoodLoss => rw [exec_pgoodLoss]; exact onDev_settles _ _
  | pmbAlert => rw [exec_pmbAlert]; exact onDev_settles _ _
  | pmbusPoll => rw [exec_pmbusPoll]; exact onDev_settles _ _
  | companionLoadStart => rw [exec_companionLoadStart]; exact done_settles _
  | comploadAckReceive => rw [exec_comploadAckReceive]; exact execComploadAckReceive_settles _ _ _ _
  | comploadNackReceive => rw [exec_comploadNackReceive]; exact execComploadNackReceive_settles _ _ _ _
  | comploadReadyReceive => rw [exec_comploadReadyReceive]; exact execComploadReadyReceive_settles _ _ _ _
  | comploadAckTimeout => rw [exec_comploadAckTimeout]; exact done_settles _
  | readyTimeout => rw [exec_readyTimeout]; exact done_settles _
  | updWinWrite => rw [exec_updWinWrite]; exact onDev_settles _ _
  | updOpen => rw [exec_updOpen]; exact done_settles _
  | updProgram => rw [exec_updProgram]; exact done_settles _
  | updCommit => rw [exec_updCommit]; exact done_settles _
  | updAbort => rw [exec_updAbort]; exact done_settles _
  | updRetain => rw [exec_updRetain]; exact done_settles _
  | updWorkDone => rw [exec_updWorkDone]; exact done_settles _
  | updIdleExpire => rw [exec_updIdleExpire]; exact done_settles _
  | patchSelWrite => rw [exec_patchSelWrite]; exact onDev_settles _ _
  | patchIdxWrite => rw [exec_patchIdxWrite]; exact onDev_settles _ _
  | patchDataWrite => rw [exec_patchDataWrite]; exact onDev_settles _ _
  | patchApply => rw [exec_patchApply]; exact onDev_settles _ _
  | patchAbort => rw [exec_patchAbort]; exact onDev_settles _ _
  | tapReset => rw [exec_tapReset]; exact onDev_settles _ _
  | jtagExtest => rw [exec_jtagExtest]; exact onDev_settles _ _
  | jtagSamplePreload => rw [exec_jtagSamplePreload]; exact onDev_settles _ _
  | jtagIdcode => rw [exec_jtagIdcode]; exact onDev_settles _ _
  | jtagHighz => rw [exec_jtagHighz]; exact onDev_settles _ _
  | jtagClamp => rw [exec_jtagClamp]; exact onDev_settles _ _
  | jtagExtestPulse => rw [exec_jtagExtestPulse]; exact onDev_settles _ _
  | jtagExtestTrain => rw [exec_jtagExtestTrain]; exact onDev_settles _ _
  | jtagBypass => rw [exec_jtagBypass]; exact onDev_settles _ _
  | pwmValley => rw [exec_pwmValley]; exact onDev_settles _ _
  | regRead => rw [exec_regRead]; exact onDev_settles _ _
  | bar2Read => rw [exec_bar2Read]; exact execBar2Read_settles _ _
  | pcieConfigWrite => rw [exec_pcieConfigWrite]; exact onDev_settles _ _
  | illegalOpcode => rw [exec_illegalOpcode]; exact execIllegalOpcode_settles _ _
  | globalStoreEffect => rw [exec_globalStoreEffect]; exact done_settles _
  | faultNNetHigh => rw [exec_faultNNetHigh]; exact onDev_settles _ _
  | safeClockRestored => rw [exec_safeClockRestored]; exact done_settles _
  | inputSample => rw [exec_inputSample]; exact onDev_settles _ _
  | railsRetry => rw [exec_railsRetry]; exact onDev_settles _ _

end Sys2Proof.Machine
end

