-- ==== Sys2Proof/Laws/Memory.lean ====
section
/-! SUPPORT. Laws of SRAM and flash: every operation keeps the canonical form, a word reads what was stored, and a store leaves every
other byte alone. -/
namespace Sys2Proof.Machine

theorem tblWf_filter {α : Type} [DecidableEq α] (d : Nat → α) (q : Nat × α → Bool) (l : List (Nat × α)) :
    ∀ lo, tblWf d lo l = true → tblWf d lo (l.filter q) = true := by
  induction l with
  | nil => intro lo h; rfl
  | cons x t ih =>
    intro lo h
    obtain ⟨k, v⟩ := x
    simp only [tblWf, Bool.and_eq_true, decide_eq_true_eq] at h
    have t' := ih (k + 1) h.2
    rw [List.filter_cons]
    split
    · simp only [tblWf, Bool.and_eq_true, decide_eq_true_eq]
      exact ⟨h.1, t'⟩
    · exact tblWf_mono d (by omega) _ t'

theorem Memory.putBytes_wf (dflt : Nat → Byte) (bs : List Byte) :
    ∀ (m : Memory) (a : Nat), m.wf dflt = true → (m.putBytes dflt a bs).wf dflt = true := by
  induction bs with
  | nil => intro m a h; exact h
  | cons b t ih => intro m a h; exact ih _ _ (tblWf_set dflt m a b h)

theorem Memory.putWord_wf (m : Memory) (a : Nat) (w : Word) (h : m.wf sramReset = true) :
    (m.putWord a w).wf sramReset = true := Memory.putBytes_wf _ _ _ _ h

theorem Memory.putWords_wf (ws : List Word) :
    ∀ (m : Memory) (a : Nat), m.wf sramReset = true → (m.putWords a ws).wf sramReset = true := by
  induction ws with
  | nil => intro m a h; exact h
  | cons w t ih => intro m a h; exact ih _ _ (Memory.putWord_wf m a w h)

theorem Memory.clear_wf (dflt : Nat → Byte) (m : Memory) (lo hi : Nat) (h : m.wf dflt = true) :
    (m.clear lo hi).wf dflt = true := tblWf_filter dflt _ m 0 h

/-- A store of bytes leaves every byte outside it alone. -/
theorem Memory.putBytes_get (dflt : Nat → Byte) (bs : List Byte) :
    ∀ (m : Memory) (a b : Nat), b < a ∨ a + bs.length ≤ b → tblGet dflt (m.putBytes dflt a bs) b = tblGet dflt m b := by
  induction bs with
  | nil => intro m a b h; rfl
  | cons x t ih =>
    intro m a b h
    rw [List.length_cons] at h
    have e : b ≠ a := by omega
    rw [Memory.putBytes, ih _ _ _ (by omega), tblGet_set_ne _ _ _ e]

/-- A stored byte reads back. -/
theorem Memory.putBytes_get_in (dflt : Nat → Byte) (bs : List Byte) :
    ∀ (m : Memory) (a i : Nat) (h : i < bs.length), tblGet dflt (m.putBytes dflt a bs) (a + i) = bs[i] := by
  induction bs with
  | nil => intro m a i h; simp at h
  | cons x t ih =>
    intro m a i h
    rw [Memory.putBytes]
    cases i with
    | zero => rw [Memory.putBytes_get dflt t _ _ _ (by omega), Nat.add_zero, tblGet_set_same]; rfl
    | succ j =>
      have := ih (tblSet dflt m a x) (a + 1) j (by simpa using h)
      rw [show a + (j + 1) = a + 1 + j by omega, this]
      rfl

@[simp] theorem leBytes_length (n : Nat) : ∀ v, (leBytes n v).length = n := by
  induction n with
  | zero => intro v; rfl
  | succ n ih => intro v; simp [leBytes, ih]

/-- A store of a word leaves every byte outside its four alone. -/
theorem Memory.putWord_get (m : Memory) (a b : Nat) (w : Word) (h : b < a ∨ a + 4 ≤ b) :
    tblGet sramReset (m.putWord a w) b = tblGet sramReset m b :=
  Memory.putBytes_get _ _ _ _ _ (by simpa using h)

theorem Memory.putWords_get (ws : List Word) :
    ∀ (m : Memory) (a b : Nat), b < a ∨ a + 4 * ws.length ≤ b →
      tblGet sramReset (m.putWords a ws) b = tblGet sramReset m b := by
  induction ws with
  | nil => intro m a b h; rfl
  | cons w t ih =>
    intro m a b h
    rw [List.length_cons] at h
    rw [Memory.putWords, ih _ _ _ (by omega), Memory.putWord_get _ _ _ _ (by omega)]

theorem leNat_leBytes (n : Nat) : ∀ v, leNat (leBytes n v) = v % 256 ^ n := by
  induction n with
  | zero => intro v; simp [leBytes, leNat, Nat.mod_one]
  | succ n ih =>
    intro v
    have e : v % (256 * 256 ^ n) = v % 256 + 256 * (v / 256 % 256 ^ n) := Nat.mod_mul
    rw [leBytes, leNat, ih, BitVec.toNat_ofNat, show (2 : Nat) ^ 8 = 256 by norm_num,
      show (256 : Nat) ^ (n + 1) = 256 * 256 ^ n from Nat.pow_succ', e]

/-- A stored word reads back. -/
theorem Memory.word_putWord (m : Memory) (a : Nat) (w : Word) : (m.putWord a w).word a = w := by
  have g : ∀ i (h : i < (leBytes 4 w.toNat).length), tblGet sramReset (m.putWord a w) (a + i) = (leBytes 4 w.toNat)[i] :=
    fun i h => Memory.putBytes_get_in sramReset _ m a i h
  have e : (List.range 4).map (fun i => tblGet sramReset (m.putWord a w) (a + i)) = leBytes 4 w.toNat := by
    apply List.ext_getElem
    · simp
    · intro i h1 h2
      simp only [List.getElem_map, List.getElem_range]
      exact g i h2
  rw [Memory.word, e, leNat_leBytes, show (256 : Nat) ^ 4 = 2 ^ 32 by norm_num, Nat.mod_eq_of_lt w.isLt, BitVec.ofNat_toNat,
    BitVec.setWidth_eq]

/-- A word outside the one stored reads as before. -/
theorem Memory.word_putWord_ne (m : Memory) (a b : Nat) (w : Word) (h : b + 4 ≤ a ∨ a + 4 ≤ b) :
    (m.putWord a w).word b = m.word b := by
  have e : (List.range 4).map (fun i => tblGet sramReset (m.putWord a w) (b + i))
      = (List.range 4).map (fun i => tblGet sramReset m (b + i)) := by
    apply List.map_congr_left
    intro i hi
    have := List.mem_range.mp hi
    exact Memory.putWord_get m a (b + i) w (by omega)
  rw [Memory.word, e, ← Memory.word]

end Sys2Proof.Machine
end

