-- ==== Sys2Proof/Laws/Update.lean ====
section
/-! SUPPORT. The commands in progress, and what a staged buffer laid over the flash as the image's sector 0 reads as. -/
namespace Sys2Proof.Machine

/-- A command that is accepted joins those in progress, whatever its place. -/
@[simp] theorem updQueue_length (w : UpdWork) (l : List UpdWork) : (updQueue w l).length = l.length + 1 := by
  induction l with
  | nil => rfl
  | cons x r ih => unfold updQueue; split <;> simp [ih]

theorem leBytes_get (n : Nat) : ∀ (v i : Nat) (h : i < (leBytes n v).length), (leBytes n v)[i] = BitVec.ofNat 8 (v / 256 ^ i) := by
  induction n with
  | zero => intro v i h; simp [leBytes] at h
  | succ n ih =>
    intro v i h
    cases i with
    | zero => simp [leBytes]
    | succ i =>
      simp only [leBytes, List.getElem_cons_succ]
      rw [ih]
      rw [Nat.div_div_eq_div_mul, Nat.pow_succ, Nat.mul_comm 256]

/-- The bytes of a buffer are those of its words, lowest byte first. -/
theorem bufBytes_length (l : List (Nat × Word)) (n : Nat) : (bufBytes l n).length = 4 * n := by
  unfold bufBytes
  rw [List.length_flatMap]
  simp [Nat.mul_comm]

theorem bufBytes_succ (l : List (Nat × Word)) (n : Nat) : bufBytes l (n + 1) = bufBytes l n ++ leBytes 4 (tget l n).toNat := by
  unfold bufBytes
  rw [List.range_succ, List.flatMap_append]; simp

theorem bufBytes_get (l : List (Nat × Word)) (n i : Nat) (h : i < (bufBytes l n).length) :
    (bufBytes l n)[i] = BitVec.ofNat 8 ((tget l (i / 4)).toNat / 256 ^ (i % 4)) := by
  induction n with
  | zero => simp [bufBytes] at h
  | succ n ih =>
    have e := bufBytes_succ l n
    have hl := bufBytes_length l n
    have hs := bufBytes_length l (n + 1)
    by_cases c : i < 4 * n
    · have : (bufBytes l (n + 1))[i] = (bufBytes l n)[i]'(by omega) := by
        simp only [e]; rw [List.getElem_append_left (by omega)]
      rw [this, ih]
    · have : (bufBytes l (n + 1))[i] = (leBytes 4 (tget l n).toNat)[i - 4 * n]'(by simp; omega) := by
        simp only [e]; rw [List.getElem_append_right (by omega)]; simp [hl]
      rw [this, leBytes_get]
      have a : i / 4 = n := by omega
      have b : i - 4 * n = i % 4 := by omega
      rw [a, b]

/-- The image that a staged sector 0 makes reads, within the sector, as the staged words. -/
theorem overImg_apply (l : List (Nat × Word)) (m : Memory) (a n : Nat) (h : a + n ≤ 65536) :
    overImg l m a n = (List.range n).map (fun i => BitVec.ofNat 8 ((tget l ((a + i) / 4)).toNat / 256 ^ ((a + i) % 4))) := by
  unfold overImg flashImg Memory.flashBytes
  apply List.map_congr_left
  intro i hi
  have hi : i < n := List.mem_range.mp hi
  have hb := bufBytes_length l 16384
  have g := Memory.putBytes_get_in flashReset (bufBytes l 16384) (m.clear 0 0x10000) 0 (a + i) (by omega)
  rw [Nat.zero_add] at g
  rw [g, bufBytes_get]

end Sys2Proof.Machine
end

