-- ==== Sys2Proof/WellFormed.lean ====
section
/-! DEFINITION. What the operands' types do not already say of a command: a core has an index of 0 to 15 (14 R334), a frame carries at
most 64 words (05 Table 5.4), an MSPI frame carries at least one byte (03 R72), a frame of the private link has at
most 1,028 words (18 Table 18.2), and a DMA transfer moves at most 2^22 words. Every other operand is of a bounded type. -/
namespace Sys2Proof

/-- A port is one the device has. -/
def Port.wf : Port → Bool
  | .sp c => decide (c < 16)
  | _ => true

/-- A frame of the line is no longer than a frame can be. -/
def Frame.wf (f : Frame) : Bool := decide (f.body.length ≤ 64)

/-- A command that the outside can give. -/
def Instr.wf : Instr → Bool
  | .vbusRise => true
  | .resetNRise => true
  | .powerLoss _ _ => true
  | .pgoodRise _ => true
  | .railsTimeout => true
  | .pllLock => true
  | .pllLockTimeout => true
  | .bistDone _ => true
  | .imageLoad _ _ _ _ _ => true
  | .islandSelftestDone _ => true
  | .enterRun _ => true
  | .cycStart _ => true
  | .halfTick => true
  | .currentStage => true
  | .vbusLow => true
  | .inCut => true
  | .loopOverrun _ => true
  | .arbTick => true
  | .planExhausted _ => true
  | .trajEnd => true
  | .trajLate _ => true
  | .snap => true
  | .usTick => true
  | .pllLoss _ => true
  | .sramScrubError _ _ => true
  | .extFault => true
  | .overtemp => true
  | .regWrite p _ _ _ => p.wf
  | .bar2Write _ _ _ => true
  | .eventWriteBack p _ _ => p.wf
  | .counterLoad p => p.wf
  | .guardValueWrite p _ _ => p.wf
  | .guardTimeout p => p.wf
  | .csrParity _ => true
  | .clockRegate _ => true
  | .pcieReset _ => true
  | .msixUnmask _ => true
  | .mspiWriteFrame bytes => !bytes.isEmpty
  | .mspiReadFrame bytes => !bytes.isEmpty
  | .dmaStart _ => true
  | .dmaAbort _ => true
  | .dmaEnd _ _ data => decide (data.length ≤ 2 ^ 22)
  | .dmaHostTimeout _ data => decide (data.length ≤ 2 ^ 22)
  | .tunnelStart => true
  | .tunnelRequest _ f _ => f.wf
  | .tunnelResponse _ f _ => f.wf
  | .tunnelTimeout => true
  | .nomTrimWrite p _ => p.wf
  | .syncReceive _ f _ => f.wf
  | .ppsInEdge _ _ => true
  | .todAlign => true
  | .ppsLoss _ => true
  | .ppsOutPulse => true
  | .evModeWrite _ _ => true
  | .evArm _ => true
  | .evTgtWrite _ _ _ => true
  | .tevFire _ _ => true
  | .trigCapture _ _ _ => true
  | .portModeWrite _ _ => true
  | .portSignalDetect _ => true
  | .portSignalLoss _ => true
  | .portAlign _ _ => true
  | .alignLoss _ _ => true
  | .frameReceive _ f _ => f.wf
  | .egressSend _ => true
  | .delayReqSend => true
  | .delayReqReceive _ f _ => f.wf
  | .delayRspReceive _ f _ => f.wf
  | .delayRspTimeout _ => true
  | .dlyValidLoss _ => true
  | .helloReceive _ f _ => f.wf
  | .discoveryStart => true
  | .probeReceive _ f _ => f.wf
  | .reportReceive _ f _ => f.wf
  | .tableReceive _ f _ => f.wf
  | .commitReceive _ f _ => f.wf
  | .discAckReceive _ f _ => f.wf
  | .discNackReceive _ f _ => f.wf
  | .discRetryTimeout => true
  | .discoveryRepeat => true
  | .prbsChkEnable _ => true
  | .prbsInj _ => true
  | .injCode _ => true
  | .injCrc _ => true
  | .prbsLock _ => true
  | .prbsLockLoss _ _ _ => true
  | .enterListen => true
  | .listenTimerExpire => true
  | .dawnReceive _ f _ => f.wf
  | .dawnWaitTimeout => true
  | .dawnWindowEnd => true
  | .noSyncTimeout => true
  | .integrationTimeout => true
  | .holdMaxSilence => true
  | .zenithSuccession => true
  | .slotTx _ => true
  | .windowClose _ => true
  | .ageFault _ => true
  | .echoReceive _ f _ => f.wf
  | .modePropose p _ => p.wf
  | .quadTransition _ _ _ _ => true
  | .quadFault _ => true
  | .zEdge _ => true
  | .stepInputEdge _ _ _ => true
  | .standstillTimeout _ _ => true
  | .encWordDone _ _ => true
  | .encFault _ => true
  | .encStandstill _ _ => true
  | .divOutputStep _ _ => true
  | .divCtlWrite _ _ => true
  | .divRatioWrite _ _ => true
  | .rseqTrigger _ _ => true
  | .conversionDone _ _ => true
  | .cmpEvent _ _ => true
  | .adcCal _ => true
  | .calStart _ => true
  | .calStepEnd _ => true
  | .calDone _ _ => true
  | .calWaitTimeout _ => true
  | .bgWindowEnd _ _ _ => true
  | .bgTrimUpdate _ _ => true
  | .trajNop _ _ _ => true
  | .moveAbs _ _ _ => true
  | .moveRel _ _ _ => true
  | .jogPos _ _ _ => true
  | .jogNeg _ _ _ => true
  | .axisStop _ _ _ => true
  | .axisResume _ _ _ => true
  | .axisLimits _ _ _ => true
  | .gearEngage _ _ _ => true
  | .gearChange _ _ _ => true
  | .gearOff _ _ _ => true
  | .setPos _ _ _ => true
  | .pathOn _ => true
  | .pathOff _ => true
  | .groupStop _ => true
  | .groupResume _ => true
  | .stepEmit _ _ => true
  | .energise _ => true
  | .deenergise _ => true
  | .bootEnd _ => true
  | .compTimeout _ => true
  | .angOfsWrite p _ _ => p.wf
  | .tripInput _ _ => true
  | .tripClr _ => true
  | .feedbackReceive _ f _ => f.wf
  | .solvPublish _ => true
  | .solvCold _ => true
  | .solveStart => true
  | .factorDone => true
  | .iterationDone => true
  | .checkDone => true
  | .outputDone => true
  | .solvDeadline _ => true
  | .solvFrameReceive _ f _ => f.wf
  | .arbReserve p _ => p.wf
  | .arbExtend p _ => p.wf
  | .arbRelease p _ => p.wf
  | .arbRevoke p _ => p.wf
  | .arbFrameReceive _ f _ => f.wf
  | .reservationExpire => true
  | .arbRetryTimeout _ _ => true
  | .restoreEnd => true
  | .spNop _ => true
  | .spAdd _ _ _ _ => true
  | .spSub _ _ _ _ => true
  | .spAnd _ _ _ _ => true
  | .spOr _ _ _ _ => true
  | .spXor _ _ _ _ => true
  | .spAsh _ _ _ _ => true
  | .spLsh _ _ _ _ => true
  | .spMul _ _ _ _ => true
  | .spMulh _ _ _ _ => true
  | .spMin _ _ _ _ => true
  | .spMax _ _ _ _ => true
  | .spAbs _ _ _ => true
  | .spNeg _ _ _ => true
  | .spCmp _ _ _ => true
  | .spMov _ _ _ => true
  | .spMfc _ _ _ => true
  | .spMtc _ _ _ => true
  | .spExa _ _ _ _ => true
  | .spLda _ _ _ _ => true
  | .spClra _ _ => true
  | .spNorm _ _ _ => true
  | .spAdda _ _ _ => true
  | .spAddi _ _ _ _ => true
  | .spAndi _ _ _ _ => true
  | .spOri _ _ _ _ => true
  | .spXori _ _ _ _ => true
  | .spMovi _ _ _ => true
  | .spMovhi _ _ _ => true
  | .spAshi _ _ _ _ => true
  | .spLshi _ _ _ _ => true
  | .spLd _ _ _ _ => true
  | .spSt _ _ _ _ => true
  | .spLdg _ _ _ _ => true
  | .spStg _ _ _ _ => true
  | .spCmpi _ _ _ => true
  | .spModa _ _ _ => true
  | .spJ _ _ => true
  | .spJc _ _ _ => true
  | .spCall _ _ => true
  | .spRet _ => true
  | .spJr _ _ => true
  | .spLoopi _ _ _ => true
  | .spLoop _ _ _ => true
  | .spEndl _ => true
  | .spGettask _ _ => true
  | .spTdone _ _ _ => true
  | .spTpost _ _ _ => true
  | .spRfe _ => true
  | .spSync _ => true
  | .spBset _ _ => true
  | .spBclr _ _ => true
  | .spMpy _ _ _ _ _ _ => true
  | .spMac _ _ _ _ _ _ => true
  | .spMsu _ _ _ _ _ _ => true
  | .spMovp _ _ _ => true
  | .spTap _ _ _ _ => true
  | .spMacm _ _ _ _ => true
  | .spClrm _ _ _ _ => true
  | .eventTake _ => true
  | .taskHandover _ _ => true
  | .spHalt _ => true
  | .spResume _ => true
  | .spStep _ => true
  | .doorRing _ => true
  | .schedPost p _ _ => p.wf
  | .schedDpost _ _ => true
  | .delayDue _ => true
  | .periodDue _ => true
  | .affinityExpire _ => true
  | .mailboxWrite p _ _ => p.wf
  | .contrailReset => true
  | .safeEvaluation => true
  | .discFault _ => true
  | .stopTExpire _ => true
  | .offPulse _ => true
  | .xlink => true
  | .cmdMismatch => true
  | .safeSupply => true
  | .safeClock _ => true
  | .periodicTest _ => true
  | .safeBind p _ => p.wf
  | .safeBindDone _ => true
  | .ssmResult => true
  | .pstopEnd _ => true
  | .safeMsgReceive _ f _ => f.wf
  | .smsgWd _ => true
  | .redListenEnd => true
  | .stateFrameReceive ws _ => decide (ws.length ≤ 1028)
  | .bulkFrameReceive ws _ => decide (ws.length ≤ 1028)
  | .redHelloReceive ws _ => decide (ws.length ≤ 1028)
  | .redWatchdog => true
  | .relinquishReceive ws _ => decide (ws.length ≤ 1028)
  | .takeover => true
  | .redRelease p => p.wf
  | .redDrill p => p.wf
  | .drillFrameReceive ws _ => decide (ws.length ≤ 1028)
  | .pwrReq p _ => p.wf
  | .pwrFabReq p _ => p.wf
  | .quiesceEnd => true
  | .quiesceTimeout => true
  | .entryDone => true
  | .exitDone => true
  | .wakeInput _ => true
  | .pwrPerf p _ _ => p.wf
  | .solvDividerChange _ => true
  | .statusPoll _ => true
  | .voutTimeout => true
  | .pgoodLoss => true
  | .pmbAlert _ => true
  | .pmbusPoll _ _ _ => true
  | .companionLoadStart => true
  | .comploadAckReceive _ f _ => f.wf
  | .comploadNackReceive _ f _ => f.wf
  | .comploadReadyReceive _ f _ => f.wf
  | .comploadAckTimeout => true
  | .readyTimeout => true
  | .updWinWrite p _ _ _ => p.wf
  | .updOpen p _ => p.wf
  | .updProgram p _ _ => p.wf
  | .updCommit p _ => p.wf
  | .updAbort p _ => p.wf
  | .updRetain p _ _ => p.wf
  | .updWorkDone _ => true
  | .updIdleExpire => true
  | .patchSelWrite _ => true
  | .patchIdxWrite _ => true
  | .patchDataWrite _ => true
  | .patchApply => true
  | .patchAbort => true
  | .tapReset => true
  | .jtagExtest => true
  | .jtagSamplePreload => true
  | .jtagIdcode => true
  | .jtagHighz => true
  | .jtagClamp => true
  | .jtagExtestPulse => true
  | .jtagExtestTrain => true
  | .jtagBypass => true
  | .pwmValley _ => true
  | .regRead p _ _ => p.wf
  | .bar2Read _ => true
  | .pcieConfigWrite _ => true
  | .illegalOpcode _ => true
  | .globalStoreEffect _ => true
  | .faultNNetHigh => true
  | .safeClockRestored => true
  | .inputSample _ _ _ => true
  | .railsRetry => true

end Sys2Proof
end

