-- ==== Sys2Proof/Tests/Slice0.lean ====
section
/-! SUPPORT. Tests: what the well-formedness check refuses, words and digests by hand from the spec and the standards, steps on small states, and for
every statement with hypotheses a state that meets them. -/
namespace Sys2Proof.Tests
open Sys2Proof Sys2Proof.Machine Sys2Proof.Config
set_option maxRecDepth 100000
set_option Elab.async false

/-- A device whose registers are as at reset but for some fields. -/
def dv (l : List (Fld × Nat)) : Dev := l.foldl (fun d x => d.put x.1 x.2) Dev.reset

/-- A state with a device, its memories as at reset. -/
def on (d : Dev) : State := { State.reset with dev := d }

/-- A device whose port 0 is UP, with some fields. -/
def lnk (l : List (Fld × Nat)) : Dev := dv ((F.LINK_PORT_STS_STATE 0, 3) :: l)

/-- A frame to this node by its class-3 route. -/
def fr (typ stream : Nat) (body : List Word) : Frame := Dev.reset.mkFrame typ 0 3 stream body

/-- A device whose time runs at an instant, with some fields. -/
def tmAt (ns : Nat) (l : List (Fld × Nat)) : Dev :=
  let d := dv l
  { d with time := { d.time with running := true, now := ns * 2 ^ 32 } }

/-! Registers. -/

/-- A device in RUN whose host has access. -/
def up10 : Dev := { dv [(F.CFG_BOOT_STS_STAGE, 10)] with host := { Dev.reset.host with granted := true } }

/-- The same with a value that waits at V. -/
def guardAt (v x : Nat) : Dev := up10.setGuard .pcie (some (v, x))

theorem wit_reaches : up10.reaches .pcie 0x44 ∧ up10.reaches .mspi R.SYS_CNT_CMD ∧ up10.reaches .tunnel 0x44 ∧ up10.guardOf .pcie = none := by
  unfold Dev.reaches; decide +kernel

theorem wit_takes : up10.takes .pcie R.PWR_REQ ∧ up10.takes .pcie (R.PWR_REQ + 4) ∧ up10.takes .pcie 0x44 ∧ up10.takes .mspi 0x44 ∧ up10.takes .tunnel 0x44 ∧
    ({ up10 with host := { up10.host with recovery := true } } : Dev).reaches .pcie (R.LINK_PORT_CTL 7) ∧
    R.LINK_PORT_CTL 7 / 0x100000 = 3 := by
  unfold Dev.takes Dev.reaches; decide +kernel

theorem wit_plain : (∃ r, plainReg .pcie 0x44 r ∧ r.rc = 0) ∧ (∃ r, plainReg .pcie R.SYS_FAULT_EVT r ∧ r.rc ≠ 0) ∧
    (∃ r, plainReg .tunnel 0x44 r ∧ r.rc = 0) ∧ (∃ r, plainReg .mspi 0x44 r ∧ r.rc = 0) := by
  refine ⟨⟨(regAt 0x44).get (by decide), ⟨by simp, by decide, by decide, by decide⟩, by decide⟩,
    ⟨(regAt R.SYS_FAULT_EVT).get (by decide), ⟨by simp, by decide, by decide, by decide⟩, by decide⟩,
    ⟨(regAt 0x44).get (by decide), ⟨by simp, by decide, by decide, by decide⟩, by decide⟩,
    ⟨(regAt 0x44).get (by decide), ⟨by simp, by decide, by decide, by decide⟩, by decide⟩⟩

theorem wit_RegisterAccess : Dev.reset.mayAccess .pcie = false ∧ up10.mayAccess .pcie = true ∧ up10.blockOff 0xB00000 = false ∧
    guardedAt R.PWR_REQ = true ∧ guardedAt (R.PWR_REQ + 4) = false ∧ (guardAt 0x44 7).guardOf .pcie = some (0x44, 7) ∧
    (guardAt R.PWR_REQ 3).guardOf .pcie = some (R.PWR_REQ, 3) ∧ up10.pwrPhase < 2 ∧
    (regAt (4 * (dv [(F.SYS_CNT_SEL_OFFSET, 0x18 / 4)]).get F.SYS_CNT_SEL_OFFSET)).any (fun r => r.cnt != 0) = true ∧
    (regAt (4 * up10.get F.SYS_CNT_SEL_OFFSET)).any (fun r => r.cnt == 0) = true ∧
    (regAt 0x44).any (fun r => r.rw != 0) = true ∧ up10.answers = true := by decide +kernel

theorem wit_HostReads : ({ up10 with host := { up10.host with d3hot := true } } : Dev).mayAccess .pcie = false ∧ partners 0x44 = [] ∧
    copyOf (R.SPC_WIN 0 0) 4 1024 0x44 = none ∧ up10.host.snaps = [] ∧ 0x44 ∉ [R.TIME_NOW_HI, R.TIME_NOW_FRAC, R.UPD_CRC] ∧
    up10.bar2Bad true 0x1200000 = some 4 ∧ up10.bar2Bad true 0x1FFFFFC = some 2 ∧ up10.bar2Bad true 0 = none ∧
    up10.bar2Bad false 0x7FFFFC = none ∧ bar2Region 0x7FFFFC ≠ 3 ∧ (dv [(F.LOOP_STS_ENERGISED 127, 1)]).energised 127 = true ∧
    Dev.reset.energised 127 = false ∧ bar2Region 0x13FFFFC = 3 ∧ up10.bar2Bad false 0x13FFFFC = none ∧ up10.boot.shadow = false ∧
    up10.eccBad = [] := by decide +kernel

/-- A device whose channel n runs on 16 bytes at 0. -/
def dmaAt (n : Nat) (out : Bool) : Dev := { up10 with host := { up10.host with dmaRun := [(n, 0, 16)], dmaToHost := if out then [n] else [] } }

theorem wit_Endpoint : (dmaAt 7 false).dmaOf 7 = some (0, 16) ∧ ({ up10 with host := { up10.host with msixEn := true, pba := 2 ^ 63 } } : Dev).host.msixEn = true ∧
    bitOf (2 ^ 63) 63 = true ∧ up10.host.d3hot = false := by decide +kernel

/-- A write frame of one word for 0x44, its CRC-8 off by k. -/
def mspiW (k : Nat) : List Byte :=
  [2, 0, 0, 0, 0x44, 0, 1, 2, 3, 4, BitVec.ofNat 8 (crc8 [2, 0, 0, 0, 0x44, 0, 1, 2, 3, 4] + k)]

theorem wit_Mspi : (mspiW 0).length = 7 + 4 * 1 ∧ crc8 ((mspiW 0).take 10) = ((mspiW 0).getD 10 0).toNat ∧
    ¬ crc8 ((mspiW 1).take 10) = ((mspiW 1).getD 10 0).toNat ∧ beNat (((mspiW 0).drop 1).take 4) = 0x44 ∧ mspiAddrBad 0x44 = false ∧
    (([3, 0, 0, 0, 0, 15] ++ List.replicate 67 0 : List Byte).getD 5 0).toNat + 1 = 16 ∧
    ([3, 0, 0, 0, 0, 15] ++ List.replicate 67 0 : List Byte).length = 9 + 4 * 16 := by decide +kernel

theorem wit_Dma : (dv [(F.SYS_DMA_LEN_VALUE 7, 0x1000000 + 4)]).dmaBad 7 = true ∧ (dv [(F.SYS_DMA_LEN_VALUE 7, 4)]).dmaBad 7 = false ∧
    (dmaAt 7 false).dmaOf 7 = some (0, 16) ∧ (dmaAt 7 true).host.dmaToHost = [7] ∧ (dmaAt 7 false).regionOff 0 = false ∧
    (dmaAt 7 false).flag (F.SYS_DMA_CTL_ABORT 7) = false ∧ (dmaAt 7 true).eccBad = [] ∧
    (∀ b ∈ ({ dmaAt 7 true with eccBad := [16] } : Dev).eccBad, b < 0 ∨ 0 + 16 ≤ b) ∧ (dmaAt 7 true).boot.shadow = false := by decide +kernel

/-! Tunnel, device faults, time. -/

/-- A node that node 1 knows, with a tunnel request to node 1 whose TAG is 5 outstanding. -/
def tunUp (op n : Nat) (fin : List Nat) : Dev :=
  let d := lnk [(F.LINK_RTA_EGR_A 1, 0), (F.LINK_RTA_EGR_A 0, 8), (F.SYS_TUN_CTL_DST, 1), (F.SYS_TUN_WMASK_TUN_WMASK, 1), (F.CFG_BOOT_STS_STAGE, 10)]
  { d.wr R.SYS_TUN_WNODES 1 with host := { d.host with tunReq := some (0, 5, op, n), tunFin := fin } }

/-- A response or request frame. -/
def tunFr (kind op l off : Nat) (ws : List Word) : Frame :=
  fr 8 0 ([BitVec.ofNat 32 (kind * 2 ^ 24 + 5 * 2 ^ 16 + op * 2 ^ 14 + l * 2 ^ 8), BitVec.ofNat 32 off, 0] ++ ws)

theorem wit_Tunnel : (dv [(F.SYS_TUN_STS_BUSY, 1)]).flag F.SYS_TUN_STS_BUSY = true ∧ Dev.reset.tunRoute 0 = false ∧
    (tunUp 1 60 []).tunRoute 1 = true ∧ (tunUp 1 60 []).flag F.SYS_TUN_STS_BUSY = false ∧ Dev.reset.host.tunReq = none ∧
    (tunUp 1 60 []).host.tunReq ≠ none ∧ (Dev.reset.frameIn 0 (tunFr 2 1 59 0x44 []) 0).2 = false ∧
    ((tunUp 1 60 []).frameIn 0 (tunFr 2 1 59 0x44 (List.replicate 60 7)) 0).2 = true ∧ (tunFr 2 1 59 0x44 []).typ = 8 ∧
    bitsOf ((tunFr 2 1 59 0x44 []).w 0) 31 24 = 2 ∧ bitsOf ((tunFr 2 1 59 0x44 []).w 0) 23 16 = 5 ∧
    ((lnk []).frameIn 0 (tunFr 2 1 59 0x44 []) 0).2 = true := by decide +kernel

theorem wit_TunnelServe : ((tunUp 1 60 []).frameIn 0 (tunFr 1 2 0 0x44 [9]) 0).2 = true ∧ bitsOf ((tunFr 1 2 0 0x44 [9]).w 0) 31 24 = 1 ∧
    5 ≤ ((tunUp 1 60 [9, 9, 9, 9, 9]).host.tunFin.filter (fun t => decide ((tunUp 1 60 [9, 9, 9, 9, 9]).nowPs.toNat < t))).length ∧
    (tunUp 1 60 []).tunAllowed 0 2 0x44 1 = true ∧ (tunUp 1 60 []).tunAllowed 0 2 0x100044 1 = false ∧
    bitsOf ((tunFr 1 2 0 0x44 [9]).w 0) 15 14 = 2 ∧ bitsOf ((tunFr 1 2 0 0x44 [9]).w 0) 13 8 = 0 ∧
    (tunFr 1 2 0 0x44 [9]).body.drop 3 = [9] ∧ (tunUp 1 60 []).host.tunFab.contains (0, 5) = false ∧
    0x44 / 0x100000 ≠ 3 ∧ 0x44 ≠ R.SYS_TUN_CNT := by decide +kernel

theorem wit_TunnelWrite : let d := ((tunUp 1 60 []).frameIn 0 (tunFr 1 2 0 0x44 [9]) 0).1
    d.takes .tunnel 0x44 ∧ d.guardOf .tunnel = none ∧ d.tunAllowed 0 2 0x44 1 = true ∧
    (d.host.tunFin.filter (fun t => decide (d.nowPs.toNat < t))).length < 5 := by
  unfold Dev.takes Dev.reaches; decide +kernel

theorem wit_DeviceFaults : Dev.reset.time.running = false ∧ ({ Dev.reset with time := { Dev.reset.time with running := true } } : Dev).time.running = true ∧
    (dv [(F.RED_STS_ROLE, 2)]).redRole = 2 ∧ bar2Region 0x1000000 = 2 ∧ bar2Region 0xFFFFFC ≠ 2 ∧ bar2Region 0x1880000 = 0x7F ∧
    Dev.reset.regionOff (bar2Region 0x1000000) = false ∧
    ({ Dev.reset with pwr := { Dev.reset.pwr with off := 1 } } : Dev).regionOff (bar2Region 0x800000) = true ∧
    ({ Dev.reset with adc := { Dev.reset.adc with hotRun := 32 } } : Dev).adc.hotRun = 32 ∧ Dev.reset.causeOn .overtemp 0 = false ∧
    Dev.reset.trailOn 15 = true ∧ (dv [(F.SCHED_CTR_CTL_KMASK, 0x7FFE)]).trailOn 15 = false := by decide +kernel

theorem wit_ClockCommands : (tmAt 0 []).tickInc = 5 * 2 ^ 32 ∧ (tmAt 0 []).nowNs < 1 ∧ (sInt 32 8589935).natAbs ≤ 8589935 ∧
    8589935 < (sInt 32 (2 ^ 32 - 8589936)).natAbs ∧ (true != ((tmAt 0 []).runBelow 7).flag F.TIME_PPS_CTL_PPS_IN_POL) = true ∧
    (tmAt 0 []).time.ppsLast = none ∧ ((tmAt 0 []).runBelow 7).isZenith = false ∧ (dv [(F.LINK_SCHED_STS_SSTATE, 5)]).sstate = 5 ∧
    (({ tmAt 0 [(F.TIME_SERVO_STS_ROLE, 2), (F.TIME_PPS_CTL_PPS_EN, 1)] with
      time := { (tmAt 0 []).time with aligned := true } } : Dev)).isZenith = true ∧
    ((1000000000 : Nat) : Int) = (((tmAt 0 []).nowNs + (tmAt 0 []).todOffset) / 1000000000 + 1) * 1000000000 - (tmAt 0 []).todOffset ∧
    (tmAt 0 [(F.TIME_PPS_CTL_PPS_OUT_EN, 1), (F.TIME_SERVO_STS_TOD_VALID, 1)]).flag F.TIME_SERVO_STS_TOD_VALID = true ∧
    (tmAt 0 []).time.ppsOutLast = none ∧ 7 + 500000000 ≤ (tmAt 0 []).upAt 500000007 ∧
    7 + 500000000 ≤ ((tmAt 0 []).runTo 500000007).upNs ∧ 7 + 1500000000 ≤ ((tmAt 0 []).runTo 1500000007).upNs := by decide +kernel

theorem wit_EventChannels : (dv [(F.TIME_EV_CTL_MODE 7, 1)]).get (F.TIME_EV_CTL_MODE 7) = 1 ∧
    (dv [(F.TIME_EV_CTL_MODE 7, 1), (F.TIME_EV_CTL_ARM 7, 1)]).flag (F.TIME_EV_CTL_ARM 7) = true ∧
    (dv [(F.TIME_EV_CTL_MODE 7, 1), (F.TIME_EV_CTL_ARM 7, 1)]).evDue 7 = some 0 ∧
    (dv [(F.TIME_EV_CTL_MODE 0, 3), (F.TIME_EV_CTL_EDGE 0, 1)]).get (F.TIME_EV_CTL_MODE 0) = 3 ∧
    bitOf ((dv [(F.TIME_EV_CTL_MODE 0, 3), (F.TIME_EV_CTL_EDGE 0, 1)]).get (F.TIME_EV_CTL_EDGE 0)) 0 = true ∧
    (tget Dev.reset.time.ev 0).lastEdge = none ∧ Dev.reset.flag (F.ADC_TRIG_EN 0) = false ∧ 3 + 10 ≤ (tmAt 0 []).upAt 13 ∧
    ((tmAt 0 [(F.TIME_EV_CTL_MODE 0, 3), (F.TIME_EV_CTL_EDGE 0, 1)]).runBelow 7).captureAt ⟨0, none⟩ = true ∧
    ((tmAt 0 []).runBelow 7).captureAt ⟨0, some 159⟩ = false := by decide +kernel

theorem wit_CycleStart : (tmAt 0 []).time.running = true ∧ (tmAt 0 []).time.pendCfg = none ∧
    ({ (tmAt 0 []).time with pendCfg := some (62500, 20000, 32) } : TimeSt).pendCfg = some (62500, 20000, 32) := by decide +kernel

theorem wit_IntegrationStep : (dv [(F.LINK_SCHED_STS_SSTATE, 1)]).sstate = 1 ∧ (dv [(F.LINK_SCHED_STS_SSTATE, 1)]).recentDawns = [] ∧
    (dv [(F.LINK_SCHED_STS_SSTATE, 3)]).sstate = 3 ∧ (dv [(F.LINK_SCHED_STS_SSTATE, 4)]).sstate = 4 ∧
    (fr 1 0xFFFF []).src = Dev.reset.zenithId ∧
    ({ dv [(F.LINK_SCHED_STS_SSTATE, 1)] with link := { Dev.reset.link with dawns := [(0, 0), (5, 0)] } } : Dev).recentDawns = [0, 5] ∧
    ({ dv [(F.LINK_SCHED_STS_SSTATE, 1)] with link := { Dev.reset.link with dawns := [(5, 0)] } } : Dev).recentDawns = [5] ∧
    (∀ n ∈ [0, 5], (fr 1 0xFFFF []).src ≤ n) ∧ (fr 1 0xFFFF []).src ∈ [0, 5] ∧ (fr 1 0xFFFF []).src ∉ [5] := by decide +kernel

/-! Links. -/

/-- Port p's hidden state set. -/
def atPort (d : Dev) (p : Nat) (q : PortSt) : Dev := { d with link := { d.link with ports := [(p, q)] } }

/-- A device in recovery. -/
def recov : Dev := { Dev.reset with host := { Dev.reset.host with recovery := true } }

theorem wit_PortStatesAndPatterns : Dev.reset.portState 7 = 0 ∧ (dv [(F.LINK_PORT_CTL_MODE 7, 1)]).get (F.LINK_PORT_CTL_MODE 7) = 1 ∧
    (dv [(F.LINK_PORT_STS_STATE 0, 1)]).portState 0 = 1 ∧ (dv [(F.LINK_PORT_STS_STATE 7, 2)]).portState 7 = 2 ∧ (3 : Word).toNat % 4 ≠ 1 ∧
    Dev.reset.flag (F.LINK_PRBS_CTL_CHK_EN 9) = false ∧ (dv [(F.LINK_PRBS_CTL_GEN_EN 9, 1)]).flag (F.LINK_PRBS_CTL_GEN_EN 9) = true ∧
    (dv [(F.LINK_PRBS_CTL_GEN_EN 9, 1)]).prbsActs 9 = true ∧ (dv [(F.LINK_PORT_CTL_MODE 0, 2)]).prbsActs 0 = true ∧
    (dv [(F.LINK_PRBS_CTL_CHK_EN 9, 1)]).flag (F.LINK_PRBS_CTL_CHK_EN 9) = true ∧ Dev.reset.flag (F.LINK_PRBS_STS_LOCK 9) = false ∧
    (dv [(F.LINK_PRBS_STS_LOCK 9, 1)]).flag (F.LINK_PRBS_STS_LOCK 9) = true ∧ (tget Dev.reset.link.rx 9).coms = 0 ∧
    bitOf Dev.reset.red.lanes 1 = false ∧ bitOf ({ Dev.reset.red with lanes := 3 } : RedSt).lanes 1 = true ∧
    (∀ rd ∈ [true, false], decode10 rd 0 = none ∧ decode10 rd (1023 - 0) = none) ∧ (tget Dev.reset.link.rx 9).errRun = 0 ∧
    (decode10 false (comma false)).isSome = true ∧ ({ (default : LaneRx) with okRun := 3 } : LaneRx).inv = false ∧
    (dv [(F.LINK_PORT_CTL_MODE 7, 1)]).red.txOff = false ∧ (tget Dev.reset.link.ports 7).signal = false ∧ Dev.reset.host.recovery = false ∧
    recov.host.recovery = true ∧ (dv [(F.LINK_PRBS_CTL_CHK_EN 9, 1)]).flag (F.LINK_PRBS_CTL_INJ 9) = false ∧
    (dv [(F.LINK_PRBS_CTL_GEN_EN 9, 1)]).red.txOff = false := by decide +kernel

/-- A checker of PRBS7 on LNK7 whose last 63 bits were all 0, as its prediction is; its last 31 bits in error. -/
def chk7 : PrbsSt := { (default : PrbsSt) with chk := List.replicate 7 false, run := 63, win := List.replicate 31 true }

theorem wit_PrbsChecks : (prbsTaps 0).1 ≤ chk7.chk.length ∧ prbsNext 0 chk7.chk = false ∧ 63 ≤ chk7.run ∧ (default : PrbsSt).run < 63 ∧
    32 ≤ (((prbsNext 0 chk7.chk != true) :: chk7.win).take 1024 |>.filter id).length ∧
    (((prbsNext 0 chk7.chk != false) :: chk7.win).take 1024 |>.filter id).length < 32 := by decide +kernel

theorem wit_QueueAndAcceptance : (tget (atPort Dev.reset 7 { (default : PortSt) with dq := [default] }).link.ports 7).dq = [default] ∧
    (tget (atPort Dev.reset 0 { (default : PortSt) with buf := some default }).link.ports 0).buf = some default ∧
    (tget (atPort Dev.reset 0 { (default : PortSt) with buf := some default }).link.ports 0).dq = [] ∧ (default : EgrItem).own = false ∧
    (dv [(F.LINK_SCHED_STS_SSTATE, 4)]).guardian (fr 3 7 [1]) = true ∧ Dev.reset.guardian (fr 3 7 [1]) = false ∧
    (atPort (lnk [(F.LINK_PORT_STS_DLY_VALID 0, 1)]) 0 { (default : PortSt) with dlyMiss := 8 }).flag (F.LINK_PORT_STS_DLY_VALID 0) = true ∧
    (tget (atPort (lnk []) 0 { (default : PortSt) with dlyMiss := 8 }).link.ports 0).dlyMiss = 8 ∧ (lnk []).portState 0 = 3 ∧
    Dev.reset.portState 0 < 2 ∧ (dv [(F.LINK_SCHED_STS_SSTATE, 2)]).sstate = 2 ∧
    ({ fr 8 0 [0] with h1 := (fr 8 0 [0]).h1 + 1 } : Frame).headOk = false ∧ (fr 0 0 [0]).headOk = true ∧ (fr 12 0 [0]).headOk = true ∧
    (fr 12 0 [0]).typ = 12 ∧ (fr 10 0 [1]).good = true ∧ (fr 9 0 [1]).good = true ∧ (fr 9 0 [1]).typ = 9 ∧
    (lnk []).route (fr 9 0 [1]) = some (true, []) := by decide +kernel

/-- A frame of symbol 9 and a rank. -/
def itm (rank : Nat) : EgrItem := { (default : EgrItem) with frame := fr 3 7 [1], sof := 9, rank := rank }

/-- Port 7 UP, its line busy until t with what is said of it. -/
def busyTo (t : Nat) (buf : Option EgrItem) (cur : Option (EgrItem × Nat × Bool)) (dq : List EgrItem) : Dev :=
  atPort (dv [(F.LINK_PORT_STS_STATE 7, 3)]) 7 { (default : PortSt) with busyUntil := t, buf := buf, cur := cur, dq := dq }

theorem wit_Egress : (let q := tget (busyTo 5 none none []).link.ports 7; q.busyUntil ≤ 5 ∧ q.buf = none ∧ q.dq = []) ∧
    (busyTo 5 none none []).egressBehind 7 (itm 2) = none ∧ ¬ (tget (busyTo 5 none none []).link.ports 7).busyUntil ≤ 4 ∧
    (tget (busyTo 5 (some (itm 3)) none []).link.ports 7).buf = some (itm 3) ∧ (busyTo 5 (some (itm 3)) none []).egressBehind 7 (itm 2) = none ∧
    (tget (busyTo 5 none (some (itm 9, 1, false)) []).link.ports 7).cur = some (itm 9, 1, false) ∧ (itm 2).sof = (itm 9).sof ∧ (itm 2).rank < (itm 9).rank ∧
    (busyTo 5 none none []).red.txOff = false ∧ recov.host.recovery = true ∧ (busyTo 0 none none []).host.recovery = false ∧
    2 ≤ (busyTo 0 none none []).portState 7 ∧ (busyTo 0 none none []).portState 0 < 2 ∧
    (let d := busyTo 0 none none []
     (tget d.link.ports 7).busyUntil ≤ (d.runTo (d.time.cycStart + (d.time.tb - 2250))).nowPs.toNat) ∧
    (tget (busyTo 0 none none [itm 0]).link.ports 7).dq ≠ [] := by decide +kernel

/-- A discovery in a state. -/
def discAt (x : DiscSt) (l : List (Fld × Nat)) : Dev :=
  let d := dv ([(F.LINK_STS_ROOT, 1), (F.LINK_STS_PHASE, 1)] ++ l)
  { d with link := { d.link with disc := x } }

theorem wit_DelayAndDiscovery : (tget (atPort Dev.reset 0 { (default : PortSt) with dlyCount := 3 }).link.ports 0).dlyCount = 3 ∧
    Dev.reset.gets (F.LINK_PORT_DLY_DELAY 0) = 0 ∧ ((2000 : Int) - 0).natAbs ≤ 2000 ∧ 2000 < ((2001 : Int) - 0).natAbs ∧ (400000 : Int) ≤ 400000 ∧
    (tget Dev.reset.link.ports 0).dlyCount = 0 ∧ (discAt default []).flag F.LINK_STS_ROOT = true ∧ (discAt default []).phase = 1 ∧
    (discAt default []).link.disc.conflict = false ∧ (discAt default [(F.LINK_DISC_EVT_DISC_RESULT, 1)]).get F.LINK_DISC_EVT_DISC_RESULT ≠ 0 ∧
    (discAt { (default : DiscSt) with running := true, attempts := 2 } []).link.disc.running = true ∧
    (discAt { (default : DiscSt) with running := true, attempts := 3, wait := .probe 1 [0] [0] 0 } []).link.disc.wait = .probe 1 [0] [0] 0 := by
  decide +kernel

/-- The root's graph has the root and a node by port 7; its table names a node there, and one by port 6. -/
def graph2 : List GNode := [⟨0, 0x960, [], [], [], 0, none⟩, ⟨9, 0x110, [7], [], [], 0, none⟩]
def discEnds (g : List GNode) (es : List NodeEntry) : Dev :=
  let d := discAt { (default : DiscSt) with running := true, graph := g } []
  { d with link := { d.link with cfg := { d.link.cfg with nodes := es } } }

theorem wit_DiscoveryEnds : (tget (atPort Dev.reset 0 { (default : PortSt) with dlyCount := 3, dlyOut := 7 }).link.ports 0).dlyOut + 1 = 8 ∧
    (tget (atPort Dev.reset 0 { (default : PortSt) with dlyCount := 3 }).link.ports 0).dlyOut + 1 ≠ 8 ∧
    Dev.reset.flag F.LINK_STS_ROOT = false ∧ (discAt { (default : DiscSt) with conflict := true } []).link.disc.conflict = true ∧
    bitsOf ((fr 9 0 [0x300]).w 0) 7 0 = (discAt { (default : DiscSt) with running := true, wait := .probe 1 [0] [0] 0 } []).link.disc.tag ∧
    (discEnds graph2 [⟨2, 0x110, true, [6]⟩]).link.cfg.nodes.find? (fun e => e.required &&
      ((discEnds graph2 []).link.disc.graph.find? (fun n => n.path == e.path)).isNone) = some ⟨2, 0x110, true, [6]⟩ ∧
    (discEnds graph2 [⟨1, 0x111, true, [7]⟩]).link.cfg.nodes.find? (fun e =>
      match (discEnds graph2 []).link.disc.graph.find? (fun n => n.path == e.path) with | some n => n.member != e.member | none => false)
      = some ⟨1, 0x111, true, [7]⟩ ∧ (discEnds graph2 []).link.disc.graph.find? (fun n => n.path == [7]) = some ⟨9, 0x110, [7], [], [], 0, none⟩ ∧
    (discEnds graph2 []).link.disc.todo = [] ∧
    (discAt { (default : DiscSt) with running := true, wait := .commit 31 } []).link.disc.wait = .commit 31 ∧
    (discAt { (default : DiscSt) with running := true, wait := .table 31 4 } []).link.disc.wait = .table 31 4 := by decide +kernel

theorem wit_FramesDelivered : (Dev.reset.frameIn 0 (fr 3 7 [1]) 0).2 = false ∧
    (∀ f ∈ [fr 10 0 [1], fr 9 0 [0x100], fr 9 0 [0x200], fr 9 0 [0x300], fr 9 0 [0x400], fr 9 0 [0x500], fr 9 0 [0x600], fr 9 0 [0x700],
      fr 1 0xFFFF [1, 2, 3, 4, 5, 6], fr 1 0xFFFE [1, 2, 3, 4, 5, 6], fr 2 0 [1, 2, 3, 4]], ((lnk []).frameIn 0 f 0).2 = true) ∧
    isHello (fr 9 0 [0x100]) = true ∧ (∀ k < 8, bitsOf ((fr 9 0 [BitVec.ofNat 32 (256 * k)]).w 0) 15 8 = k) ∧
    (fr 1 0xFFFE [1]).stream = 0xFFFE ∧ (fr 2 0 [1]).typ = 2 := by decide +kernel

theorem wit_Commit : ({ discAt default [] with link := { (discAt default []).link with tblGot := 31 } } : Dev).phase = 1 ∧
    ({ discAt default [] with link := { (discAt default []).link with tblGot := 31 } } : Dev).link.cfg.nodeId = none ∧
    Dev.reset.link.tblGot ≠ 31 := by decide +kernel

/-- A node with a LINK section, some link state and some fields. -/
def node (c : LinkCfg) (g : LinkSt → LinkSt) (l : List (Fld × Nat)) : Dev :=
  let d := dv l
  { d with link := { g d.link with cfg := c } }

theorem wit_ScheduleStates :
    (node default id [(F.LINK_STS_ID_VALID, 1), (F.LINK_STS_PHASE, 2), (F.CFG_BOOT_STS_STAGE, 8)]).idValid = true ∧
    checkTables { (default : LinkCfg) with guardNs := 64, holdMax := 255 } 0 = none ∧
    (node { (default : LinkCfg) with coldstart := [0] } id [(F.LINK_SCHED_STS_SSTATE, 1)]).link.cfg.coldstart.contains 0 = true ∧
    (node default (fun k => { k with dawns := [(1, 0)] }) [(F.LINK_SCHED_STS_SSTATE, 1)]).link.dawns = [(1, 0)] ∧
    (node default id [(F.LINK_SCHED_STS_SSTATE, 2)]).sstate = 2 ∧ (node default id []).link.noSyncDone = false ∧
    (node default (fun k => { k with integCycles := 16 }) [(F.LINK_SCHED_STS_SSTATE, 3)]).link.integCycles = 16 ∧
    (node { (default : LinkCfg) with holdMax := 2 } id [(F.LINK_SCHED_STS_SSTATE, 4), (F.LINK_SCHED_STS_MISS_RUN, 2)]).get F.LINK_SCHED_STS_MISS_RUN = 2 := by
  decide +kernel

theorem wit_Succession : (node { (default : LinkCfg) with coldstart := [0] } id
    [(F.LINK_SCHED_STS_SSTATE, 4), (F.LINK_SCHED_STS_MISS_RUN, 4), (F.LINK_SCHED_STS_ZENITH_ID, 1)]).rank = some 0 := by
  have h : ([0] : List Nat).mergeSort (· ≤ ·) = [0] := List.mergeSort_singleton _
  unfold Dev.rank
  have e : ((node { (default : LinkCfg) with coldstart := [0] } id
    [(F.LINK_SCHED_STS_SSTATE, 4), (F.LINK_SCHED_STS_MISS_RUN, 4), (F.LINK_SCHED_STS_ZENITH_ID, 1)]).link.cfg.coldstart.filter
      (fun n => n != (node { (default : LinkCfg) with coldstart := [0] } id
    [(F.LINK_SCHED_STS_SSTATE, 4), (F.LINK_SCHED_STS_MISS_RUN, 4), (F.LINK_SCHED_STS_ZENITH_ID, 1)]).zenithId)) = [0] := by decide +kernel
  rw [e, h]; decide +kernel

/-- A node with one slot-table entry in mode 0, one rx and one tx stream. -/
def slotted (e : Slot) (t : RxStream) (x : TxStream) (l : List (Fld × Nat)) : Dev :=
  node { (default : LinkCfg) with guardNs := 256, held := [0], modes := [[e]], rx := [t], tx := [x] } id l

/-- An rx and a tx entry. -/
def rxE : Slot := { (default : Slot) with ports := 1, dlv := true, stream := 9 }
def txE (kind : Nat) : Slot := { (default : Slot) with tx := true, kind := kind, stream := 9, len := 61 }

theorem wit_Streams : (slotted rxE ⟨9, 3, 4, 0, 0⟩ default [(F.LINK_SCHED_STS_SSTATE, 4)]).slots.find? (fun x => x.2 == 0) = some (rxE, 0) ∧
    slotActive 0 rxE = true ∧ ([⟨9, 3, 4, 0, 0⟩] : List RxStream).findIdx? (fun x => x.stream == rxE.stream) = some 0 ∧
    ([⟨9, 3, 4, 0, 0⟩] : List RxStream).findIdx? (fun x => x.typ == 7 && x.stream == rxE.stream) = none ∧
    (slotted rxE ⟨9, 3, 4, 0, 0⟩ default [(F.LINK_STRM_AGE 0, 5)]).ageOver 0 = true ∧
    (slotted rxE ⟨9, 3, 4, 0, 0⟩ default [(F.LINK_STRM_AGE 0, 4)]).ageOver 0 = false ∧
    (slotted rxE ⟨9, 3, 4, 0, 0⟩ default []).link.closed.contains 0 = false ∧ (slotted rxE ⟨9, 3, 4, 0, 0⟩ default []).link.goods.contains (0, 0) = false ∧
    ((slotted rxE ⟨9, 3, 4, 0, 0⟩ default [(F.LINK_SCHED_STS_SSTATE, 4), (F.LINK_PORT_STS_STATE 0, 3)]).frameIn 0 (fr 3 9 [1]) 0).2 = true := by decide +kernel

theorem wit_Slots : (slotted (txE 1) default default [(F.LINK_SCHED_STS_SSTATE, 5)]).txSlot 0 = some (txE 1) ∧
    (slotted (txE 2) default default [(F.LINK_SCHED_STS_SSTATE, 4)]).txSlot 0 = some (txE 2) ∧
    (slotted (txE 0) default ⟨9, 5, 1⟩ [(F.LINK_SCHED_STS_SSTATE, 4)]).txSlot 0 = some (txE 0) ∧
    (((slotted (txE 0) default ⟨9, 5, 1⟩ [(F.LINK_SCHED_STS_SSTATE, 4)]).atStart 0 (txE 0)).slotBody (txE 0) ⟨9, 5, 1⟩).1.isSome = true ∧
    (slotted rxE default default [(F.LINK_SCHED_STS_SSTATE, 5)]).proposeOk 1 = true ∧ (slotted rxE default default []).sstate ≠ 5 := by decide +kernel

/-- A node with modes 0 and 1 held and a modes state. -/
def modes (g : LinkSt → LinkSt) (l : List (Fld × Nat)) : Dev :=
  node { (default : LinkCfg) with guardNs := 64, holdMax := 255, held := [0, 1] } (fun k => { g k with propSent := (g k).propSent }) l

/-- A SYNC that carries state st of a proposal of mode 1 for cycle c. -/
def propFr (st c : Nat) : Frame := fr 1 0xFFFF [BitVec.ofNat 32 (32 * st + 8), 0, 0, 0, 0, 0, 0, 0, 0, BitVec.ofNat 32 c]

theorem wit_Modes : (∀ k ∈ ([0, 1, 2, 3] : List Nat), bitsOf ((propFr k 3).w 0) 6 5 = k ∧ bitsOf ((propFr k 3).w 0) 4 3 = 1) ∧ (propFr 1 3).w 9 = 3 ∧
    (modes id [(F.LINK_SCHED_STS_SSTATE, 4)]).sstate = 4 ∧ (modes id []).holdsMode 1 = true ∧ (modes id []).holdsMode 3 = false ∧
    3 ≤ cycDist (modes id []).time.cycno 3 ∧ cycDist (modes id []).time.cycno 2 < 3 ∧ (modes id []).link.acc ≠ some (1, 2) ∧
    (modes (fun k => { k with acc := some (1, 3) }) []).link.acc = some (1, 3) ∧
    (let d := { modes (fun k => { k with propSent := some 0 }) [(F.LINK_MODE_STS_PROP_STATE, 1)] with
        time := { Dev.reset.time with cycno := 2 } }
     let d := (d.wr R.LINK_MODE_EXP 2).wr R.LINK_MODE_ACC 2
     d.get F.LINK_MODE_STS_PROP_STATE = 1 ∧ d.link.propSent = some 0 ∧ 2 ≤ cycDist 0 d.time.cycno ∧
     bitOf (d.rd R.LINK_MODE_EXP).toNat 1 = true ∧ bitOf (d.rd R.LINK_MODE_ACC).toNat 1 = true ∧ bitOf (d.wr R.LINK_MODE_ACC 0 |>.rd R.LINK_MODE_ACC).toNat 1 = false) ∧
    bitOf ({ (modes id []).link with declined := 2 } : LinkSt).declined 1 = true ∧
    (modes (fun k => { k with conf := some (3, 0) }) []).link.conf = some (3, (modes id []).time.cycno) ∧
    (modes (fun k => { k with acc := some (1, 0) }) []).link.acc = some (1, (modes id []).time.cycno) ∧ (modes id []).link.conf = none := by decide +kernel

/-! Feedback, converters, axes and loops. -/

/-- A device some axes' records and faults are set in. -/
def ax (l : List AxisCfg) (fs : List FaultRec) (x : List (Fld × Nat)) : Dev :=
  let d := dv x
  { d with traj := { d.traj with axes := l }, faults := fs }

/-- A fault of class 2 on axis 127 in force. -/
def flt : FaultRec := ⟨.trajLate, 0, 2, 2 ^ 127, true, none⟩

theorem wit_EncoderEvents : (dv [(F.FB_QCFG_MODE 31, 1)]).chanMode 31 = 1 ∧ (quadPos true false + 4 - quadPos false false) % 4 = 1 ∧
    (quadPos false true + 4 - quadPos false false) % 4 = 3 ∧ (quadPos true true + 4 - quadPos false false) % 4 = 2 ∧
    (dv []).flag (F.FB_QCFG_CATCHUP 31) = false ∧ 0 < (dv [(F.FB_QCFG_QERR_THR 31, 1)]).get (F.FB_QCFG_QERR_THR 31) ∧
    (tget [(31, { (default : ChanSt) with cycErr := 1 })] 31).cycErr = 1 ∧ (ax [⟨0, 0, 0, .chan 31⟩] [] []).sourcedBy (.chan 31) ≠ 0 ∧
    (dv [(F.FB_QCFG_MODE 0, 2)]).chanMode 0 = 2 ∧ (dv []).stillFrom 31 + (dv []).stillClks 31 = 4000000 ∧ divEn 0x10000 = true ∧
    (dv [(F.FB_DIV_STS_BACKLOG 7, 1)]).gets (F.FB_DIV_STS_BACKLOG 7) ≠ 0 ∧ (tget Dev.reset.fb.divs 7).lastStep = none ∧
    (dv []).inPark = false ∧ (tget Dev.reset.fb.chans 31).clk = 0 ∧ (tget Dev.reset.fb.chans 31).zClk = 0 ∧
    (tget Dev.reset.fb.chans 31).a.lvl = false ∧ (tget Dev.reset.fb.chans 31).z.lvl = false ∧ (tget Dev.reset.fb.chans 31).latClk ≤ 0 ∧
    0 + 1 < (dv [(F.FB_QCFG_FILT 31, 1)]).chanN 31 ∧ (dv [(F.FB_QCFG_FILT 31, 0)]).chanN 31 ≤ 0 + 1 ∧
    (dv [(F.FB_QCFG_STEP_EDGE 31, 1)]).flag (F.FB_QCFG_STEP_EDGE 31) = true ∧ (dv []).flag (F.FB_QCFG_STEP_EDGE 31) = false ∧
    (dv []).flag (F.FB_QSTS_STANDSTILL 31) = false ∧ (dv []).flag (F.FB_QSTS_FAULT 31) = false ∧
    3 + max 10 (bitsOf 0x10000 15 8) ≤ 13 := by decide +kernel

/-- An encoder port in the middle of a transfer of an 8-bit word without check bits. -/
def encAt (l : List (Fld × Nat)) : Dev := dv ([(F.FB_ENCSTS_BUSY 15, 1), (F.FB_ENCCFG_WLEN 15, 8), (F.FB_ENCCFG_POSLEN 15, 8)] ++ l)

theorem wit_EncoderWords : (encAt []).encBad 15 0 = none ∧ (encAt []).flag (F.FB_ENCSTS_VALID 15) = false ∧
    ((encAt [(F.FB_ENCCFG_FRAME 15, 2)]).encBad 15 0).isSome = true ∧ (dv []).flag (F.FB_ENCSTS_BUSY 15) = false ∧
    (dv [(F.FB_ENCCFG_REQ_SRC 15, 1)]).encSrc 15 = 1 ∧ (dv [(F.FB_ENCCFG_REQ_SRC 0, 8)]).encSrc 0 = 8 ∧
    max 1 ((dv []).get (F.FB_ENCCFG2_FAIL_LIMIT 15)) < (dv [(F.FB_ENCSTS_FAILRUN 15, 5)]).get (F.FB_ENCSTS_FAILRUN 15) ∧
    (ax [⟨0, 0, 0, .enc 15⟩] [] []).sourcedBy (.enc 15) ≠ 0 ∧ (encAt []).inPark = false ∧ (dv []).flag (F.FB_ENCSTS_FAULT 15) = false ∧
    (tget Dev.reset.fb.encs 15).lastMove + 10000 * ((tget Dev.reset.fb.encs 15).stillT : Int) ≤ (Dev.reset.runTo 0).upNs := by decide +kernel

/-- A converter with one sequence. -/
def conv (k : ConvSt) (l : List (Fld × Nat)) : Dev :=
  let d := dv l
  { d with adc := { d.adc with convs := [(3, k)], cfg := { (default : AdcCfg) with seqs := [⟨3, 2, 0, 0, []⟩] } } }

/-- A running converter with a window begun at 0. -/
def convRun : Dev := let d := conv { (default : ConvSt) with ready := true } []; { d with time := { d.time with running := true } }

/-- A conversion of input 0 that stores its sample at a. -/
def sample (a : Option Nat) : AdcConv := ⟨0, .res 2 0, a, false, false, 0⟩

theorem wit_Conversions : (adcCode true (-1800000000) = -32768 ∧ adcCode false 0 = -32768) ∧
    (conv default []).adc.cfg.seqs.find? (fun y => y.conv == 3 && y.seq == 2) = some ⟨3, 2, 0, 0, []⟩ ∧
    (tget ((conv { (default : ConvSt) with ready := true } []).pumpNow 3).adc.convs 3).ready = true ∧
    (tget ((conv { (default : ConvSt) with ready := true } []).pumpNow 3).adc.convs 3).busySeq 2 = false ∧
    (tget ((conv { (default : ConvSt) with ready := true, heldSeq := [2] } []).pumpNow 3).adc.convs 3).busySeq 2 = true ∧
    ((conv { (default : ConvSt) with ready := true, heldSeq := [2] } [(F.ADC_STS_CAL_WAIT, 8)]).pumpNow 3).calWait 3 = true ∧
    2 ∈ (tget ((conv { (default : ConvSt) with ready := true, heldSeq := [2] } [(F.ADC_STS_CAL_RUN, 8)]).pumpNow 3).adc.convs 3).heldSeq ∧
    3 ∉ (tget ((conv { (default : ConvSt) with ready := true, heldSeq := [2] } [(F.ADC_STS_CAL_RUN, 8)]).pumpNow 3).adc.convs 3).heldSeq ∧
    bitOf (dv []).pwr.off 2 = false ∧ (dv []).flag (F.ADC_INCFG_DIFF 62) = false ∧ bitOf (dv []).adc.cmp 63 = false ∧
    bitOf (setBit 0 63 true) 63 = true ∧ cmpCond 1 false false 0x10 0x20 1800000000 = true ∧ cmpCond 2 false false 0x10 0x20 1800000000 = false ∧
    cmpCond 0 false false 0 0 0 = false ∧
    ((conv { (default : ConvSt) with begun := [(1000, sample none, false)] } []).nextResult 3).1 = some (1000, sample none, false) ∧
    ((conv { (default : ConvSt) with begun := [(1000, sample (some 0x1000000), false)] } []).nextResult 3).1 = some (1000, sample (some 0x1000000), false) := by
  decide +kernel

theorem wit_Calibration : onesBelow 4 (8 : BitVec 4).toNat = [3] ∧ bitOf ((dv []).get F.ADC_CTL_CAL) 3 = false ∧ (dv []).calAxis 3 = false ∧
    ({ dv [(F.LOOP_CTL_EN 31, 1), (F.LOOP_CFG_TOPO 31, 1)] with loop := { (dv []).loop with cfg := [⟨31, 0, 0, [(3, 0, 0)]⟩] } } : Dev).calAxis 3 = true ∧
    (conv default [(F.ADC_STS_CAL_WAIT, 8)]).calWait 3 = true ∧ (conv default [(F.ADC_STS_CAL_WAIT, 8)]).calRun 3 = false ∧
    (tget ((conv default [(F.ADC_STS_CAL_WAIT, 8)]).pumpNow 3).adc.convs 3).inj = [] ∧
    (tget ((conv default [(F.ADC_STS_CAL_WAIT, 8)]).pumpNow 3).adc.convs 3).begun = [] ∧
    (conv { (default : ConvSt) with calStep := 16 } [(F.ADC_STS_CAL_RUN, 8)]).calRun 3 = true ∧
    bitOf ((dv [(F.ADC_STS_BG_STARVED, 8)]).get F.ADC_STS_BG_STARVED) (15 / 4) = true ∧
    bitOf ((dv [(F.ADC_STS_BG_STARVED, 8)]).get F.ADC_STS_BG_STARVED) (11 / 4) = false ∧
    bitOf ({ (dv []).pwr with off := 4 } : PwrSt).off 2 = true ∧ bitOf (dv []).pwr.off 2 = false ∧
    (tget (conv { (default : ConvSt) with inj := [(0, 0)], aborts := 6 } [(F.ADC_STS_CAL_RUN, 8)]).adc.convs 3).inj ≠ [] ∧
    (tget (conv { (default : ConvSt) with inj := [(0, 0)], aborts := 6 } [(F.ADC_STS_CAL_RUN, 8)]).adc.convs 3).aborts < 7 ∧
    (((conv default [(F.ADC_STS_CAL_WAIT, 8)]).runOsc 1000000000).pumpNow 3).calFree 3 = true ∧
    (((conv { (default : ConvSt) with begun := [(2000000000, sample none, false)] } [(F.ADC_STS_CAL_WAIT, 8)]).runOsc 1000000000).pumpNow 3).calFree 3 = false ∧
    (tget (conv { (default : ConvSt) with ready := true, refs := [(3, 256)], toneRun := true } []).adc.convs 3).ready = true ∧
    (tget (convRun.windowEnd 3).adc.convs 3).winIdle = windowSlots ∧ 0 ≠ windowSlots ∧
    256 ≤ tget (tget ((conv { (default : ConvSt) with ready := true, refs := [(3, 256)], toneRun := true } []).pumpNow 3).adc.convs 3).refs 3 ∧
    (tget ((conv { (default : ConvSt) with ready := true, refs := [(3, 256)], toneRun := true } []).pumpNow 3).adc.convs 3).toneRun = true ∧
    tget (tget ((conv { (default : ConvSt) with ready := true, refs := [(3, 255)] } []).pumpNow 3).adc.convs 3).refs 3 < 256 ∧
    (tget ((conv { (default : ConvSt) with ready := true, refs := [(3, 255)] } []).pumpNow 3).adc.convs 3).toneRun = false := by decide +kernel

/-- A device whose axis 127 has a captured command. -/
def axPend (op : Nat) (d : Dev) : Dev := { d with traj := { d.traj with ax := [(127, { (default : AxisSt) with pend := some { (default : AxCmd) with op := op } })] } }

theorem wit_AxisCommands : ((axPend 1 (dv [])).ax 127).pend.isSome = true ∧ ((dv []).ax 127).pend = none ∧ (dv []).axState 127 = axOff ∧
    (axPend 11 (dv [])).axCheck 127 { (default : AxCmd) with op := 11 } (0, 0, 0) = 2 ∧ (dv [(F.TRAJ_AX_STS_STATE 127, 6)]).axState 127 = axFaultStop ∧
    (ax [] [flt] [(F.TRAJ_AX_STS_STATE 127, 1)]).uncleared 127 = true ∧ (ax [] [] [(F.TRAJ_AX_STS_STATE 127, 3)]).uncleared 127 = false ∧
    opAllowed 11 ((dv [(F.TRAJ_AX_STS_STATE 127, 3)]).axState 127) = false := by decide +kernel

/-- A device whose group 15 has a state. -/
def grp (x : GroupSt) (l : List (Fld × Nat)) : Dev :=
  let d := ax [⟨127, 15, 0, .none⟩] [] l
  { d with traj := { d.traj with gr := [(15, x)] } }

theorem wit_Groups : ((grp { (default : GroupSt) with pend := some 1 } []).gr 15).pend.isSome = true ∧ ((dv []).gr 15).pend = none ∧
    (grp { (default : GroupSt) with hasPlan := true } [(F.TRAJ_G_STS_MODE 15, 1)]).grMode 15 = 1 ∧
    (grp { (default : GroupSt) with hasPlan := true } [(F.TRAJ_G_STS_MODE 15, 1)]).lastSigma 15 ≤ (dv []).get (F.TRAJ_G_SIGMA_SIGMA 15) ∧
    (grp { (default : GroupSt) with hasPlan := true } [(F.TRAJ_G_STS_MODE 15, 1)]).gr 15 = { (default : GroupSt) with hasPlan := true } ∧
    (default : GroupSt).next = none ∧ (default : GroupSt).exhausted = false ∧ (default : GroupSt).pathStop = 0 ∧
    ({ (default : GroupSt) with pathStop := 3 } : GroupSt).pathStop ≠ 0 ∧ (grp default []).groupAxes 15 = [127] ∧ (dv [(F.TRAJ_G_SCALE_SCALE 15, 0x8000)]).get (F.TRAJ_G_SCALE_SCALE 15) ≤ 0x8000 ∧
    (dv []).flag (F.TRAJ_STEP_CFG_EN 31) = false ∧ (dv [(F.TRAJ_STEP_CFG_EN 31, 1)]).flag (F.TRAJ_STEP_CFG_EN 31) = true := by decide +kernel

/-- A group with a command that waits, its axis in a state. -/
def grOp (op mode ax : Nat) (still : Bool) : Dev :=
  grp { (default : GroupSt) with pend := some op } [(F.TRAJ_G_STS_MODE 15, mode), (F.TRAJ_AX_STS_STATE 127, ax), (F.TRAJ_AX_STS_STILL 127, b2n still)]

/-- Axis 31's step generation with a line at x units that stands, its DIR pin at a level. -/
def stepAt (x : Int) (p : Int) (high : Bool) : Dev :=
  let d := dv [(F.TRAJ_STEP_CFG_EN 31, 1), (F.TRAJ_STEP_CFG_STEP_W 31, 20)]
  { d with time := { Dev.reset.time with running := true, ticks := 1000 }, traj := { d.traj with ax := [(31, { (default : AxisSt) with stepFrom := x * 2 ^ 32, stepTo := x * 2 ^ 32, stepPos := p, dirHigh := high })] } }

theorem wit_GroupCommands : (∀ op ∈ ([1, 2, 3, 4] : List Nat), ((grOp op 0 axHold true).gr 15).pend = some op) ∧
    (∀ n ∈ (grOp 1 0 axHold true).groupAxes 15, n < 128) ∧ (grOp 1 0 axHold true).grCheck 15 1 = 0 ∧ (grOp 1 0 axHold false).grCheck 15 1 = 9 ∧
    (grOp 1 1 axHold true).grCheck 15 1 = 4 ∧ (grOp 2 1 axPath true).grCheck 15 2 = 0 ∧ (grOp 3 1 axPath true).grCheck 15 3 = 0 ∧
    (grOp 4 1 axStopping true).grCheck 15 4 = 0 ∧ ({ grOp 4 1 axStopping true with faults := [flt] } : Dev).grCheck 15 4 = 3 ∧
    (stepAt 0 300 false).flag (F.TRAJ_STEP_CFG_EN 31) = true ∧ ((stepAt 0 300 false).ax 31).stepPos % 256 ≠ 0 ∧
    (let d := ((stepAt 600 0 true).runTo 0).stepRes 31
     let size : Int := 2 ^ (8 - min 8 (d.ax 31).resLog)
     size * 2 ^ 32 ≤ wrap64 (d.stepLine 31 - (d.ax 31).stepPos * 2 ^ 32) ∧ (d.ax 31).dirHigh = true ∧ (d.ax 31).stepClk = none ∧
     (d.ax 31).dirClk + d.get (F.TRAJ_STEP_CFG_DIR_SU 31) ≤ d.sysClk ∧ (d.ax 31).resClk + d.get (F.TRAJ_STEP_CFG_RES_SU 31) ≤ d.sysClk) ∧
    (let d := ((stepAt 0 0 true).runTo 0).stepRes 31
     wrap64 (d.stepLine 31 - (d.ax 31).stepPos * 2 ^ 32) = 0) := by decide +kernel

/-- A device whose axis n has a LOOP state. -/
def lp (n : Nat) (x : LoopAx) (permit : Nat) (fs : List FaultRec) (l : List (Fld × Nat)) : Dev :=
  let d := ax [⟨n, 0, 0, .chan 0⟩] fs l
  { d with loop := { d.loop with ax := [(n, x)] }, safe := { d.safe with permit := permit } }

/-- A LOOP axis that waits to be energised. -/
def toOn : LoopAx := { (default : LoopAx) with pendEn := some true }

theorem wit_Energising : ((lp 31 toOn 0 [] []).lax 31).pendEn = some true ∧ (lp 31 toOn 0 [] []).energCheck 31 = 1 ∧
    (lp 127 toOn 0 [flt] [(F.LOOP_CFG_TOPO 127, 2)]).uncleared 127 = true ∧ (lp 127 toOn 0 [flt] [(F.LOOP_CFG_TOPO 127, 2)]).topo 127 ≠ 0 ∧
    (lp 31 toOn 0 [] [(F.LOOP_CFG_TOPO 31, 1)]).energCheck 31 = 3 ∧
    (lp 31 toOn (2 ^ 31) [] [(F.LOOP_CFG_TOPO 31, 1), (F.LOOP_STS_TRIP 31, 1)]).energCheck 31 = 4 ∧
    (lp 31 toOn (2 ^ 31) [] [(F.LOOP_CFG_TOPO 31, 1), (F.LOOP_GCFG_VBUS_MIN, 1)]).energCheck 31 = 5 ∧
    (lp 31 { (default : LoopAx) with everValid := true } (2 ^ 31) [] [(F.LOOP_CFG_TOPO 31, 1), (F.FB_QCFG_MODE 0, 1)]).tripped 31 = false ∧
    ((lp 31 { (default : LoopAx) with pendEn := some false } 0 [] []).lax 31).pendEn = some false ∧ ((dv []).lax 31).bootLeft = 0 ∧
    ((lp 127 { (default : LoopAx) with energise := true, intReset := true, compWait := 4 } 0 [] []).lax 127).energise = true ∧
    ((lp 127 { (default : LoopAx) with energise := true, intReset := true, compWait := 4 } 0 [] []).lax 127).intReset = true ∧
    (lp 127 { (default : LoopAx) with energise := true, intReset := true, compWait := 4 } 0 [] []).energised 127 = false := by decide +kernel

theorem wit_LoopProtection : (dv [(F.LOOP_TCFG_EN 15, 1), (F.LOOP_TCFG_TPOL 15, 1)]).flag (F.LOOP_TCFG_EN 15) = true ∧
    (true == (dv [(F.LOOP_TCFG_EN 15, 1), (F.LOOP_TCFG_TPOL 15, 1)]).flag (F.LOOP_TCFG_TPOL 15)) = true ∧
    true ≠ (tget (dv []).loop.tripF 15).lvl ∧ min 16 (max 1 (tget (dv []).loop.tripN 15)) ≤ (tget (dv []).loop.tripF 15).run + 1 ∧
    (tget [(15, { (default : LineF) with run := 15 })] 15).run + 1 ≥ min 16 (max 1 (tget [(15, 99)] 15)) ∧
    (tget [(15, { (default : LineF) with run := 14 })] 15).run + 1 < min 16 (max 1 (tget [(15, 99)] 15)) ∧
    (dv [(F.LOOP_STS_ENERGISED 31, 1)]).energised 31 = true ∧ (dv []).energised 31 = false ∧
    bitOf ((dv []).get F.LOOP_TRIP_STS_TRIP) 15 = false ∧
    bitOf ((dv [(F.LOOP_TAXES_AXES 15, 2 ^ 31)]).get (F.LOOP_TAXES_AXES 15)) 31 = true ∧
    ((lp 31 { (default : LoopAx) with shadow := some [0x8000, 0] } 0 [] []).lax 31).shadow = some [0x8000, 0] ∧
    0 ≤ (dv []).gets (F.LOOP_ILIM_ILIM 127) ∧ (dv []).inPark = false ∧
    ((lp 31 { (default : LoopAx) with stageReady := true, bootLeft := 1 } 0 [] [(F.LOOP_CFG_TOPO 31, 1)]).lax 31).stageReady = true ∧
    ({ dv [] with loop := { (dv []).loop with vbusLowRun := 16 } } : Dev).causeOn .vbusLow 0 = false := by decide +kernel

/-! The solver, reservations. -/

/-- A solver whose context 15 has a state. -/
def sol (x : SolvCtx) : Dev := { dv [] with solv := { (dv []).solv with on := true, ctx := [(15, x)] } }

theorem wit_SolverSteps : (sol { (default : SolvCtx) with stage := .factor }).stepDone .factor SolvSched.factCyc = some (15, 0) ∧
    (sol { (default : SolvCtx) with stage := .iterate }).stepDone .iterate SolvSched.iterCyc = some (15, 0) ∧
    (sol { (default : SolvCtx) with stage := .check }).stepDone .check SolvSched.checkCyc = some (15, 0) ∧
    (sol { (default : SolvCtx) with stage := .output }).stepDone .output (fun q => q.out + 100) ≠ none ∧
    (sol default).stepDone .factor SolvSched.factCyc = none ∧ (sol default).stepDone .output (fun q => q.out + 100) = none ∧
    (0 : Int) ≤ ({ (default : SolvCtx) with stage := .check }).param 248 ∧ ¬ ((1 : Int) ≤ (default : SolvCtx).param 248) := by decide +kernel

/-- A context whose settings are usable, in a stage and with a deadline. -/
def usable (g : SolvStage) (dl : Nat) : SolvCtx := { (default : SolvCtx) with stage := g, deadline := dl, copy := List.replicate 504 0 ++ List.replicate 6 1 }

/-- A solver at 1 whose context 15 has a state. -/
def sol1 (x : SolvCtx) : Dev := let d := sol x; { d with solv := { d.solv with now := 1 } }

theorem wit_SolveStarts : (usable .waiting 0).settingsOk = true ∧ (sol (usable .waiting 100000)).solvNext = some 15 ∧ (sol (usable .waiting 100000)).solvBusy = none ∧
    (sol (usable .waiting 100000)).solv.now + ((sol (usable .waiting 100000)).ctxSched 15).asm * (sol (usable .waiting 100000)).solvTick ≤ 100000 ∧
    (sol (usable .waiting 0)).solvNext = some 15 ∧ 0 < (sol (usable .waiting 0)).solv.now + ((sol (usable .waiting 0)).ctxSched 15).asm * (sol (usable .waiting 0)).solvTick ∧
    (∀ g ∈ [SolvStage.iterate, .check, .assembly], ((sol1 (usable g 0)).sctx 15).stage = g ∧
      ((sol1 (usable g 0)).sctx 15).deadline < (sol1 (usable g 0)).solv.now + (sol1 (usable g 0)).stepClocks 15 * (sol1 (usable g 0)).solvTick) ∧
    ((sol1 (usable .waiting 0)).sctx 15).deadline < (sol1 (usable .waiting 0)).solv.now := by decide +kernel

theorem wit_SolverOrdering : (dv []).solv.on = false ∧ (sol default).solv.on = true ∧
    (sol { (default : SolvCtx) with stage := .waiting }).solvNext = some 15 ∧ (sol { (default : SolvCtx) with stage := .waiting }).solvBusy = none ∧
    (default : SolvCtx).settingsOk = false ∧ ({ (default : SolvCtx) with stage := .output } : SolvCtx).codeOf < 16 ∧
    ({ sol { (default : SolvCtx) with stage := .waiting } with solv := { (sol { (default : SolvCtx) with stage := .waiting }).solv with now := 1 } } : Dev).solv.now = 1 ∧
    (sol { (default : SolvCtx) with stage := .iterate }).solv.now + (sol { (default : SolvCtx) with stage := .iterate }).stepClocks 15 * 15 ≤ 0 ∧
    ((slotted rxE ⟨9, 7, 4, 0, 0⟩ default [(F.LINK_SCHED_STS_SSTATE, 4), (F.LINK_PORT_STS_STATE 0, 3)]).frameIn 0 (fr 7 9 [1, 2]) 0).2 = true ∧
    ([⟨9, 7, 4, 0, 0⟩] : List RxStream).findIdx? (fun x => x.typ == 7 && x.stream == (fr 7 9 [1, 2]).stream) = some 0 := by decide +kernel

/-- SRAM with one home and one held entry. -/
def arbMem (e : ArbEnt) : Memory := Memory.arbPut (Memory.arbPut [] arbHome e) arbHeld e

/-- A live entry: from 0 to 9 µs, GEN 1. -/
def ent : ArbEnt := ⟨4095, false, 3, 1023, 0x1000FFF, 0, 9⟩
def entHeld : ArbEnt := { ent with idx := 1023 }

/-- ARB with a request of group 15 that waits for its result. -/
def asked (tries : Nat) (l : List (Fld × Nat)) : Dev :=
  let d := dv l
  { d with arb := { d.arb with outs := [⟨{ (default : ArbMsg) with grp := 15, rseq := 15 }, 2, some 0, tries⟩] } }

/-- A home at 1 µs that serves block 1023. -/
def home : State :=
  let d := tmAt 1000 []
  { on { d with arb := { d.arb with geo := [(1023, 0, 7)] } } with mem := arbMem ent }

/-- The same whose one entry is an orphan from 20 µs on. -/
def homeOrph : State := { home with mem := arbMem { ent with orphan := true, ts := 20, te := 30 } }

theorem wit_Reservations : (dv [(F.ARB_G_STS_NEXT_RSEQ 15, 15), (F.ARB_RS_PENDING 15 7, 1)]).flag (F.ARB_RS_PENDING 15 (15 % 8)) = true ∧
    (dv []).flag (F.ARB_RS_PENDING 15 0) = false ∧
    ({ State.reset with mem := arbMem ent } : State).homeEnts.any (fun e => e.idx == 4095 && e.handle / 2 ^ 24 == 1) = true ∧
    (dv []).arb.restoreLeft = 0 ∧ ({ (dv []).arb with restoreLeft := 1 } : ArbSt).restoreLeft ≠ 0 ∧
    (({ State.reset with mem := arbMem entHeld } : State).heldEnts = [entHeld]) ∧ (arbMem ent).wf sramReset = true ∧
    utBefore 5 9 = true ∧ utBefore 9 9 = false ∧ utBefore 0 5 = true ∧ utBefore 0 0 = false ∧
    (asked 0 []).arb.outs.any (fun o => o.m.grp == 15 && o.m.rseq == 15) = true ∧
    ((asked 0 []).arb.outs.find? (fun o => o.m.grp == (asked 0 []).nodeId * 16 + 15 && o.m.rseq == 15)).isSome = true ∧
    0 < (asked 0 [(F.ARB_CFG_RETRIES, 1)]).get F.ARB_CFG_RETRIES ∧ (asked 1 [(F.ARB_CFG_RETRIES, 1)]).get F.ARB_CFG_RETRIES ≤ 1 ∧
    ((slotted rxE ⟨9, 5, 4, 0, 2⟩ default [(F.LINK_SCHED_STS_SSTATE, 4), (F.LINK_PORT_STS_STATE 0, 3)]).frameIn 0 (fr 5 9 [0x01000001]) 0).2 = true ∧
    bitsOf ((fr 5 9 [0x01000001]).body.getD 0 0).toNat 31 24 = 1 ∧ (asked 0 []).arb.down.contains 2 = false ∧
    (tget (asked 0 []).arb.queues 2).length < 64 ∧ 64 ≤ (tget [(2, List.replicate 64 (default : ArbMsg))] 2).length ∧
    ((home).homeEnts.any (fun e => e.orphan)) = false := by decide +kernel

theorem wit_Grants : ((home.homeReserve { (default : ArbMsg) with grp := 3, block := 1023, tag := 7, ta := 10, tb := 20 }).1.code = 0) ∧
    ((home.homeReserve { (default : ArbMsg) with grp := 3, block := 1023, tag := 7, ta := 5, tb := 20 }).1.code ≠ 0) ∧
    ((home.homeExtend { (default : ArbMsg) with grp := 3, handle := 0x1000FFF, tb := 20 }).1.code = 0x0D) ∧
    ((homeOrph.homeReserve { (default : ArbMsg) with grp := 3, block := 1023, tag := 7, ta := 10, tb := 20 }).1.code = 0) ∧
    ((homeOrph.homeReserve { (default : ArbMsg) with grp := 3, block := 1023, tag := 7, ta := 40, tb := 50 }).1.code ≠ 0) ∧
    (homeOrph.homeEnts.any (fun e => e.orphan) = true) := by decide +kernel

/-! The SP cores and their tasks. -/

/-- Core c in RUN at pc 0 with an instruction there; its registers as x says. -/
def spAt (c : Nat) (f : SpFmt) (x : SpCore) (l : List (Fld × Nat)) : State :=
  let d := dv ((F.SPC_STS_STATE c, 1) :: l)
  { on { d with sched := { d.sched with cores := [(c, x)] } } with mem := Memory.putWord [] (pOff c x.pc) (BitVec.ofNat 32 f.encode) }

/-- What makes a core execute f, to be evaluated. -/
def spRun (c : Nat) (f : SpFmt) (x : SpCore) : Bool :=
  let s := spAt c f x []
  s.dev.spRuns c && (s.spFetch c).bind spDecode == some f

theorem spRun_runs (c : Nat) (f : SpFmt) (x : SpCore) (h : spRun c f x = true) : (spAt c f x []).runs c f := by
  simp only [spRun, Bool.and_eq_true, beq_iff_eq] at h
  obtain ⟨a, b⟩ := h
  refine ⟨a, ?_⟩
  cases e : (spAt c f x []).spFetch c with
  | none => rw [e] at b; cases b
  | some w => rw [e] at b; exact ⟨w, rfl, b⟩

/-- One word of each instruction that the statements name, its fields at the edges. -/
def allFmts : List SpFmt :=
  [.r 0 0 0 0 0, .r 1 15 15 15 0, .r 2 15 0 15 0, .r 3 0 15 0 0, .r 4 1 2 3 0, .r 5 1 2 3 0, .r 6 1 2 3 0, .r 7 1 2 3 0, .r 8 15 1 2 0,
    .r 9 1 2 3 0, .r 0x0A 1 2 3 0, .r 0x0B 1 2 3 0, .r 0x0C 15 2 0 0, .r 0x0D 1 2 0 0, .r 0x0E 0 2 3 0, .r 0x0F 1 2 0 0, .r 0x10 1 0 0 63,
    .r 0x11 0 1 0 63, .r 0x11 0 1 0 0, .r 0x11 0 1 0 33, .r 0x11 0 1 0 34, .r 0x11 0 1 0 35, .r 0x11 0 1 0 37, .r 0x11 0 1 0 40, .r 0x11 0 1 0 45,
    .r 0x12 1 1 0 63, .r 0x13 1 2 0 63, .r 0x14 1 0 0 0, .r 0x15 1 2 0 0, .r 0x16 1 0 0 0, .i 0 15 15 0xFFFF, .i 1 1 2 3, .i 2 1 2 3, .i 3 1 2 3,
    .i 4 15 0 0xFFFF, .i 5 15 0 0xFFFF, .i 6 1 2 63, .i 7 1 2 63, .i 0x0C 0 2 0xFFFF, .i 8 15 7 0x3FFF, .i 9 15 7 0xBFFF, .i 9 15 8 0,
    .i 0x0D 0 7 0x4001, .i 0x0A 15 0 0xFFFF, .i 0x0B 15 0 0xFFFF]

def allCtl : List SpFmt :=
  [.b 0 0 0x1FFF, .b 1 9 0x1FFF, .b 1 15 0, .b 2 0 8, .b 3 0 0, .b 4 15 0, .b 5 0x7FF 0x1FFF, .b 5 0 1, .b 6 15 1, .b 7 0 0, .b 8 0 0, .b 9 15 0, .b 0x0A 15 0,
    .b 0x0B 0 0, .b 0x0C 0 0, .b 0x0D 0x7FF 0, .b 0x0E 0x7FF 0, .p 0 1 15 15 0 0, .p 1 0 1 2 0x40 0x80, .p 2 1 1 2 0x80 0x80, .p 3 0 0 0 0x40 0x40,
    .p 6 1 0 0 0 0, .p 5 1 0 0 0x48 0x48, .p 4 1 0 0 0x44 0x48, .p 4 1 0 0 0x40 0x40, .p 4 0 0 0 0x4C 0x40]

theorem wit_SpRuns : allFmts.all (fun f => spRun 15 f default) = true ∧ allCtl.all (fun f => spRun 15 f default) = true := by decide +kernel

theorem wit_SpWords : (allFmts ++ allCtl).all (fun f => f.fits && f.listed) = true := by decide +kernel

/-- A core in an outer loop that ends at le, and in the inner one too. -/
def outer (le : Nat) (both : Bool) : SpCore := { (default : SpCore) with cr := [(34, if both then 0x300 else 0x100), (30, le), (33, 8)] }

theorem wit_SpLoops : bitOf (outer 9 false).srv 8 = true ∧ bitOf (outer 9 false).srv 9 = false ∧ (outer 9 false).pc + 1 ≤ 9 ∧
    (outer 9 false).slot = none ∧ (outer 9 false).atLe = false ∧ ¬ (10 ≤ (outer 9 false).cv 30) ∧ 9 ≤ (outer 9 false).cv 30 ∧
    bitOf (outer 9 true).srv 9 = true ∧ (outer 9 true).atLe = false ∧ ¬ (((outer 9 false).pc + 1) % 2 ^ 13 ≤ 0) ∧
    (∀ p ∈ [(9, false), (9, true)], spRun 15 (.b 5 0x7FF 9) (outer p.1 p.2) = true ∧ spRun 15 (.b 6 15 9) (outer p.1 p.2) = true ∧
      spRun 15 (.b 5 0 9) (outer p.1 p.2) = true) := by decide +kernel

/-- A core with AR and loop registers set. -/
def loopCore : SpCore := { (default : SpCore) with cr := [(34, 0x500), (30, 0), (28, 2)], eieVis := true }

theorem wit_SpArithmetic : (modAddr 0x3FFF (-1) 0x3FF0 16 = 0x3FFE) ∧ 0x3FF0 ≤ 0x3FFF ∧ 0x3FFF < 0x3FF0 + 16 ∧ 0x3FF0 + 16 ≤ 2 ^ 14 ∧
    redundant 0 = 31 ∧ redundant 0x80000000 = 0 ∧ ((0x8000000000000000 : Int).natAbs ≠ 0) := by decide +kernel

theorem wit_SpMemory : (match (default : SpCore).ea 7 0x3FFF with | .ok _ => true | .error _ => false) = true ∧
    ((spAt 15 (.i 8 15 7 0x3FFF) default []).spRead 15 true 0x3FFF).isSome = true ∧
    (({ on { dv [] with eccBad := [yOff 15 0x3FFF] } with mem := [] } : State).spRead 15 true 0x3FFF) = none ∧
    (dv []).globalBad 15 false 2 = true ∧ (dv []).globalBad 15 true 0x40000000 = true ∧ (dv []).globalBad 15 false 0x7FFFFC = false ∧
    (dv []).globalBad 15 true 0x7FFFFC = false ∧ (dv []).regionOff 0 = false ∧ (State.reset.eccWord 0x7FFFFC).isSome = true := by decide +kernel

theorem wit_SpControl : (default : SpCore).slot = none ∧ (default : SpCore).atLe = false ∧ (default : SpCore).cond 0 = some true ∧
    (default : SpCore).cond 1 = some false ∧ (default : SpCore).cond 9 ≠ none ∧ bitOf (default : SpCore).srv 8 = false ∧
    loopCore.atLe = true ∧ ({ (default : SpCore) with slot := some 5 } : SpCore).slot.isSome = true ∧
    spRun 15 (.b 0 0 0) loopCore = true ∧ spRun 15 (.b 7 0 0) loopCore = true ∧
    (match (spAt 15 (.p 1 0 1 2 0x40 0x80) default []).spMoves 15 0x40 0x80 with | .ok _ => true | .error _ => false) = true ∧
    mvMode 0x80 = 2 ∧ mvMode 0x48 = 1 ∧ mvReg 0x48 = 0 ∧ mvBad 0x48 0x48 = false ∧ mvMod 0x44 = 1 ∧ mvMod 0x48 = 2 ∧ mvMod 0x40 = 0 ∧
    ((spAt 15 (.p 5 1 0 0 0x48 0x48) default []).spRead 15 false 0).isSome = true := by decide +kernel

theorem wit_SpPipeline : (spAt 15 (.r 0 0 0 0 0) default []).dev.coreState 15 = 1 ∧ (default : SpCore).late = [] ∧ (default : SpCore).level = none ∧
    (dv []).flag (F.SPC_CTL_HALT 15) = false ∧ bitOf loopCore.srv 8 = true ∧ bitOf loopCore.srv 9 = false ∧ loopCore.cv 30 = loopCore.pc ∧
    1 < loopCore.cv 28 ∧ ({ loopCore with cr := [(34, 0x100), (28, 1)] } : SpCore).cv 28 ≤ 1 ∧
    (({ on { dv [] with sched := { (dv []).sched with cores := [(15, { (default : SpCore) with late := [(2, .creg 37 1)] })] } } with mem := [] } : State).dev.core 15).late
      = [(2, .creg 37 1)] ∧
    (spAt 15 (.r 0 0 0 0 0) { (default : SpCore) with late := [(1, .creg 33 7)] } []).dev.core 15 = { (default : SpCore) with late := [(1, .creg 33 7)] } ∧
    (default : SpCore).stepping = false ∧ (default : SpCore).slot = none ∧ (∀ w ∈ [(2, SpWrite.creg 33 7), (1, .dreg 3 42 false)], 0 < w.1) := by decide +kernel

theorem wit_SpEvents : bitOf loopCore.srv 10 = true ∧ bitOf (default : SpCore).srv 10 = false ∧ loopCore.eieVis = true ∧ loopCore.atBoundary = true ∧
    (dv [(F.SPC_STS_STATE 15, 2)]).coreState 15 = 2 ∧ (dv [(F.SPC_STS_STATE 15, 3)]).coreState 15 = 3 ∧ (dv []).frozen = false ∧
    ({ loopCore with taskLatch := true } : SpCore).eventNow = some 8 ∧ loopCore.eventNow = none ∧ (dv []).readyIds = [] ∧
    (dv [(F.PWR_STS_STATE, 1)]).frozen = true ∧ loopCore.stepping = false ∧
    ((spAt 15 (.b 15 0 0) default []).spFetch 15).bind spDecode = none ∧ ((spAt 15 (.b 15 0 0) default []).spFetch 15).isSome = true ∧
    (spAt 15 (.b 15 0 0) default []).dev.spRuns 15 = true ∧
    (({ spAt 15 (.b 0 0 0) default [] with dev := { (spAt 15 (.b 0 0 0) default []).dev with eccBad := [pOff 15 0] } } : State).spFetch 15 = none) := by
  decide +kernel

/-- A device whose task 1023 has a VALID descriptor for every core and a state; core 15 waits. -/
def taskAt (t : TaskSt) (trig : Nat) (l : List (Fld × Nat)) : Dev :=
  let d := ((dv ((F.SPC_STS_STATE 15, 2) :: l)).wr (0x884000 + 16 * 1023) 0x9F00FFFF).wr (0x884000 + 16 * 1023 + 12) (BitVec.ofNat 32 (trig * 2 ^ 28 + 5))
  { d with sched := { d.sched with tasks := [(1023, t)], ids := [1023] } }

/-- The same at COUNT 255, given at u ns to core 15, which waits. -/
def gotAt (u : Nat) : Dev :=
  let d := taskAt default 0 [(F.SCHED_TSK_COUNT 1023, 255)]
  { d with sched := { d.sched with cores := [(15, { (default : SpCore) with got := some (1023, u) })] } }

theorem wit_Tasks : (taskAt default 0 []).taskValid 1023 = true ∧ (taskAt default 0 []).get (F.SCHED_TSK_COUNT 1023) < 255 ∧
    (taskAt default 0 [(F.SCHED_TSK_COUNT 1023, 255)]).get (F.SCHED_TSK_COUNT 1023) = 255 ∧ (dv []).taskValid 0 = false ∧
    (taskAt default 0 []).taskTrig 1023 ≠ 1 ∧ (taskAt { (default : TaskSt) with due := some 7 } 1 []).taskTrig 1023 = 1 ∧
    ((taskAt { (default : TaskSt) with due := some 7 } 1 []).task 1023).due = some 7 ∧
    ((taskAt { (default : TaskSt) with win := some 7 } 1 []).task 1023).win = some 7 ∧
    (let d := taskAt { (default : TaskSt) with ready := some (0, 0) } 0 []
     (d.assign d.waiters d.given).find? (fun x => x.1 == 15) = some (15, 1023) ∧ (((on d).clockAt 7).dev.core 15).got.map (·.1) = some 1023) ∧
    (taskAt default 0 []).lateBy 1023 = none ∧ ((taskAt { (default : TaskSt) with due := some 0 } 0 []).runTo 0).lateBy 1023 = some 0 ∧
    tblWf (fun _ => (default : TaskSt)) 0 (taskAt { (default : TaskSt) with due := some 7 } 1 []).sched.tasks = true ∧
    ({ taskAt { (default : TaskSt) with due := some 7 } 1 [] with time := (tmAt 0 []).time }.runToUt 7).lateBy 1023 = some 0 ∧
    (taskAt { (default : TaskSt) with win := some 7, expiring := true } 1 []).serve.given.contains 1023 = false ∧
    (taskAt { (default : TaskSt) with ready := some (0, 0), win := some 7, last := some 15, expiring := true } 1 []).serve.given.contains 1023 = true ∧
    ((taskAt { (default : TaskSt) with win := some 7, expiring := true } 1 []).task 1023).expiring = true ∧ (taskAt default 0 []).sched.clk ≠ (0, 7) ∧
    (taskAt { (default : TaskSt) with win := some 7 } 1 []).sched.tasks.all (fun q => q.2.expiring == false) = true ∧
    ((on (taskAt default 0 [(F.SCHED_TSK_COUNT 1023, 255)])).clockAt 7).dev.handDue 1023 = none ∧
    (let y := ((on (gotAt 0)).clockAt 7).dev
     y.handDue 1023 = some 15 ∧ (y.core 15).got = some (1023, 0) ∧ 0 + 6 ≤ y.sched.clk.2 ∧ y.coreState 15 = 2 ∧ y.frozen = false ∧
     (gotAt 0).get (F.SCHED_TSK_COUNT 1023) = 255 ∧ (gotAt 0).taskValid 1023 = true) ∧
    ({ taskAt { (default : TaskSt) with due := some 0 } 0 [] with sched := { (taskAt default 0 []).sched with
      ids := [3, 1023], tasks := [(3, { (default : TaskSt) with due := some 0 }), (1023, { (default : TaskSt) with due := some 0 })] } } : Dev).dueIds = [] ++ 3 :: 1023 :: [] ∧
    (taskAt default 0 []).taskPrio 0 < (taskAt default 0 []).taskPrio 1023 ∧ (default : SpCore).held = none ∧
    ({ (default : SpCore) with held := some 1023, d := [(15, 1023)] } : SpCore).dv 15 % 1024 = 1023 := by decide +kernel

/-! The safety island and redundancy. -/

/-- The island on and running, with its records, some state and some fields. -/
def isl (c : SafeCfg) (g : SafeSt → SafeSt) (l : List (Fld × Nat)) : Dev :=
  let d := dv l
  { d with safe := g { d.safe with on := true, run := true, cfg := c } }

/-- One e-stop on input 15, output 7 in use, axis 127 on it. -/
def cfg7 : SafeCfg := { (default : SafeCfg) with ins := [(15, ⟨1, 0, false, 128, 4, 1, 1⟩)], outs := [(7, ⟨true, 100, 100, 10000⟩)], axes := [⟨127, 7, 0, 0⟩] }

theorem wit_Island : (isl cfg7 id [(F.SAFE_STS_ISTATE, 4)]).safe.on = true ∧ (isl cfg7 id [(F.SAFE_STS_ISTATE, 4)]).safe.run = true ∧
    (isl cfg7 id [(F.SAFE_STS_ISTATE, 4)]).istate = 4 ∧ (isl cfg7 id [(F.SAFE_STS_ISTATE, 4)]).istate ≠ 5 ∧
    (isl cfg7 (fun s => { s with run := false }) []).safe.run = false ∧
    (isl cfg7 id [(F.LOOP_CFG_TOPO 127, 2)]).topo 127 ≠ 0 ∧ (isl cfg7 id []).uncleared 127 = false ∧ bitOf (isl cfg7 id []).safe.permit 127 = false := by decide +kernel

theorem wit_Lockout : (isl cfg7 id [(F.SAFE_STS_ISTATE, 5), (F.SAFE_STS_LOCK_CAUSE, 0x10)]).istate = 5 ∧
    (isl cfg7 id [(F.SAFE_STS_ISTATE, 5)]).safe.on = true ∧ (isl cfg7 (fun s => { s with run := false }) [(F.SAFE_STS_ISTATE, 4)]).safe.on = true ∧
    (isl cfg7 (fun s => { s with run := false }) [(F.SAFE_STS_ISTATE, 4)]).istate ≠ 5 := by decide +kernel

/-- What one evaluation in ACTIVE leaves: output 7 energised and the permit of its axis; and an e-stop that has been filtered for 250 µs. -/
theorem test_output_energised : ((isl cfg7 (fun s => { s with filtA := 0, filtB := 0 }) [(F.SAFE_STS_ISTATE, 4)]).safeEval.safe.outOn = 128) ∧
    ((isl cfg7 (fun s => { s with filtA := 0, filtB := 0 }) [(F.SAFE_STS_ISTATE, 4)]).safeEval.safe.permit = 2 ^ 127) ∧
    ((isl cfg7 id [(F.SAFE_STS_ISTATE, 4)]).safeEval.safe.outOn = 0) := by decide +kernel

theorem wit_InputsAndPulses : ((isl cfg7 id []).safeIn 15).typ ≠ 0 ∧ safeLevel 1 false (bitOf 0 15) = true ∧ bitOf (isl cfg7 id []).safe.filtA 15 = true ∧
    safeLevel 1 false (bitOf 0x8000 15) = false ∧ tget (isl cfg7 id []).safe.runA 15 + 1 < 25 * ((isl cfg7 id []).safeIn 15).filt ∧
    25 * ((isl cfg7 id []).safeIn 15).filt ≤ tget (isl cfg7 (fun s => { s with runA := [(15, 99)] }) []).safe.runA 15 + 1 ∧
    bitOf (isl cfg7 id []).safe.disc 15 = false ∧ ((isl cfg7 id []).safeIn 15).discT < tget (isl cfg7 (fun s => { s with dcnt := [(15, 2)] }) []).safe.dcnt 15 ∧
    (isl cfg7 (fun s => { s with demands := [⟨47, 1, 128, 2 ^ 127, false, 0, 0, false, []⟩] }) [(F.SAFE_STS_ISTATE, 4)]).safe.demands.find? (fun x => x.src == 47)
      = some ⟨47, 1, 128, 2 ^ 127, false, 0, 0, false, []⟩ ∧
    0 + 1000 * ((isl cfg7 id []).safeIn 15).stopT ≤ (isl cfg7 (fun s => { s with samples := 100 }) []).safeUs ∧
    bitOf (isl cfg7 (fun s => { s with outOn := 128 }) []).safe.outOn 7 = true ∧
    tget (isl cfg7 (fun s => { s with outOn := 128 }) []).safe.due 7 ≤ (isl cfg7 id []).safeUs ∧
    (isl cfg7 (fun s => { s with pulse := some (0, 0, 100), due := [(7, 50)], samples := 20 }) []).safe.pulse = some (0, 0, 100) ∧
    tget (isl cfg7 (fun s => { s with pulse := some (0, 0, 100), due := [(7, 50)], samples := 20 }) []).safe.due 7 < 100 ∧
    100 + 100 ≤ (isl cfg7 (fun s => { s with pulse := some (0, 0, 100), due := [(7, 50)], samples := 20 }) []).safeUs := by decide +kernel

/-- A safe stream of no axes from node 0, its index 31. -/
def strm : SafeStream := ⟨31, 8, 0, 5, 2, []⟩

/-- A plane-A copy of it. -/
def copyA : List Word :=
  let ws : List Word := [0x01400000, 1, 0, 0x00050000, 0, 0]
  ws ++ [planeCrc false ws]

/-- The island with that stream, its receiver and group 15. -/
def ssm (r : SmsgRx) (g : SsmGrp) (l : List (Fld × Nat)) : Dev :=
  isl cfg7 (fun s => { s with
    ssm := { (default : SsmCfg) with rx := [strm], groups := [{ (default : SsmGroup) with g := 15, resumeN := 3 }] },
    rx := [(31, r)], grp := [(15, g)], demands := [⟨31, 1, 128, 0, false, 0, 0, false, []⟩], snap := some (1, true, 0, []) }) l

theorem wit_SafeChannel : ((slotted { rxE with stream := 8 } ⟨8, 6, 4, 0, 0⟩ default [(F.LINK_SCHED_STS_SSTATE, 4), (F.LINK_PORT_STS_STATE 0, 3)]).frameIn 0 (fr 6 8 copyA) 0).2 = true ∧ (fr 6 8 copyA).typ = 6 ∧
    (ssm default default []).safe.ssm.rx.find? (fun r => r.node == 0 && (r.stream == 8 || r.stream + 1 == 8)) = some strm ∧
    7 ≤ copyA.length ∧ planeCrc false (copyA.take 6) = copyA.getD 6 0 ∧ ((copyA.take 6).getD 0 0).toNat = 0x01400000 ∧
    bitsOf ((copyA.take 6).getD 3 0).toNat 31 16 = 5 ∧ within 1 (2 ^ 31 - 1) ((1 + 2 ^ 32 - 0) % 2 ^ 32) = true ∧
    within 1 (2 ^ 31 - 1) ((1 + 2 ^ 32 - 1) % 2 ^ 32) = false ∧ (tget (ssm default default []).safe.rx 31).wd = false ∧
    strm.wd ≤ (tget (ssm { (default : SmsgRx) with miss := 2 } default []).safe.rx 31).miss ∧ (ssm default default []).demanded (16 + 15) = true ∧
    3 ≤ (tget (ssm default { (default : SsmGrp) with clear := 3 } []).safe.grp 15).clear ∧ (ssm default default []).safe.snap ≠ none ∧
    (isl cfg7 id []).safe.snap = none ∧ (isl cfg7 id []).safe.ssmFull = false := by decide +kernel

theorem wit_Binding : (dv [(F.CFG_SAFE_BIND_STS_BUSY, 1)]).flag F.CFG_SAFE_BIND_STS_BUSY = true ∧ otpBlank [(15, 1)] 8 = false ∧ otpBlank [] 8 = true ∧
    (isl cfg7 id []).istate ≠ 1 ∧ (isl cfg7 id [(F.SAFE_STS_ISTATE, 1)]).istate = 1 ∧
    (leWords ({ (isl cfg7 id []).safe with keyHash := [1, 2, 3, 4] } : SafeSt).keyHash).head? = some 0x04030201 ∧
    (isl cfg7 id []).updOwner = 0 ∧
    ({ dv [] with boot := { (dv []).boot with skipHold := true } } : Dev).nvOk 3 = true := by decide +kernel

/-- The words of a SHA-256 digest. -/
theorem wit_KeyWords : (leWords ({ (isl cfg7 id []).safe with keyHash := (List.range 32).map (fun i => BitVec.ofNat 8 i) } : SafeSt).keyHash)[7]? = some 0x1F1E1D1C ∧
    (ssm default default []).safe.run = true ∧ (dv [(F.CFG_SAFE_BIND_STS_BUSY, 0)]).flag F.CFG_SAFE_BIND_STS_BUSY = false := by decide +kernel

/-- At reset no axis is energised. -/
theorem wit_quiet : (List.range 128).any (isl cfg7 id []).energised = false := by decide +kernel

/-- A redundant unit. -/
def redu (g : RedSt → RedSt) (l : List (Fld × Nat)) : Dev :=
  let d := dv l
  { d with red := g { d.red with cfg := { (default : RedCfg) with en := true } } }

theorem wit_RedRoles : (redu (fun r => { r with listen := 16 }) [(F.RED_STS_ROLE, 1)]).redRole = 1 ∧
    0 < (redu id [(F.RED_SEEN_SEEN, 1)]).get F.RED_SEEN_SEEN ∧ (redu id []).get F.RED_SEEN_SEEN = 0 ∧
    (redu (fun r => { r with listen := 64 }) []).red.listen = 64 ∧
    bitOf (ax [⟨31, 0, 0, .none⟩] [] []).directMask 31 = true ∧ (redu id [(F.RED_STS_ROLE, 5), (F.RED_STS_LINK_UP, 1)]).redUp = true ∧
    (redu (fun r => { r with fb := [(0, 0)] }) []).red.fb.any (fun x => x.2 == (redu id []).get F.RED_CLAIM_CLAIM) = true ∧
    (redu id []).red.fb.any (fun x => x.2 == 0) = false ∧
    (redu (fun r => { r with partner := 4 }) [(F.RED_STS_ROLE, 2), (F.RED_STS_LINK_UP, 1)]).liveStandby = true ∧
    4 ≤ cycDist 0 ((redu id [(F.RED_DRILL_CYC_D, 4)]).get F.RED_DRILL_CYC_D) ∧ cycDist 0 3 < 4 ∧
    (redu (fun r => { r with takeDue := true, copy := some default }) [(F.RED_STS_ROLE, 4)]).red.copy = some default ∧
    (∀ a ∈ (ax [⟨127, 15, 0, .none⟩] [] []).traj.axes, a.axis < 128 ∧ a.group < 16) := by decide +kernel

theorem wit_RedFrames : (redGood (redFrame 15 255 7 1 [9]) = true) ∧ (redGood [0, 0, 0, 0] = false) ∧
    (∀ t ∈ [1, 2, 3, 4, 5], ((redu id [(F.RED_STS_LINK_UP, 1)]).redIn t (redFrame t 1 7 1 [9]) 0).2 = some (1, 7, [9])) ∧
    (redu (fun r => { r with rxCyc := some 7, rx := (List.range 24).map (fun i => (i, [1])) }) [(F.RED_STS_ROLE, 3)]).red.rxCyc = some 7 ∧
    (List.range 24).any (fun i => (tget (redu (fun r => { r with rxCyc := some 7, rx := (List.range 24).map (fun i => (i, [1])) }) []).red.rx i).isEmpty) = false := by
  decide +kernel

/-! Power, start-up and updates. -/

/-- A device with a power state. -/
def pw (g : PwrSt → PwrSt) (l : List (Fld × Nat)) : Dev :=
  let d := dv l
  { d with pwr := g d.pwr }

theorem wit_PowerEntries : (pw id [(F.PWR_STS_PHASE, 2), (F.PWR_STS_TARGET, 3)]).get F.PWR_STS_TARGET ≤ 3 ∧ (pw id [(F.PWR_STS_PHASE, 2)]).pwrPhase = 2 ∧
    (pw id [(F.PWR_STS_PHASE, 4)]).pwrState < 1 ∧ (pw id []).pwrPhase < 2 ∧ (pw id [(F.PWR_STS_PHASE, 3), (F.PWR_STS_TARGET, 3)]).pwrPhase = 3 ∧
    (pw id [(F.LINK_SCHED_STS_SSTATE, 5)]).sstate = 5 ∧ (pw (fun q => { q with reqs := [3, 0] }) [(F.PWR_STS_PHASE, 1)]).pwr.reqs = [3, 0] ∧
    (pw id []).powVeto 1 = none ∧ (pw id []).powVeto 3 = none ∧ (pw id [(F.UPD_STS_OWNER, 1)]).powVeto 3 = some 1 ∧ (pw id []).inFlight = [] ∧
    ({ dmaAt 7 false with regs := (pw id [(F.PWR_STS_PHASE, 2), (F.PWR_STS_TARGET, 3)]).regs } : Dev).inFlight = [7] ∧
    (pw (fun q => { q with wake := some 3 }) []).pwr.wake = some 3 ∧ (pw id [(F.PWR_STS_PHASE, 4), (F.PWR_STS_STATE, 2)]).pwrState = 2 ∧
    (pw id [(F.PWR_STS_STATE, 3)]).pwrState = 3 ∧ (pw id [(F.PWR_WAKE_PERST, 1)]).wakeEnabled .perst = true ∧ (pw id [(F.PWR_WAKE_MSPI, 0)]).wakeEnabled .mspi = false := by decide +kernel

theorem wit_PowerLevels : (pw id []).pwr.perf = 0 ∧ (pw (fun q => { q with perf := 2 }) []).pwr.perf ≠ 0 ∧
    ((1 : Word).toNat == 1) = (pw id [(F.PWR_STS_PERF, 1)]).flag F.PWR_STS_PERF ∧ (pw id [(F.PWR_STS_PERF, 0)]).flag F.PWR_STS_PERF = false ∧
    (List.range 16).all (fun c => decide (((pw id []).sctx c).stage = .idle)) = true ∧
    (List.range 16).all (fun c => decide (((sol { (default : SolvCtx) with stage := .waiting }).sctx c).stage = .idle)) = false ∧
    pmbFaulty 0x8000 = true ∧ pmbFaulty 0x0800 = false ∧ bitOf 0x8000 15 = true ∧
    (pw (fun q => { q with pmicEn := true }) [(F.PWR_STS_PGOOD, 1)]).flag F.PWR_STS_PGOOD = true := by decide +kernel

/-- The same in RUN, its ports open, PD_SOLV on. -/
def pwOn (g : PwrSt → PwrSt) (l : List (Fld × Nat)) : Dev :=
  let d := pw (fun q => g { q with pmicEn := true, off := 0 }) ((F.CFG_BOOT_STS_STAGE, 10) :: l)
  { d with host := { d.host with granted := true } }

/-- A read of STATUS_WORD that goes through, one that fails, one that shows a fault and one whose CLEAR_FAULTS fails. -/
def pmb0 : PmbRead := ⟨some 0, none, true⟩
def pmbNo : PmbRead := ⟨none, none, true⟩
def pmbFlt : PmbRead := ⟨some 0x8000, some 0x80, true⟩
def pmbBad : PmbRead := ⟨some 0x8000, some 0x80, false⟩

theorem wit_PowerRequests : (pwOn id []).mayAccess .pcie = true ∧ (dv []).mayAccess .pcie = false ∧ (pwOn id [(F.PWR_STS_PHASE, 0)]).pwrPhase < 2 ∧
    (pwOn id [(F.PWR_STS_PHASE, 2), (F.PWR_STS_TARGET, 3)]).pwrPhase = 2 ∧ (2 : Word).toNat < (pwOn id [(F.PWR_STS_PHASE, 2), (F.PWR_STS_TARGET, 3)]).get F.PWR_STS_TARGET ∧
    (pwOn id [(F.PWR_STS_PHASE, 4), (F.PWR_STS_STATE, 2)]).pwrPhase = 4 ∧ (pwOn id [(F.PWR_STS_PHASE, 4), (F.PWR_STS_STATE, 2)]).mayAccess .pcie = true ∧
    (pwOn id [(F.LINK_SCHED_STS_SSTATE, 5)]).sstate = 5 ∧ (pwOn id [(F.PWR_STS_PHASE, 2), (F.PWR_STS_TARGET, 3), (F.PWR_WAKE_PERST, 1)]).wakeEnabled .perst = true := by
  decide +kernel

theorem wit_PerfSteps : (pwOn id []).pwr.perf = 0 ∧ (pwOn id [(F.PWR_STS_PERF, 1)]).flag F.PWR_STS_PERF = true ∧
    (∀ k ∈ ([1, 2, 3, 4, 5] : List Nat), (pwOn (fun q => { q with perf := k }) []).pwr.perf = k ∧ (pwOn (fun q => { q with perf := k }) []).solvIdle = true) ∧
    (sol { (default : SolvCtx) with stage := .iterate }).solvIdle = false ∧
    bitOf (pwOn (fun q => { q with perf := 1, off := 1 }) []).pwr.off 0 = true ∧ (pwOn (fun q => { q with perf := 1, off := 1 }) []).solvIdle = true ∧
    pmbLost pmb0 = false ∧ pmbLost pmbNo = true ∧ pmbLost pmbFlt = false ∧ pmbLost pmbBad = true ∧
    pmbFaulty 0x8000 = true ∧ pmbFaulty 0 = false ∧ bitOf 0x8000 15 = true ∧ (pwOn id []).pmbOn = true ∧ (dv []).pmbOn = false ∧
    (pwOn id [(F.PWR_STS_PGOOD, 1)]).flag F.PWR_STS_PGOOD = true := by decide +kernel

/-- A device with a start-up state. -/
def bt (g : BootSt → BootSt) (l : List (Fld × Nat)) : Dev :=
  let d := dv l
  { d with boot := g d.boot, pwr := { d.pwr with pmicEn := true } }

theorem wit_BootSteps : Dev.reset.pwr.vbusOk = false ∧ ({ Dev.reset.pwr with resetN := false } : PwrSt).resetN = false ∧
    (bt id [(F.CFG_BOOT_STS_STAGE, 2), (F.CFG_BOOT_STS_TRIES, 3)]).stage = 2 ∧ (bt id []).pwr.pmicEn = true ∧ (bt id []).flag F.PWR_STS_PGOOD = false ∧
    (bt id [(F.CFG_BOOT_STS_STAGE, 3), (F.CFG_BOOT_STS_TRIES, 2)]).get F.CFG_BOOT_STS_TRIES < 3 ∧ (bt (fun b => { b with retry := true }) []).boot.retry = true ∧
    (bt id [(F.CFG_BOOT_STS_STAGE, 4)]).stage = 4 ∧ (bt id [(F.CFG_BOOT_STS_STAGE, 5)]).host.granted = false ∧ (bt id []).flag F.CFG_BOOT_STS_FAILED = false ∧
    (match (flashImg []).validate [] false false none Dev.reset with | .error e => decide (e = (2, 0, 0xFF)) | .ok _ => false) = true ∧
    (isl cfg7 id [(F.CFG_BOOT_STS_STAGE, 5)]).istate = 0 ∧ (isl cfg7 id []).safe.tested = false ∧
    (bt id [(F.CFG_BOOT_STS_STAGE, 9), (F.SAFE_STS_ISTATE, 1)]).stage = 9 ∧ (bt id [(F.SAFE_STS_ISTATE, 1)]).istate ≠ 0 ∧ Dev.reset.pwr.resetN = true ∧
    ({ bt id [(F.CFG_BOOT_STS_STAGE, 10)] with time := (tmAt 0 []).time } : Dev).stage ≠ 3 ∧
    ({ bt id [(F.CFG_BOOT_STS_STAGE, 10)] with time := (tmAt 0 []).time } : Dev).time.running = true ∧
    ({ bt id [(F.CFG_BOOT_STS_STAGE, 10)] with time := (tmAt 0 []).time } : Dev).pwr.pmicEn = true := by
  decide +kernel

theorem wit_Banks : bankBad ⟨1800, 3300, 1710, 3465, 1890⟩ = none ∧ bankBad ⟨1800, 3300, 1800, 3300, 2500⟩ = some 4 ∧ bankBad ⟨0, 0, 0, 0, 0⟩ = some 0 ∧
    (bt (fun b => b) [(F.CFG_BOOT_STS_STAGE, 2)]).stage = 2 ∧ (bt id [(F.CFG_BOOT_STS_STAGE, 2)]).flag F.CFG_BOOT_STS_FAILED = false ∧
    ({ bt id [] with pwr := { (bt id []).pwr with perf := 5 } } : Dev).pwr.perf = 5 ∧
    (⟨some 0x8000, some 0, true⟩ : PmbRead).word = some 0x8000 ∧ (⟨none, none, true⟩ : PmbRead).word = none := by decide +kernel

/-- The root, which loads node 1's companion: its COMP section is 16 bytes at 0. -/
def comp (g : BootSt → BootSt) (nodes : List NodeEntry) (l : List (Fld × Nat)) : Dev :=
  let d := bt (fun b => g { b with sects := [⟨13, 4, 1, 0, 16, crc32c (List.replicate 16 0xFF), 1⟩] })
    ([(F.CFG_BOOT_STS_STAGE, 7), (F.LINK_STS_ROOT, 1), (F.LINK_PORT_STS_STATE 0, 3)] ++ l)
  { d with link := { d.link with cfg := { d.link.cfg with nodes := nodes }, disc := { d.link.disc with graph := [⟨0, 0x110, [], [], [], 0, some 1⟩] } } }

/-- A COMPLOAD frame from node 1 about attempt a. -/
def compFr (sub a : Nat) : Frame := (dv [(F.LINK_STS_NODE_ID, 1), (F.LINK_STS_ID_VALID, 1)]).mkFrame 11 0 3 0 [BitVec.ofNat 32 (sub * 2 ^ 24 + a * 2 ^ 16)]

theorem wit_Companions : (comp id [] []).boot.cur = none ∧ (comp id [] []).boot.waitFrom = none ∧ (comp id [] []).compNodes = [1] ∧
    ({ comp id [] [] with link := default } : Dev).compNodes = [] ∧
    ((comp id [] []).boot.sects.filter (fun z => z.typ == 13)).map (·.inst) = [1] ∧ ((comp id [] []).compSect 1).isSome = true ∧
    crc32c (Memory.flashBytes [] 0 16) = crc32c (List.replicate 16 0xFF) ∧
    (∀ k ∈ [4, 5, 6], ((comp (fun b => { b with cur := some (1, 3) }) [] []).compIn k 0 (compFr k 3) 0).2 = some 1) ∧
    ((comp id [] []).compIn 4 0 (compFr 5 3) 0).2 = none ∧ (comp (fun b => { b with cur := some (1, 3) }) [] []).compMine 1 (compFr 4 3) = true ∧
    (comp (fun b => { b with cur := some (1, 3) }) [] []).compMine 1 (compFr 4 2) = false ∧ (comp id [⟨1, 0x110, true, []⟩] []).compRequired 1 = true ∧
    (comp id [] []).compRequired 1 = false ∧ (comp (fun b => { b with wait := [1], waitFrom := some 0 }) [] []).boot.wait = [1] ∧ (comp id [] []).boot.todo = [] := by
  decide +kernel

/-- A device with an update in a state. -/
def up (g : UpdSt → UpdSt) (l : List (Fld × Nat)) : Dev :=
  let d := dv l
  { d with upd := g d.upd }

/-- A command of the host over PCIe. -/
def work (op idx : Nat) : UpdWork := ⟨2, 0, op, idx, false, [], 0⟩

theorem wit_FieldUpdate : updSrc (.sp 15) = none ∧ updSrc .pcie = some 2 ∧ updSrc .tunnel = some 3 ∧ (up id [(F.UPD_STS_OWNER, 1)]).updHolds 2 0 = false ∧
    (up id [(F.UPD_STS_OWNER, 2)]).updHolds 2 0 = true ∧ (up id []).updOwner = 0 ∧ (up id []).upd.peer = none ∧
    (up (fun u => { u with work := [work 1 0] }) []).upd.work.any (fun w => w.src == 2 && (2 != 3 || w.node == 0)) = true ∧
    (up id []).updCheck 2 0 5 15 = some 7 ∧ (up id []).updCheck 2 0 4 0 = some 2 ∧ (up id [(F.UPD_STS_OWNER, 2)]).updCheck 2 0 4 0 = none ∧
    ({ up id [(F.ADC_VBUS_VOLT, 65535)] with boot := { (up id []).boot with skipHold := true } } : Dev).updCheck 2 0 5 15 = none ∧ (work 5 15).op = 5 ∧
    (work 2 511).second = false ∧ (up (fun u => { u with work := [work 3 0] }) []).upd.work = [work 3 0] := by decide +kernel

theorem wit_UpdateSources : (up id []).updFrom .pcie = true ∧ (up id []).updFrom .tunnel = true ∧
    ({ up id [] with host := { (up id []).host with recovery := true } } : Dev).updFrom .tunnel = false ∧ (work 3 0).op = 3 ∧
    ({ up id [(F.ADC_VBUS_VOLT, 0)] with boot := { (up id []).boot with skipHold := false } } : Dev).nvOk 0 = false := by decide +kernel

theorem wit_Commit_refused : (overImg [] []).header = some (2, 0, 0xFF) := by
  have h : overImg [] [] 0 4 = [0, 0, 0, 0] := by rw [overImg_apply _ _ _ _ (by decide)]; decide
  simp [Img.header, h]

theorem wit_PatchStaging : (dv [(F.CFG_PATCH_LVL_PENDING, 1)]).flag F.CFG_PATCH_LVL_PENDING = true ∧
    (dv [(F.CFG_PATCH_LVL_WPTR, 4095)]).get F.CFG_PATCH_LVL_WPTR < 4096 ∧ (dv [(F.CFG_PATCH_LVL_WPTR, 4096)]).get F.CFG_PATCH_LVL_WPTR = 4096 ∧
    (dv []).flag F.CFG_PATCH_LVL_PENDING = false ∧ (dv []).upd.patch = [] := by decide +kernel

/-- A device whose test access port holds an instruction, and whose RESET_N is as given. -/
def tapAt (ir : BitVec 8) (r : Bool) : Dev := { Dev.reset with tap := { Dev.reset.tap with ir := ir }, pwr := { Dev.reset.pwr with resetN := r } }

theorem wit_TapInstructions : (∀ k ∈ ([0, 3, 4, 5, 6] : List (BitVec 8)), (tapAt k true).tap.ir ∈ ([0, 3, 4, 5, 6] : List (BitVec 8))) ∧
    (tapAt 2 false).tap.ir ∉ ([0, 3, 4, 5, 6] : List (BitVec 8)) ∧ (tapAt 3 true).pwr.resetN = true ∧ (tapAt 3 false).pwr.resetN = false ∧
    (tapAt 2 true).ballFn .pmicEn (tapAt 2 true).sysClk = some false ∧ ((tapAt 2 true).ballFn (.sout 7) 0).isSome = true := by decide +kernel

/-- The first 288 bytes of an image with one section, signed with the key of RFC 6979, A.2.5, as words. -/
def hdrWords : List (Nat × Word) := [
(0, 0x4348544c), (1, 0x00000001), (2, 0x00010960), (3, 0x00001000), (20, 0xbad4fe60), (21, 0x319d5a25), (22, 0x74eb61c9), (23, 0x686d35c6), 
(24, 0x92b849c0), (25, 0x6cfa613b), (26, 0x2e6269e6), (27, 0xb69ff260), (28, 0x10fe0379), (29, 0x99bcb808), (30, 0xe9e91aa4), (31, 
0x64bc2856), (32, 0x0cb2f1f2), (33, 0x519f7e2d), (34, 0x94c2a377), (35, 0x992246d4), (48, 0x74d9cdf8), (49, 0xeca6654c), (50, 0xeed6d7d7), 
(51, 0x15da3618), (52, 0x912e0f70), (53, 0x7b6f008b), (54, 0x9309d999), (55, 0x44617015), (56, 0xfb865cda), (57, 0x5a8a9030), (58, 
0x2cb891aa), (59, 0x81753bc3), (60, 0x81182310), (61, 0xace82460), (62, 0xc9859158), (63, 0x1df1f654)
]

/-- The bytes those words spell. -/
def hdrImg : Img := fun a n => (List.range n).map (fun i => BitVec.ofNat 8 ((tget hdrWords ((a + i) / 4)).toNat / 256 ^ ((a + i) % 4)))

theorem hdr_image : hdrImg.header = none ∧ hdrImg.sigOk = true ∧ hdrImg.keyBad [] = false ∧ hdrImg.count = 1 := by decide +kernel

/-- OPEN's checks of a staged image pass. -/
theorem wit_Open : (overImg hdrWords []).header = none ∧ (overImg hdrWords []).sigOk = true ∧ (overImg hdrWords []).keyBad [] = false := by
  have k : ∀ a n, a + n ≤ 65536 → overImg hdrWords [] a n = hdrImg a n := fun a n h => overImg_apply hdrWords [] a n h
  have c : (overImg hdrWords []).count = hdrImg.count := by simp only [Img.count, Img.le]; rw [k _ _ (by decide)]
  have e := hdr_image
  refine ⟨?_, ?_, ?_⟩
  · rw [← e.1]
    simp only [Img.header, c, Img.length, Img.le, Img.zero]
    simp only [k _ _ (show 0 + 4 ≤ 65536 by decide), k _ _ (show 4 + 2 ≤ 65536 by decide), k _ _ (show 8 + 2 ≤ 65536 by decide),
      k _ _ (show 0x0C + 4 ≤ 65536 by decide), k _ _ (show 0x24 + 12 ≤ 65536 by decide), k _ _ (show 0x90 + 48 ≤ 65536 by decide)]
    rfl
  · rw [← e.2.1]
    simp only [Img.sigOk, c]
    have one := e.2.2.2
    rw [one]
    rw [k _ _ (by decide), k _ _ (by decide), k _ _ (by decide), k _ _ (by decide)]
  · rw [← e.2.2.1]
    simp only [Img.keyBad]
    rw [k _ _ (by decide)]

/-! Well-formedness: one ill-formed term for each check. -/

theorem test_wf_refuses : Instr.wf (.regWrite (.sp 16) 0 15 0) = false ∧
    Instr.wf (.frameReceive 0 { (default : Frame) with body := List.replicate 65 0 } 0) = false ∧ Instr.wf (.mspiWriteFrame []) = false ∧
    Instr.wf (.mspiReadFrame []) = false ∧ Instr.wf (.stateFrameReceive (List.replicate 1029 0) 0) = false ∧
    Instr.wf (.updOpen (.sp 16) 0) = false ∧ Instr.wf (.drillFrameReceive (List.replicate 1029 0) 0) = false := by decide +kernel

theorem test_wf_dma : Instr.wf (.dmaEnd 0 .moved (List.replicate (2 ^ 22 + 1) 0)) = false := by
  simp only [Instr.wf, List.length_replicate]
  decide

theorem test_wf_accepts : Instr.wf (.regWrite (.sp 15) 0 15 0) = true ∧ Instr.wf (.mspiWriteFrame [2]) = true ∧
    Instr.wf (.frameReceive 0 { (default : Frame) with body := List.replicate 64 0 } 0) = true ∧ Instr.wf (.stateFrameReceive (List.replicate 1028 0) 0) = true := by decide +kernel

/-! SP words by the fields of Tables 14.6 to 14.8: each line gives the class and fields of the word. -/

/-- TAP and MACM with the moves 0x48 and 0x48, ST, EXA with shift 15, ADD and J. -/
theorem test_sp_words : spDecode 0xD0009090 = some (.p 4 0 0 0 0x48 0x48) ∧ spDecode 0xD4009090 = some (.p 5 0 0 0 0x48 0x48) ∧
    spDecode 0x49000001 = some (.i 9 0 0 1) ∧ spDecode 0x122003C0 = some (.r 0x12 2 0 0 15) ∧ spDecode 0x01123000 = some (.r 1 1 2 3 0) ∧
    spDecode 0x80000010 = some (.b 0 0 0x10) := by decide +kernel

/-! Standards: the check value of CRC-32C, FIPS 180-4's digest of "abc", RFC 6979's signature of "sample" (A.2.5). -/

theorem test_crc32c : crc32c [0x31, 0x32, 0x33, 0x34, 0x35, 0x36, 0x37, 0x38, 0x39] = 0xE3069283 := by decide +kernel

theorem test_sha256 : beNat (sha256 [0x61, 0x62, 0x63]) = 0xba7816bf8f01cfea414140de5dae2223b00361a396177a9cb410ff61f20015ad := by decide +kernel

theorem test_ecdsa : ecdsaOk
    (beBytes 32 0x60FED4BA255A9D31C961EB74C6356D68C049B8923B61FA6CE669622E60F29FB6 ++
      beBytes 32 0x7903FE1008B8BC99A41AE9E95628BC64F2F1B20C2D7E9F5177A3C294D4462299)
    (sha256 [0x73, 0x61, 0x6D, 0x70, 0x6C, 0x65])
    (beBytes 32 0xEFD48B2AACB6A8FD1140DD9CD45E81D69D2C877B56AAF991C34D0EA84EAF3716 ++
      beBytes 32 0xF7CB1C942D657C41D436C7A1B6E29F65F3E900DBB9AFF4064DC4AB2F843ACDA8) = true := by decide +kernel

/-- The code-groups of the idle sets (05 R121): K28.5 at either disparity, D5.6 and D16.2, by IEEE 802.3 Tables 36-1a and 36-2. -/
theorem test_idle_groups : (code10 false true 0xBC).1 = 0b0011111010 ∧ (code10 true true 0xBC).1 = 0b1100000101 ∧
    (code10 false false 0xC5).1 = 0b1010010110 ∧ (code10 false false 0x50).1 = 0b0110110101 ∧ (code10 true false 0x50).1 = 0b1001000101 := by decide +kernel

/-! Reset and single steps. -/

theorem wit_memWf : State.reset.memWf := by unfold State.memWf; decide

/-- What a command leaves of a state, where it answers a next one. -/
def after {α : Type} (s : State) (c : Instr) (g : State → α) : Option α :=
  match step { s with pending := [c] } with
  | .next t => some (g t)
  | _ => none

/-- A full write stores the RW fields of a register and no other (03 Table 3.10). -/
theorem test_regWrite : after (on up10) (.regWrite .pcie 0x44 15 0xFFFFFFFF) (fun t => t.dev.rd 0x44) =
    some (BitVec.ofNat 32 ((regAt 0x44).map (·.rw)).get!) := by decide +kernel

/-- MOVI writes the sign-extended immediate and the pc moves on (14 Table 14.6). -/
theorem test_movi : after (spAt 0 (.i 4 1 0 0xFFFF) default []) (.spMovi 0 1 0xFFFF) (fun t => ((t.dev.core 0).dv 1, (t.dev.core 0).pc)) =
    some (0xFFFFFFFF, 1) := by decide +kernel

/-- ADD of 0x7FFFFFFF and 1 wraps and sets N and V (14 R344). -/
theorem test_add : after (spAt 0 (.r 1 3 1 2 0) { (default : SpCore) with d := [(1, 0x7FFFFFFF), (2, 1)] } []) (.spAdd 0 3 1 2)
    (fun t => ((t.dev.core 0).dv 3, (t.dev.core 0).srv % 16)) = some (0x80000000, 6) := by decide +kernel

/-- A product of MUL is visible one instruction later (14 Table 14.10). -/
theorem test_mul_late : after (spAt 0 (.r 8 3 1 2 0) { (default : SpCore) with d := [(1, 6), (2, 7)] } []) (.spMul 0 3 1 2)
    (fun t => ((t.dev.core 0).dv 3, (t.dev.core 0).late)) = some (0, [(1, .dreg 3 42 false)]) := by decide +kernel

/-- An illegal word enters the exception at 8 with cause 1 (14 R352). -/
theorem test_illegal : after (spAt 0 (.b 15 0 0) { (default : SpCore) with cr := [(34, 0x400)] } []) (.illegalOpcode 0)
    (fun t => ((t.dev.core 0).pc, (t.dev.core 0).cv 36, (t.dev.core 0).cv 37, (t.dev.core 0).cv 38)) = some (8, 0, 0x400, 1) := by decide +kernel

/-- VBUS at 8.5 V with RESET_N high starts step 2 (20 Table 20.1). -/
theorem test_start : after State.reset .vbusRise (fun t => (t.dev.stage, t.dev.pwr.pmicEn)) = some (2, true) := by decide +kernel

/-- The JTAG IDCODE instruction and the words of the command table. -/
theorem test_tap : after State.reset .jtagHighz (fun t => t.dev.tap.ir) = some 3 ∧ decodeTableWord 32 0 = none := by decide +kernel

/-- A tick of 1 µs from reset with time running: 200 ticks of 5 ns (04 R97). -/
theorem test_usTick : after (on (tmAt 0 [])) .usTick (fun t => (t.dev.nowNs, t.dev.time.ticks)) = some (1000, 200) := by decide +kernel

/-- The fault report is true at reset. -/
theorem wit_Inv : State.reset.Inv := by unfold State.Inv Dev.shows Dev.netSeen; decide +kernel

end Sys2Proof.Tests
end

section
/-! The reaction to faults, and what settling makes of the fault report (01 R36 to R39). -/
namespace Sys2Proof.Machine

/-! Folds. -/

/-- A reflexive and transitive relation that every step of a fold keeps holds across the fold. -/
theorem foldl_rel_mem {α : Type} (r : Dev → Dev → Prop) (refl : ∀ d, r d d) (tr : ∀ {a b c}, r a b → r b c → r a c)
    (f : Dev → α → Dev) (l : List α) : (∀ x ∈ l, ∀ d, r d (f d x)) → ∀ d, r d (l.foldl f d) := by
  induction l with
  | nil => intro _ d; exact refl d
  | cons x t ih =>
    intro h d
    exact tr (h x List.mem_cons_self d) (ih (fun y hy => h y (List.mem_cons_of_mem _ hy)) (f d x))

/-! De-energising and the reaction of one axis, each cut where the axis is direct or the class de-energises. -/

/-- EN of an axis clears, and LOOP stops commanding it (01 R36). -/
def Dev.enOff (n : Nat) (d : Dev) : Dev :=
  let d := d.up (F.LOOP_CTL_EN n) false
  { d with loop := { d.loop with ax := tmod d.loop.ax n (fun a =>
      if n < 32 then { a with off := true, energise := false } else { a with energise := false }) } }

theorem Dev.deenergise_eq (d : Dev) (n : Nat) : d.deenergise n = if n < 32 then (d.enOff n).energOff n else d.enOff n := (rfl)

@[simp] theorem Dev.enOff_faults (d : Dev) (n : Nat) : (d.enOff n).faults = d.faults := (rfl)

/-- TRAJ takes note of a fault of a class on an axis (00 R13, 09 R224). -/
def Dev.noteReact (cls n : Nat) (d : Dev) : Dev :=
  { d with traj := { d.traj with ax := tmod d.traj.ax n (fun a =>
    { a with react := max a.react cls, reactTaken := a.reactTaken && decide (cls ≤ a.react) }) } }

@[simp] theorem Dev.noteReact_rd (d : Dev) (c n o : Nat) : (d.noteReact c n).rd o = d.rd o := (rfl)
@[simp] theorem Dev.noteReact_faults (d : Dev) (c n : Nat) : (d.noteReact c n).faults = d.faults := (rfl)

/-- One axis reacts to a fault of a class. -/
def Dev.reactAxis (cls n : Nat) (d : Dev) : Dev := if 3 ≤ cls then (d.noteReact cls n).deenergise n else d.noteReact cls n

theorem Dev.react_eq (d : Dev) (cls axes : Nat) :
    d.react cls axes = if cls = 0 then d else (onesBelow 128 axes).foldl (fun d n => d.reactAxis cls n) d := (rfl)

/-- What neither TRAJ's note nor de-energising any axis changes, a reaction leaves. -/
theorem Dev.react_keep {β : Type} (g : Dev → β) (cls axes : Nat) (d : Dev)
    (note : ∀ n (d : Dev), g (d.noteReact cls n) = g d) (off : ∀ n < 128, ∀ d : Dev, g (d.deenergise n) = g d) :
    g (d.react cls axes) = g d := by
  rw [Dev.react_eq]
  split
  · rfl
  · refine foldl_keep_mem g _ _ (fun n hn d => ?_) d
    rw [Dev.reactAxis]
    split
    · rw [off n (onesBelow_lt hn), note]
    · exact note n d

/-! The host's part. -/

/-- The host's part but for MSI-X's pending bits and waiting messages: what no event changes. -/
def Dev.hostRest (d : Dev) : HostSt := { d.host with pba := 0, msgs := [] }

@[simp] theorem Dev.hostRest_put (d : Dev) (f : Fld) (v : Nat) : (d.put f v).hostRest = d.hostRest := by
  simp only [Dev.hostRest, Dev.put_host]
@[simp] theorem Dev.hostRest_up (d : Dev) (f : Fld) (b : Bool) : (d.up f b).hostRest = d.hostRest := by
  simp only [Dev.hostRest, Dev.up_host]
@[simp] theorem Dev.hostRest_wr (d : Dev) (o : Nat) (w : Word) : (d.wr o w).hostRest = d.hostRest := by
  simp only [Dev.hostRest, Dev.wr_host]
@[simp] theorem Dev.hostRest_faults (d : Dev) (l : List FaultRec) : ({ d with faults := l } : Dev).hostRest = d.hostRest := (rfl)

@[simp] theorem Dev.hostRest_msix (d : Dev) (v : Nat) : (d.msix v).hostRest = d.hostRest := by
  unfold Dev.msix
  split
  · rfl
  · split <;> rfl

@[simp] theorem Dev.hostRest_raise (d : Dev) (f : Fld) : (d.raise f).hostRest = d.hostRest := by
  rcases d.raise_cases f with e | ⟨v, e⟩ <;> simp only [e, Dev.hostRest_msix, Dev.cntWrap, Dev.hostRest_put]

@[simp] theorem Dev.hostRest_record (d : Dev) (k : FaultKind) (i c a : Nat) (b : Bool) (o : Option Fld) :
    (d.record k i c a b o).hostRest = d.hostRest := by
  simp only [Dev.record, Dev.hostRest_raise, Dev.hostRest_faults]

@[simp] theorem Dev.hostRest_event0 (d : Dev) (f : Fld) : (d.event0 f).hostRest = d.hostRest := by
  simp only [Dev.event0, Dev.hostRest_record, Dev.hostRest_raise]

@[simp] theorem Dev.hostRest_enOff (d : Dev) (n : Nat) : (d.enOff n).hostRest = d.hostRest := by
  simp only [Dev.enOff, Dev.hostRest, Dev.up_host]

theorem Dev.hostRest_energOff (d : Dev) (n : Nat) : (d.energOff n).hostRest = d.hostRest := by
  unfold Dev.energOff
  split <;> simp only [Dev.hostRest_event0, Dev.hostRest_up]

theorem Dev.hostRest_deenergise (d : Dev) (n : Nat) : (d.deenergise n).hostRest = d.hostRest := by
  rw [Dev.deenergise_eq]
  split <;> simp only [Dev.hostRest_energOff, Dev.hostRest_enOff]

theorem Dev.hostRest_react (d : Dev) (c a : Nat) : (d.react c a).hostRest = d.hostRest :=
  Dev.react_keep Dev.hostRest c a d (fun _ _ => rfl) (fun n _ d => d.hostRest_deenergise n)

theorem Dev.hostRest_fault (d : Dev) (k : FaultKind) (i c a : Nat) (b : Bool) (o : Option Fld) :
    (d.fault k i c a b o).hostRest = d.hostRest := by
  rw [Dev.fault, Dev.hostRest_react, Dev.hostRest_record]

/-! The faults in force: a reaction reports events of class F0 and changes no other fault. -/

/-- Of d and e: every fault of d that is no report stands in e, and what e has beyond d is of class F0. -/
def Dev.reported (d e : Dev) : Prop :=
  (∀ r ∈ d.faults, r.kind ≠ .report → r ∈ e.faults) ∧ ∀ r ∈ e.faults, r ∈ d.faults ∨ r.cls = 0

theorem Dev.reported_of_eq {d e : Dev} (h : e.faults = d.faults) : d.reported e := by
  simp only [Dev.reported, h]
  exact ⟨fun _ hr _ => hr, fun _ hr => Or.inl hr⟩

theorem Dev.reported_trans {a b c : Dev} (h : a.reported b) (k : b.reported c) : a.reported c :=
  ⟨fun r hr hk => k.1 r (h.1 r hr hk) hk, fun r hr => (k.2 r hr).elim (h.2 r) Or.inr⟩

/-- The faults after a record: the new one, and the others but for one of its kind and index. -/
theorem Dev.record_faults (d : Dev) (k : FaultKind) (i c a : Nat) (b : Bool) (o : Option Fld) :
    (d.record k i c a b o).faults = ⟨k, i, c, a, b, o⟩ :: d.faults.filter (fun r => !(r.kind = k && r.idx = i)) := by
  simp only [Dev.record, Dev.raise_faults]

theorem Dev.mem_record_self (d : Dev) (k : FaultKind) (i c a : Nat) (b : Bool) (o : Option Fld) :
    (⟨k, i, c, a, b, o⟩ : FaultRec) ∈ (d.record k i c a b o).faults := by
  rw [Dev.record_faults]; exact List.mem_cons_self

theorem Dev.mem_record_of_kind (d : Dev) {k : FaultKind} (i c a : Nat) (b : Bool) (o : Option Fld) {r : FaultRec}
    (h : r ∈ d.faults) (hk : r.kind ≠ k) : r ∈ (d.record k i c a b o).faults := by
  rw [Dev.record_faults]
  exact List.mem_cons_of_mem _ (List.mem_filter.mpr ⟨h, by simp [hk]⟩)

theorem Dev.mem_record (d : Dev) {k : FaultKind} {i c a : Nat} {b : Bool} {o : Option Fld} {r : FaultRec}
    (h : r ∈ (d.record k i c a b o).faults) : r = ⟨k, i, c, a, b, o⟩ ∨ r ∈ d.faults := by
  rw [Dev.record_faults] at h
  exact (List.mem_cons.mp h).imp id (fun h => (List.mem_filter.mp h).1)

theorem Dev.reported_event0 (d : Dev) (f : Fld) : d.reported (d.event0 f) := by
  rw [Dev.event0]
  refine Dev.reported_trans (Dev.reported_of_eq (d.raise_faults f))
    ⟨fun r hr hk => Dev.mem_record_of_kind _ _ _ _ _ _ hr hk, fun r hr => ?_⟩
  rcases Dev.mem_record _ hr with e | e
  · exact Or.inr (by rw [e])
  · exact Or.inl e

theorem Dev.reported_energOff (d : Dev) (n : Nat) : d.reported (d.energOff n) := by
  unfold Dev.energOff
  split
  · refine Dev.reported_trans (Dev.reported_of_eq ?_) (Dev.reported_event0 _ _)
    rw [Dev.up_faults, Dev.up_faults]
  · exact Dev.reported_of_eq rfl

theorem Dev.reported_deenergise (d : Dev) (n : Nat) : d.reported (d.deenergise n) := by
  have h := Dev.reported_of_eq (d.enOff_faults n)
  rw [Dev.deenergise_eq]
  split
  · exact Dev.reported_trans h (Dev.reported_energOff _ n)
  · exact h

theorem Dev.reported_reactAxis (d : Dev) (cls n : Nat) : d.reported (d.reactAxis cls n) := by
  have h := Dev.reported_of_eq (d.noteReact_faults cls n)
  rw [Dev.reactAxis]
  split
  · exact Dev.reported_trans h (Dev.reported_deenergise _ n)
  · exact h

theorem Dev.reported_react (d : Dev) (c a : Nat) : d.reported (d.react c a) := by
  rw [Dev.react_eq]
  split
  · exact Dev.reported_of_eq rfl
  · exact foldl_rel_mem Dev.reported (fun _ => Dev.reported_of_eq rfl) Dev.reported_trans _ _
      (fun n _ d => d.reported_reactAxis c n) d

/-- A fault that is raised stands after the reaction to it. -/
theorem Dev.mem_fault_self (d : Dev) {k : FaultKind} (i c a : Nat) (b : Bool) (o : Option Fld) (hk : k ≠ .report) :
    (⟨k, i, c, a, b, o⟩ : FaultRec) ∈ (d.fault k i c a b o).faults :=
  (Dev.reported_react _ c a).1 _ (d.mem_record_self k i c a b o) hk

theorem Dev.mem_fault_of_kind (d : Dev) {k : FaultKind} (i c a : Nat) (b : Bool) (o : Option Fld) {r : FaultRec}
    (h : r ∈ d.faults) (hr : r.kind ≠ .report) (hk : r.kind ≠ k) : r ∈ (d.fault k i c a b o).faults :=
  (Dev.reported_react _ c a).1 _ (d.mem_record_of_kind i c a b o h hk) hr

/-- A fault that stands after one is raised is that one, stood before, or is of class F0. -/
theorem Dev.mem_fault (d : Dev) {k : FaultKind} {i c a : Nat} {b : Bool} {o : Option Fld} {r : FaultRec}
    (h : r ∈ (d.fault k i c a b o).faults) : r = ⟨k, i, c, a, b, o⟩ ∨ r ∈ d.faults ∨ r.cls = 0 :=
  ((Dev.reported_react _ c a).2 r h).elim (fun e => (d.mem_record e).imp id Or.inl) (fun e => Or.inr (Or.inr e))

/-! EXT_FAULT's bit. -/

theorem Dev.flag_of_get {d e : Dev} {f : Fld} (h : e.get f = d.get f) : e.flag f = d.flag f := by simp only [Dev.flag, h]

theorem Dev.get_of_rd {d e : Dev} {f : Fld} (h : e.rd f.reg = d.rd f.reg) : e.get f = d.get f := by simp only [Dev.get, h]

theorem Dev.flag_of_rd {d e : Dev} {f : Fld} (h : e.rd f.reg = d.rd f.reg) : e.flag f = d.flag f :=
  Dev.flag_of_get (Dev.get_of_rd h)

theorem clsEvt_reg (c : Nat) : (clsEvt c).reg = R.SYS_FAULT_EVT := by unfold clsEvt; split <;> rfl

theorem clsEvt_low (c : Nat) : (clsEvt c).evt ∧ (clsEvt c).hi < 4 := by unfold clsEvt Fld.evt; split <;> decide

/-- A report in SYS_FAULT_EVT leaves EXT_FAULT's bit. -/
theorem Dev.record_extBit (d : Dev) (k : FaultKind) (i c a : Nat) (b : Bool) (o : Option Fld) :
    (d.record k i c a b o).flag F.SYS_FAULT_EVT_EXT_FAULT = d.flag F.SYS_FAULT_EVT_EXT_FAULT := by
  obtain ⟨he, hl⟩ := clsEvt_low c
  have lo : (clsEvt c).hi < F.SYS_FAULT_EVT_EXT_FAULT.lo := lt_trans hl (by decide)
  exact Dev.flag_of_get (Dev.raise_get_apart _ _ _ he (clsEvt_reg c).symm (Or.inl lo) (by decide))

theorem Dev.event0_extBit (d : Dev) {f : Fld} (h : F.SYS_FAULT_EVT_EXT_FAULT.reg ≠ f.reg) :
    (d.event0 f).flag F.SYS_FAULT_EVT_EXT_FAULT = d.flag F.SYS_FAULT_EVT_EXT_FAULT := by
  rw [Dev.event0, Dev.record_extBit, Dev.flag_of_get (Dev.raise_get_ne d h)]

theorem Dev.deenergise_extBit (d : Dev) (n : Nat) :
    (d.deenergise n).flag F.SYS_FAULT_EVT_EXT_FAULT = d.flag F.SYS_FAULT_EVT_EXT_FAULT := by
  have ctl : F.SYS_FAULT_EVT_EXT_FAULT.reg ≠ (F.LOOP_CTL_EN n).reg := by simp only [F.SYS_FAULT_EVT_EXT_FAULT, F.LOOP_CTL_EN]; omega
  have sts : F.SYS_FAULT_EVT_EXT_FAULT.reg ≠ (F.LOOP_STS_ENERGISED n).reg := by
    simp only [F.SYS_FAULT_EVT_EXT_FAULT, F.LOOP_STS_ENERGISED]; omega
  have evt : F.SYS_FAULT_EVT_EXT_FAULT.reg ≠ (F.LOOP_EVT_DEENERG_EVT n).reg := by
    simp only [F.SYS_FAULT_EVT_EXT_FAULT, F.LOOP_EVT_DEENERG_EVT]; omega
  have en : (d.enOff n).flag F.SYS_FAULT_EVT_EXT_FAULT = d.flag F.SYS_FAULT_EVT_EXT_FAULT := Dev.flag_up_ne d false ctl
  have off : ∀ d : Dev, (d.energOff n).flag F.SYS_FAULT_EVT_EXT_FAULT = d.flag F.SYS_FAULT_EVT_EXT_FAULT := fun d => by
    unfold Dev.energOff
    split
    · rw [Dev.event0_extBit _ evt, Dev.flag_up_ne (f := F.LOOP_STS_BOOTING n) _ _ sts, Dev.flag_up_ne _ _ sts]
    · rfl
  rw [Dev.deenergise_eq]
  split
  · rw [off, en]
  · exact en

theorem Dev.fault_extBit (d : Dev) (k : FaultKind) (i c a : Nat) (b : Bool) (o : Option Fld) :
    (d.fault k i c a b o).flag F.SYS_FAULT_EVT_EXT_FAULT = d.flag F.SYS_FAULT_EVT_EXT_FAULT := by
  rw [Dev.fault, Dev.react_keep (fun d => d.flag F.SYS_FAULT_EVT_EXT_FAULT) c a _ (fun _ _ => rfl)
    (fun n _ d => d.deenergise_extBit n), Dev.record_extBit]

/-! What the device drives. -/

/-- A class whose faults make the device drive FAULT_N low (01 R37). -/
def Dev.asserts (d : Dev) (c : Nat) : Prop := c = 2 ∨ c = 3 ∨ (c = 1 ∧ d.flag F.SYS_FAULTN_CFG_F1_ASSERT = true)

theorem Dev.drives_iff (d : Dev) : d.drives = true ↔ d.host.everRun = false ∨ ∃ r ∈ d.faults, d.asserts r.cls := by
  simp only [Dev.drives, Dev.clsAct, Dev.asserts, Bool.or_eq_true, Bool.not_eq_true', Bool.and_eq_true, List.any_eq_true,
    decide_eq_true_eq]
  constructor
  · rintro (((h | ⟨r, hr, h⟩) | ⟨r, hr, h⟩) | ⟨⟨r, hr, h⟩, e⟩)
    · exact Or.inl h
    · exact Or.inr ⟨r, hr, Or.inl h⟩
    · exact Or.inr ⟨r, hr, Or.inr (Or.inl h)⟩
    · exact Or.inr ⟨r, hr, Or.inr (Or.inr ⟨h, e⟩)⟩
  · rintro (h | ⟨r, hr, h | h | ⟨h, e⟩⟩)
    · exact Or.inl (Or.inl (Or.inl h))
    · exact Or.inl (Or.inl (Or.inr ⟨r, hr, h⟩))
    · exact Or.inl (Or.inr ⟨r, hr, h⟩)
    · exact Or.inr ⟨⟨r, hr, h⟩, e⟩

theorem Dev.asserts_of_cfg {d e : Dev} (h : e.rd R.SYS_FAULTN_CFG = d.rd R.SYS_FAULTN_CFG) (c : Nat) : e.asserts c ↔ d.asserts c := by
  have f : e.flag F.SYS_FAULTN_CFG_F1_ASSERT = d.flag F.SYS_FAULTN_CFG_F1_ASSERT := Dev.flag_of_rd h
  simp only [Dev.asserts, f]

theorem not_asserts_zero (d : Dev) : ¬ d.asserts 0 := by simp [Dev.asserts]

/-- The report and LOOP's registers lie apart from the rest. -/
theorem not_settles_of_apart {o : Nat} (l : o ≠ R.SYS_FAULT_LVL) (e : o ≠ R.SYS_FAULT_EVT) (h : o < 0x500000 ∨ 0x502000 ≤ o) :
    ¬ settles o := by
  rintro (h' | h' | ⟨n, hn, h' | h' | h'⟩)
  · exact l h'
  · exact e h'
  · simp only [R.LOOP_CTL] at h'; omega
  · simp only [R.LOOP_STS] at h'; omega
  · simp only [R.LOOP_EVT] at h'; omega

theorem not_settles_faultnCfg : ¬ settles R.SYS_FAULTN_CFG := not_settles_of_apart (by decide) (by decide) (by decide)

/-- The parts of the host's state that the report rests on are those that no event changes. -/
theorem Dev.net_of_hostRest {d e : Dev} (h : e.hostRest = d.hostRest) :
    e.host.everRun = d.host.everRun ∧ e.host.faultnExt = d.host.faultnExt ∧ e.host.extCause = d.host.extCause :=
  ⟨congrArg (·.everRun) h, congrArg (·.faultnExt) h, congrArg (·.extCause) h⟩

/-- A device that drives nothing goes on so while no fault comes that asserts FAULT_N. -/
theorem Dev.drives_of_idle {d e : Dev} (h : d.drives = false) (host : e.hostRest = d.hostRest)
    (cfg : e.rd R.SYS_FAULTN_CFG = d.rd R.SYS_FAULTN_CFG) (new : ∀ r ∈ e.faults, r ∈ d.faults ∨ ¬ d.asserts r.cls) : e.drives = false := by
  obtain ⟨run, -, -⟩ := Dev.net_of_hostRest host
  rw [← Bool.not_eq_true, Dev.drives_iff] at h ⊢
  rintro (f | ⟨r, hr, f⟩)
  · exact h (Or.inl (run ▸ f))
  · have a := (Dev.asserts_of_cfg cfg _).mp f
    exact (new r hr).elim (fun old => h (Or.inr ⟨r, old, a⟩)) (fun none => none a)

/-! EXT_FAULT follows the net. -/

/-- The device does not drive a net that is low, and EXT_FAULT's cause is not noticed yet. -/
def Dev.extDue (d : Dev) : Prop := d.host.faultnExt = true ∧ d.host.extCause = false ∧ d.drives = false

/-- The fault EXT_FAULT makes the device drive the net itself, and stands by its event bit. -/
def Dev.extHeld (d : Dev) : Prop :=
  d.host.extCause = true ∧ d.flag F.SYS_FAULT_EVT_EXT_FAULT = true ∧
    ∃ r ∈ d.faults, r.owner = some F.SYS_FAULT_EVT_EXT_FAULT ∧ d.asserts r.cls

theorem Dev.extFault_of_netSeen {d : Dev} (h : d.netSeen) : d.extFault = d := by
  have e : ((d.host.faultnExt && !d.drives) == d.host.extCause) = true := by simp [show d.host.extCause = _ from h]
  simp only [Dev.extFault, e, if_true]

/-- The device in which EXT_FAULT's cause has gone. -/
def Dev.extGone (d : Dev) : Dev := (({ d with host := { d.host with extCause := false } } : Dev).causeOff .extFault 0).prune

/-- The device that has noticed EXT_FAULT's cause. -/
def Dev.extNoted (d : Dev) : Dev := { d with host := { d.host with extCause := true } }

/-- The fault that EXT_FAULT is where EXT_EN makes it one: its bit, and a fault of EXT_CLASS on every axis. -/
def Dev.extRaised (d : Dev) : Dev :=
  (d.up F.SYS_FAULT_EVT_EXT_FAULT true).fault .extFault 0 (d.get F.SYS_FAULTN_CFG_EXT_CLASS) allAxes true (some F.SYS_FAULT_EVT_EXT_FAULT)

/-- The device in which EXT_FAULT's cause has come. -/
def Dev.extCome (d : Dev) : Dev :=
  if d.extNoted.flag F.SYS_FAULTN_CFG_EXT_EN then d.extNoted.extRaised else d.extNoted.raise F.SYS_FAULT_EVT_EXT_FAULT

theorem Dev.extFault_gone {d : Dev} (c : (d.host.faultnExt && !d.drives) = false) (e : d.host.extCause = true) :
    d.extFault = d.extGone := by
  have n : ¬((false == true) = true) := by decide
  simp only [Dev.extFault, c, e, if_neg n, Bool.false_eq_true, if_false, Dev.extGone]

theorem Dev.extFault_come {d : Dev} (h : d.extDue) : d.extFault = d.extCome := by
  obtain ⟨f, e, n⟩ := h
  have c : (d.host.faultnExt && !d.drives) = true := by simp [f, n]
  have m : ¬((true == false) = true) := by decide
  simp only [Dev.extFault, c, e, if_neg m, if_true]
  rfl

/-- Once the cause has gone the report is true, or the net is still low and the device has stopped driving it. -/
theorem Dev.extGone_cases (d : Dev) : d.extGone.netSeen ∨ d.extGone.extDue := by
  have e : d.extGone.host.extCause = false := rfl
  unfold Dev.netSeen Dev.extDue
  rw [e]
  cases d.extGone.host.faultnExt <;> cases d.extGone.drives <;> simp

/-- A fault that stands by its event bit stays when the cause goes. -/
theorem Dev.extGone_drives {d : Dev} (h : d.extHeld) : d.extGone.drives = true := by
  obtain ⟨-, bit, r, hr, own, cls⟩ := h
  refine (Dev.drives_iff _).mpr (Or.inr ?_)
  refine ⟨if r.kind = .extFault && r.idx = 0 then { r with cause := false } else r, ?_, ?_⟩
  · refine List.mem_filter.mpr ⟨List.mem_map.mpr ⟨r, hr, rfl⟩, ?_⟩
    have bit' : (({ d with host := { d.host with extCause := false } } : Dev).causeOff .extFault 0).flag F.SYS_FAULT_EVT_EXT_FAULT = true := bit
    split <;> simp only [Dev.active, own, bit', Bool.or_true]
  · have asrt := Dev.asserts_of_cfg (d := d) (e := d.extGone) rfl
    split <;> exact (asrt _).mpr cls

theorem Dev.extGone_netSeen {d : Dev} (h : d.extHeld) : d.extGone.netSeen := by
  have e : d.extGone.host.extCause = false := rfl
  rw [Dev.netSeen, e, Dev.extGone_drives h]
  simp

theorem Dev.extRaised_hostRest (d : Dev) : d.extRaised.hostRest = d.hostRest := by
  rw [Dev.extRaised, Dev.hostRest_fault, Dev.hostRest_up]

theorem Dev.extRaised_cfg (d : Dev) : d.extRaised.rd R.SYS_FAULTN_CFG = d.rd R.SYS_FAULTN_CFG := by
  rw [Dev.extRaised, Dev.fault_rd _ _ _ _ _ _ _ not_settles_faultnCfg, Dev.up, Dev.rd_put_ne _ _ (by decide)]

/-- EXT_FAULT as a fault: of a class that asserts FAULT_N it is held by its bit; of another it adds nothing that asserts. -/
theorem Dev.extRaised_held {d : Dev} (h : d.host.extCause = true) (a : d.asserts (d.get F.SYS_FAULTN_CFG_EXT_CLASS)) :
    d.extRaised.extHeld := by
  obtain ⟨-, -, ext⟩ := Dev.net_of_hostRest d.extRaised_hostRest
  refine ⟨ext.trans h, ?_, _, Dev.mem_fault_self _ _ _ _ _ _ (by decide), rfl, (Dev.asserts_of_cfg d.extRaised_cfg _).mpr a⟩
  rw [Dev.extRaised, Dev.fault_extBit, Dev.flag_up_same _ _ _ rfl (by decide)]

theorem Dev.extRaised_drives {d : Dev} (h : d.drives = false) (a : ¬ d.asserts (d.get F.SYS_FAULTN_CFG_EXT_CLASS)) :
    d.extRaised.drives = false := by
  refine Dev.drives_of_idle h d.extRaised_hostRest d.extRaised_cfg fun r hr => ?_
  rcases Dev.mem_fault _ hr with e | e | e
  · exact Or.inr (by rwa [e])
  · exact Or.inl (by rwa [Dev.up_faults] at e)
  · exact Or.inr (by rw [e]; exact not_asserts_zero d)

/-- Once the cause is noticed the report is true, or EXT_FAULT itself makes the device drive the net. -/
theorem Dev.extCome_cases {d : Dev} (h : d.extDue) : d.extCome.netSeen ∨ d.extCome.extHeld := by
  obtain ⟨net, -, idle⟩ := h
  have seen : ∀ {x : Dev}, x.hostRest = d.extNoted.hostRest → x.drives = false → x.netSeen := fun host drv => by
    obtain ⟨-, low, ext⟩ := Dev.net_of_hostRest host
    rw [Dev.netSeen, low, ext, drv]
    exact (congrArg (· && !false) net).symm
  unfold Dev.extCome
  split
  · by_cases a : d.extNoted.asserts (d.extNoted.get F.SYS_FAULTN_CFG_EXT_CLASS)
    · exact Or.inr (Dev.extRaised_held rfl a)
    · exact Or.inl (seen d.extNoted.extRaised_hostRest (Dev.extRaised_drives idle a))
  · refine Or.inl (seen (Dev.hostRest_raise _ _) (Dev.drives_of_idle (d := d.extNoted) idle (Dev.hostRest_raise _ _)
      (Dev.raise_rd_ne _ (by decide)) fun r hr => Or.inl ?_))
    rwa [Dev.raise_faults] at hr

/-- From a state in which the cause is due, two steps settle it. -/
theorem Dev.extFault_twice {d : Dev} (h : d.extDue) : d.extFault.extFault.netSeen := by
  rw [Dev.extFault_come h]
  rcases Dev.extCome_cases h with s | s
  · rwa [Dev.extFault_of_netSeen s]
  · have dr : d.extCome.drives = true := by
      obtain ⟨-, -, r, hr, -, a⟩ := s
      exact (Dev.drives_iff _).mpr (Or.inr ⟨r, hr, a⟩)
    rw [Dev.extFault_gone (by rw [dr, Bool.not_true, Bool.and_false]) s.1]
    exact Dev.extGone_netSeen s

/-- A state is seen, due, or one whose cause has gone. -/
theorem Dev.ext_cases (d : Dev) : d.netSeen ∨ d.extDue ∨ ((d.host.faultnExt && !d.drives) = false ∧ d.host.extCause = true) := by
  unfold Dev.netSeen Dev.extDue
  cases d.host.faultnExt <;> cases d.host.extCause <;> cases d.drives <;> simp

/-- Three steps settle every state. -/
theorem Dev.extFault_thrice (d : Dev) : d.extFault.extFault.extFault.netSeen := by
  have seen : ∀ {x : Dev}, x.netSeen → x.extFault.extFault.netSeen := fun s => by
    rwa [Dev.extFault_of_netSeen s, Dev.extFault_of_netSeen s]
  rcases d.ext_cases with s | s | ⟨c, e⟩
  · rw [Dev.extFault_of_netSeen s]
    exact seen s
  · have t := Dev.extFault_twice s
    rwa [Dev.extFault_of_netSeen t]
  · rw [Dev.extFault_gone c e]
    exact d.extGone_cases.elim seen Dev.extFault_twice

/-! The levels. -/

/-- The bits of the word that SYS_FAULT_LVL takes. -/
theorem lvlWord_bits : ∀ f0 f1 f2 f3 pin drv : Bool,
    let w := (BitVec.ofNat 32 (b2n f0 + 2 * b2n f1 + 4 * b2n f2 + 8 * b2n f3 + 16 * b2n pin + 32 * b2n drv)).toNat
    bitOf w 0 = f0 ∧ bitOf w 1 = f1 ∧ bitOf w 2 = f2 ∧ bitOf w 3 = f3 ∧ (bitsOf w 5 5 != 0) = drv := by
  decide

theorem Dev.levels_drives (d : Dev) : d.levels.drives = d.drives := by
  have h : d.levels.rd R.SYS_FAULTN_CFG = d.rd R.SYS_FAULTN_CFG := Dev.rd_wr_ne d _ (by decide)
  have a := fun c => Dev.asserts_of_cfg h c
  rw [Bool.eq_iff_iff, Dev.drives_iff, Dev.drives_iff]
  simp only [a, show d.levels.host = d.host from Dev.wr_host _ _ _, show d.levels.faults = d.faults from Dev.wr_faults _ _ _]

theorem Dev.levels_shows (d : Dev) : d.levels.shows := by
  obtain ⟨b0, b1, b2, b3, b5⟩ := lvlWord_bits (d.clsAct 0) (d.clsAct 1) (d.clsAct 2) (d.clsAct 3) (d.drives || d.host.faultnExt) d.drives
  refine ⟨fun c hc => ?_, ?_⟩
  · rw [Dev.levels, Dev.rd_wr_same]
    interval_cases c
    · exact b0
    · exact b1
    · exact b2
    · exact b3
  · rw [Dev.levels_drives, Dev.flag, Dev.levels]
    exact (congrArg (· != 0) (Dev.get_wr_same d F.SYS_FAULT_LVL_FAULTN_DRIVE _)).trans b5

theorem Dev.levels_netSeen {d : Dev} (h : d.netSeen) : d.levels.netSeen := by
  rw [Dev.netSeen, Dev.levels_drives]
  exact h

/-- Settling makes the fault report true of any state. -/
theorem State.settle_inv (s : State) : s.settle.Inv :=
  ⟨Dev.levels_shows _, Dev.levels_netSeen (Dev.extFault_thrice _)⟩

/-- Settles O3: every command ends in settling, which makes the report true of whatever the command left; the idle step keeps the state. -/
theorem stepsKeepTheFaultReport : Obligations.StepsKeepTheFaultReport := by
  unfold Obligations.StepsKeepTheFaultReport
  intro s t inv h
  unfold step at h
  split at h
  · cases h
    exact inv
  · next c rest _ =>
    obtain ⟨x, e⟩ := exec_settles c { s with pending := rest }
    rw [e] at h
    cases h
    exact x.settle_inv

end Sys2Proof.Machine
end

section
/-! The state right after reset. -/
namespace Sys2Proof.Machine

/-- No register is listed at reset, so each has its table's value. -/
theorem State.reset_rd (o : Nat) : State.reset.dev.rd o = regReset o := (rfl)

theorem State.reset_memWf : State.reset.memWf := ⟨rfl, rfl⟩

/-- SYS_FAULT_LVL's table says that the device drives FAULT_N and no fault is in force. -/
theorem regReset_faultLvl : regReset R.SYS_FAULT_LVL = 0x20 := by decide

/-- The device has not entered RUN, so it drives FAULT_N (01 R37). -/
theorem Dev.reset_drives : Dev.reset.drives = true := (Dev.drives_iff _).mpr (Or.inl rfl)

theorem State.reset_inv : State.reset.Inv := by
  have lvl : State.reset.dev.rd R.SYS_FAULT_LVL = 0x20 := regReset_faultLvl
  refine ⟨⟨fun c hc => ?_, ?_⟩, ?_⟩
  · rw [lvl]
    interval_cases c <;> rfl
  · exact (congrArg (fun w : Word => bitsOf w.toNat 5 5 != 0) lvl).trans Dev.reset_drives.symm
  · exact (congrArg (fun b => false && !b) Dev.reset_drives).symm

/-- Settles O2: nothing is listed in any memory or register table at reset, and the fault report of the tables is that of a device that
has not run. -/
theorem resetValues : Obligations.ResetValues := by
  unfold Obligations.ResetValues
  exact ⟨State.reset_rd, rfl, rfl, rfl, rfl, rfl, rfl, State.reset_inv, State.reset_memWf, rfl⟩

end Sys2Proof.Machine
end

section
/-! The error logs (03 R84, R86, R89): what the entry of an error holds, and what logging leaves. -/
namespace Sys2Proof.Machine

/-! A field inside the field that was put. -/

theorem bitsOf_putBits_within (v hi lo x hi' lo' : Nat) (h : lo ≤ hi) (a : lo ≤ lo') (b : hi' ≤ hi) (c : lo' ≤ hi') :
    bitsOf (putBits v hi lo x) hi' lo' = bitsOf x (hi' - lo) (lo' - lo) := by
  have sub : ∀ n : Nat, n / 2 ^ lo' % 2 ^ (hi' + 1 - lo') = n / 2 ^ lo % 2 ^ (hi + 1 - lo) / 2 ^ (lo' - lo) % 2 ^ (hi' + 1 - lo') := by
    intro n
    rw [mod_div_mod _ _ _ _ (by omega), Nat.div_div_eq_div_mul, ← pow_add, Nat.add_sub_cancel' a]
  have same := bitsOf_putBits_same v hi lo x h
  unfold bitsOf at same ⊢
  rw [sub, same, mod_div_mod _ _ _ _ (by omega), show hi' - lo + 1 - (lo' - lo) = hi' + 1 - lo' by omega]

theorem Dev.get_put_within (d : Dev) (f g : Fld) (v : Nat) (h : f.ok) (r : g.reg = f.reg) (a : f.lo ≤ g.lo) (b : g.hi ≤ f.hi)
    (c : g.lo ≤ g.hi) : (d.put f v).get g = bitsOf v (g.hi - f.lo) (g.lo - f.lo) := by
  rw [Dev.get, r, Dev.toNat_rd_put d f v h, bitsOf_putBits_within _ _ _ _ _ _ h.1 a b c]

theorem Dev.get_of_regs {d e : Dev} (h : e.regs = d.regs) (f : Fld) : e.get f = d.get f := by simp only [Dev.get, Dev.rd, h]

theorem Dev.flag_of_regs {d e : Dev} (h : e.regs = d.regs) (f : Fld) : e.flag f = d.flag f := by
  simp only [Dev.flag, Dev.get_of_regs h]

theorem Dev.rd_of_regs {d e : Dev} (h : e.regs = d.regs) (o : Nat) : e.rd o = d.rd o := by simp only [Dev.rd, h]

/-! The entry. -/

/-- The block an entry names (03 Table 3.15): the region of BAR2, or the block of BAR0. -/
def logBlock (bar2 : Bool) (off : Nat) : Nat := if bar2 then bar2Region off else bitsOf off 25 20

theorem logBlock_lt (bar2 : Bool) (off : Nat) : logBlock bar2 off < 128 := by
  unfold logBlock
  split
  · unfold bar2Region
    repeat' split
    all_goals omega
  · exact lt_trans (bitsOf_lt off 25 20) (by norm_num)

/-- BAR, BLOCK, CAUSE, SRC and WRITE of an entry. -/
def logHead (bar2 : Bool) (cause code : Nat) (write : Bool) (off : Nat) : Nat :=
  b2n bar2 * 2 ^ 15 + logBlock bar2 off * 2 ^ 8 + cause * 2 ^ 4 + code * 2 + b2n write

/-- A log counts an error. -/
def Dev.logCount (base : Nat) (d : Dev) : Dev := d.wr (base + 8) (BitVec.ofNat 32 (min ((d.rd (base + 8)).toNat + 1) (2 ^ 32 - 1)))

/-- A log takes an entry, and its event is raised. -/
def Dev.logPut (base : Nat) (bar2 : Bool) (cause code : Nat) (write : Bool) (off : Nat) (d : Dev) : Dev :=
  ((d.put ⟨base, 23, 8⟩ (logHead bar2 cause code write off)).wr (base + 4) (BitVec.ofNat 32 (off % 2 ^ 26))).raise ⟨base, 0, 0⟩

/-- An error whose SRC is code, counted and put. -/
def Dev.logEntry (base : Nat) (bar2 : Bool) (cause code : Nat) (write : Bool) (off : Nat) (d : Dev) : Dev :=
  (d.logCount base).logPut base bar2 cause code write off

theorem Dev.raise_regs (d : Dev) (f : Fld) : (d.raise f).regs = ((d.put f 1).cntWrap ⟨f.reg, 31, 24⟩).regs := by
  rcases d.raise_cases f with e | ⟨v, e⟩
  · rw [e]
  · rw [e, Dev.msix_regs]

theorem b2n_lt (b : Bool) : b2n b < 2 := by cases b <;> decide

theorem b2n_ne_zero (b : Bool) : (b2n b != 0) = b := by cases b <;> rfl

/-- The fields of an entry's head. -/
theorem logHead_fields (bar2 write : Bool) (off : Nat) {cause code : Nat} (h : cause < 16) (k : code < 8) :
    bitsOf (logHead bar2 cause code write off) 15 15 = b2n bar2 ∧ bitsOf (logHead bar2 cause code write off) 7 4 = cause ∧
      bitsOf (logHead bar2 cause code write off) 0 0 = b2n write := by
  have hb := logBlock_lt bar2 off
  have h1 := b2n_lt bar2
  have h2 := b2n_lt write
  unfold logHead bitsOf
  generalize logBlock bar2 off = blk at hb ⊢
  generalize b2n bar2 = x at h1 ⊢
  generalize b2n write = y at h2 ⊢
  refine ⟨?_, ?_, ?_⟩ <;> omega

section Entry
variable (d : Dev) (base : Nat) (bar2 write : Bool) (cause code off : Nat)

/-- A field of the head reads as it was put. -/
theorem Dev.logEntry_head {hi lo : Nat} (a : 8 ≤ lo) (b : hi ≤ 23) (c : lo ≤ hi) :
    (d.logEntry base bar2 cause code write off).get ⟨base, hi, lo⟩ = bitsOf (logHead bar2 cause code write off) (hi - 8) (lo - 8) := by
  rw [Dev.logEntry, Dev.logPut, Dev.logCount, Dev.raise_get_apart _ ⟨base, 0, 0⟩ ⟨base, hi, lo⟩ ⟨rfl, by simp⟩ rfl
      (Or.inl (by simp only; omega)) (by simp only; omega),
    Dev.get_wr_ne _ _ (by simp), Dev.get_put_within _ ⟨base, 23, 8⟩ ⟨base, hi, lo⟩ _ ⟨by simp, by simp⟩ rfl a b c]

theorem Dev.logEntry_seq :
    (d.logEntry base bar2 cause code write off).get ⟨base, 31, 24⟩ = (d.get ⟨base, 31, 24⟩ + 1) % 256 := by
  rw [Dev.logEntry, Dev.logPut, Dev.logCount, Dev.raise_seq _ ⟨base, 0, 0⟩ ⟨rfl, by simp⟩, Dev.get_wr_ne _ _ (by simp),
    Dev.get_put_apart _ ⟨base, 23, 8⟩ ⟨base, 31, 24⟩ _ ⟨by simp, by simp⟩ rfl (Or.inl (by simp)), Dev.get_wr_ne _ _ (by simp)]

theorem Dev.logEntry_rd_ne {o : Nat} (h : o ≠ base) (h4 : o ≠ base + 4) (h8 : o ≠ base + 8) :
    (d.logEntry base bar2 cause code write off).rd o = d.rd o := by
  rw [Dev.logEntry, Dev.logPut, Dev.logCount, Dev.raise_rd_ne _ h, Dev.rd_wr_ne _ _ h4, Dev.rd_put_ne _ _ h, Dev.rd_wr_ne _ _ h8]

theorem Dev.logEntry_logged (hc : cause < 16) (hs : code < 8) :
    d.logged (d.logEntry base bar2 cause code write off) base cause write off := by
  obtain ⟨-, c, w⟩ := logHead_fields bar2 write off hc hs
  refine ⟨?_, ?_, Dev.raise_flag _ ⟨base, 0, 0⟩ ⟨rfl, by simp⟩, ?_, ?_, fun o ho => ?_⟩
  · rw [Dev.logEntry_head _ _ _ _ _ _ _ (by norm_num) (by norm_num) (by norm_num), c]
  · rw [Dev.flag, Dev.logEntry_head _ _ _ _ _ _ _ (by norm_num) (by norm_num) (by norm_num), w, b2n_ne_zero]
  · rw [Dev.logEntry, Dev.logPut, Dev.logCount, Dev.raise_rd_ne _ (by simp), Dev.rd_wr_same, BitVec.toNat_ofNat]
    omega
  · rw [Dev.logEntry, Dev.logPut, Dev.logCount, Dev.raise_rd_ne _ (by simp), Dev.rd_wr_ne _ _ (by simp), Dev.rd_put_ne _ _ (by simp), Dev.rd_wr_same,
      BitVec.toNat_ofNat]
    omega
  · simp only [List.mem_cons, List.not_mem_nil, or_false, not_or] at ho
    obtain ⟨h, h4, h8⟩ := ho
    exact d.logEntry_rd_ne base bar2 write cause code off h h4 h8

end Entry

/-! Logging. -/

section Log
variable (d : Dev) (base : Nat) (bar2 write : Bool) (cause src off : Nat)

theorem Dev.draw_lt (d : Dev) {n : Nat} (h : 0 < n) : (d.draw n).1 < n := Nat.mod_lt _ h

/-- MSPI's next frame says that this one met an error (03 Table 3.9). -/
def Dev.mspiNote (base : Nat) (d : Dev) : Dev :=
  if base = 0x10 then { d with host := { d.host with mspiBus := true } }
  else if base = 0x20 then { d with host := { d.host with mspiGuard := true } } else d

theorem Dev.mspiNote_regs (d : Dev) (base : Nat) : (d.mspiNote base).regs = d.regs := by
  unfold Dev.mspiNote
  split
  · rfl
  · split <;> rfl

theorem Dev.mspiNote_pwr (d : Dev) (base : Nat) : (d.mspiNote base).pwr = d.pwr := by
  unfold Dev.mspiNote
  split
  · rfl
  · split <;> rfl

theorem Dev.mspiNote_granted (d : Dev) (base : Nat) : (d.mspiNote base).host.granted = d.host.granted := by
  unfold Dev.mspiNote
  split
  · rfl
  · split <;> rfl

/-- The error is counted, SRC is the port's or free, and the entry is put. -/
theorem Dev.logErr_eq : d.logErr base bar2 cause src write off =
    let r := if src < 8 then (src, d.logCount base) else (d.logCount base).draw 8
    if src = 1 then (r.2.logPut base bar2 cause r.1 write off).mspiNote base else r.2.logPut base bar2 cause r.1 write off := (rfl)

/-- An error of a port that the table has a code for. -/
theorem Dev.logErr_coded {src : Nat} (hs : src < 8) : d.logErr base bar2 cause src write off =
    if src = 1 then (d.logEntry base bar2 cause src write off).mspiNote base else d.logEntry base bar2 cause src write off := by
  rw [Dev.logErr_eq, if_pos hs]
  rfl

/-- An error of another port: its SRC is free. -/
theorem Dev.logErr_free {src : Nat} (hs : ¬ src < 8) : d.logErr base bar2 cause src write off =
    ({ d with free := d.free + 1 } : Dev).logEntry base bar2 cause (d.draw 8).1 write off := by
  have h1 : src ≠ 1 := by omega
  rw [Dev.logErr_eq, if_neg hs, if_neg h1]
  rfl

/-- Logging writes the log's registers, with the port's SRC where the table has a code for it. -/
theorem Dev.logErr_regs : ∃ code < 8, (src < 8 → code = src) ∧
    (d.logErr base bar2 cause src write off).regs = (d.logEntry base bar2 cause code write off).regs := by
  by_cases hs : src < 8
  · refine ⟨src, hs, fun _ => rfl, ?_⟩
    rw [Dev.logErr_coded _ _ _ _ _ _ hs]
    split
    · rw [Dev.mspiNote_regs]
    · rfl
  · refine ⟨(d.draw 8).1, d.draw_lt (by norm_num), fun h => absurd h hs, ?_⟩
    rw [Dev.logErr_free _ _ _ _ _ _ hs]
    simp only [Dev.logEntry, Dev.logPut, Dev.logCount, Dev.raise_regs]
    rfl

theorem Dev.logEntry_pwr (code : Nat) : (d.logEntry base bar2 cause code write off).pwr = d.pwr := by
  simp only [Dev.logEntry, Dev.logPut, Dev.logCount, Dev.raise_pwr, Dev.wr_pwr, Dev.put_pwr]

theorem Dev.logEntry_granted (code : Nat) : (d.logEntry base bar2 cause code write off).host.granted = d.host.granted := by
  refine congrArg (·.granted) (?_ : (d.logEntry base bar2 cause code write off).hostRest = d.hostRest)
  simp only [Dev.logEntry, Dev.logPut, Dev.logCount, Dev.hostRest_raise, Dev.hostRest_wr, Dev.hostRest_put]

theorem Dev.logErr_pwr : (d.logErr base bar2 cause src write off).pwr = d.pwr := by
  by_cases hs : src < 8
  · rw [Dev.logErr_coded _ _ _ _ _ _ hs]
    split <;> simp only [Dev.mspiNote_pwr, Dev.logEntry_pwr]
  · rw [Dev.logErr_free _ _ _ _ _ _ hs, Dev.logEntry_pwr]

theorem Dev.logErr_granted : (d.logErr base bar2 cause src write off).host.granted = d.host.granted := by
  by_cases hs : src < 8
  · rw [Dev.logErr_coded _ _ _ _ _ _ hs]
    split <;> simp only [Dev.mspiNote_granted, Dev.logEntry_granted]
  · rw [Dev.logErr_free _ _ _ _ _ _ hs, Dev.logEntry_granted]

theorem Dev.logged_of_regs {d e e' : Dev} {base cause off : Nat} {write : Bool} (h : e'.regs = e.regs)
    (l : d.logged e base cause write off) : d.logged e' base cause write off := by
  simpa only [Dev.logged, Dev.sameRegs, Dev.get_of_regs h, Dev.flag_of_regs h, Dev.rd_of_regs h] using l

/-- An error is logged as the log's table says. -/
theorem Dev.logErr_logged (hc : cause < 16) : d.logged (d.logErr base bar2 cause src write off) base cause write off := by
  obtain ⟨code, hs, -, e⟩ := d.logErr_regs base bar2 write cause src off
  exact Dev.logged_of_regs e (d.logEntry_logged base bar2 write cause code off hc hs)

/-- BAR says whether the access was one of BAR2. -/
theorem Dev.logErr_bar (hc : cause < 16) : (d.logErr base bar2 cause src write off).flag ⟨base, 23, 23⟩ = bar2 := by
  obtain ⟨code, hs, -, e⟩ := d.logErr_regs base bar2 write cause src off
  obtain ⟨b, -, -⟩ := logHead_fields bar2 write off hc hs
  rw [Dev.flag_of_regs e, Dev.flag, Dev.logEntry_head _ _ _ _ _ _ _ (by norm_num) (by norm_num) (by norm_num), b, b2n_ne_zero]

theorem Dev.logErr_seq :
    (d.logErr base bar2 cause src write off).get ⟨base, 31, 24⟩ = (d.get ⟨base, 31, 24⟩ + 1) % 256 := by
  obtain ⟨code, -, -, e⟩ := d.logErr_regs base bar2 write cause src off
  rw [Dev.get_of_regs e, Dev.logEntry_seq]

theorem Dev.logErr_rd_ne {o : Nat} (h : o ≠ base) (h4 : o ≠ base + 4) (h8 : o ≠ base + 8) :
    (d.logErr base bar2 cause src write off).rd o = d.rd o := by
  obtain ⟨code, -, -, e⟩ := d.logErr_regs base bar2 write cause src off
  rw [Dev.rd_of_regs e, Dev.logEntry_rd_ne _ _ _ _ _ _ _ h h4 h8]

end Log

/-- Whether the ports answer rests on STAGE, the grant and the domains that are off. -/
theorem Dev.answers_congr {d e : Dev} (r : e.rd R.CFG_BOOT_STS = d.rd R.CFG_BOOT_STS) (g : e.host.granted = d.host.granted)
    (p : e.pwr = d.pwr) : e.answers = d.answers := by
  have st : e.get F.CFG_BOOT_STS_STAGE = d.get F.CFG_BOOT_STS_STAGE := Dev.get_of_rd r
  simp only [Dev.answers, st, g, p]

/-- An entry of SYS_BUSERR_LOG leaves the ports answering as before. -/
theorem Dev.logErr_answers (d : Dev) (bar2 write : Bool) (cause src off : Nat) :
    (d.logErr 0x10 bar2 cause src write off).answers = d.answers :=
  Dev.answers_congr (d.logErr_rd_ne _ _ _ _ _ _ (by decide) (by decide) (by decide)) (d.logErr_granted _ _ _ _ _ _) (d.logErr_pwr _ _ _ _ _ _)

/-! A guarded write that its block rejects (03 R84). -/

/-- What a block rejects stays so: the error counts SEQ, so the register does not count as written. -/
theorem Dev.guarded_of_logged {d : Dev} {off : Nat} {f : Dev → Dev}
    (h : (f d).get F.SYS_GUARD_LOG_SEQ = (d.get F.SYS_GUARD_LOG_SEQ + 1) % 256) : d.guarded off f = f d := by
  have lt : d.get F.SYS_GUARD_LOG_SEQ < 256 := bitsOf_lt _ 31 24
  simp only [Dev.guarded]
  rw [if_neg (by omega)]

theorem Dev.guarded_of_taken {d : Dev} {off : Nat} {f : Dev → Dev}
    (h : (f d).get F.SYS_GUARD_LOG_SEQ = d.get F.SYS_GUARD_LOG_SEQ) : d.guarded off f = (f d).written off := by
  simp only [Dev.guarded, if_pos h]

theorem Dev.written_regs (d : Dev) (off : Nat) : (d.written off).regs = d.regs := by
  unfold Dev.written
  split
  · rfl
  · exact d.parityWritten_regs off

end Sys2Proof.Machine
end

section
/-! Reads by the host, BAR2 and the angle offset (03 R32, R68, R69, R76, R77; 10 R252). -/
namespace Sys2Proof.Machine

/-! The cores' clock counts (14 Table 14.12) do not look at the host's part. -/

/-- The clocks a core has run since they were last counted. -/
def Dev.clkDue (d : Dev) (c : Nat) : Nat := if d.frozen then 0 else 3 * (d.time.ticks - (d.core c).counted)

/-- BUSY or WAIT takes n clocks, by the core's STATE. -/
def Dev.clkShow (c n : Nat) (d : Dev) : Dev :=
  match d.coreState c with
  | 1 => d.put (F.SPC_BUSY_CLOCKS c) (d.get (F.SPC_BUSY_CLOCKS c) + n)
  | 2 => d.put (F.SPC_WAIT_CLOCKS c) (d.get (F.SPC_WAIT_CLOCKS c) + n)
  | _ => d

theorem Dev.clkCount_eq (d : Dev) (c : Nat) : d.clkCount c =
    (d.clkShow c (d.clkDue c)).modCore c (fun x => { x with counted := (d.clkShow c (d.clkDue c)).time.ticks }) := (rfl)

theorem Dev.clkShow_withHost (d : Dev) (c n : Nat) (h : HostSt) :
    ({ d with host := h } : Dev).clkShow c n = { d.clkShow c n with host := h } := by
  have st : ({ d with host := h } : Dev).coreState c = d.coreState c := rfl
  unfold Dev.clkShow
  rw [st]
  split <;> rfl

theorem Dev.clkCount_withHost (d : Dev) (c : Nat) (h : HostSt) :
    ({ d with host := h } : Dev).clkCount c = { d.clkCount c with host := h } := by
  rw [Dev.clkCount_eq, Dev.clkShow_withHost]
  rfl

theorem Dev.clkCounts_withHost (d : Dev) (h : HostSt) :
    ({ d with host := h } : Dev).clkCounts = { d.clkCounts with host := h } := by
  unfold Dev.clkCounts Dev.each
  generalize List.range 16 = l
  induction l generalizing d with
  | nil => rfl
  | cons c t ih => rw [List.foldl_cons, Dev.clkCount_withHost, ih, List.foldl_cons]

theorem Dev.clkCount_host (d : Dev) (c : Nat) : (d.clkCount c).host = d.host := by
  rw [Dev.clkCount_eq]
  show (d.clkShow c _).host = _
  unfold Dev.clkShow
  split <;> simp only [Dev.put_host]

theorem Dev.clkCount_pwr (d : Dev) (c : Nat) : (d.clkCount c).pwr = d.pwr := by
  rw [Dev.clkCount_eq]
  show (d.clkShow c _).pwr = _
  unfold Dev.clkShow
  split <;> simp only [Dev.put_pwr]

theorem Dev.clkCount_rd_ne (d : Dev) {c o : Nat} (h : o ≠ R.SPC_BUSY c) (k : o ≠ R.SPC_WAIT c) : (d.clkCount c).rd o = d.rd o := by
  rw [Dev.clkCount_eq]
  show (d.clkShow c _).rd o = _
  unfold Dev.clkShow
  split
  · exact Dev.rd_put_ne d _ h
  · exact Dev.rd_put_ne d _ k
  · rfl

@[simp] theorem Dev.clkCounts_host (d : Dev) : d.clkCounts.host = d.host := foldl_keep Dev.host _ Dev.clkCount_host _ d

theorem Dev.clkCounts_answers (d : Dev) : d.clkCounts.answers = d.answers := by
  refine Dev.answers_congr ?_ (congrArg (·.granted) d.clkCounts_host) (foldl_keep Dev.pwr _ Dev.clkCount_pwr _ d)
  refine foldl_keep_mem (fun d => d.rd R.CFG_BOOT_STS) _ _ (fun c hc d => ?_) d
  have lt := List.mem_range.mp hc
  exact Dev.clkCount_rd_ne d (by simp only [R.CFG_BOOT_STS, R.SPC_BUSY]; omega) (by simp only [R.CFG_BOOT_STS, R.SPC_WAIT]; omega)

/-! A register read. -/

section Read
variable {d : Dev} {p : Port} {off be : Nat}

theorem Dev.answers_of_mayAccess (h : d.mayAccess p = true) : d.answers = true := by
  cases p with
  | pcie => simp only [Dev.mayAccess, Bool.and_eq_true] at h; exact h.1.1
  | mspi => simp only [Dev.mayAccess, Bool.and_eq_true] at h; exact h.1
  | tunnel => exact h
  | sp c => exact h

theorem Dev.regRead_shut (h : d.mayAccess p = false) : d.regRead p off be = (0xFFFFFFFF, d) := by
  simp only [Dev.regRead, h, Bool.not_false, if_true]

theorem Dev.regRead_partial (h : d.mayAccess p = true) (k : be ≠ 15 ∨ off % 4 ≠ 0) :
    d.regRead p off be = (0xFFFFFFFF, d.logErr 0x10 false 3 (portCode p) false off) := by
  simp only [Dev.regRead, h, Bool.not_true, Bool.false_eq_true, if_false, if_pos k]

theorem Dev.regRead_reaches (h : d.reaches p off) : d.regRead p off 15 = d.blockRead p off := by
  obtain ⟨acc, aligned, lt, -, on⟩ := h
  have k : ¬ ((15 : Nat) ≠ 15 ∨ off % 4 ≠ 0) := by omega
  have l1 : ¬ 0xF01000 ≤ off := by omega
  have l2 : ¬ 0xF00000 ≤ off := by omega
  simp only [Dev.regRead, acc, Bool.not_true, Bool.false_eq_true, if_false, if_neg k, if_neg l1, if_neg l2, on]

/-- Ungating a block touches the host's part alone, and not the snapshots. -/
theorem Dev.touch_eq (d : Dev) (off : Nat) :
    ∃ h : HostSt, d.touch off = { d with host := h } ∧ h.granted = d.host.granted ∧ h.snaps = d.host.snaps := by
  simp only [Dev.touch]
  split
  · exact ⟨_, rfl, rfl, rfl⟩
  · exact ⟨d.host, rfl, rfl, rfl⟩

/-- A read inside a block counts the cores' clocks and changes nothing else but the host's part. -/
theorem Dev.blockRead_dev (d : Dev) (p : Port) (off : Nat) :
    ∃ h : HostSt, (d.blockRead p off).2 = { d.clkCounts with host := h } ∧ h.granted = d.host.granted := by
  obtain ⟨h, e, g, -⟩ := d.touch_eq off
  simp only [Dev.blockRead, e, Dev.clkCounts_withHost]
  exact ⟨_, rfl, g⟩

/-- A register with no reading of its own reads as it holds, but for its write-only bits (R76). -/
theorem Dev.rawRead_plain {r : RegRow} (reg : regAt off = some r) (lo : off ≠ R.TIME_NOW_LO)
    (own : off ∉ [R.TIME_NOW_HI, R.TIME_NOW_FRAC, R.UPD_CRC]) (win : copyOf (R.SPC_WIN 0 0) 4 1024 off = none) :
    d.rawRead p off = d.rd off &&& ~~~ (BitVec.ofNat 32 r.wo) := by
  simp only [List.mem_cons, List.not_mem_nil, or_false, not_or] at own
  obtain ⟨hi, frac, crc⟩ := own
  simp only [Dev.rawRead, if_neg lo, if_neg hi, if_neg frac, if_neg crc, win, reg]

/-- Where no snapshot waits, a read inside a block gives the register as it reads. -/
theorem Dev.blockRead_data {r : RegRow} (reg : regAt off = some r) (single : partners off = [])
    (own : off ∉ [R.TIME_NOW_HI, R.TIME_NOW_FRAC, R.UPD_CRC]) (win : copyOf (R.SPC_WIN 0 0) 4 1024 off = none)
    (fresh : ∀ k v, (k, v) ∈ d.host.snaps → k ≠ snapKey p off) :
    (d.blockRead p off).1 = d.clkCounts.rd off &&& ~~~ (BitVec.ofNat 32 r.wo) := by
  obtain ⟨h, e, -, snaps⟩ := d.touch_eq off
  have lo : off ≠ R.TIME_NOW_LO := fun e => by simp [partners, e] at single
  have none : h.snaps.find? (fun x => x.1 == snapKey p off) = none := by
    rw [snaps, List.find?_eq_none]
    rintro ⟨k, v⟩ hx
    simpa using fresh k v hx
  simp only [Dev.blockRead, e, Dev.clkCounts_withHost, none, Dev.rawRead_plain reg lo own win, Dev.rd_host]

theorem Dev.complete_of_answers (w : Word) (h : d.answers = true) :
    d.complete w = { d with host := { d.host with rdData := w } } := by
  simp only [Dev.complete, h, if_true]
  rfl

theorem Dev.complete_of_silent (w : Word) (h : d.answers = false) : d.complete w = d := by
  simp only [Dev.complete, h, Bool.false_eq_true, if_false]

theorem Dev.complete_regs (d : Dev) (w : Word) : (d.complete w).regs = d.regs := by
  unfold Dev.complete
  split <;> rfl

end Read

/-- What a read by a port leaves of the device: the completion is PCIe's. -/
def Dev.afterRead (p : Port) (off be : Nat) (d : Dev) : Dev :=
  if p = .pcie then (d.regRead p off be).2.complete (d.regRead p off be).1 else (d.regRead p off be).2

theorem regRead_answers (p : Port) (off : BitVec 26) (be : BitVec 4) (s : State) :
    answers (.regRead p off be) s { s with dev := s.dev.afterRead p off.toNat be.toNat } := (rfl)

theorem Dev.afterRead_pcie (d : Dev) (off be : Nat) :
    d.afterRead .pcie off be = (d.regRead .pcie off be).2.complete (d.regRead .pcie off be).1 := (rfl)

theorem Dev.afterRead_regs (d : Dev) (p : Port) (off be : Nat) : (d.afterRead p off be).regs = (d.regRead p off be).2.regs := by
  unfold Dev.afterRead
  split
  · exact Dev.complete_regs _ _
  · rfl

/-- A read that reaches a register changes no register but the clock counts. -/
theorem Dev.afterRead_sameRegs {d : Dev} {p : Port} {off : Nat} (h : d.reaches p off) :
    d.clkCounts.sameRegs (d.afterRead p off 15) [] := by
  obtain ⟨x, e, -⟩ := d.blockRead_dev p off
  intro o _
  rw [Dev.rd_of_regs (d.afterRead_regs p off 15), Dev.regRead_reaches h, e]
  rfl

theorem toNat_ne_fifteen {be : BitVec 4} (h : be ≠ 15) : be.toNat ≠ 15 := fun e => h (BitVec.eq_of_toNat_eq e)

/-! BAR2. -/

/-- The host's accesses to BAR2 act: the ports answer, access is granted, and the endpoint is not in D3hot (03 R66). -/
def Dev.bar2Open (d : Dev) : Prop := d.answers = true ∧ d.host.granted = true ∧ d.host.d3hot = false

theorem Dev.bar2Open_iff (d : Dev) : d.bar2Open ↔ (!d.answers || !d.host.granted || d.host.d3hot) = false := by
  unfold Dev.bar2Open
  cases d.answers <;> cases d.host.granted <;> cases d.host.d3hot <;> simp

/-- What refuses an access has a code of Table 3.15. -/
theorem Dev.bar2Bad_lt {d : Dev} {write : Bool} {a c : Nat} (h : d.bar2Bad write a = some c) : c < 16 := by
  simp only [Dev.bar2Bad] at h
  split at h
  · cases h; norm_num
  · split at h
    · cases h; norm_num
    · split at h
      · cases h; norm_num
      · cases h

section Bar2
variable {s : State} {off be c : Nat} {w : Word}

theorem Dev.guardHit_none {d : Dev} {p : Port} {o : Nat} {full : Bool} (h : d.guardOf p = none) : d.guardHit p o full = d := by
  simp only [Dev.guardHit, h]

theorem State.bar2Write_shut (h : ¬ s.dev.bar2Open) : s.bar2Write off be w = s := by
  rw [Dev.bar2Open_iff, Bool.not_eq_false] at h
  simp only [State.bar2Write, h, if_true]

theorem State.bar2Write_refused (h : s.dev.bar2Open) (g : s.dev.guardOf .pcie = none) (b : s.dev.bar2Bad true (off / 4 * 4) = some c) :
    s.bar2Write off be w = s.upd (Dev.logErr 0x10 true c 0 true (off / 4 * 4)) := by
  rw [Dev.bar2Open_iff] at h
  simp only [State.bar2Write, h, Bool.false_eq_true, if_false, State.upd, Dev.guardHit_none g, b]

/-- The word a write of some bytes leaves. -/
def beMerge (be : Nat) (old w : Word) : Word := (old &&& ~~~ (BitVec.ofNat 32 (beMask be))) ||| (w &&& BitVec.ofNat 32 (beMask be))

/-- A write that is taken stores the word, and of the device at most makes the word's ECC valid again. -/
theorem State.bar2Write_taken (h : s.dev.bar2Open) (g : s.dev.guardOf .pcie = none) (b : s.dev.bar2Bad true (off / 4 * 4) = none) :
    ∃ bad, s.bar2Write off be w = { s with
      dev := { s.dev with eccBad := bad }, mem := s.mem.putWord (off / 4 * 4) (beMerge be (s.mem.word (off / 4 * 4)) w) } := by
  rw [Dev.bar2Open_iff] at h
  simp only [State.bar2Write, h, Bool.false_eq_true, if_false, State.upd, Dev.guardHit_none g, b]
  split
  · exact ⟨_, rfl⟩
  · exact ⟨s.dev.eccBad, rfl⟩

theorem State.bar2Read_refused (h : s.dev.bar2Open) (b : s.dev.bar2Bad false (off / 4 * 4) = some c) :
    s.bar2Read off = (0xFFFFFFFF, s.upd (Dev.logErr 0x10 true c 0 false (off / 4 * 4))) := by
  rw [Dev.bar2Open_iff] at h
  simp only [State.bar2Read, h, Bool.false_eq_true, if_false, b]

theorem State.bar2Read_silent (h : s.dev.answers = false) : s.bar2Read off = (0xFFFFFFFF, s) := by
  simp only [State.bar2Read, h, Bool.not_false, Bool.true_or, if_true]

theorem State.bar2Read_taken (h : s.dev.bar2Open) (b : s.dev.bar2Bad false (off / 4 * 4) = none)
    (sh : bar2Region (off / 4 * 4) = 3 → s.dev.boot.shadow = false) (ecc : off / 4 * 4 ∉ s.dev.eccBad) :
    s.bar2Read off = (s.mem.word (off / 4 * 4), s) := by
  rw [Dev.bar2Open_iff] at h
  have e : s.dev.eccBad.contains (off / 4 * 4) = false := by simpa using ecc
  have n : ¬ (bar2Region (off / 4 * 4) = 3 ∧ s.dev.boot.shadow = true) := fun ⟨r, t⟩ => by simp [sh r] at t
  simp only [State.bar2Read, h, Bool.false_eq_true, if_false, b, e, State.hostWords, if_neg n]
  rfl

theorem bar2Read_answers (off : BitVec 25) (s : State) :
    answers (.bar2Read off) s ((s.bar2Read off.toNat).2.upd (Dev.complete (s.bar2Read off.toNat).1)) := (rfl)

end Bar2

/-! The bytes of a word. -/

/-- The bits of a mask are its byte enables. -/
theorem beMask_testBit : ∀ (be : Fin 16) (i : Fin 4) (j : Fin 8), (beMask be).testBit (8 * i + j) = bitOf be i := by decide

/-- A byte of a little-endian number. -/
theorem leNat_byte (l : List Byte) : ∀ (i : Nat) (h : i < l.length), BitVec.ofNat 8 (leNat l / 256 ^ i) = l[i] := by
  induction l with
  | nil => intro i h; simp at h
  | cons b t ih =>
    intro i h
    have lt := b.isLt
    cases i with
    | zero =>
      apply BitVec.eq_of_toNat_eq
      simp only [leNat, List.getElem_cons_zero, BitVec.toNat_ofNat]
      omega
    | succ i =>
      rw [List.getElem_cons_succ, ← ih i (by simpa using h), leNat, Nat.pow_succ', ← Nat.div_div_eq_div_mul,
        show (b.toNat + 256 * leNat t) / 256 = leNat t by omega]

/-- A byte of a word, as its bits. -/
theorem ofNat_byte (w : Word) (i : Nat) : BitVec.ofNat 8 (w.toNat / 256 ^ i) = w.extractLsb' (8 * i) 8 := by
  apply BitVec.eq_of_toNat_eq
  rw [BitVec.extractLsb'_toNat, BitVec.toNat_ofNat, Nat.shiftRight_eq_div_pow, show (256 : Nat) = 2 ^ 8 by norm_num, ← pow_mul]

/-- A byte of the word stored in SRAM. -/
theorem Memory.word_byte (m : Memory) (a : Nat) {i : Nat} (h : i < 4) :
    BitVec.ofNat 8 ((m.word a).toNat / 256 ^ i) = tblGet sramReset m (a + i) := by
  have b := leNat_byte ((List.range 4).map (fun i => tblGet sramReset m (a + i))) i (by simpa using h)
  rw [List.getElem_map, List.getElem_range] at b
  rw [← b, Memory.word, BitVec.toNat_ofNat]
  apply BitVec.eq_of_toNat_eq
  rw [BitVec.toNat_ofNat, BitVec.toNat_ofNat, show (256 : Nat) = 2 ^ 8 by norm_num, ← pow_mul, mod_div_mod _ _ _ _ (by omega)]

/-- Each byte of the merged word is the new one where it is enabled, else the old one. -/
theorem beMerge_byte (be : BitVec 4) (old w : Word) {i : Nat} (h : i < 4) :
    BitVec.ofNat 8 ((beMerge be.toNat old w).toNat / 256 ^ i) =
      if bitOf be.toNat i then BitVec.ofNat 8 (w.toNat / 256 ^ i) else BitVec.ofNat 8 (old.toNat / 256 ^ i) := by
  rw [ofNat_byte, ofNat_byte, ofNat_byte]
  apply BitVec.eq_of_getLsbD_eq
  intro j hj
  have lt : 8 * i + j < 32 := by omega
  have mask : (BitVec.ofNat 32 (beMask be.toNat)).getLsbD (8 * i + j) = bitOf be.toNat i := by
    rw [BitVec.getLsbD_ofNat, decide_eq_true lt, Bool.true_and]
    exact beMask_testBit be.toFin ⟨i, h⟩ ⟨j, hj⟩
  simp only [beMerge, BitVec.getLsbD_extractLsb', BitVec.getLsbD_or, BitVec.getLsbD_and, BitVec.getLsbD_not, mask, lt]
  cases bitOf be.toNat i <;> simp [hj]

/-- A store of the merged word changes the enabled bytes alone. -/
theorem Memory.putWord_beMerge (m : Memory) (a : Nat) (be : BitVec 4) (w : Word) {i : Nat} (h : i < 4) :
    tblGet sramReset (m.putWord a (beMerge be.toNat (m.word a) w)) (a + i) =
      if bitOf be.toNat i then BitVec.ofNat 8 (w.toNat / 2 ^ (8 * i)) else tblGet sramReset m (a + i) := by
  rw [← Memory.word_byte _ a h, Memory.word_putWord, beMerge_byte _ _ _ h, Memory.word_byte _ a h, pow_mul]
  rfl

/-! The angle offset. -/

theorem angOfsWrite_answers (p : Port) (n : Fin 128) (w : Word) (s : State) :
    answers (.angOfsWrite p n w) s (s.upd (Dev.guarded (R.LOOP_ANG n) (Dev.angOfs p n w))) := (rfl)

/-- An energised axis refuses (10 R252). -/
theorem Dev.guarded_angOfs_energised {d : Dev} {p : Port} {n : Nat} {w : Word} (h : d.energised n = true) :
    d.guarded (R.LOOP_ANG n) (Dev.angOfs p n w) = d.illegal p (R.LOOP_ANG n) := by
  have e : d.angOfs p n w = d.illegal p (R.LOOP_ANG n) := by simp only [Dev.angOfs, h, if_true]
  rw [Dev.guarded_of_logged (by rw [e]; exact d.logErr_seq 0x20 false true 5 (portCode p) (R.LOOP_ANG n)), e]

theorem Dev.guarded_angOfs_off {d : Dev} {p : Port} {n : Nat} {w : Word} (h : d.energised n = false) :
    (d.guarded (R.LOOP_ANG n) (Dev.angOfs p n w)).regs = (d.wr (R.LOOP_ANG n) w).regs := by
  have e : d.angOfs p n w = d.wr (R.LOOP_ANG n) w := by simp only [Dev.angOfs, h, Bool.false_eq_true, if_false]
  have seq : F.SYS_GUARD_LOG_SEQ.reg ≠ R.LOOP_ANG n := by simp only [F.SYS_GUARD_LOG_SEQ, R.LOOP_ANG]; omega
  rw [Dev.guarded_of_taken (by rw [e, Dev.get_wr_ne _ _ seq]), Dev.written_regs, e]

/-! The statement's parts. -/

theorem hostReads_regRead (s : State) (p : Port) (off : BitVec 26) (be : BitVec 4) : let o := off.toNat
    (s.dev.answers = true → s.dev.mayAccess .pcie = false → leads (.regRead .pcie off be) s fun x =>
      x.dev.host.rdData = 0xFFFFFFFF ∧ x.dev.regs = s.dev.regs ∧ s.sameMem x) ∧
    (s.dev.mayAccess .pcie = true → (be ≠ 15 ∨ o % 4 ≠ 0) → leads (.regRead .pcie off be) s fun x =>
      x.dev.host.rdData = 0xFFFFFFFF ∧ s.dev.logged x.dev 0x10 3 false o ∧ s.sameMem x) ∧
    (∀ r, s.dev.reaches .pcie o → be = 15 → regAt o = some r → partners o = [] → copyOf (R.SPC_WIN 0 0) 4 1024 o = none →
      (∀ k v, (k, v) ∈ s.dev.host.snaps → k ≠ snapKey .pcie o) → o ∉ [R.TIME_NOW_HI, R.TIME_NOW_FRAC, R.UPD_CRC] →
      leads (.regRead .pcie off be) s fun x => x.dev.host.rdData = s.dev.clkCounts.rd o &&& ~~~ (BitVec.ofNat 32 r.wo) ∧
        s.dev.clkCounts.sameRegs x.dev [] ∧ s.sameMem x) ∧
    (s.dev.reaches p o → be = 15 → leads (.regRead p off be) s fun x => s.dev.clkCounts.sameRegs x.dev [] ∧ s.sameMem x) := by
  have mem : ∀ d : Dev, s.sameMem { s with dev := d } := fun d => ⟨rfl, rfl, rfl, rfl⟩
  refine ⟨fun ans shut => ⟨_, regRead_answers _ _ _ _, ?_, ?_, mem _⟩, fun acc part => ⟨_, regRead_answers _ _ _ _, ?_, ?_, mem _⟩,
    fun r reach full reg single win fresh own => ?_, fun reach full => ?_⟩
  · rw [Dev.afterRead_pcie, Dev.regRead_shut shut, Dev.complete_of_answers _ ans]
  · rw [Dev.afterRead_regs, Dev.regRead_shut shut]
  · have ans := (s.dev.logErr_answers false false 3 (portCode .pcie) off.toNat).trans (Dev.answers_of_mayAccess acc)
    rw [Dev.afterRead_pcie, Dev.regRead_partial acc (part.imp_left toNat_ne_fifteen), Dev.complete_of_answers _ ans]
  · refine Dev.logged_of_regs (Dev.afterRead_regs _ _ _ _) ?_
    rw [Dev.regRead_partial acc (part.imp_left toNat_ne_fifteen)]
    exact Dev.logErr_logged _ _ _ _ _ _ _ (by norm_num)
  · have all : be.toNat = 15 := by rw [full]; rfl
    refine ⟨_, regRead_answers _ _ _ _, ?_, by rw [all]; exact Dev.afterRead_sameRegs reach, mem _⟩
    obtain ⟨h, e, g⟩ := s.dev.blockRead_dev .pcie off.toNat
    have ans : (s.dev.blockRead .pcie off.toNat).2.answers = true := by
      rw [e, ← Dev.answers_of_mayAccess reach.1, ← s.dev.clkCounts_answers]
      exact Dev.answers_congr rfl (g.trans (congrArg (·.granted) s.dev.clkCounts_host.symm)) rfl
    rw [all, Dev.afterRead_pcie, Dev.regRead_reaches reach, Dev.complete_of_answers _ ans, Dev.blockRead_data reg single own win fresh]
  · have all : be.toNat = 15 := by rw [full]; rfl
    exact ⟨_, regRead_answers _ _ _ _, by rw [all]; exact Dev.afterRead_sameRegs reach, mem _⟩

theorem hostReads_bar2Write (s : State) (off : BitVec 25) (be : BitVec 4) (w : Word) : let a := off.toNat / 4 * 4
    let go := s.dev.answers = true ∧ s.dev.host.granted = true ∧ s.dev.host.d3hot = false
    (¬ go → answers (.bar2Write off be w) s s) ∧
    (∀ c, go → s.dev.guardOf .pcie = none → s.dev.bar2Bad true a = some c → leads (.bar2Write off be w) s fun x =>
      s.dev.logged x.dev 0x10 c true a ∧ x.dev.flag F.SYS_BUSERR_LOG_BAR = true ∧ s.sameMem x) ∧
    (go → s.dev.guardOf .pcie = none → s.dev.bar2Bad true a = none → leads (.bar2Write off be w) s fun x =>
      (∀ i < 4, tblGet sramReset x.mem (a + i) =
        if bitOf be.toNat i then BitVec.ofNat 8 (w.toNat / 2 ^ (8 * i)) else tblGet sramReset s.mem (a + i)) ∧
      (∀ b, b < a ∨ a + 4 ≤ b → tblGet sramReset x.mem b = tblGet sramReset s.mem b) ∧ x.dev.regs = s.dev.regs ∧
      x.flash = s.flash ∧ x.otp = s.otp ∧ x.pending = s.pending) := by
  have out : answers (.bar2Write off be w) s (s.bar2Write off.toNat be.toNat w) := rfl
  refine ⟨fun shut => ?_, fun c go g bad => ⟨_, out, ?_⟩, fun go g ok => ⟨_, out, ?_⟩⟩
  · rwa [State.bar2Write_shut shut] at out
  · have lt : c < 16 := Dev.bar2Bad_lt bad
    rw [State.bar2Write_refused go g bad]
    exact ⟨Dev.logErr_logged _ _ _ _ _ _ _ lt, Dev.logErr_bar _ _ _ _ _ _ _ lt, rfl, rfl, rfl, rfl⟩
  · obtain ⟨ecc, e⟩ := State.bar2Write_taken (be := be.toNat) (w := w) go g ok
    rw [e]
    exact ⟨fun i hi => Memory.putWord_beMerge _ _ _ _ hi, fun b hb => Memory.putWord_get _ _ _ _ hb, rfl, rfl, rfl, rfl⟩

theorem hostReads_bar2Read (s : State) (off : BitVec 25) : let a := off.toNat / 4 * 4
    let go := s.dev.answers = true ∧ s.dev.host.granted = true ∧ s.dev.host.d3hot = false
    (s.dev.answers = false → answers (.bar2Read off) s s) ∧
    (∀ c, go → s.dev.bar2Bad false a = some c → leads (.bar2Read off) s fun x => x.dev.host.rdData = 0xFFFFFFFF ∧
      s.dev.logged x.dev 0x10 c false a ∧ s.sameMem x) ∧
    (go → s.dev.bar2Bad false a = none → (bar2Region a = 3 → s.dev.boot.shadow = false) → a ∉ s.dev.eccBad → leads (.bar2Read off) s fun x =>
      x.dev.host.rdData = s.mem.word a ∧ x.dev.regs = s.dev.regs ∧ s.sameMem x) := by
  have out := bar2Read_answers off s
  refine ⟨fun silent => ?_, fun c go bad => ⟨_, out, ?_⟩, fun go ok sh ecc => ⟨_, out, ?_⟩⟩
  · rw [State.bar2Read_silent silent] at out
    simpa only [State.upd, Dev.complete_of_silent _ silent] using out
  · have ans := (s.dev.logErr_answers true false c 0 (off.toNat / 4 * 4)).trans go.1
    rw [State.bar2Read_refused go bad]
    rw [State.upd, State.upd, Dev.complete_of_answers _ ans]
    exact ⟨rfl, Dev.logged_of_regs rfl (Dev.logErr_logged _ _ _ _ _ _ _ (Dev.bar2Bad_lt bad)), rfl, rfl, rfl, rfl⟩
  · rw [State.bar2Read_taken go ok sh ecc]
    rw [State.upd, Dev.complete_of_answers _ go.1]
    exact ⟨rfl, rfl, rfl, rfl, rfl, rfl⟩

theorem hostReads_angOfsWrite (s : State) (p : Port) (n : Fin 128) (w : Word) :
    (s.dev.energised n = true → answers (.angOfsWrite p n w) s (s.upd (Dev.illegal p (R.LOOP_ANG n)))) ∧
    (s.dev.energised n = false → leads (.angOfsWrite p n w) s fun x => x.dev.rd (R.LOOP_ANG n) = w ∧
      s.dev.sameRegs x.dev [R.LOOP_ANG n] ∧ s.sameMem x) := by
  have out := angOfsWrite_answers p n w s
  refine ⟨fun on => ?_, fun off => ⟨_, out, ?_, fun o ho => ?_, rfl, rfl, rfl, rfl⟩⟩
  · simpa only [State.upd, Dev.guarded_angOfs_energised on] using out
  · rw [State.upd, Dev.rd_of_regs (Dev.guarded_angOfs_off off), Dev.rd_wr_same]
  · rw [State.upd, Dev.rd_of_regs (Dev.guarded_angOfs_off off), Dev.rd_wr_ne _ _ (by simpa using ho)]

/-- Settles O8: a read counts the cores' clocks and completes, a BAR2 write merges the enabled bytes into the word, and the angle offset
is a guarded register that an energised axis refuses. -/
theorem hostReads : Obligations.HostReads := by
  unfold Obligations.HostReads
  exact ⟨hostReads_regRead, hostReads_bar2Write, hostReads_bar2Read, hostReads_angOfsWrite⟩

end Sys2Proof.Machine
end

section
/-! Device-wide faults (01 R18, R34, R38; 15 R371; 18 R428; 21 R482). -/
namespace Sys2Proof.Machine

/-! An axis that is de-energised. -/

/-- EN of an axis is clear, and a direct axis is not energised (01 R36). -/
def Dev.cut (d : Dev) (n : Nat) : Prop := d.flag (F.LOOP_CTL_EN n) = false ∧ (n < 32 → d.energised n = false)

theorem Dev.cut_of_rd {d e : Dev} {n : Nat} (c : e.rd (R.LOOP_CTL n) = d.rd (R.LOOP_CTL n)) (s : e.rd (R.LOOP_STS n) = d.rd (R.LOOP_STS n))
    (h : d.cut n) : e.cut n := by
  simpa only [Dev.cut, Dev.energised, Dev.flag_of_rd (f := F.LOOP_CTL_EN n) c, Dev.flag_of_rd (f := F.LOOP_STS_ENERGISED n) s] using h

/-- ENERGISED falling writes STS and EVT of the axis, and reports it. -/
theorem Dev.energOff_rd_ne (d : Dev) {n o : Nat} (s : o ≠ R.LOOP_STS n) (v : o ≠ R.LOOP_EVT n) (e : o ≠ R.SYS_FAULT_EVT) :
    (d.energOff n).rd o = d.rd o := by
  unfold Dev.energOff
  split
  · rw [Dev.event0_rd_ne _ v e, Dev.up, Dev.rd_put_ne _ _ s, Dev.up, Dev.rd_put_ne _ _ s]
  · rfl

theorem Dev.energOff_energised (d : Dev) (n : Nat) : (d.energOff n).energised n = false := by
  have v : (F.LOOP_STS_ENERGISED n).reg ≠ (F.LOOP_EVT_DEENERG_EVT n).reg := by simp only [F.LOOP_STS_ENERGISED, F.LOOP_EVT_DEENERG_EVT]; omega
  have e : (F.LOOP_STS_ENERGISED n).reg ≠ R.SYS_FAULT_EVT := by simp only [F.LOOP_STS_ENERGISED, R.SYS_FAULT_EVT]; omega
  unfold Dev.energOff
  split
  · have same : ∀ d : Dev, (d.event0 (F.LOOP_EVT_DEENERG_EVT n)).energised n = d.energised n := fun d =>
      Dev.flag_of_rd (Dev.event0_rd_ne d v e)
    rw [same, Dev.energised, Dev.flag_up_apart _ (F.LOOP_STS_BOOTING n) (F.LOOP_STS_ENERGISED n) _
      ⟨le_refl 3, by norm_num [F.LOOP_STS_BOOTING]⟩ rfl (Or.inr (by norm_num [F.LOOP_STS_BOOTING, F.LOOP_STS_ENERGISED]))]
    exact Dev.flag_up_same _ _ _ rfl (by norm_num [F.LOOP_STS_ENERGISED])
  · simpa using ‹¬ d.energised n = true›

/-- De-energising an axis leaves every register but the axis's own and the report. -/
theorem Dev.deenergise_rd_ne (d : Dev) {n o : Nat} (c : o ≠ R.LOOP_CTL n) (s : o ≠ R.LOOP_STS n) (v : o ≠ R.LOOP_EVT n)
    (e : o ≠ R.SYS_FAULT_EVT) : (d.deenergise n).rd o = d.rd o := by
  have en : (d.enOff n).rd o = d.rd o := Dev.rd_put_ne d _ c
  rw [Dev.deenergise_eq]
  split
  · rw [Dev.energOff_rd_ne _ s v e, en]
  · exact en

theorem Dev.deenergise_cut (d : Dev) (n : Nat) : (d.deenergise n).cut n := by
  have en : (d.enOff n).flag (F.LOOP_CTL_EN n) = false := Dev.flag_up_same d _ false rfl (by norm_num [F.LOOP_CTL_EN])
  rw [Dev.deenergise_eq]
  split
  · have ctl : ((d.enOff n).energOff n).rd (R.LOOP_CTL n) = (d.enOff n).rd (R.LOOP_CTL n) :=
      Dev.energOff_rd_ne _ (by simp only [R.LOOP_CTL, R.LOOP_STS]; omega) (by simp only [R.LOOP_CTL, R.LOOP_EVT]; omega)
        (by simp only [R.LOOP_CTL, R.SYS_FAULT_EVT]; omega)
    refine ⟨?_, fun _ => Dev.energOff_energised _ n⟩
    rw [← en]
    exact Dev.flag_of_rd ctl
  · exact ⟨en, fun h => absurd h ‹_›⟩

/-- De-energising an axis keeps every axis that is de-energised so. -/
theorem Dev.deenergise_keeps_cut (d : Dev) (n : Nat) {m : Nat} (h : d.cut m) : (d.deenergise n).cut m := by
  by_cases e : m = n
  · subst e
    exact d.deenergise_cut m
  · refine Dev.cut_of_rd (Dev.deenergise_rd_ne d ?_ ?_ ?_ ?_) (Dev.deenergise_rd_ne d ?_ ?_ ?_ ?_) h <;>
      simp only [R.LOOP_CTL, R.LOOP_STS, R.LOOP_EVT, R.SYS_FAULT_EVT] <;> omega

theorem Dev.reactAxis_keeps_cut (d : Dev) (cls n : Nat) {m : Nat} (h : d.cut m) : (d.reactAxis cls n).cut m := by
  rw [Dev.reactAxis]
  split
  · exact Dev.deenergise_keeps_cut (d.noteReact cls n) n h
  · exact h

/-- A fault keeps every axis that is de-energised so. -/
theorem Dev.fault_keeps_cut (d : Dev) (k : FaultKind) (i c a : Nat) (b : Bool) (o : Option Fld) {m : Nat} (h : d.cut m) :
    (d.fault k i c a b o).cut m := by
  have r : (d.record k i c a b o).cut m := by
    refine Dev.cut_of_rd (Dev.record_rd_ne d _ _ _ _ _ _ ?_) (Dev.record_rd_ne d _ _ _ _ _ _ ?_) h <;>
      simp only [R.LOOP_CTL, R.LOOP_STS, R.SYS_FAULT_EVT] <;> omega
  rw [Dev.fault, Dev.react_eq]
  split
  · exact r
  · exact foldl_rel_mem (fun d e => d.cut m → e.cut m) (fun _ h => h) (fun f g h => g (f h)) _ _
      (fun n _ d h => d.reactAxis_keeps_cut c n h) _ r

/-- A fault of class F3 de-energises every axis it affects. -/
theorem Dev.fault_cut (d : Dev) (k : FaultKind) (i c a : Nat) (b : Bool) (o : Option Fld) (h : 3 ≤ c) {m : Nat} (hm : m ∈ onesBelow 128 a) :
    (d.fault k i c a b o).cut m := by
  rw [Dev.fault, Dev.react_eq, if_neg (by omega)]
  generalize d.record k i c a b o = x
  obtain ⟨l, t, e⟩ := List.append_of_mem hm
  rw [e, List.foldl_append, List.foldl_cons]
  refine foldl_rel_mem (fun d e => d.cut m → e.cut m) (fun _ h => h) (fun f g h => g (f h)) _ _
    (fun n _ d h => d.reactAxis_keeps_cut c n h) _ ?_
  rw [Dev.reactAxis, if_pos h]
  exact Dev.deenergise_cut _ m

theorem mem_allAxes {n : Nat} (h : n < 128) : n ∈ onesBelow 128 allAxes := by
  refine List.mem_filter.mpr ⟨List.mem_range.mpr h, ?_⟩
  have bit := Nat.testBit_two_pow_sub_one 128 n
  rw [Nat.testBit_eq_decide_div_mod_eq, decide_eq_true h] at bit
  exact beq_iff_eq.mpr (of_decide_eq_true bit)

/-! A fault of another class touches no register but the report. -/

theorem Dev.react_rd_low (d : Dev) {c : Nat} (a o : Nat) (h : c < 3) : (d.react c a).rd o = d.rd o := by
  rw [Dev.react_eq]
  split
  · rfl
  · refine foldl_keep (fun d => d.rd o) _ (fun d n => ?_) _ d
    rw [Dev.reactAxis, if_neg (by omega), Dev.noteReact_rd]

theorem Dev.fault_sameRegs_low (d : Dev) (k : FaultKind) (i : Nat) {c : Nat} (a : Nat) (b : Bool) (w : Option Fld) (h : c < 3) :
    d.sameRegs (d.fault k i c a b w) [R.SYS_FAULT_EVT] := by
  intro o ho
  rw [Dev.fault, Dev.react_rd_low _ _ _ h, Dev.record_rd_ne _ _ _ _ _ _ _ (by simpa using ho)]

theorem Dev.record_sameRegs (d : Dev) (k : FaultKind) (i c a : Nat) (b : Bool) (w : Option Fld) :
    d.sameRegs (d.record k i c a b w) [R.SYS_FAULT_EVT] :=
  fun _ ho => Dev.record_rd_ne _ _ _ _ _ _ _ (by simpa using ho)

theorem Dev.eccBad_of_rest {d e : Dev} (h : e.rest = d.rest) : e.eccBad = d.eccBad := by
  simp only [Dev.rest, Prod.mk.injEq] at h
  obtain ⟨-, -, -, -, -, -, -, -, -, -, -, -, -, -, ecc, -, -⟩ := h
  exact ecc

theorem Dev.fault_eccBad (d : Dev) (k : FaultKind) (i c a : Nat) (b : Bool) (o : Option Fld) :
    (d.fault k i c a b o).eccBad = d.eccBad := Dev.eccBad_of_rest (d.rest_fault k i c a b o)

/-! Relinquishing (18 R428). -/

/-- A unit that takes RELINQUISHED writes RED_STS alone. -/
theorem Dev.redTo_relinquished (d : Dev) : ∃ r, d.redTo 6 =
    ({ (d.put F.RED_STS_ROLE 6).causeOff .snapLate 0 with red := r } : Dev).up F.RED_STS_DRILL_PEND false := ⟨_, rfl⟩

theorem Dev.redSend_eq (d : Dev) (typ : Nat) (p : List Word) : ∃ r, d.redSend typ p = { d with red := r } := by
  unfold Dev.redSend
  split
  · exact ⟨_, rfl⟩
  · exact ⟨d.red, rfl⟩

/-- Giving up control: nothing where the unit is not active; else RELINQUISH, the role and F3 on the direct axes. -/
theorem Dev.relinquish_cases (d : Dev) (send : Bool) : (d.redRole ≠ 2 ∧ d.relinquish send = d) ∨
    ∃ x, d.redRole = 2 ∧ (∃ r, x = { d with red := r }) ∧
      d.relinquish send = (x.redTo 6).fault .relinquish 0 3 x.directMask true none := by
  by_cases h : d.redRole = 2
  · refine Or.inr ⟨if send then d.redSend 4 [] else d, h, ?_, ?_⟩
    · split
      · exact d.redSend_eq 4 []
      · exact ⟨d.red, rfl⟩
    · unfold Dev.relinquish
      rw [if_neg (by simpa using h)]
  · refine Or.inl ⟨h, ?_⟩
    unfold Dev.relinquish
    rw [if_pos h]

theorem Dev.redTo_relinquished_rd (d : Dev) {o : Nat} (h : o ≠ R.RED_STS) : (d.redTo 6).rd o = d.rd o := by
  obtain ⟨r, e⟩ := d.redTo_relinquished
  rw [e, Dev.up, Dev.rd_put_ne _ _ h]
  exact Dev.rd_put_ne d _ h

theorem Dev.redTo_relinquished_role (d : Dev) : (d.redTo 6).redRole = 6 := by
  obtain ⟨r, e⟩ := d.redTo_relinquished
  rw [e, Dev.redRole, Dev.up, Dev.get_put_apart _ F.RED_STS_DRILL_PEND F.RED_STS_ROLE _ ⟨by decide, by decide⟩ rfl (by decide)]
  exact Dev.get_put_same d F.RED_STS_ROLE 6 ⟨by decide, by decide⟩

theorem not_settles_redSts : ¬ settles R.RED_STS := not_settles_of_apart (by decide) (by decide) (by decide)

/-- An active unit that gives up control is RELINQUISHED. -/
theorem Dev.relinquish_role {d : Dev} {send : Bool} (h : d.redRole = 2) : (d.relinquish send).redRole = 6 := by
  rcases d.relinquish_cases send with ⟨n, -⟩ | ⟨x, -, -, e⟩
  · exact absurd h n
  · rw [e]
    exact (Dev.get_of_rd (Dev.fault_rd _ _ _ _ _ _ _ not_settles_redSts)).trans x.redTo_relinquished_role

theorem Dev.relinquish_rd (d : Dev) (send : Bool) {o : Nat} (h : ¬ settles o) (k : o ≠ R.RED_STS) : (d.relinquish send).rd o = d.rd o := by
  rcases d.relinquish_cases send with ⟨-, e⟩ | ⟨x, -, ⟨r, hx⟩, e⟩
  · rw [e]
  · rw [e, Dev.fault_rd _ _ _ _ _ _ _ h, Dev.redTo_relinquished_rd _ k, hx]
    rfl

theorem Dev.relinquish_keeps_cut (d : Dev) (send : Bool) {n : Nat} (hn : n < 128) (h : d.cut n) : (d.relinquish send).cut n := by
  rcases d.relinquish_cases send with ⟨-, e⟩ | ⟨x, -, ⟨r, hx⟩, e⟩
  · rwa [e]
  · have hx' : x.cut n := by rw [hx]; exact h
    rw [e]
    refine Dev.fault_keeps_cut _ _ _ _ _ _ _ (Dev.cut_of_rd (x.redTo_relinquished_rd ?_) (x.redTo_relinquished_rd ?_) hx') <;>
      simp only [R.LOOP_CTL, R.LOOP_STS, R.RED_STS] <;> omega

/-- Giving up control keeps the faults that have nothing to do with redundancy. -/
theorem Dev.mem_relinquish (d : Dev) (send : Bool) {f : FaultRec} (h : f ∈ d.faults) (rep : f.kind ≠ .report)
    (snap : f.kind ≠ .snapLate) (rel : f.kind ≠ .relinquish) : f ∈ (d.relinquish send).faults := by
  rcases d.relinquish_cases send with ⟨-, e⟩ | ⟨x, -, ⟨r, hx⟩, e⟩
  · rwa [e]
  · obtain ⟨r', e'⟩ := x.redTo_relinquished
    rw [e]
    refine Dev.mem_fault_of_kind _ _ _ _ _ _ ?_ rep rel
    rw [e', Dev.up_faults]
    refine List.mem_map.mpr ⟨f, ?_, ?_⟩
    · rw [Dev.put_faults, hx]
      exact h
    · simp [snap]

theorem Dev.relinquish_eccBad (d : Dev) (send : Bool) : (d.relinquish send).eccBad = d.eccBad := by
  rcases d.relinquish_cases send with ⟨-, e⟩ | ⟨x, -, ⟨r, hx⟩, e⟩
  · rw [e]
  · obtain ⟨r', e'⟩ := x.redTo_relinquished
    rw [e, Dev.fault_eccBad, e', Dev.up_eccBad]
    exact (Dev.put_eccBad x F.RED_STS_ROLE 6).trans (by rw [hx])

theorem Dev.relinquishLive_cases (d : Dev) : d.relinquishLive = d ∨ d.relinquishLive = d.relinquish true := by
  unfold Dev.relinquishLive
  split
  · exact Or.inr rfl
  · exact Or.inl rfl

/-! PLL_LOSS (01 R18). -/

/-- PLL_LOSS with its report in CLK_STS: the fault on every axis, then the relinquishing. -/
theorem Dev.pllLoss_eq {d : Dev} {lock : Bool} (h : d.time.running = true) : d.pllLoss lock =
    (((if lock then d.up F.CLK_STS_ROOT_LOCK false else d).fault .pllLoss 0 3 allAxes true none).relinquish true) := by
  simp only [Dev.pllLoss, h, Bool.not_true, Bool.false_eq_true, if_false]

theorem deviceFaults_pllLoss (s : State) (lock : Bool) : (s.dev.time.running = false → answers (.pllLoss lock) s s) ∧
    (s.dev.time.running = true → leads (.pllLoss lock) s fun x => (lock = true → x.dev.flag F.CLK_STS_ROOT_LOCK = false) ∧
      (s.dev.redRole = 2 → x.dev.redRole = 6) ∧
      (∃ f ∈ x.dev.faults, f.kind = FaultKind.pllLoss ∧ f.cls = 3 ∧ f.axes = allAxes ∧ f.cause = true) ∧
      (∀ n < 128, x.dev.flag (F.LOOP_CTL_EN n) = false ∧ (n < 32 → x.dev.energised n = false)) ∧ s.sameMem x) := by
  have out : answers (.pllLoss lock) s { s with dev := s.dev.pllLoss lock } := rfl
  refine ⟨fun stop => ?_, fun run => ⟨_, out, ?_⟩⟩
  · have same : s.dev.pllLoss lock = s.dev := by simp only [Dev.pllLoss, stop, Bool.not_false, if_true]
    rwa [same] at out
  · rw [Dev.pllLoss_eq run]
    set d := if lock then s.dev.up F.CLK_STS_ROOT_LOCK false else s.dev with hd
    have clk : ¬ settles R.CLK_STS := not_settles_of_apart (by decide) (by decide) (by decide)
    have role : (d.fault .pllLoss 0 3 allAxes true none).redRole = s.dev.redRole := by
      refine Dev.get_of_rd ((Dev.fault_rd d _ _ _ _ _ _ not_settles_redSts).trans ?_)
      rw [hd]
      split
      · exact Dev.rd_put_ne _ _ (by decide)
      · rfl
    refine ⟨fun hl => ?_, fun act => Dev.relinquish_role (role.trans act), ⟨_, Dev.mem_relinquish _ _
      (Dev.mem_fault_self d _ _ _ _ _ (by decide)) (by decide) (by decide) (by decide), rfl, rfl, rfl, rfl⟩,
      fun n hn => Dev.relinquish_keeps_cut _ _ hn (Dev.fault_cut d _ _ _ _ _ _ (by norm_num) (mem_allAxes hn)), rfl, rfl, rfl, rfl⟩
    have lost : d.flag F.CLK_STS_ROOT_LOCK = false := by
      rw [hd, if_pos hl]
      exact Dev.flag_up_same _ _ _ rfl (by decide)
    rw [← lost]
    exact Dev.flag_of_rd ((Dev.relinquish_rd _ _ clk (by decide)).trans (Dev.fault_rd d _ _ _ _ _ _ clk))

/-! SRAM errors (01 R34, 15 R371). -/

theorem Memory.word_putWords_ne (ws : List Word) :
    ∀ (m : Memory) (a b : Nat), b + 4 ≤ a ∨ a + 4 * ws.length ≤ b → (m.putWords a ws).word b = m.word b := by
  induction ws with
  | nil => intro m a b _; rfl
  | cons w t ih =>
    intro m a b h
    rw [List.length_cons] at h
    rw [Memory.putWords, ih _ _ _ (by omega), Memory.word_putWord_ne _ _ _ _ (by omega)]

/-- A stored word of several reads back. -/
theorem Memory.word_putWords (ws : List Word) :
    ∀ (m : Memory) (a i : Nat) (h : i < ws.length), (m.putWords a ws).word (a + 4 * i) = ws[i] := by
  induction ws with
  | nil => intro m a i h; simp at h
  | cons w t ih =>
    intro m a i h
    rw [Memory.putWords]
    cases i with
    | zero => rw [Memory.word_putWords_ne t _ _ _ (by omega), Nat.mul_zero, Nat.add_zero, Memory.word_putWord]; rfl
    | succ j => rw [show a + 4 * (j + 1) = a + 4 + 4 * j by omega, ih _ _ _ (by simpa using h)]; rfl

/-- The contrail entry that holds a word. -/
def trailEntry (b : Nat) : Nat := 0x1000000 + 16 * ((b - 0x1000000) / 16)

/-- A bad entry where KIND 0xF is recorded: four free words whose KIND is 0xF take its place, and its ECC is valid again. -/
theorem State.trailCorrupt_on {s : State} (b : Nat) (h : s.dev.trailOn 15 = true) :
    ∃ w0 w2 w3 y t free, y < 2 ^ 9 ∧ t < 2 ^ 10 ∧ s.trailCorrupt b = { s with
      dev := { s.dev with free := free, eccBad := s.dev.eccBad.filter (fun c => decide (c < trailEntry b ∨ trailEntry b + 16 ≤ c)) },
      mem := s.mem.putWords (trailEntry b) [w0, BitVec.ofNat 32 (0xF * 2 ^ 28 + y * 2 ^ 19 + t), w2, w3] } := by
  unfold State.trailCorrupt
  rw [h]
  exact ⟨_, _, _, _, _, _, Dev.draw_lt _ (by norm_num), Dev.draw_lt _ (by norm_num), rfl⟩

theorem State.trailCorrupt_off {s : State} (b : Nat) (h : s.dev.trailOn 15 = false) : s.trailCorrupt b =
    s.upd fun d => { d with eccBad := if d.eccBad.contains b then d.eccBad else b :: d.eccBad } := by
  unfold State.trailCorrupt
  rw [h]
  rfl

theorem mem_markBad (l : List Nat) (b : Nat) : b ∈ (if l.contains b then l else b :: l) := by
  split
  · simpa using ‹l.contains b = true›
  · exact List.mem_cons_self

/-- The contrail is region 2 (01 Table 1.8). -/
theorem bar2Region_trail {b : Nat} (h : bar2Region b = 2) : 0x1000000 ≤ b := by
  unfold bar2Region at h
  by_contra lt
  split at h
  · omega
  · rw [if_pos (by omega)] at h
    omega

theorem trailEntry_eq {b : Nat} (h : bar2Region b = 2) : trailEntry b = b / 16 * 16 := by
  have := bar2Region_trail h
  unfold trailEntry
  omega

section Scrub
variable {s : State} {a : Nat}

theorem State.scrubError_unseen {ce : Bool} (h : bar2Region (a / 4 * 4) = 0x7F ∨ s.dev.regionOff (bar2Region (a / 4 * 4)) = true) :
    s.scrubError a ce = s := by
  simp only [State.scrubError, if_pos h]

theorem State.scrubError_correctable (h : ¬ (bar2Region (a / 4 * 4) = 0x7F ∨ s.dev.regionOff (bar2Region (a / 4 * 4)) = true)) :
    s.scrubError a true = s.upd (fun d => ({ d with eccCe := d.eccCe + 1 } : Dev).record .sramCe 0 0 0 false none) := by
  simp only [State.scrubError, if_neg h, if_true]

theorem State.scrubError_trail (h : ¬ (bar2Region (a / 4 * 4) = 0x7F ∨ s.dev.regionOff (bar2Region (a / 4 * 4)) = true))
    (k : bar2Region (a / 4 * 4) = 2) :
    s.scrubError a false = (s.trailCorrupt (a / 4 * 4)).upd (Dev.record .contrailCorrupt 0 0 0 false none) := by
  simp only [State.scrubError, if_neg h, Bool.false_eq_true, if_false, if_pos k]

theorem State.scrubError_word (h : ¬ (bar2Region (a / 4 * 4) = 0x7F ∨ s.dev.regionOff (bar2Region (a / 4 * 4)) = true))
    (k : bar2Region (a / 4 * 4) ≠ 2) :
    s.scrubError a false = s.upd (fun d => (({ d with eccBad := if d.eccBad.contains (a / 4 * 4) then d.eccBad
      else a / 4 * 4 :: d.eccBad } : Dev).fault .sramUe 0 2 allAxes true none).relinquishLive) := by
  simp only [State.scrubError, if_neg h, Bool.false_eq_true, if_false, if_neg k]

end Scrub

/-- The device whose word at b is bad. -/
def Dev.markBad (b : Nat) (d : Dev) : Dev := { d with eccBad := if d.eccBad.contains b then d.eccBad else b :: d.eccBad }

/-- An uncorrectable error marks the word, and its fault stands whether or not the unit gives up control. -/
theorem Dev.sramUe_stands (d : Dev) (b : Nat) : b ∈ (((d.markBad b).fault .sramUe 0 2 allAxes true none).relinquishLive).eccBad ∧
    ∃ f ∈ (((d.markBad b).fault .sramUe 0 2 allAxes true none).relinquishLive).faults,
      f.kind = FaultKind.sramUe ∧ f.cls = 2 ∧ f.axes = allAxes ∧ f.cause = true := by
  have bad : b ∈ ((d.markBad b).fault .sramUe 0 2 allAxes true none).eccBad := by
    rw [Dev.fault_eccBad]
    exact mem_markBad d.eccBad b
  have stands := Dev.mem_fault_self (d.markBad b) 0 2 allAxes true none (k := .sramUe) (by decide)
  rcases Dev.relinquishLive_cases ((d.markBad b).fault .sramUe 0 2 allAxes true none) with e | e <;> rw [e]
  · exact ⟨bad, _, stands, rfl, rfl, rfl, rfl⟩
  · exact ⟨by rwa [Dev.relinquish_eccBad], _, Dev.mem_relinquish _ _ stands (by decide) (by decide) (by decide), rfl, rfl, rfl, rfl⟩

/-- An uncorrectable error of the contrail: the word stays bad, or an entry of KIND 0xF takes its entry's place. -/
theorem State.contrailCorrupt_outcome (s : State) {b : Nat} (in2 : bar2Region b = 2) :
    let x := (s.trailCorrupt b).upd (Dev.record .contrailCorrupt 0 0 0 false none)
    s.dev.sameRegs x.dev [R.SYS_FAULT_EVT] ∧ x.flash = s.flash ∧
      (s.dev.trailOn 15 = false → b ∈ x.dev.eccBad ∧ s.sameMem x) ∧
      (s.dev.trailOn 15 = true → b ∉ x.dev.eccBad ∧ bitsOf (x.mem.word (b / 16 * 16 + 4)).toNat 31 28 = 15 ∧
        ∀ c, c < b / 16 * 16 ∨ b / 16 * 16 + 16 ≤ c → tblGet sramReset x.mem c = tblGet sramReset s.mem c) := by
  cases on : s.dev.trailOn 15 with
  | false =>
    rw [State.trailCorrupt_off b on]
    refine ⟨Dev.record_sameRegs (s.dev.markBad b) _ _ _ _ _ _, rfl, fun _ => ⟨?_, rfl, rfl, rfl, rfl⟩, fun h => absurd h (by decide)⟩
    exact (Dev.record_eccBad (s.dev.markBad b) _ _ _ _ _ _).symm ▸ mem_markBad s.dev.eccBad b
  | true =>
    obtain ⟨w0, w2, w3, y, t, free, hy, ht, e⟩ := State.trailCorrupt_on b on
    rw [e]
    rw [trailEntry_eq in2]
    refine ⟨fun o ho => Dev.record_rd_ne _ _ _ _ _ _ _ (by simpa using ho), rfl, fun h => absurd h (by decide), fun _ => ⟨?_, ?_, ?_⟩⟩
    · rw [State.upd, Dev.record_eccBad, List.mem_filter]
      simp only [decide_eq_true_eq, not_and]
      omega
    · have kind := Memory.word_putWords [w0, BitVec.ofNat 32 (0xF * 2 ^ 28 + y * 2 ^ 19 + t), w2, w3] s.mem (b / 16 * 16) 1 (by simp)
      rw [State.upd, show b / 16 * 16 + 4 = b / 16 * 16 + 4 * 1 from rfl, kind]
      simp only [List.getElem_cons_succ, List.getElem_cons_zero, BitVec.toNat_ofNat, bitsOf]
      omega
    · exact fun c hc => Memory.putWords_get _ _ _ _ hc

theorem deviceFaults_sramScrubError (s : State) (a : BitVec 25) (ce : Bool) : let b := a.toNat / 4 * 4
    (bar2Region b = 0x7F ∨ s.dev.regionOff (bar2Region b) = true → answers (.sramScrubError a ce) s s) ∧
    (bar2Region b ≠ 0x7F → s.dev.regionOff (bar2Region b) = false → leads (.sramScrubError a ce) s fun x =>
      (ce = true → s.sameMem x ∧ x.dev.eccBad = s.dev.eccBad ∧ x.dev.eccCe = s.dev.eccCe + 1 ∧ s.dev.sameRegs x.dev [R.SYS_FAULT_EVT]) ∧
      (ce = false → bar2Region b ≠ 2 → b ∈ x.dev.eccBad ∧ s.sameMem x ∧
        ∃ f ∈ x.dev.faults, f.kind = FaultKind.sramUe ∧ f.cls = 2 ∧ f.axes = allAxes ∧ f.cause = true) ∧
      (ce = false → bar2Region b = 2 → s.dev.sameRegs x.dev [R.SYS_FAULT_EVT] ∧ x.flash = s.flash ∧
        (s.dev.trailOn 15 = false → b ∈ x.dev.eccBad ∧ s.sameMem x) ∧
        (s.dev.trailOn 15 = true → b ∉ x.dev.eccBad ∧ bitsOf (x.mem.word (b / 16 * 16 + 4)).toNat 31 28 = 15 ∧
          ∀ c, c < b / 16 * 16 ∨ b / 16 * 16 + 16 ≤ c → tblGet sramReset x.mem c = tblGet sramReset s.mem c))) := by
  have out : answers (.sramScrubError a ce) s (s.scrubError a.toNat ce) := rfl
  refine ⟨fun unseen => ?_, fun inside on => ⟨_, out, ?_⟩⟩
  · rwa [State.scrubError_unseen unseen] at out
  have seen : ¬ (bar2Region (a.toNat / 4 * 4) = 0x7F ∨ s.dev.regionOff (bar2Region (a.toNat / 4 * 4)) = true) := by simp [inside, on]
  refine ⟨?_, ?_, ?_⟩
  · rintro rfl
    rw [State.scrubError_correctable seen]
    exact ⟨⟨rfl, rfl, rfl, rfl⟩, Dev.record_eccBad _ _ _ _ _ _ _, Dev.record_eccCe _ _ _ _ _ _ _,
      Dev.record_sameRegs ({ s.dev with eccCe := s.dev.eccCe + 1 } : Dev) _ _ _ _ _ _⟩
  · rintro rfl word
    obtain ⟨bad, stands⟩ := s.dev.sramUe_stands (a.toNat / 4 * 4)
    rw [State.scrubError_word seen word]
    exact ⟨bad, ⟨rfl, rfl, rfl, rfl⟩, stands⟩
  · rintro rfl trail
    rw [State.scrubError_trail seen trail]
    exact s.contrailCorrupt_outcome trail

/-! FAULT_N and OVERTEMP (01 R38, 21 R482). -/

/-- What others do with FAULT_N is noted; the rest is settling's. -/
theorem deviceFaults_faultN (s : State) :
    answers .extFault s { s with dev := { s.dev with host := { s.dev.host with faultnExt := true } } } ∧
    answers .faultNNetHigh s { s with dev := { s.dev with host := { s.dev.host with faultnExt := false } } } := by
  have low : answers .extFault s { s with dev := s.dev.faultNet true } := rfl
  have high : answers .faultNNetHigh s { s with dev := s.dev.faultNet false } := rfl
  exact ⟨low, high⟩

theorem deviceFaults_overtemp (s : State) : (s.dev.adc.hotRun < 32 ∨ s.dev.causeOn .overtemp 0 = true → answers .overtemp s s) ∧
    (32 ≤ s.dev.adc.hotRun → s.dev.causeOn .overtemp 0 = false → leads .overtemp s fun x => s.sameMem x ∧
      (∃ f ∈ x.dev.faults, f.kind = FaultKind.overtemp ∧ f.cls = 2 ∧ f.axes = allAxes ∧ f.cause = true) ∧
      s.dev.sameRegs x.dev [R.SYS_FAULT_EVT]) := by
  have out : answers .overtemp s { s with dev := s.dev.overtemp } := rfl
  refine ⟨fun h => ?_, fun hot new => ⟨_, out, ?_⟩⟩
  · rwa [Dev.overtemp, if_pos h] at out
  · have h : ¬ (s.dev.adc.hotRun < 32 ∨ s.dev.causeOn .overtemp 0 = true) := by simp [hot, new]
    rw [Dev.overtemp, if_neg h]
    have stands := Dev.mem_fault_self s.dev 0 2 allAxes true none (k := .overtemp) (by decide)
    have regs := s.dev.fault_sameRegs_low .overtemp 0 allAxes true none (c := 2) (by norm_num)
    exact ⟨⟨rfl, rfl, rfl, rfl⟩, ⟨_, stands, rfl, rfl, rfl, rfl⟩, regs⟩

/-- Settles O13: a fault stands after the reaction to it, F3 cuts every axis it affects, and relinquishing keeps both. -/
theorem deviceFaults : Obligations.DeviceFaults := by
  unfold Obligations.DeviceFaults
  exact ⟨deviceFaults_pllLoss, deviceFaults_sramScrubError, deviceFaults_faultN, deviceFaults_overtemp⟩

end Sys2Proof.Machine
end

section
/-! The CRC of the image (02 R46). -/
namespace Sys2Proof.Machine

theorem reflect_lt (w : Nat) : ∀ v, reflect w v < 2 ^ w := by
  induction w with
  | zero => intro v; simp [reflect]
  | succ w ih =>
    intro v
    have low := ih (v / 2)
    rw [reflect, pow_succ]
    rcases Nat.mod_two_eq_zero_or_one v with e | e <;> rw [e] <;> omega

/-- The reflected remainder and the final inversion both fit 32 bits. -/
theorem crc32c_lt (bs : List Byte) : crc32c bs < 2 ^ 32 := Nat.xor_lt_two_pow (reflect_lt 32 _) (by norm_num)

/-- The check value of CRC-32C; the kernel alone follows the division of its 72 bits. -/
theorem crc32c_digits : crc32c [0x31, 0x32, 0x33, 0x34, 0x35, 0x36, 0x37, 0x38, 0x39] = 0xE3069283 := by decide +kernel

/-- Settles O6: the check value and the empty CRC are computed, and the bound is that of the reflected remainder. -/
theorem crcCheckValue : Obligations.CrcCheckValue := by
  unfold Obligations.CrcCheckValue
  exact ⟨crc32c_digits, by decide, crc32c_lt⟩

end Sys2Proof.Machine
end

section
/-! Live patches: what stages one, what discards a write, and what refuses one (02 R61, R64). -/
namespace Sys2Proof.Machine

/-! What a write leaves. -/

@[simp] theorem Dev.modUpd_upd (d : Dev) (g : UpdSt → UpdSt) : (d.modUpd g).upd = g d.upd := (rfl)
@[simp] theorem Dev.modUpd_rd (d : Dev) (g : UpdSt → UpdSt) (o : Nat) : (d.modUpd g).rd o = d.rd o := (rfl)
@[simp] theorem Dev.modUpd_get (d : Dev) (g : UpdSt → UpdSt) (f : Fld) : (d.modUpd g).get f = d.get f := (rfl)
@[simp] theorem Dev.modUpd_flag (d : Dev) (g : UpdSt → UpdSt) (f : Fld) : (d.modUpd g).flag f = d.flag f := (rfl)

@[simp] theorem Dev.parityWritten_rd (d : Dev) (p o : Nat) : (d.parityWritten p).rd o = d.rd o := Dev.rd_of_regs (d.parityWritten_regs p) o
@[simp] theorem Dev.parityWritten_get (d : Dev) (p : Nat) (f : Fld) : (d.parityWritten p).get f = d.get f :=
  Dev.get_of_regs (d.parityWritten_regs p) f
@[simp] theorem Dev.parityWritten_flag (d : Dev) (p : Nat) (f : Fld) : (d.parityWritten p).flag f = d.flag f :=
  Dev.flag_of_regs (d.parityWritten_regs p) f
@[simp] theorem Dev.parityWritten_upd (d : Dev) (p : Nat) : (d.parityWritten p).upd = d.upd := by
  obtain ⟨h, l, e⟩ := d.parityWritten_eq p
  rw [e]

theorem State.sameMem_upd (s : State) (f : Dev → Dev) : s.sameMem (s.upd f) := ⟨rfl, rfl, rfl, rfl⟩

/-! An event of class F0 whose bit is in another register than the report. -/

theorem Dev.event0_get (d : Dev) (f : Fld) {g : Fld} (h : g.reg ≠ R.SYS_FAULT_EVT) : (d.event0 f).get g = (d.raise f).get g :=
  Dev.get_of_rd (Dev.record_rd_ne _ _ _ _ _ _ _ h)

theorem Dev.event0_flag (d : Dev) {f : Fld} (h : f.evt) (k : f.reg ≠ R.SYS_FAULT_EVT) : (d.event0 f).flag f = true :=
  (Dev.flag_of_get (d.event0_get f k)).trans (d.raise_flag f h)

theorem Dev.event0_get_ne (d : Dev) {f g : Fld} (h : g.reg ≠ f.reg) (k : g.reg ≠ R.SYS_FAULT_EVT) : (d.event0 f).get g = d.get g :=
  Dev.get_of_rd (d.event0_rd_ne h k)

/-! A write that is discarded. -/

/-- What a discarded write leaves: BUSY_EVT, its report, and nothing else. -/
theorem Dev.patchBusy_outcome (d : Dev) : d.patchBusy.flag F.CFG_PATCH_EVT_BUSY_EVT = true ∧ d.patchBusy.upd = d.upd ∧
    d.sameRegs d.patchBusy [R.CFG_PATCH_EVT, R.SYS_FAULT_EVT] := by
  refine ⟨Dev.event0_flag d (by simp [Fld.evt, F.CFG_PATCH_EVT_BUSY_EVT]) (by decide), Dev.event0_upd d _, fun o ho => ?_⟩
  simp only [List.mem_cons, List.not_mem_nil, or_false, not_or] at ho
  exact d.event0_rd_ne ho.1 ho.2

section Pending
variable {d : Dev} (h : d.flag F.CFG_PATCH_LVL_PENDING = true)
include h

theorem Dev.patchSel_pending (idx : Bool) (w : Word) : d.patchSel idx w = d.patchBusy := if_pos h

theorem Dev.patchData_pending (w : Word) : d.patchData w = d.patchBusy := by
  simp only [Dev.patchData, Dev.patchPending, h, Bool.true_or, if_true]

theorem Dev.patchApply_pending : d.patchApply = d.patchBusy := if_pos h

end Pending

theorem Dev.patchData_full {d : Dev} (h : d.get F.CFG_PATCH_LVL_WPTR = 4096) (w : Word) : d.patchData w = d.patchBusy := by
  simp only [Dev.patchData, h, BEq.rfl, Bool.or_true, if_true]

/-- While a patch is pending its writes, and APPLY, are discarded. -/
theorem patchStaging_busy (s : State) (w : Word) (pend : s.dev.flag F.CFG_PATCH_LVL_PENDING = true) :
    ∀ c ∈ ([.patchSelWrite w, .patchIdxWrite w, .patchDataWrite w, .patchApply] : List Instr), answers c s (s.upd Dev.patchBusy) := by
  have sel : answers (.patchSelWrite w) s (s.upd (Dev.patchSel false w)) := rfl
  have idx : answers (.patchIdxWrite w) s (s.upd (Dev.patchSel true w)) := rfl
  have data : answers (.patchDataWrite w) s (s.upd (Dev.patchData w)) := rfl
  have apply : answers .patchApply s (s.upd Dev.patchApply) := rfl
  rw [State.upd, Dev.patchSel_pending pend] at sel idx
  rw [State.upd, Dev.patchData_pending pend] at data
  rw [State.upd, Dev.patchApply_pending pend] at apply
  intro c hc
  simp only [List.mem_cons, List.not_mem_nil, or_false] at hc
  rcases hc with rfl | rfl | rfl | rfl
  exacts [sel, idx, data, apply]

/-! A write that stages. -/

/-- A register that names the record takes a word; its parity is right, and the payload is empty again. -/
def Dev.patchNamed (o : Nat) (v : Word) (d : Dev) : Dev :=
  (((d.wr o v).parityWritten o).put F.CFG_PATCH_LVL_WPTR 0).modUpd (fun u => { u with patch := [] })

section Free
variable {d : Dev} (h : d.flag F.CFG_PATCH_LVL_PENDING = false)
include h

theorem Dev.patchSel_free (idx : Bool) (w : Word) : d.patchSel idx w =
    if idx then d.patchNamed R.CFG_PATCH_IDX (w &&& 0x7F) else d.patchNamed R.CFG_PATCH_SEL (w &&& 0xFFFFFF03) := by
  cases idx <;> simp only [Dev.patchSel, Dev.patchPending, Dev.patchNamed, h, Bool.false_eq_true, if_false, if_true]

theorem Dev.patchData_free (k : d.get F.CFG_PATCH_LVL_WPTR ≠ 4096) (w : Word) : d.patchData w =
    ((d.put F.CFG_PATCH_LVL_WPTR (d.get F.CFG_PATCH_LVL_WPTR + 1)).parityWritten R.CFG_PATCH_DATA).modUpd
      (fun u => { u with patch := u.patch ++ [w] }) := by
  have room : (d.get F.CFG_PATCH_LVL_WPTR == 4096) = false := by simpa using k
  simp only [Dev.patchData, Dev.patchPending, h, room, Bool.or_false, Bool.false_eq_true, if_false]

theorem Dev.patchApply_free : d.patchApply =
    ((d.up F.CFG_PATCH_LVL_PENDING true).parityWritten R.CFG_PATCH_CMD).modUpd (fun u => { u with patchAt := none, patchDrill := d.inDrill }) := by
  simp only [Dev.patchApply, Dev.patchPending, h, Bool.false_eq_true, if_false]

theorem Dev.patchAbort_free : d.patchAbort = d.parityWritten R.CFG_PATCH_CMD := by
  simp only [Dev.patchAbort, Dev.patchPending, Dev.parityWritten_flag, h, Bool.false_eq_true, if_false]

end Free

theorem Dev.patchNamed_outcome (d : Dev) (v : Word) {o : Nat} (h : o ≠ R.CFG_PATCH_LVL) :
    (d.patchNamed o v).rd o = v ∧ (d.patchNamed o v).upd.patch = [] ∧ (d.patchNamed o v).get F.CFG_PATCH_LVL_WPTR = 0 ∧
      d.sameRegs (d.patchNamed o v) [o, R.CFG_PATCH_LVL] := by
  refine ⟨?_, rfl, Dev.get_put_same _ F.CFG_PATCH_LVL_WPTR 0 (by simp [Fld.ok, F.CFG_PATCH_LVL_WPTR]), fun a ha => ?_⟩
  · rw [Dev.patchNamed, Dev.modUpd_rd, Dev.rd_put_ne _ _ h, Dev.parityWritten_rd, Dev.rd_wr_same]
  · simp only [List.mem_cons, List.not_mem_nil, or_false, not_or] at ha
    rw [Dev.patchNamed, Dev.modUpd_rd, Dev.rd_put_ne _ _ ha.2, Dev.parityWritten_rd, Dev.rd_wr_ne _ _ ha.1]

/-- A selection or an index names the record and empties the payload. -/
theorem patchStaging_named (s : State) (w : Word) (free : s.dev.flag F.CFG_PATCH_LVL_PENDING = false) :
    answers (.patchSelWrite w) s (s.upd (Dev.patchNamed R.CFG_PATCH_SEL (w &&& 0xFFFFFF03))) ∧
      answers (.patchIdxWrite w) s (s.upd (Dev.patchNamed R.CFG_PATCH_IDX (w &&& 0x7F))) := by
  have sel : answers (.patchSelWrite w) s (s.upd (Dev.patchSel false w)) := rfl
  have idx : answers (.patchIdxWrite w) s (s.upd (Dev.patchSel true w)) := rfl
  rw [State.upd, Dev.patchSel_free free] at sel idx
  exact ⟨sel, idx⟩

theorem patchStaging_data (s : State) (w : Word) (free : s.dev.flag F.CFG_PATCH_LVL_PENDING = false)
    (room : s.dev.get F.CFG_PATCH_LVL_WPTR < 4096) : leads (.patchDataWrite w) s fun x => x.dev.upd.patch = s.dev.upd.patch ++ [w] ∧
      x.dev.get F.CFG_PATCH_LVL_WPTR = s.dev.get F.CFG_PATCH_LVL_WPTR + 1 ∧ s.dev.sameRegs x.dev [R.CFG_PATCH_LVL] ∧ s.sameMem x := by
  have out : answers (.patchDataWrite w) s (s.upd (Dev.patchData w)) := rfl
  refine ⟨_, out, ?_⟩
  rw [State.upd, Dev.patchData_free free (by omega)]
  refine ⟨by simp, ?_, fun o ho => ?_, rfl, rfl, rfl, rfl⟩
  · rw [Dev.modUpd_get, Dev.parityWritten_get, Dev.get_put_same _ _ _ (by simp [Fld.ok, F.CFG_PATCH_LVL_WPTR])]
    exact Nat.mod_eq_of_lt (lt_trans (Nat.succ_lt_succ room) (by decide))
  · rw [Dev.modUpd_rd, Dev.parityWritten_rd, Dev.rd_put_ne _ _ (List.ne_of_not_mem_cons ho)]

theorem patchStaging_full (s : State) (w : Word) (full : s.dev.get F.CFG_PATCH_LVL_WPTR = 4096) :
    answers (.patchDataWrite w) s (s.upd Dev.patchBusy) := by
  have out : answers (.patchDataWrite w) s (s.upd (Dev.patchData w)) := rfl
  rwa [State.upd, Dev.patchData_full full] at out

/-! APPLY and ABORT. -/

theorem patchStaging_apply (s : State) (free : s.dev.flag F.CFG_PATCH_LVL_PENDING = false) : leads .patchApply s fun x =>
    x.dev.flag F.CFG_PATCH_LVL_PENDING = true ∧ x.dev.upd.patchAt = none ∧ x.dev.upd.patch = s.dev.upd.patch ∧
      s.dev.sameRegs x.dev [R.CFG_PATCH_LVL] ∧ s.sameMem x := by
  have out : answers .patchApply s (s.upd Dev.patchApply) := rfl
  refine ⟨_, out, ?_⟩
  rw [State.upd, Dev.patchApply_free free]
  refine ⟨?_, rfl, by simp, fun o ho => ?_, rfl, rfl, rfl, rfl⟩
  · rw [Dev.modUpd_flag, Dev.parityWritten_flag, Dev.flag_up_same _ _ _ rfl (by decide)]
  · rw [Dev.modUpd_rd, Dev.parityWritten_rd, Dev.up, Dev.rd_put_ne _ _ (List.ne_of_not_mem_cons ho)]

theorem patchStaging_abort_free (s : State) (free : s.dev.flag F.CFG_PATCH_LVL_PENDING = false) :
    answers .patchAbort s (s.upd (Dev.parityWritten R.CFG_PATCH_CMD)) := by
  have out : answers .patchAbort s (s.upd Dev.patchAbort) := rfl
  rwa [State.upd, Dev.patchAbort_free free] at out

/-- A patch that is refused: PENDING clears, RESULT says why, and the refusal is reported and counted. -/
theorem Dev.patchRefuse_outcome (d : Dev) {code : Nat} (h : code < 256) : (d.patchRefuse code).flag F.CFG_PATCH_LVL_PENDING = false ∧
    (d.patchRefuse code).get F.CFG_PATCH_EVT_RESULT = code ∧ (d.patchRefuse code).flag F.CFG_PATCH_EVT_REFUSED_EVT = true ∧
    (d.patchRefuse code).get F.CFG_PATCH_CNT_REFUSED = (d.get F.CFG_PATCH_CNT_REFUSED + 1) % 2 ^ 16 ∧
    d.sameRegs (d.patchRefuse code) [R.CFG_PATCH_LVL, R.CFG_PATCH_EVT, R.CFG_PATCH_CNT, R.SYS_FAULT_EVT] := by
  have evt : F.CFG_PATCH_EVT_REFUSED_EVT.evt := by simp [Fld.evt, F.CFG_PATCH_EVT_REFUSED_EVT]
  have res : F.CFG_PATCH_EVT_RESULT.ok := by simp [Fld.ok, F.CFG_PATCH_EVT_RESULT]
  have cnt : F.CFG_PATCH_CNT_REFUSED.ok := by simp [Fld.ok, F.CFG_PATCH_CNT_REFUSED]
  simp only [Dev.patchRefuse]
  refine ⟨?_, ?_, Dev.event0_flag _ evt (by decide), ?_, fun o ho => ?_⟩
  · rw [Dev.flag_of_get (Dev.event0_get_ne _ (by decide) (by decide)), Dev.cntWrap, Dev.flag_of_get (Dev.get_put_ne _ _ (by decide)),
      Dev.flag_of_get (Dev.get_put_ne _ _ (by decide)), Dev.modUpd_flag, Dev.flag_up_same _ _ _ rfl (by decide)]
  · rw [Dev.event0_get _ _ (by decide), Dev.raise_get_apart _ _ F.CFG_PATCH_EVT_RESULT evt rfl (Or.inl (by decide)) (by decide), Dev.cntWrap,
      Dev.get_put_ne _ _ (by decide), Dev.get_put_same _ _ _ res]
    exact Nat.mod_eq_of_lt h
  · rw [Dev.event0_get_ne _ (by decide) (by decide), Dev.cntWrap, Dev.get_put_same _ _ _ cnt, Dev.get_put_ne _ _ (by decide),
      Dev.modUpd_get, Dev.up, Dev.get_put_ne _ _ (by decide)]
    rfl
  · simp only [List.mem_cons, List.not_mem_nil, or_false, not_or] at ho
    obtain ⟨lvl, ev, ct, rep⟩ := ho
    rw [Dev.event0_rd_ne _ ev rep, Dev.cntWrap, Dev.rd_put_ne _ _ ct, Dev.rd_put_ne _ _ ev, Dev.modUpd_rd, Dev.up, Dev.rd_put_ne _ _ lvl]

/-- ABORT of a pending patch refuses it with RESULT 8; what goes to the standby is no register. -/
theorem Dev.patchAbort_pending {d : Dev} (h : d.flag F.CFG_PATCH_LVL_PENDING = true) :
    ∃ g, d.patchAbort = ((d.parityWritten R.CFG_PATCH_CMD).patchRefuse 8).modUpd g := by
  simp only [Dev.patchAbort, Dev.patchPending, Dev.parityWritten_flag, h, if_true]
  exact ⟨_, rfl⟩

theorem patchStaging_abort (s : State) (pend : s.dev.flag F.CFG_PATCH_LVL_PENDING = true) : leads .patchAbort s fun x =>
    x.dev.flag F.CFG_PATCH_LVL_PENDING = false ∧ x.dev.get F.CFG_PATCH_EVT_RESULT = 8 ∧ x.dev.flag F.CFG_PATCH_EVT_REFUSED_EVT = true ∧
      x.dev.get F.CFG_PATCH_CNT_REFUSED = (s.dev.get F.CFG_PATCH_CNT_REFUSED + 1) % 2 ^ 16 ∧
      s.dev.sameRegs x.dev [R.CFG_PATCH_LVL, R.CFG_PATCH_EVT, R.CFG_PATCH_CNT, R.SYS_FAULT_EVT] ∧ s.sameMem x := by
  have out : answers .patchAbort s (s.upd Dev.patchAbort) := rfl
  obtain ⟨g, e⟩ := Dev.patchAbort_pending pend
  obtain ⟨lvl, result, refused, count, regs⟩ := (s.dev.parityWritten R.CFG_PATCH_CMD).patchRefuse_outcome (code := 8) (by norm_num)
  rw [Dev.parityWritten_get] at count
  refine ⟨_, out, ?_⟩
  rw [State.upd, e]
  exact ⟨lvl, result, refused, count, fun o ho => (regs o ho).trans (Dev.parityWritten_rd _ _ o), rfl, rfl, rfl, rfl⟩

/-- Settles O58: PENDING decides of every write whether it is discarded or stages, and of ABORT whether there is a patch to refuse. -/
theorem patchStaging : Obligations.PatchStaging := by
  unfold Obligations.PatchStaging
  refine ⟨fun s w => ?_, fun s => ⟨fun free => ⟨patchStaging_abort_free s free, patchStaging_apply s free⟩, patchStaging_abort s⟩⟩
  obtain ⟨event, staged, regs⟩ := s.dev.patchBusy_outcome
  refine ⟨fun c hc pend => ?_, fun free => ?_, fun free => ?_, patchStaging_data s w, fun full => ?_⟩
  · exact ⟨_, patchStaging_busy s w pend c hc, event, staged, regs, s.sameMem_upd _⟩
  · obtain ⟨word, payload, ptr, named⟩ := s.dev.patchNamed_outcome (w &&& 0xFFFFFF03) (o := R.CFG_PATCH_SEL) (by decide)
    exact ⟨_, (patchStaging_named s w free).1, word, payload, ptr, named, s.sameMem_upd _⟩
  · obtain ⟨word, payload, ptr, named⟩ := s.dev.patchNamed_outcome (w &&& 0x7F) (o := R.CFG_PATCH_IDX) (by decide)
    exact ⟨_, (patchStaging_named s w free).2, word, payload, ptr, named, s.sameMem_upd _⟩
  · exact ⟨_, patchStaging_full s w full, event, staged, s.sameMem_upd _⟩

end Sys2Proof.Machine
end

section
/-! Register writes (03 R68, R78, R79, R82 to R89; 20 R459). -/
namespace Sys2Proof.Machine

/-! What reaching and writing a register does to the device apart from its effect: the block is ungated, and the parity is right. -/

theorem Dev.touch_ungated (d : Dev) (off : Nat) : ∃ u, d.touch off = { d with host := { d.host with ungated := u } } := by
  unfold Dev.touch
  dsimp only
  split
  · exact ⟨_, rfl⟩
  · exact ⟨d.host.ungated, rfl⟩

theorem Dev.parityWritten_parity (d : Dev) (off : Nat) :
    ∃ b l, d.parityWritten off = { d with host := { d.host with parityBad := b }, faults := l } := by
  unfold Dev.parityWritten
  split
  · exact ⟨_, _, rfl⟩
  · exact ⟨d.host.parityBad, d.faults, rfl⟩

theorem Dev.written_parity (d : Dev) (off : Nat) :
    ∃ b l, d.written off = { d with host := { d.host with parityBad := b }, faults := l } := by
  unfold Dev.written
  split
  · exact ⟨d.host.parityBad, d.faults, rfl⟩
  · exact d.parityWritten_parity off

/-- A device but for the ungated blocks, the registers of bad parity and the faults: what an access reaches. -/
def Dev.entered (u b : List Nat) (l : List FaultRec) (d : Dev) : Dev :=
  { d with host := { d.host with ungated := u, parityBad := b }, faults := l }

theorem Dev.touch_written (d : Dev) (off : Nat) : ∃ u b l, (d.touch off).written off = d.entered u b l := by
  obtain ⟨u, e⟩ := d.touch_ungated off
  obtain ⟨b, l, e'⟩ := (d.touch off).written_parity off
  refine ⟨u, b, l, ?_⟩
  rw [e', e]
  rfl

@[simp] theorem Dev.touch_regs (d : Dev) (off : Nat) : (d.touch off).regs = d.regs := by
  obtain ⟨u, e⟩ := d.touch_ungated off
  rw [e]

/-! Guard slots. -/

theorem Dev.guardOf_congr {d e : Dev} (p : Port) (h : e.host.guards = d.host.guards) : e.guardOf p = d.guardOf p := by
  unfold Dev.guardOf
  rw [h]

@[simp] theorem Dev.setGuard_regs (d : Dev) (p : Port) (g : Option (Nat × Nat)) : (d.setGuard p g).regs = d.regs := (rfl)

/-- A port's slot holds what was put last. -/
@[simp] theorem Dev.guardOf_setGuard (d : Dev) (p : Port) (g : Option (Nat × Nat)) : (d.setGuard p g).guardOf p = g := by
  have gone : (d.host.guards.filter (fun x => x.1 != portCode p)).find? (fun x => x.1 == portCode p) = none := by
    rw [List.find?_eq_none]
    intro x hx
    simpa using (List.mem_filter.mp hx).2
  cases g with
  | none => simp [Dev.guardOf, Dev.setGuard, Dev.modHost, gone]
  | some g => simp [Dev.guardOf, Dev.setGuard, Dev.modHost]

/-! The host's part after an error is logged. -/

theorem Dev.mspiNote_host (d : Dev) (base : Nat) :
    ∃ x y, (d.mspiNote base).host = { d.host with mspiBus := x, mspiGuard := y } := by
  unfold Dev.mspiNote
  split
  · exact ⟨_, _, rfl⟩
  · split
    · exact ⟨_, _, rfl⟩
    · exact ⟨d.host.mspiBus, d.host.mspiGuard, rfl⟩

theorem Dev.logEntry_hostRest (d : Dev) (base : Nat) (bar2 write : Bool) (cause code off : Nat) :
    (d.logEntry base bar2 cause code write off).hostRest = d.hostRest := by
  simp only [Dev.logEntry, Dev.logPut, Dev.logCount, Dev.hostRest_raise, Dev.hostRest_wr, Dev.hostRest_put]

/-- Logging touches the bits that MSPI's next status byte shows, and MSI-X, of the host's part. -/
theorem Dev.logErr_hostRest (d : Dev) (base : Nat) (bar2 write : Bool) (cause src off : Nat) :
    ∃ x y, (d.logErr base bar2 cause src write off).hostRest = { d.hostRest with mspiBus := x, mspiGuard := y } := by
  by_cases hs : src < 8
  · rw [Dev.logErr_coded _ _ _ _ _ _ hs]
    split
    · obtain ⟨x, y, e⟩ := (d.logEntry base bar2 cause src write off).mspiNote_host base
      refine ⟨x, y, ?_⟩
      rw [← d.logEntry_hostRest base bar2 write cause src off, Dev.hostRest, e]
      rfl
    · exact ⟨d.host.mspiBus, d.host.mspiGuard, d.logEntry_hostRest base bar2 write cause src off⟩
  · rw [Dev.logErr_free _ _ _ _ _ _ hs]
    exact ⟨d.host.mspiBus, d.host.mspiGuard, Dev.logEntry_hostRest _ base bar2 write cause _ off⟩

theorem Dev.logErr_guards (d : Dev) (base : Nat) (bar2 write : Bool) (cause src off : Nat) :
    (d.logErr base bar2 cause src write off).host.guards = d.host.guards := by
  obtain ⟨x, y, e⟩ := d.logErr_hostRest base bar2 write cause src off
  have same := congrArg (fun h : HostSt => h.guards) e
  exact same

theorem Dev.logErr_recovery (d : Dev) (base : Nat) (bar2 write : Bool) (cause src off : Nat) :
    (d.logErr base bar2 cause src write off).host.recovery = d.host.recovery := by
  obtain ⟨x, y, e⟩ := d.logErr_hostRest base bar2 write cause src off
  have same := congrArg (fun h : HostSt => h.recovery) e
  exact same

/-! A guarded write that fails (03 R84). -/

/-- The log of another device with the same registers. -/
theorem Dev.logged_from_regs {d d' e : Dev} {base cause off : Nat} {write : Bool} (h : d'.regs = d.regs)
    (l : d'.logged e base cause write off) : d.logged e base cause write off := by
  simpa only [Dev.logged, Dev.sameRegs, Dev.rd_of_regs h] using l

theorem Dev.guardFail_logged (d : Dev) (p : Port) {cause : Nat} (v : Nat) (h : cause < 16) :
    d.logged (d.guardFail p cause v) 0x20 cause true v :=
  Dev.logged_from_regs (d.setGuard_regs p none) (Dev.logErr_logged _ _ _ _ _ _ _ h)

theorem Dev.guardFail_empty (d : Dev) (p : Port) (cause v : Nat) : (d.guardFail p cause v).guardOf p = none :=
  (Dev.guardOf_congr p (Dev.logErr_guards _ _ _ _ _ _ _)).trans (d.guardOf_setGuard p none)

theorem Dev.guardFail_pwr (d : Dev) (p : Port) (cause v : Nat) : (d.guardFail p cause v).pwr = d.pwr := Dev.logErr_pwr _ _ _ _ _ _ _

theorem Dev.guardFail_recovery (d : Dev) (p : Port) (cause v : Nat) : (d.guardFail p cause v).host.recovery = d.host.recovery :=
  Dev.logErr_recovery _ _ _ _ _ _ _

/-- A write arrives for a slot that waits: it is the complement's, or the slot is given up. -/
theorem Dev.guardHit_complement {d : Dev} {p : Port} {v y : Nat} (h : d.guardOf p = some (v, y)) : d.guardHit p (v + 4) true = d := by
  simp [Dev.guardHit, h]

theorem Dev.guardHit_interrupted {d : Dev} {p : Port} {v y off : Nat} (h : d.guardOf p = some (v, y)) (k : off ≠ v + 4) :
    d.guardHit p off true = d.guardFail p 4 v := by
  simp [Dev.guardHit, h, k]

theorem Dev.guardHit_keeps (d : Dev) (p : Port) (off : Nat) (full : Bool) :
    (d.guardHit p off full).pwr = d.pwr ∧ (d.guardHit p off full).host.recovery = d.host.recovery := by
  unfold Dev.guardHit
  split
  · split
    · exact ⟨rfl, rfl⟩
    · exact ⟨d.guardFail_pwr p 4 _, d.guardFail_recovery p 4 _⟩
  · exact ⟨rfl, rfl⟩

/-! The cases of a register write. -/

section Write
variable {s : State} {p : Port} {node off be : Nat} {w : Word}

theorem State.regWrite_shut (h : s.dev.mayAccess p = false) : s.regWrite p node off be w = s := by
  simp only [State.regWrite, h, Bool.not_false, if_true]

theorem State.upd_guardHit_none (g : s.dev.guardOf p = none) (full : Bool) : s.upd (Dev.guardHit p off full) = s := by
  rw [State.upd, Dev.guardHit_none g]

theorem State.regWrite_partial (acc : s.dev.mayAccess p = true) (g : s.dev.guardOf p = none) (k : be ≠ 15 ∨ off % 4 ≠ 0) :
    s.regWrite p node off be w = s.upd (Dev.logErr 0x10 false 3 (portCode p) true off) := by
  have part : (be == 15 && off % 4 == 0) = false := by
    rw [← Bool.not_eq_true, Bool.and_eq_true, beq_iff_eq, beq_iff_eq]
    omega
  simp only [State.regWrite, acc, Bool.not_true, Bool.false_eq_true, if_false, State.upd_guardHit_none g, part, Bool.not_false, if_true]

section Full
variable (acc : s.dev.mayAccess p = true) (aligned : off % 4 = 0)
include acc aligned

theorem State.regWrite_unmapped (g : s.dev.guardOf p = none) (k : 0xF01000 ≤ off) :
    s.regWrite p node off 15 w = s.upd (Dev.logErr 0x10 false 2 (portCode p) true off) := by
  simp only [State.regWrite, acc, Bool.not_true, Bool.false_eq_true, if_false, State.upd_guardHit_none g, aligned, BEq.rfl, Bool.and_self,
    if_pos k]

/-- The SAFE block takes no write over the fabric of registers. -/
theorem State.regWrite_safe (g : s.dev.guardOf p = none) (k : off / 0x100000 = 11) (on : s.dev.blockOff off = false) :
    s.regWrite p node off 15 w = s := by
  have lo : ¬ 0xF01000 ≤ off := by omega
  have lo' : ¬ 0xF00000 ≤ off := by omega
  simp only [State.regWrite, acc, Bool.not_true, Bool.false_eq_true, if_false, State.upd_guardHit_none g, aligned, BEq.rfl, Bool.and_self,
    if_neg lo, if_neg lo', on, if_pos k]

end Full

/-- A write that reaches a block meets the port's slot, then ungates the block. -/
theorem State.regWrite_reaches (h : s.dev.reaches p off) :
    s.regWrite p node off 15 w = (s.upd (fun d => (d.guardHit p off true).touch off)).blockWrite p node off w := by
  obtain ⟨acc, aligned, lt, notSafe, on⟩ := h
  obtain ⟨pwr, -⟩ := s.dev.guardHit_keeps p off true
  have on' : (s.dev.guardHit p off true).blockOff off = false := by
    simpa only [Dev.blockOff, pwr] using on
  have lo : ¬ 0xF01000 ≤ off := by omega
  have lo' : ¬ 0xF00000 ≤ off := by omega
  simp only [State.regWrite, acc, Bool.not_true, Bool.false_eq_true, if_false, aligned, BEq.rfl, Bool.and_self, State.upd, on',
    if_neg lo, if_neg lo', if_neg notSafe]

end Write

/-! The cases of a write inside a block, where LINK is not in reset. -/

section Block
variable {s : State} {p : Port} {node off : Nat} {w : Word} (o : ¬ (s.dev.host.recovery = true ∧ off / 0x100000 = 3))
include o

theorem State.blockWrite_value (gd : guardedAt off = true) :
    s.blockWrite p node off w = s.upd (Dev.setGuard p (some (off, w.toNat))) := by
  simp only [State.blockWrite, if_neg o, gd, if_true]

theorem State.blockWrite_plain (nv : guardedAt off = false) (nc : ¬ (off % 8 = 4 ∧ guardedAt (off - 4) = true)) :
    s.blockWrite p node off w = (s.upd (Dev.written off)).plainWrite p node off w := by
  simp only [State.blockWrite, if_neg o, nv, Bool.false_eq_true, if_false, if_neg nc]

section Complement
variable (nv : guardedAt off = false) (c : off % 8 = 4 ∧ guardedAt (off - 4) = true)
include nv c

theorem State.blockWrite_orphan (g : s.dev.guardOf p = none) :
    s.blockWrite p node off w = s.upd (Dev.guardFail p 3 (off - 4)) := by
  simp only [State.blockWrite, if_neg o, nv, Bool.false_eq_true, if_false, if_pos c, g]

variable {v y : Nat} (g : s.dev.guardOf p = some (v, y))
include g

theorem State.blockWrite_mismatch (k : y + w.toNat ≠ 2 ^ 32 - 1) :
    s.blockWrite p node off w = s.upd (Dev.guardFail p 2 v) := by
  simp only [State.blockWrite, if_neg o, nv, Bool.false_eq_true, if_false, if_pos c, g, if_pos k]

theorem State.blockWrite_match (k : y + w.toNat = 2 ^ 32 - 1) {f : Word → State → State} (a : actAt (guardActs p node) v = some f) :
    s.blockWrite p node off w = (s.upd (Dev.setGuard p none)).guarded v (f (BitVec.ofNat 32 y)) := by
  have k' : ¬ (y + w.toNat ≠ 2 ^ 32 - 1) := not_not.mpr k
  simp only [State.blockWrite, if_neg o, nv, Bool.false_eq_true, if_false, if_pos c, g, if_neg k', a]

end Complement
end Block

/-! A write of a register that the device takes. -/

section Takes
variable {s : State} {p : Port} {node off : Nat} {w : Word}

/-- What the port's slot and the block's clock make of a device that takes a write leaves LINK out of reset. -/
theorem Dev.takes_open {d : Dev} (t : d.takes p off) :
    ¬ (((d.guardHit p off true).touch off).host.recovery = true ∧ off / 0x100000 = 3) := by
  obtain ⟨u, e⟩ := (d.guardHit p off true).touch_ungated off
  obtain ⟨-, rec⟩ := d.guardHit_keeps p off true
  rw [e, rec]
  exact fun ⟨h, k⟩ => t.2 h k

theorem State.regWrite_link (h : s.dev.reaches p off) (rec : s.dev.host.recovery = true) (k : off / 0x100000 = 3)
    (g : s.dev.guardOf p = none) : s.regWrite p node off 15 w = s.upd (Dev.touch off) := by
  obtain ⟨u, e⟩ := s.dev.touch_ungated off
  have shut : (s.dev.touch off).host.recovery = true ∧ off / 0x100000 = 3 := ⟨by rw [e]; exact rec, k⟩
  simp only [State.regWrite_reaches h, State.upd, Dev.guardHit_none g, State.blockWrite, if_pos shut]

theorem State.regWrite_value (t : s.dev.takes p off) (gd : guardedAt off = true) :
    s.regWrite p node off 15 w =
      s.upd (fun d => ((d.guardHit p off true).touch off).setGuard p (some (off, w.toNat))) := by
  rw [State.regWrite_reaches t.1, State.blockWrite_value (Dev.takes_open t) gd]
  rfl

/-- A plain register: its effect meets a device whose block is ungated and whose parity is right. -/
theorem State.regWrite_effect (t : s.dev.takes p off) (g : s.dev.guardOf p = none) (nv : guardedAt off = false)
    (nc : ¬ (off % 8 = 4 ∧ guardedAt (off - 4) = true)) :
    ∃ u b l, s.regWrite p node off 15 w = (s.upd (Dev.entered u b l)).plainWrite p node off w := by
  obtain ⟨u, b, l, e⟩ := s.dev.touch_written off
  refine ⟨u, b, l, ?_⟩
  rw [State.regWrite_reaches t.1, State.blockWrite_plain (Dev.takes_open t) nv nc]
  simp only [State.upd, Dev.guardHit_none g, e]

end Takes

/-! Registers that only store or clear (R78, R79). -/

theorem guardedAt_of_plain {p : Port} {off : Nat} {r : RegRow} (h : plainReg p off r) : guardedAt off = false := by
  obtain ⟨reg, rg, -, -⟩ := h
  simp [guardedAt, reg, rg]

/-- The peer whose tunnel request a write is does not decide which registers have a behaviour of their own. -/
theorem actAt_plainActs_node (p : Port) (node off : Nat) :
    (actAt (plainActs p node) off).isNone = (actAt (plainActs p 0) off).isNone := by
  have places : ∀ l : List RegAct, (actAt l off).isNone = (l.map (fun a => (a.base, a.stride, a.n))).all
      (fun x => (copyOf x.1 x.2.1 x.2.2 off).isNone) := by
    intro l
    rw [Bool.eq_iff_iff]
    simp [actAt, List.findSome?_eq_none_iff]
  rw [places, places]
  rfl

section Plain
variable {s : State} {p : Port} {node off : Nat} {w : Word} {r : RegRow} (t : s.dev.takes p off) (g : s.dev.guardOf p = none)
  (h : plainReg p off r)
include t g h

theorem State.regWrite_plain (rc : r.rc = 0) :
    ∃ u b l, s.regWrite p node off 15 w = s.upd (fun d => (d.entered u b l).wr off (r.stored (d.rd off) w)) := by
  obtain ⟨u, b, l, e⟩ := State.regWrite_effect (node := node) (w := w) t g (guardedAt_of_plain h) h.2.2.1
  refine ⟨u, b, l, ?_⟩
  have none : actAt (plainActs p node) off = none := by
    rw [← Option.isNone_iff_eq_none, actAt_plainActs_node]
    exact h.2.2.2
  have rc' : ¬ r.rc ≠ 0 := not_not.mpr rc
  rw [e]
  simp only [State.plainWrite, none, h.1, if_neg rc']
  rfl

theorem State.regWrite_event (rc : r.rc ≠ 0) :
    ∃ u b l, s.regWrite p node off 15 w = s.upd (fun d => (d.entered u b l).writeBack off (w.toNat / 2 ^ 24)) := by
  obtain ⟨u, b, l, e⟩ := State.regWrite_effect (node := node) (w := w) t g (guardedAt_of_plain h) h.2.2.1
  refine ⟨u, b, l, ?_⟩
  have none : actAt (plainActs p node) off = none := by
    rw [← Option.isNone_iff_eq_none, actAt_plainActs_node]
    exact h.2.2.2
  rw [e]
  simp only [State.plainWrite, none, h.1, if_pos rc]
  rfl

end Plain

/-- Subtracting the bits of a mask clears them. -/
theorem ofNat_sub_land (w : Word) (m : Nat) : BitVec.ofNat 32 (w.toNat - Nat.land w.toNat m) = w &&& ~~~ (BitVec.ofNat 32 m) := by
  have apart : (w &&& ~~~ (BitVec.ofNat 32 m)) &&& (w &&& BitVec.ofNat 32 m) = 0#32 := by
    ext i hi
    simp
    grind
  have split : (w &&& ~~~ (BitVec.ofNat 32 m)) + (w &&& BitVec.ofNat 32 m) = w := by
    rw [BitVec.add_eq_or_of_and_eq_zero _ _ apart]
    ext i hi
    simp
    grind
  have low : Nat.land w.toNat m = (w &&& BitVec.ofNat 32 m).toNat := by
    refine Nat.eq_of_testBit_eq fun i => ?_
    show (w.toNat &&& m).testBit i = _
    rw [Nat.testBit_and, BitVec.toNat_and, Nat.testBit_and, BitVec.toNat_ofNat, Nat.testBit_mod_two_pow]
    by_cases h : i < 32
    · simp [h]
    · simp [Nat.testBit_lt_two_pow (lt_of_lt_of_le w.isLt (Nat.pow_le_pow_right (by norm_num) (not_lt.mp h)))]
  have le : w &&& BitVec.ofNat 32 m ≤ w := BitVec.le_def.mpr (by rw [BitVec.toNat_and]; exact Nat.and_le_left)
  rw [low, ← BitVec.toNat_sub_of_le le, BitVec.ofNat_toNat, BitVec.setWidth_eq, ← BitVec.eq_sub_iff_add_eq.mpr split]

/-- A write-back of SEQ as it is clears the event bits; another clears none. -/
theorem Dev.writeBack_outcome {d : Dev} {off sv : Nat} {r : RegRow} (reg : regAt off = some r) (rc : r.rc ≠ 0) :
    d.sameRegs (d.writeBack off sv) [off] ∧ (d.writeBack off sv).rd off =
      if (d.rd off).toNat / 2 ^ 24 = sv then d.rd off &&& ~~~ (BitVec.ofNat 32 (r.rc % 2 ^ 24)) else d.rd off := by
  by_cases h : (d.rd off).toNat / 2 ^ 24 = sv
  · have go : ¬ (r.rc = 0 ∨ (d.rd off).toNat / 2 ^ 24 ≠ sv) := fun c => c.elim rc (fun n => n h)
    simp only [Dev.writeBack, reg, if_neg go, if_pos h]
    exact ⟨fun o ho => Dev.rd_wr_ne d _ (by simpa using ho), by rw [Dev.rd_wr_same, ofNat_sub_land]⟩
  · have stop : r.rc = 0 ∨ (d.rd off).toNat / 2 ^ 24 ≠ sv := Or.inr h
    simp only [Dev.writeBack, reg, if_pos stop, if_neg h]
    exact ⟨fun _ _ => rfl, trivial⟩

/-! PWR_REQ (19 R438). -/

/-- A behaviour at the head of a list is found at its first copy. -/
theorem actAt_first (a : RegAct) (l : List RegAct) (h : 0 < a.n) : actAt (a :: l) a.base = some (a.act 0) := by
  have copy : copyOf a.base a.stride a.n a.base = some 0 := by
    unfold copyOf
    rw [if_pos (by simp [h]), Nat.sub_self, Nat.zero_div]
  rw [actAt, List.findSome?_cons, copy]
  rfl

theorem guardActs_pwrReq (p : Port) (node : Nat) :
    actAt (guardActs p node) R.PWR_REQ = some (fun w s => s.upd (fun d => d.powReq p w.toNat)) :=
  actAt_first ⟨R.PWR_REQ, 8, 1, dev1 (fun w => Dev.powReq p w.toNat)⟩ _ Nat.one_pos

theorem plainActs_cntCmd (p : Port) (node : Nat) : actAt (plainActs p node) R.SYS_CNT_CMD =
    some (fun w s => s.upd (fun d => if bitOf w.toNat 0 then d.counterLoad p else d)) :=
  actAt_first ⟨R.SYS_CNT_CMD, 4, 1, dev1 (fun w d => if bitOf w.toNat 0 then d.counterLoad p else d)⟩ _ Nat.one_pos

/-- A request while the power state is steady or being decided waits. -/
theorem Dev.powReq_waits {d : Dev} {p : Port} {y : Nat} (h : y < 4) (k : d.pwrPhase < 2) :
    (d.powReq p y).pwr.reqs = d.pwr.reqs ++ [y] ∧ (d.powReq p y).host = d.host ∧ d.sameRegs (d.powReq p y) [R.PWR_STS] := by
  have lt : ¬ 4 ≤ y := by omega
  have step : d.powReq p y = ((if d.pwrPhase = 0 then d.put F.PWR_STS_TARGET y else d).modPwr
      (fun q => { q with reqs := q.reqs ++ [y] })).put F.PWR_STS_PHASE 1 := by
    have ph : d.pwrPhase = 0 ∨ d.pwrPhase = 1 := by omega
    rcases ph with ph | ph <;> simp only [Dev.powReq, if_neg lt, ph]
  rw [step]
  split
  · refine ⟨rfl, rfl, fun o ho => ?_⟩
    rw [Dev.rd_put_ne _ _ (List.ne_of_not_mem_cons ho)]
    exact Dev.rd_put_ne d _ (List.ne_of_not_mem_cons ho)
  · exact ⟨rfl, rfl, fun o ho => Dev.rd_put_ne _ _ (List.ne_of_not_mem_cons ho)⟩

/-- A guarded effect on the device alone. -/
theorem State.guarded_upd (s : State) (off : Nat) (f : Dev → Dev) : s.guarded off (fun s => s.upd f) = s.upd (Dev.guarded off f) := by
  by_cases h : (f s.dev).get F.SYS_GUARD_LOG_SEQ = s.dev.get F.SYS_GUARD_LOG_SEQ
  · rw [State.upd, Dev.guarded_of_taken h]
    exact if_pos h
  · have refused : s.dev.guarded off f = f s.dev := if_neg h
    rw [State.upd, refused]
    exact if_neg h

/-- What the accepted pair of a request leaves: the request waits, the slot is empty, and only PWR_STS may differ. -/
theorem State.pwrReq_outcome (s : State) (p : Port) (o : Nat) {y : Nat} (h : y < 4) (k : s.dev.pwrPhase < 2) :
    let x := ((s.upd (Dev.touch o)).upd (Dev.setGuard p none)).upd
      (Dev.guarded R.PWR_REQ (fun d => d.powReq p (BitVec.ofNat 32 y).toNat))
    x.dev.pwr.reqs = s.dev.pwr.reqs ++ [y] ∧ x.dev.guardOf p = none ∧ s.dev.sameRegs x.dev [R.PWR_STS] ∧ s.sameMem x := by
  intro x
  obtain ⟨u, e⟩ := s.dev.touch_ungated o
  set d := (s.dev.touch o).setGuard p none with hd
  have regs : d.regs = s.dev.regs := s.dev.touch_regs o
  have pwr : d.pwr = s.dev.pwr := by rw [hd, e]; rfl
  obtain ⟨reqs, host, same⟩ := Dev.powReq_waits (p := p) h (show d.pwrPhase < 2 by rwa [Dev.pwrPhase, Dev.get_of_regs regs])
  have seq : (d.powReq p y).get F.SYS_GUARD_LOG_SEQ = d.get F.SYS_GUARD_LOG_SEQ := Dev.get_of_rd (same _ (by decide))
  have dev : x.dev = (d.powReq p y).written R.PWR_REQ := by
    have n : (BitVec.ofNat 32 y).toNat = y := by rw [BitVec.toNat_ofNat]; omega
    refine Eq.trans ?_ (Dev.guarded_of_taken seq)
    rw [← n]
    rfl
  obtain ⟨b, l, wr⟩ := (d.powReq p y).written_parity R.PWR_REQ
  rw [dev]
  refine ⟨?_, ?_, fun a ha => ?_, rfl, rfl, rfl, rfl⟩
  · rw [wr, ← pwr]
    exact reqs
  · have guards : (d.powReq p y).host.guards = d.host.guards := by rw [host]
    rw [← (s.dev.touch o).guardOf_setGuard p none]
    exact Dev.guardOf_congr p ((by rw [wr] : ((d.powReq p y).written R.PWR_REQ).host.guards = _).trans guards)
  · rw [Dev.rd_of_regs (Dev.written_regs _ _), same a ha, Dev.rd_of_regs regs]

/-! LOAD of SYS_CNT_CMD (R82). -/

theorem Dev.clkShow_entered (d : Dev) (c n : Nat) (u b : List Nat) (l : List FaultRec) :
    (d.entered u b l).clkShow c n = (d.clkShow c n).entered u b l := by
  have st : (d.entered u b l).coreState c = d.coreState c := rfl
  unfold Dev.clkShow
  rw [st]
  split <;> rfl

theorem Dev.clkCount_entered (d : Dev) (c : Nat) (u b : List Nat) (l : List FaultRec) :
    (d.entered u b l).clkCount c = (d.clkCount c).entered u b l := by
  rw [Dev.clkCount_eq, Dev.clkShow_entered]
  rfl

theorem Dev.clkCounts_entered (d : Dev) (u b : List Nat) (l : List FaultRec) :
    (d.entered u b l).clkCounts = d.clkCounts.entered u b l := by
  unfold Dev.clkCounts Dev.each
  generalize List.range 16 = cores
  induction cores generalizing d with
  | nil => rfl
  | cons c t ih => rw [List.foldl_cons, Dev.clkCount_entered, ih, List.foldl_cons]

/-- Counting the cores' clocks writes BUSY and WAIT of the cores alone. -/
theorem Dev.clkCounts_rd_ne (d : Dev) {o : Nat} (h : o < 0x800000 ∨ 0x800400 ≤ o) : d.clkCounts.rd o = d.rd o := by
  refine foldl_keep_mem (fun d => d.rd o) _ _ (fun c hc d => ?_) d
  have lt := List.mem_range.mp hc
  exact Dev.clkCount_rd_ne d (by simp only [R.SPC_BUSY]; omega) (by simp only [R.SPC_WAIT]; omega)

/-- The counter that SYS_CNT_SEL names. -/
def Dev.cntSel (d : Dev) : Nat := 4 * d.get F.SYS_CNT_SEL_OFFSET

theorem Dev.clkCounts_cntSel (d : Dev) : d.clkCounts.cntSel = d.cntSel := by
  rw [Dev.cntSel, Dev.get_of_rd (d.clkCounts_rd_ne (Or.inl (by decide))), Dev.cntSel]

/-- The word a load leaves of a register with counter bits. -/
def RegRow.loaded (r : RegRow) (old val : Word) : Word :=
  (old &&& ~~~ (BitVec.ofNat 32 r.cnt)) ||| (val &&& BitVec.ofNat 32 r.cnt)

theorem RegRow.loaded_cnt (r : RegRow) (old val : Word) :
    r.loaded old val &&& BitVec.ofNat 32 r.cnt = val &&& BitVec.ofNat 32 r.cnt ∧
      r.loaded old val &&& ~~~ (BitVec.ofNat 32 r.cnt) = old &&& ~~~ (BitVec.ofNat 32 r.cnt) := by
  unfold RegRow.loaded
  constructor
  · ext i hi
    simp
    grind
  · ext i hi
    simp
    grind

section Load
variable {d : Dev} {p : Port}

theorem Dev.counterLoad_taken {r : RegRow} (reg : regAt d.cntSel = some r) (c : r.cnt ≠ 0) (notSafe : d.cntSel / 0x100000 ≠ 11) :
    d.counterLoad p = d.clkCounts.wr d.cntSel (r.loaded (d.clkCounts.rd d.cntSel) (d.rd R.SYS_CNT_VAL)) := by
  have sel : 4 * d.clkCounts.get F.SYS_CNT_SEL_OFFSET = d.cntSel := d.clkCounts_cntSel
  have val : d.clkCounts.rd R.SYS_CNT_VAL = d.rd R.SYS_CNT_VAL := d.clkCounts_rd_ne (Or.inl (by decide))
  have ok : ¬ (r.cnt = 0 ∨ d.cntSel / 0x100000 = 11) := by simp [c, notSafe]
  simp only [Dev.counterLoad, sel, reg, if_neg ok, val]
  rfl

theorem Dev.counterLoad_refused
    (h : regAt d.cntSel = none ∨ (∃ r, regAt d.cntSel = some r ∧ r.cnt = 0) ∨ d.cntSel / 0x100000 = 11) :
    d.counterLoad p = d.clkCounts.logErr 0x10 false 5 (portCode p) true R.SYS_CNT_CMD := by
  have sel : 4 * d.clkCounts.get F.SYS_CNT_SEL_OFFSET = d.cntSel := d.clkCounts_cntSel
  cases reg : regAt d.cntSel with
  | none => simp only [Dev.counterLoad, sel, reg]
  | some r =>
    have bad : r.cnt = 0 ∨ d.cntSel / 0x100000 = 11 := by
      rcases h with h | ⟨r', h, c⟩ | h
      · rw [reg] at h
        cases h
      · rw [reg] at h
        cases h
        exact Or.inl c
      · exact Or.inr h
    simp only [Dev.counterLoad, sel, reg, if_pos bad]

end Load

theorem State.regWrite_counterLoad {s : State} {p : Port} (h : s.dev.reaches p R.SYS_CNT_CMD) (g : s.dev.guardOf p = none) :
    ∃ u b l, s.regWrite p 0 R.SYS_CNT_CMD 15 1 = s.upd (fun d => (d.entered u b l).counterLoad p) := by
  have notLink : R.SYS_CNT_CMD / 0x100000 ≠ 3 := by decide
  have notPair : ¬ (R.SYS_CNT_CMD % 8 = 4 ∧ guardedAt (R.SYS_CNT_CMD - 4) = true) := by decide
  obtain ⟨u, b, l, e⟩ := State.regWrite_effect (node := 0) (w := 1) ⟨h, fun _ => notLink⟩ g (by decide) notPair
  refine ⟨u, b, l, ?_⟩
  rw [e, State.plainWrite, plainActs_cntCmd]
  rfl

/-! Parity (R85, R86). -/

theorem Dev.hostRest_relinquish (d : Dev) (send : Bool) : (d.relinquish send).hostRest = d.hostRest := by
  rcases d.relinquish_cases send with ⟨-, e⟩ | ⟨x, -, ⟨r, hx⟩, e⟩
  · rw [e]
  · obtain ⟨r', e'⟩ := x.redTo_relinquished
    rw [e, Dev.hostRest_fault, e', Dev.hostRest_up, hx]
    rfl

/-- A device in which a mismatch has been noted. -/
def Dev.parityNoted (off : Nat) (d : Dev) : Dev :=
  d.modHost (fun h => { h with parityBad := if h.parityBad.contains off then h.parityBad else off :: h.parityBad })

/-- The mismatch's fault. -/
def Dev.parityFault (off : Nat) (d : Dev) : Dev :=
  d.fault .csrParity off (parityCls off) (if parityCls off = 0 then 0 else allAxes) true (some F.SYS_PARITY_LOG_EVT)

theorem Dev.csrParity_found {d : Dev} {off : Nat} {r : RegRow} (reg : regAt off = some r) (k : r.rw ≠ 0 ∨ r.rg ≠ 0)
    (on : d.blockOff off = false) (notSafe : off / 0x100000 ≠ 11) (ans : d.answers = true) :
    d.csrParity off = (((d.parityNoted off).logErr 0x30 false 1 3 false off).parityFault off).relinquishLive := by
  have fields : (r.rw == 0 && r.rg == 0) = false := by
    rw [← Bool.not_eq_true, Bool.and_eq_true, beq_iff_eq, beq_iff_eq]
    omega
  have safe : (off / 0x100000 == 11) = false := by simpa using notSafe
  simp only [Dev.csrParity, reg, fields, on, safe, ans, Bool.not_true, Bool.or_self, Bool.false_eq_true, if_false]
  rfl

theorem Dev.parityNoted_bad (d : Dev) (off : Nat) : off ∈ (d.parityNoted off).host.parityBad := mem_markBad d.host.parityBad off

theorem Dev.relinquishLive_rd (d : Dev) {o : Nat} (h : ¬ settles o) (k : o ≠ R.RED_STS) : d.relinquishLive.rd o = d.rd o := by
  rcases d.relinquishLive_cases with e | e <;> rw [e]
  exact d.relinquish_rd true h k

theorem Dev.hostRest_relinquishLive (d : Dev) : d.relinquishLive.hostRest = d.hostRest := by
  rcases d.relinquishLive_cases with e | e <;> rw [e]
  exact d.hostRest_relinquish true

theorem Dev.mem_relinquishLive (d : Dev) {f : FaultRec} (h : f ∈ d.faults) (rep : f.kind ≠ .report)
    (snap : f.kind ≠ .snapLate) (rel : f.kind ≠ .relinquish) : f ∈ d.relinquishLive.faults := by
  rcases d.relinquishLive_cases with e | e <;> rw [e]
  · exact h
  · exact d.mem_relinquish true h rep snap rel

/-- The log keeps its entry through the fault and the relinquishing. -/
theorem Dev.parityFault_rd (d : Dev) (off : Nat) {o : Nat} (h : o = R.SYS_PARITY_LOG ∨ o = R.SYS_PARITY_ADDR) :
    (d.parityFault off).relinquishLive.rd o = d.rd o := by
  have apart : ¬ settles o ∧ o ≠ R.RED_STS := by
    rcases h with rfl | rfl
    · exact ⟨not_settles_of_apart (by decide) (by decide) (by decide), by decide⟩
    · exact ⟨not_settles_of_apart (by decide) (by decide) (by decide), by decide⟩
  rw [Dev.relinquishLive_rd _ apart.1 apart.2, Dev.parityFault, Dev.fault_rd _ _ _ _ _ _ _ apart.1]

/-- The register stays marked through the log, the fault and the relinquishing. -/
theorem Dev.parityFault_bad (d : Dev) (off : Nat) :
    off ∈ (((d.parityNoted off).logErr 0x30 false 1 3 false off).parityFault off).relinquishLive.host.parityBad := by
  obtain ⟨x, y, e⟩ := (d.parityNoted off).logErr_hostRest 0x30 false false 1 3 off
  have rest := ((Dev.hostRest_relinquishLive _).trans (Dev.hostRest_fault ((d.parityNoted off).logErr 0x30 false 1 3 false off)
    .csrParity off (parityCls off) (if parityCls off = 0 then 0 else allAxes) true (some F.SYS_PARITY_LOG_EVT))).trans e
  have bad := congrArg (fun h : HostSt => h.parityBad) rest
  exact bad ▸ d.parityNoted_bad off

/-! The statement's parts. -/

theorem registerAccess_regWrite (s : State) (p : Port) (off : BitVec 26) (be : BitVec 4) (w : Word) : let o := off.toNat
    (s.dev.mayAccess p = false → answers (.regWrite p off be w) s s) ∧
    (s.dev.mayAccess p = true → s.dev.guardOf p = none → (be ≠ 15 ∨ o % 4 ≠ 0) → leads (.regWrite p off be w) s fun x =>
      s.dev.logged x.dev 0x10 3 true o ∧ s.sameMem x) ∧
    (s.dev.mayAccess p = true → s.dev.guardOf p = none → be = 15 → o % 4 = 0 → 0xF01000 ≤ o → leads (.regWrite p off be w) s fun x =>
      s.dev.logged x.dev 0x10 2 true o ∧ s.sameMem x) ∧
    (s.dev.mayAccess p = true → s.dev.guardOf p = none → be = 15 → o % 4 = 0 → o / 0x100000 = 11 → s.dev.blockOff o = false →
      answers (.regWrite p off be w) s s) ∧
    (s.dev.reaches p o → s.dev.host.recovery = true → o / 0x100000 = 3 → s.dev.guardOf p = none → be = 15 → leads (.regWrite p off be w) s fun x =>
      x.dev.regs = s.dev.regs ∧ s.sameMem x) ∧
    (∀ r, s.dev.takes p o → s.dev.guardOf p = none → be = 15 → plainReg p o r → r.rc = 0 → leads (.regWrite p off be w) s fun x =>
      x.dev.rd o = r.stored (s.dev.rd o) w ∧ s.dev.sameRegs x.dev [o] ∧ s.sameMem x) := by
  have out : answers (.regWrite p off be w) s (s.regWrite p 0 off.toNat be.toNat w) := rfl
  refine ⟨fun shut => ?_, fun acc g part => ⟨_, out, ?_⟩, fun acc g full aligned far => ⟨_, out, ?_⟩, fun acc g full aligned safe on => ?_,
    fun h rec link g full => ⟨_, out, ?_⟩, fun r t g full plain rc => ⟨_, out, ?_⟩⟩
  · rwa [State.regWrite_shut shut] at out
  · rw [State.regWrite_partial acc g (part.imp_left toNat_ne_fifteen)]
    exact ⟨Dev.logErr_logged _ _ _ _ _ _ _ (by norm_num), s.sameMem_upd _⟩
  · subst full
    rw [show (15 : BitVec 4).toNat = 15 from rfl, State.regWrite_unmapped acc aligned g far]
    exact ⟨Dev.logErr_logged _ _ _ _ _ _ _ (by norm_num), s.sameMem_upd _⟩
  · subst full
    rwa [show (15 : BitVec 4).toNat = 15 from rfl, State.regWrite_safe acc aligned g safe on] at out
  · subst full
    rw [show (15 : BitVec 4).toNat = 15 from rfl, State.regWrite_link h rec link g]
    exact ⟨s.dev.touch_regs _, s.sameMem_upd _⟩
  · subst full
    obtain ⟨u, b, l, e⟩ := State.regWrite_plain (node := 0) (w := w) t g plain rc
    rw [show (15 : BitVec 4).toNat = 15 from rfl, e]
    exact ⟨Dev.rd_wr_same _ _ _, fun a ha => Dev.rd_wr_ne (s.dev.entered u b l) _ (List.ne_of_not_mem_cons ha), s.sameMem_upd _⟩

theorem registerAccess_eventWriteBack (s : State) (p : Port) (off : BitVec 26) (v : BitVec 8) (r : RegRow) : let o := off.toNat
    s.dev.takes p o → s.dev.guardOf p = none → plainReg p o r → r.rc ≠ 0 → leads (.eventWriteBack p off v) s fun x =>
      s.dev.sameRegs x.dev [o] ∧ s.sameMem x ∧
      x.dev.rd o = if (s.dev.rd o).toNat / 2 ^ 24 = v.toNat then s.dev.rd o &&& ~~~ (BitVec.ofNat 32 (r.rc % 2 ^ 24)) else s.dev.rd o := by
  intro o t g plain rc
  have out : answers (.eventWriteBack p off v) s (s.regWrite p 0 off.toNat 15 (BitVec.ofNat 32 (v.toNat * 2 ^ 24))) := rfl
  obtain ⟨u, b, l, e⟩ := State.regWrite_event (node := 0) (w := BitVec.ofNat 32 (v.toNat * 2 ^ 24)) t g plain rc
  have seq : (BitVec.ofNat 32 (v.toNat * 2 ^ 24)).toNat / 2 ^ 24 = v.toNat := by
    have := v.isLt
    rw [BitVec.toNat_ofNat]
    omega
  obtain ⟨others, own⟩ := Dev.writeBack_outcome (d := s.dev.entered u b l) (sv := v.toNat) plain.1 rc
  refine ⟨_, out, ?_⟩
  rw [e, seq]
  exact ⟨others, s.sameMem_upd _, own⟩

theorem registerAccess_guardValue (s : State) (p : Port) (off : BitVec 26) (w : Word) : let o := off.toNat
    (guardedAt o = false → answers (.guardValueWrite p off w) s s) ∧
    (guardedAt o = true → s.dev.takes p o → s.dev.guardOf p = none → leads (.guardValueWrite p off w) s fun x =>
      x.dev.guardOf p = some (o, w.toNat) ∧ x.dev.regs = s.dev.regs ∧ s.sameMem x) ∧
    (∀ v y, guardedAt o = true → s.dev.takes p o → s.dev.guardOf p = some (v, y) → o ≠ v + 4 → leads (.guardValueWrite p off w) s fun x =>
      x.dev.guardOf p = some (o, w.toNat) ∧ s.dev.logged x.dev 0x20 4 true v ∧ s.sameMem x) := by
  have out : exec (.guardValueWrite p off w) s =
      if guardedAt off.toNat then .next (s.regWrite p 0 off.toNat 15 w).settle else .next s.settle := rfl
  refine ⟨fun nv => ?_, fun gd t g => ⟨s.regWrite p 0 off.toNat 15 w, ?_, ?_⟩, fun v y gd t g other => ⟨s.regWrite p 0 off.toNat 15 w, ?_, ?_⟩⟩
  · rwa [nv, if_neg Bool.false_ne_true] at out
  · rwa [gd, if_pos rfl] at out
  · rw [State.regWrite_value t gd]
    refine ⟨Dev.guardOf_setGuard _ _ _, ?_, s.sameMem_upd _⟩
    simp only [State.upd, Dev.setGuard_regs, Dev.touch_regs, Dev.guardHit_none g]
  · rwa [gd, if_pos rfl] at out
  · rw [State.regWrite_value t gd]
    refine ⟨Dev.guardOf_setGuard _ _ _, Dev.logged_of_regs (e := s.dev.guardFail p 4 v) ?_ (s.dev.guardFail_logged p v (by norm_num)),
      s.sameMem_upd _⟩
    simp only [State.upd, Dev.setGuard_regs, Dev.touch_regs, Dev.guardHit_interrupted g other]

theorem registerAccess_complement (s : State) (p : Port) (off : BitVec 26) (w : Word) : let o := off.toNat
    s.dev.takes p o → guardedAt o = false → o % 8 = 4 → guardedAt (o - 4) = true →
    (s.dev.guardOf p = none → leads (.regWrite p off 15 w) s fun x => s.dev.logged x.dev 0x20 3 true (o - 4) ∧ s.sameMem x) ∧
    (∀ y, s.dev.guardOf p = some (o - 4, y) → y + w.toNat ≠ 2 ^ 32 - 1 → leads (.regWrite p off 15 w) s fun x =>
      s.dev.logged x.dev 0x20 2 true (o - 4) ∧ x.dev.guardOf p = none ∧ s.sameMem x) ∧
    (∀ y, s.dev.guardOf p = some (o - 4, y) → y + w.toNat = 2 ^ 32 - 1 → o = R.PWR_REQ + 4 → y < 4 → s.dev.pwrPhase < 2 →
      leads (.regWrite p off 15 w) s fun x => x.dev.pwr.reqs = s.dev.pwr.reqs ++ [y] ∧ x.dev.guardOf p = none ∧
        s.dev.sameRegs x.dev [R.PWR_STS] ∧ s.sameMem x) := by
  intro o t nv half gd
  have out : answers (.regWrite p off 15 w) s (s.regWrite p 0 o 15 w) := rfl
  obtain ⟨u, e⟩ := s.dev.touch_ungated o
  have c : o % 8 = 4 ∧ guardedAt (o - 4) = true := ⟨half, gd⟩
  have slot : (s.dev.touch o).guardOf p = s.dev.guardOf p := Dev.guardOf_congr p (by rw [e])
  have low : o - 4 + 4 = o := by omega
  have step : s.dev.guardHit p o true = s.dev → s.regWrite p 0 o 15 w = (s.upd (Dev.touch o)).blockWrite p 0 o w ∧
      ¬ ((s.dev.touch o).host.recovery = true ∧ o / 0x100000 = 3) := fun hit => by
    have lnk := Dev.takes_open t
    rw [hit] at lnk
    refine ⟨?_, lnk⟩
    rw [State.regWrite_reaches t.1]
    simp only [State.upd, hit]
  have hit : ∀ {y}, s.dev.guardOf p = some (o - 4, y) → s.dev.guardHit p o true = s.dev := fun g => by
    simpa only [low] using Dev.guardHit_complement g
  refine ⟨fun g => ⟨_, out, ?_⟩, fun y g k => ⟨_, out, ?_⟩, fun y g k req small ph => ⟨_, out, ?_⟩⟩
  · obtain ⟨eq, lnk⟩ := step (Dev.guardHit_none g)
    rw [eq, State.blockWrite_orphan lnk nv c (slot.trans g)]
    exact ⟨Dev.logged_from_regs (s.dev.touch_regs o) (Dev.guardFail_logged _ _ _ (by norm_num)), rfl, rfl, rfl, rfl⟩
  · obtain ⟨eq, lnk⟩ := step (hit g)
    rw [eq, State.blockWrite_mismatch lnk nv c (slot.trans g) k]
    exact ⟨Dev.logged_from_regs (s.dev.touch_regs o) (Dev.guardFail_logged _ _ _ (by norm_num)), Dev.guardFail_empty _ _ _ _, rfl, rfl, rfl, rfl⟩
  · obtain ⟨eq, lnk⟩ := step (hit g)
    have at' : o - 4 = R.PWR_REQ := by omega
    rw [eq, State.blockWrite_match lnk nv c (slot.trans g) k (by rw [at']; exact guardActs_pwrReq p 0)]
    rw [at', State.guarded_upd]
    exact s.pwrReq_outcome p _ small ph

theorem registerAccess_guardTimeout (s : State) (p : Port) : (s.dev.guardOf p = none → answers (.guardTimeout p) s s) ∧
    ∀ v y, s.dev.guardOf p = some (v, y) → leads (.guardTimeout p) s fun x => s.dev.logged x.dev 0x20 1 true v ∧
      x.dev.guardOf p = none ∧ s.sameMem x := by
  have out : answers (.guardTimeout p) s (s.upd (Dev.guardTimeout p)) := rfl
  refine ⟨fun g => ?_, fun v y g => ⟨_, out, ?_⟩⟩
  · have same : s.dev.guardTimeout p = s.dev := by simp only [Dev.guardTimeout, g]
    rwa [State.upd, same] at out
  · have fail : s.dev.guardTimeout p = s.dev.guardFail p 1 v := by simp only [Dev.guardTimeout, g]
    rw [State.upd, fail]
    exact ⟨s.dev.guardFail_logged p v (by norm_num), s.dev.guardFail_empty p 1 v, rfl, rfl, rfl, rfl⟩

theorem registerAccess_counterLoad (s : State) (p : Port) : let o := 4 * s.dev.get F.SYS_CNT_SEL_OFFSET
    s.dev.reaches p R.SYS_CNT_CMD → s.dev.guardOf p = none →
    (∀ r, regAt o = some r → r.cnt ≠ 0 → o / 0x100000 ≠ 11 → leads (.counterLoad p) s fun x =>
      x.dev.rd o &&& BitVec.ofNat 32 r.cnt = s.dev.rd R.SYS_CNT_VAL &&& BitVec.ofNat 32 r.cnt ∧
      x.dev.rd o &&& ~~~ (BitVec.ofNat 32 r.cnt) = s.dev.clkCounts.rd o &&& ~~~ (BitVec.ofNat 32 r.cnt) ∧
      s.dev.clkCounts.sameRegs x.dev [o] ∧ s.sameMem x) ∧
    ((regAt o = none ∨ (∃ r, regAt o = some r ∧ r.cnt = 0) ∨ o / 0x100000 = 11) → leads (.counterLoad p) s fun x =>
      s.dev.clkCounts.logged x.dev 0x10 5 true R.SYS_CNT_CMD ∧ s.sameMem x) := by
  intro o h g
  have out : answers (.counterLoad p) s (s.regWrite p 0 R.SYS_CNT_CMD 15 1) := rfl
  obtain ⟨u, b, l, e⟩ := State.regWrite_counterLoad h g
  have regs : (s.dev.entered u b l).clkCounts.regs = s.dev.clkCounts.regs := by rw [Dev.clkCounts_entered]; rfl
  refine ⟨fun r reg c notSafe => ⟨_, out, ?_⟩, fun refused => ⟨_, out, ?_⟩⟩
  · rw [e]
    rw [State.upd, Dev.counterLoad_taken (d := s.dev.entered u b l) reg c notSafe]
    obtain ⟨cnt, rest⟩ := r.loaded_cnt ((s.dev.entered u b l).clkCounts.rd o) (s.dev.rd R.SYS_CNT_VAL)
    refine ⟨?_, ?_, fun a ha => ?_, rfl, rfl, rfl, rfl⟩
    · rw [← cnt]
      exact congrArg (· &&& BitVec.ofNat 32 r.cnt) (Dev.rd_wr_same _ _ _)
    · rw [← Dev.rd_of_regs regs, ← rest]
      exact congrArg (· &&& ~~~ (BitVec.ofNat 32 r.cnt)) (Dev.rd_wr_same _ _ _)
    · rw [← Dev.rd_of_regs regs]
      exact Dev.rd_wr_ne _ _ (List.ne_of_not_mem_cons ha)
  · rw [e]
    rw [State.upd, Dev.counterLoad_refused (d := s.dev.entered u b l) refused]
    exact ⟨Dev.logged_from_regs regs (Dev.logErr_logged _ _ _ _ _ _ _ (by norm_num)), rfl, rfl, rfl, rfl⟩

theorem registerAccess_csrParity (s : State) (off : BitVec 26) (r : RegRow) : let o := off.toNat
    regAt o = some r → (r.rw ≠ 0 ∨ r.rg ≠ 0) → s.dev.blockOff o = false → o / 0x100000 ≠ 11 → s.dev.answers = true →
    leads (.csrParity off) s fun x => o ∈ x.dev.host.parityBad ∧ x.dev.flag F.SYS_PARITY_LOG_EVT = true ∧
      x.dev.get F.SYS_PARITY_ADDR_OFFSET = o ∧ x.dev.get F.SYS_PARITY_LOG_CAUSE = 1 ∧ s.sameMem x ∧
      ∃ f ∈ x.dev.faults, f.kind = FaultKind.csrParity ∧ f.idx = o ∧ f.cls = parityCls o ∧ f.cause = true := by
  intro o reg fields on notSafe ans
  have out : answers (.csrParity off) s (s.upd (Dev.csrParity o)) := rfl
  refine ⟨_, out, ?_⟩
  rw [State.upd, Dev.csrParity_found reg fields on notSafe ans]
  set d := (s.dev.parityNoted o).logErr 0x30 false 1 3 false o with hd
  obtain ⟨cause, -, evt, adr, -, -⟩ := (s.dev.parityNoted o).logErr_logged 0x30 false false 1 3 o (by norm_num)
  rw [← hd] at cause evt adr
  have log := d.parityFault_rd o (Or.inl rfl)
  have addr := d.parityFault_rd o (Or.inr rfl)
  refine ⟨s.dev.parityFault_bad o, (Dev.flag_of_rd log).trans evt, (Dev.get_of_rd addr).trans ?_, (Dev.get_of_rd log).trans cause,
    ⟨rfl, rfl, rfl, rfl⟩, _, Dev.mem_relinquishLive _ (Dev.mem_fault_self d _ _ _ _ _ (by decide)) nofun nofun nofun,
    rfl, rfl, rfl, rfl⟩
  have lt := off.isLt
  rw [Dev.get, show F.SYS_PARITY_ADDR_OFFSET.reg = 0x30 + 4 from rfl, adr]
  simp only [F.SYS_PARITY_ADDR_OFFSET, bitsOf, o]
  omega

theorem registerAccess_clockRegate (s : State) (b : Fin 16) : leads (.clockRegate b) s fun x =>
    b.val ∉ x.dev.host.ungated ∧ x.dev.regs = s.dev.regs ∧ s.sameMem x := by
  have out : answers (.clockRegate b) s (s.upd (Dev.regate b)) := rfl
  refine ⟨_, out, fun h => ?_, rfl, rfl, rfl, rfl, rfl⟩
  simpa using (List.mem_filter.mp h).2

/-- Settles O7: a write meets the port's guard slot, then its block's clock, then either the pair's other half or the register's own
behaviour, and each of them changes the registers it says and no other. -/
theorem registerAccess : Obligations.RegisterAccess := by
  unfold Obligations.RegisterAccess
  exact ⟨registerAccess_regWrite, registerAccess_eventWriteBack, registerAccess_guardValue, registerAccess_complement,
    registerAccess_guardTimeout, registerAccess_counterLoad, registerAccess_csrParity, registerAccess_clockRegate⟩

end Sys2Proof.Machine
end

section
/-! The end of a DMA transfer (03 R70). -/
namespace Sys2Proof.Machine

/-- The device before the event that ends a transfer is raised. -/
def Dev.dmaClose (n code : Nat) (d : Dev) : Dev :=
  ((((d.put (F.SYS_DMA_STS_RESULT n) code).up (F.SYS_DMA_STS_BUSY n) false).up (F.SYS_DMA_CTL_START n) false).up (F.SYS_DMA_CTL_ABORT n) false).modHost
    (fun h => { h with dmaRun := h.dmaRun.filter (fun x => x.1 != n), dmaToHost := h.dmaToHost.filter (fun x => x != n) })

theorem Dev.dmaEnd_eq (d : Dev) (n code : Nat) : d.dmaEnd n code = (d.dmaClose n code).raise (F.SYS_DMA_STS_DONE_EVT n) := (rfl)

@[simp] theorem Dev.modHost_rd (d : Dev) (f : HostSt → HostSt) (o : Nat) : (d.modHost f).rd o = d.rd o := (rfl)
@[simp] theorem Dev.modHost_get (d : Dev) (f : HostSt → HostSt) (g : Fld) : (d.modHost f).get g = d.get g := (rfl)
@[simp] theorem Dev.modHost_flag (d : Dev) (f : HostSt → HostSt) (g : Fld) : (d.modHost f).flag g = d.flag g := (rfl)
@[simp] theorem Dev.modHost_host (d : Dev) (f : HostSt → HostSt) : (d.modHost f).host = f d.host := (rfl)

/-- The result, the busy bit and the event of a status register, none of which share a bit. -/
def statusFields (res busy evt : Fld) : Prop :=
  evt.evt ∧ (busy.reg = evt.reg ∧ busy.hi = busy.lo ∧ evt.hi < busy.lo) ∧ res.reg = evt.reg ∧ busy.hi < res.lo ∧ res.lo ≤ res.hi ∧ res.hi < 24

/-- Work that ends writes its result, clears its busy bit and raises its event. -/
theorem Dev.raise_ended {d x : Dev} {res busy evt : Fld} {code : Nat} (h : statusFields res busy evt)
    (sts : x.rd evt.reg = ((d.put res code).up busy false).rd evt.reg) (fits : code < 2 ^ (res.hi + 1 - res.lo)) :
    (x.raise evt).get res = code ∧ (x.raise evt).flag busy = false ∧ (x.raise evt).flag evt = true := by
  obtain ⟨ev, ⟨busyReg, busyBit, busyApart⟩, resReg, resApart, resOk, resLow⟩ := h
  have same : ∀ f : Fld, f.reg = evt.reg → x.get f = ((d.put res code).up busy false).get f := fun f hf =>
    Dev.get_of_rd (by rw [hf]; exact sts)
  refine ⟨?_, ?_, Dev.raise_flag _ _ ev⟩
  · rw [Dev.raise_get_apart _ _ res ev resReg (Or.inl (by omega)) resLow, same res resReg, Dev.up,
      Dev.get_put_apart _ busy res _ ⟨by omega, by omega⟩ (resReg.trans busyReg.symm) (Or.inl resApart), Dev.get_put_same _ _ _ ⟨resOk, by omega⟩]
    exact Nat.mod_eq_of_lt fits
  · rw [Dev.flag_of_get (Dev.raise_get_apart _ _ busy ev busyReg (Or.inl busyApart) (by omega)), Dev.flag_of_get (same busy busyReg),
      Dev.flag_up_same _ _ _ busyBit (by omega)]

theorem dmaSts_fields (n : Nat) : statusFields (F.SYS_DMA_STS_RESULT n) (F.SYS_DMA_STS_BUSY n) (F.SYS_DMA_STS_DONE_EVT n) := by
  simp [statusFields, Fld.evt, F.SYS_DMA_STS_RESULT, F.SYS_DMA_STS_BUSY, F.SYS_DMA_STS_DONE_EVT]

theorem dmaCtl_ne_sts (n m : Nat) : R.SYS_DMA_CTL n ≠ R.SYS_DMA_STS m := by simp only [R.SYS_DMA_CTL, R.SYS_DMA_STS]; omega

section End
variable (d : Dev) (n : Nat)

/-- A transfer that has ended: RESULT says why, BUSY is clear and DONE_EVT is set. -/
theorem Dev.dmaEnd_outcome {code : Nat} (h : code < 256) : (d.dmaEnd n code).get (F.SYS_DMA_STS_RESULT n) = code ∧
    (d.dmaEnd n code).flag (F.SYS_DMA_STS_BUSY n) = false ∧ (d.dmaEnd n code).flag (F.SYS_DMA_STS_DONE_EVT n) = true ∧
    d.sameRegs (d.dmaEnd n code) [R.SYS_DMA_CTL n, R.SYS_DMA_STS n] := by
  have close : ∀ o, o ≠ R.SYS_DMA_CTL n →
      (d.dmaClose n code).rd o = ((d.put (F.SYS_DMA_STS_RESULT n) code).up (F.SYS_DMA_STS_BUSY n) false).rd o := fun o ctl => by
    rw [Dev.dmaClose, Dev.modHost_rd, Dev.up, Dev.rd_put_ne _ _ ctl, Dev.up, Dev.rd_put_ne _ _ ctl]
  obtain ⟨result, busy, done⟩ := Dev.raise_ended (dmaSts_fields n) (close _ (dmaCtl_ne_sts n n).symm) h
  rw [Dev.dmaEnd_eq]
  refine ⟨result, busy, done, fun o ho => ?_⟩
  simp only [List.mem_cons, List.not_mem_nil, or_false, not_or] at ho
  obtain ⟨ctl, sts⟩ := ho
  rw [Dev.raise_rd_ne _ sts, close o ctl, Dev.up, Dev.rd_put_ne _ _ sts, Dev.rd_put_ne _ _ sts]

/-- Of the host's part the end of a transfer takes the channel off the lists, and MSI-X may note its event. -/
theorem Dev.dmaEnd_hostRest (code : Nat) : (d.dmaEnd n code).hostRest = { d.hostRest with
    dmaRun := d.host.dmaRun.filter (fun x => x.1 != n), dmaToHost := d.host.dmaToHost.filter (fun x => x != n) } := by
  rw [Dev.dmaEnd_eq, Dev.hostRest_raise]
  rfl

theorem Dev.dmaEnd_dmaRun (code : Nat) : (d.dmaEnd n code).host.dmaRun = d.host.dmaRun.filter (fun x => x.1 != n) := by
  have run := congrArg (fun h : HostSt => h.dmaRun) (d.dmaEnd_hostRest n code)
  exact run

theorem Dev.dmaEnd_dmaOf (code : Nat) : (d.dmaEnd n code).dmaOf n = none := by
  rw [Dev.dmaOf, Dev.dmaEnd_dmaRun, Option.map_eq_none_iff, List.find?_eq_none]
  intro x hx
  simpa using (List.mem_filter.mp hx).2

end End

end Sys2Proof.Machine
end

section
/-! The endpoint: its resets, its configuration space and MSI-X (03 R66, R67, R70, R71). -/
namespace Sys2Proof.Machine

/-! A reset ends every transfer. -/

/-- A transfer is cut by a reset: words in its range may have landed, and it ends with LINK_DOWN. -/
def State.dmaCut (s : State) (x : Nat × Nat × Nat) : State :=
  let s := if s.dev.host.dmaToHost.contains x.1 || s.dev.regionOff (bar2Region x.2.1) then s
    else
      let (bs, d) := s.dev.freeBytes x.2.2
      { s with dev := d, mem := s.mem.putBytes sramReset x.2.1 bs }
  s.upd (Dev.dmaEnd x.1 2)

theorem State.dmaLinkDown_eq (s : State) : s.dmaLinkDown = s.dev.host.dmaRun.foldl State.dmaCut s := (rfl)

theorem State.dmaCut_eq (s : State) (x : Nat × Nat × Nat) :
    ∃ k m, s.dmaCut x = { s with mem := m, dev := ({ s.dev with free := k } : Dev).dmaEnd x.1 2 } := by
  unfold State.dmaCut
  dsimp only
  split
  · exact ⟨s.dev.free, s.mem, rfl⟩
  · exact ⟨_, _, rfl⟩

/-- Channel n has ended with LINK_DOWN. -/
def Dev.linkDown (d : Dev) (n : Nat) : Prop :=
  d.get (F.SYS_DMA_STS_RESULT n) = 2 ∧ d.flag (F.SYS_DMA_STS_BUSY n) = false ∧ d.flag (F.SYS_DMA_STS_DONE_EVT n) = true

theorem Dev.linkDown_of_rd {d e : Dev} {n : Nat} (h : e.rd (R.SYS_DMA_STS n) = d.rd (R.SYS_DMA_STS n)) (k : d.linkDown n) : e.linkDown n := by
  obtain ⟨result, busy, done⟩ := k
  exact ⟨(Dev.get_of_rd h).trans result, (Dev.flag_of_rd h).trans busy, (Dev.flag_of_rd h).trans done⟩

/-- Cutting a transfer ends it, keeps those that have ended so, and takes it off the list. -/
theorem State.dmaCut_outcome (s : State) (x : Nat × Nat × Nat) : (s.dmaCut x).dev.linkDown x.1 ∧
    (∀ n, s.dev.linkDown n → (s.dmaCut x).dev.linkDown n) ∧
    (s.dmaCut x).dev.host.dmaRun = s.dev.host.dmaRun.filter (fun y => y.1 != x.1) ∧
    (s.dmaCut x).flash = s.flash ∧ (s.dmaCut x).otp = s.otp ∧ (s.dmaCut x).pending = s.pending := by
  obtain ⟨k, m, e⟩ := s.dmaCut_eq x
  rw [e]
  obtain ⟨result, busy, done, same⟩ := ({ s.dev with free := k } : Dev).dmaEnd_outcome x.1 (code := 2) (by norm_num)
  refine ⟨⟨result, busy, done⟩, fun n h => ?_, Dev.dmaEnd_dmaRun _ x.1 2, rfl, rfl, rfl⟩
  by_cases other : n = x.1
  · subst other
    exact ⟨result, busy, done⟩
  · refine Dev.linkDown_of_rd (same _ ?_) h
    simp only [R.SYS_DMA_CTL, R.SYS_DMA_STS, List.mem_cons, List.not_mem_nil, or_false]
    omega

/-- After cutting every transfer of a list: those channels have ended, and only transfers that are not listed go on. -/
theorem State.dmaCuts_outcome (l : List (Nat × Nat × Nat)) : ∀ s : State,
    (∀ n, (s.dev.linkDown n ∨ ∃ x ∈ l, x.1 = n) → (l.foldl State.dmaCut s).dev.linkDown n) ∧
    (∀ y ∈ (l.foldl State.dmaCut s).dev.host.dmaRun, y ∈ s.dev.host.dmaRun ∧ ∀ x ∈ l, y.1 ≠ x.1) ∧
    (l.foldl State.dmaCut s).flash = s.flash ∧ (l.foldl State.dmaCut s).otp = s.otp ∧ (l.foldl State.dmaCut s).pending = s.pending := by
  induction l with
  | nil => exact fun s => ⟨fun n h => by simpa using h, fun y hy => ⟨hy, by simp⟩, rfl, rfl, rfl⟩
  | cons x t ih =>
    intro s
    obtain ⟨ended, keeps, run, flash, otp, pending⟩ := s.dmaCut_outcome x
    obtain ⟨ended', run', flash', otp', pending'⟩ := ih (s.dmaCut x)
    refine ⟨fun n h => ended' n ?_, fun y hy => ?_, flash'.trans flash, otp'.trans otp, pending'.trans pending⟩
    · rcases h with h | ⟨y, hy, e⟩
      · exact Or.inl (keeps n h)
      · rcases List.mem_cons.mp hy with rfl | hy
        · exact Or.inl (e ▸ ended)
        · exact Or.inr ⟨y, hy, e⟩
    · obtain ⟨old, rest⟩ := run' y hy
      rw [run, List.mem_filter, bne_iff_ne] at old
      exact ⟨old.1, List.forall_mem_cons.mpr ⟨old.2, rest⟩⟩

/-- A channel that runs is on the list. -/
theorem Dev.running_of_dmaOf {d : Dev} {n : Nat} (h : (d.dmaOf n).isSome) : ∃ x ∈ d.host.dmaRun, x.1 = n := by
  rw [Dev.dmaOf, Option.isSome_map, List.find?_isSome] at h
  obtain ⟨x, hx, e⟩ := h
  exact ⟨x, hx, by simpa using e⟩

theorem endpoint_pcieReset (s : State) (k : PcieReset) : leads (.pcieReset k) s fun x => x.dev.host.msixEn = false ∧ x.dev.host.msixMask = false ∧
    x.dev.host.msixTbl = [] ∧ x.dev.host.pba = 0 ∧ x.dev.host.msgs = [] ∧ x.dev.host.d3hot = false ∧ x.dev.host.dmaRun = [] ∧
    (∀ n < 8, (s.dev.dmaOf n).isSome → x.dev.get (F.SYS_DMA_STS_RESULT n) = 2 ∧ x.dev.flag (F.SYS_DMA_STS_BUSY n) = false ∧
      x.dev.flag (F.SYS_DMA_STS_DONE_EVT n) = true) ∧ x.flash = s.flash ∧ x.otp = s.otp ∧ x.pending = s.pending ∧
    (s.dev.host.dmaRun = [] → x.dev.regs = s.dev.regs ∧ x.mem = s.mem) := by
  have out : answers (.pcieReset k) s s.pcieReset := by cases k <;> rfl
  obtain ⟨ended, run, flash, otp, pending⟩ := State.dmaCuts_outcome s.dev.host.dmaRun s
  rw [← State.dmaLinkDown_eq] at ended run flash otp pending
  have idle : s.dmaLinkDown.dev.host.dmaRun = [] := by
    rw [List.eq_nil_iff_forall_not_mem]
    intro y hy
    obtain ⟨old, gone⟩ := run y hy
    exact gone y old rfl
  refine ⟨_, out, rfl, rfl, rfl, rfl, rfl, rfl, idle, fun n _ h => ended n (Or.inr (Dev.running_of_dmaOf h)), flash, otp, pending, fun none => ?_⟩
  rw [State.pcieReset, State.dmaLinkDown_eq, none]
  exact ⟨rfl, rfl⟩

/-! MSI-X (R71). -/

/-- Sending a vector's message touches the pending bits and the messages alone. -/
theorem Dev.msixSend_eq (d : Dev) (v : Nat) : ∃ b l, d.msixSend v = { d with host := { d.host with pba := b, msgs := l } } := by
  unfold Dev.msixSend
  split
  · exact ⟨_, _, rfl⟩
  · exact ⟨d.host.pba, d.host.msgs, rfl⟩

theorem bitOf_setBit_clear (v i : Nat) : bitOf (setBit v i false) i = false := by
  unfold setBit
  split
  · rename_i h
    have odd : v / 2 ^ i % 2 = 1 := by simpa [bitOf] using h
    have less : (v - 2 ^ i) / 2 ^ i = v / 2 ^ i - 1 := by simpa using Nat.sub_mul_div v (2 ^ i) 1
    simp only [if_neg Bool.false_ne_true, bitOf, less, beq_eq_false_iff_ne]
    omega
  · simpa using ‹¬ bitOf v i = true›

/-- The message of an unmasked pending vector goes out. -/
theorem Dev.msixSend_sends {d : Dev} {v : Nat} (en : d.host.msixEn = true) (um : d.msixMasked v = false) (pend : bitOf d.host.pba v = true) :
    v ∈ (d.msixSend v).host.msgs ∧ bitOf (d.msixSend v).host.pba v = false := by
  have go : (d.host.msixEn && !d.msixMasked v && bitOf d.host.pba v) = true := by rw [en, um, pend]; rfl
  rw [Dev.msixSend, if_pos go]
  refine ⟨?_, bitOf_setBit_clear _ _⟩
  show v ∈ if d.host.msgs.contains v then d.host.msgs else d.host.msgs ++ [v]
  split
  · simpa using ‹d.host.msgs.contains v = true›
  · exact List.mem_append_right _ List.mem_cons_self

/-- The device whose vector v is not masked by itself. -/
def Dev.unmask (v : Nat) (d : Dev) : Dev := d.modHost (fun h => { h with msixTbl := tblSet msixReset h.msixTbl (4 * v + 3) 0 })

theorem Dev.unmask_masked (d : Dev) (v : Nat) : (d.unmask v).msixMasked v = d.host.msixMask := by
  have ctl : tblGet msixReset (d.unmask v).host.msixTbl (4 * v + 3) = 0 := tblGet_set_same _ _ _ _
  rw [Dev.msixMasked, ctl]
  exact Bool.or_false _

theorem Dev.msixUnmask_eq (d : Dev) {v : Nat} (h : v < 64) : d.msixUnmask v = (d.unmask v).msixSend v := by
  have in' : 4 * v + 3 < 256 := by omega
  have ctl : (4 * v + 3) % 4 = 3 := by omega
  have vec : (4 * v + 3) / 4 = v := by omega
  simp only [Dev.msixUnmask, Dev.msixWrite, if_pos in', if_pos ctl, vec]
  rfl

theorem endpoint_msixUnmask (s : State) (v : Fin 64) : (s.dev.host.granted = false ∨ s.dev.host.d3hot = true → answers (.msixUnmask v) s s) ∧
    (s.dev.host.granted = true → s.dev.host.d3hot = false → leads (.msixUnmask v) s fun x =>
      x.dev.msixMasked v = s.dev.host.msixMask ∧ x.dev.regs = s.dev.regs ∧ s.sameMem x ∧
      (s.dev.host.msixEn = true → s.dev.host.msixMask = false → bitOf s.dev.host.pba v = true →
        v.val ∈ x.dev.host.msgs ∧ bitOf x.dev.host.pba v = false)) := by
  have out : answers (.msixUnmask v) s
      (s.upd (fun d => if d.host.granted && !d.host.d3hot then d.msixUnmask v else d)) := rfl
  refine ⟨fun shut => ?_, fun granted d0 => ⟨_, out, ?_⟩⟩
  · have no : ¬ (s.dev.host.granted && !s.dev.host.d3hot) = true := by
      rcases shut with h | h <;> simp [h]
    rwa [State.upd, if_neg no] at out
  · have go : (s.dev.host.granted && !s.dev.host.d3hot) = true := by rw [granted, d0]; rfl
    rw [State.upd, if_pos go, Dev.msixUnmask_eq _ v.isLt]
    obtain ⟨b, l, e⟩ := (s.dev.unmask v).msixSend_eq v
    have masked := s.dev.unmask_masked v
    refine ⟨?_, ?_, ⟨rfl, rfl, rfl, rfl⟩, fun en mask pend => Dev.msixSend_sends en (masked.trans mask) pend⟩
    · rw [e]
      exact masked
    · rw [e]
      rfl

/-! Configuration writes (R66, R67). -/

/-- Sending what is pending leaves the enable, the mask and the registers. -/
theorem Dev.msixSends_keep (l : List Nat) (d : Dev) : (Dev.each l Dev.msixSend d).regs = d.regs ∧
    (Dev.each l Dev.msixSend d).host.msixEn = d.host.msixEn ∧ (Dev.each l Dev.msixSend d).host.msixMask = d.host.msixMask := by
  have keep : ∀ (d : Dev) (v : Nat), (fun d : Dev => (d.regs, d.host.msixEn, d.host.msixMask)) (d.msixSend v) =
      (d.regs, d.host.msixEn, d.host.msixMask) := fun d v => by
    obtain ⟨b, l, e⟩ := d.msixSend_eq v
    rw [e]
  have all := foldl_keep (fun d : Dev => (d.regs, d.host.msixEn, d.host.msixMask)) (fun d v => d.msixSend v) keep l d
  simp only [Prod.mk.injEq] at all
  exact all

theorem Dev.pcieCfg_regs (c : PcieCfg) (d : Dev) : (d.pcieCfg c).regs = d.regs := by
  cases c with
  | msix en mask =>
    rw [Dev.pcieCfg]
    exact (Dev.msixSends_keep _ _).1
  | power d3 => rfl
  | payload big => rfl
  | other => rfl

theorem Dev.pcieCfg_msix (d : Dev) {c : PcieCfg} {en mask : Bool} (h : c = .msix en mask) :
    (d.pcieCfg c).host.msixEn = en ∧ (d.pcieCfg c).host.msixMask = mask := by
  rw [h, Dev.pcieCfg]
  exact (Dev.msixSends_keep _ _).2

theorem endpoint_pcieConfigWrite (s : State) (c : PcieCfg) : (s.dev.host.granted = false ∨ c = .other → answers (.pcieConfigWrite c) s s) ∧
    (s.dev.host.granted = true → leads (.pcieConfigWrite c) s fun x => x.dev.regs = s.dev.regs ∧ s.sameMem x ∧
      (∀ d3, c = .power d3 → x.dev.host.d3hot = d3) ∧
      ∀ en mask, c = .msix en mask → x.dev.host.msixEn = en ∧ x.dev.host.msixMask = mask) := by
  have out : answers (.pcieConfigWrite c) s (s.upd (fun d => if d.host.granted then d.pcieCfg c else d)) := rfl
  refine ⟨fun h => ?_, fun granted => ⟨_, out, ?_⟩⟩
  · have same : (if s.dev.host.granted then s.dev.pcieCfg c else s.dev) = s.dev := by
      rcases h with h | rfl
      · rw [if_neg (by simp [h])]
      · split <;> rfl
    rwa [State.upd, same] at out
  · rw [State.upd, if_pos granted]
    refine ⟨s.dev.pcieCfg_regs c, ⟨rfl, rfl, rfl, rfl⟩, ?_, fun en mask => s.dev.pcieCfg_msix⟩
    rintro d3 rfl
    rfl

/-- Settles O9: a reset cuts each transfer in turn, and a message goes out when its vector is unmasked and pending. -/
theorem endpointAndMessages : Obligations.EndpointAndMessages := by
  unfold Obligations.EndpointAndMessages
  exact ⟨endpoint_pcieReset, endpoint_pcieConfigWrite, endpoint_msixUnmask⟩

end Sys2Proof.Machine
end

section
/-! DMA transfers (03 R70). -/
namespace Sys2Proof.Machine

/-! START and ABORT. -/

/-- A channel's state does not rest on the parity of its registers. -/
theorem Dev.parityWritten_dma (d : Dev) (o n : Nat) : (d.parityWritten o).dmaOf n = d.dmaOf n ∧ (d.parityWritten o).dmaBad n = d.dmaBad n ∧
    (d.parityWritten o).host.dmaRun = d.host.dmaRun := by
  obtain ⟨b, l, e⟩ := d.parityWritten_parity o
  rw [e]
  exact ⟨rfl, rfl, rfl⟩

/-- A channel that has started on the range and the host address that its registers give. -/
def Dev.dmaBegun (n : Nat) (d : Dev) : Dev :=
  ((d.up (F.SYS_DMA_CTL_START n) true).up (F.SYS_DMA_STS_BUSY n) true).modHost (fun h =>
    { h with
      dmaRun := h.dmaRun ++ [(n, d.get (F.SYS_DMA_SRAM_VALUE n), d.get (F.SYS_DMA_LEN_VALUE n))],
      dmaToHost := if d.flag (F.SYS_DMA_CTL_DIR n) then h.dmaToHost ++ [n] else h.dmaToHost,
      dmaHost := tput h.dmaHost n (d.get64 (R.SYS_DMA_HOST_LO n)),
      dmaIn := if d.flag (F.SYS_DMA_CTL_DIR n) then [] else dmaReqs 512 (d.get64 (R.SYS_DMA_HOST_LO n)) (d.get (F.SYS_DMA_LEN_VALUE n)) })

section Start
variable {d : Dev} {n : Nat}

theorem Dev.dmaStart_running (h : (d.dmaOf n).isSome) : d.dmaStart n = d := if_pos h

theorem Dev.dmaAbort_idle (h : d.dmaOf n = none) : d.dmaAbort n = d := if_neg (by simp [h])

theorem Dev.dmaAbort_running (h : (d.dmaOf n).isSome) : d.dmaAbort n = d.up (F.SYS_DMA_CTL_ABORT n) true := if_pos h

variable (idle : d.dmaOf n = none)
include idle

theorem Dev.dmaStart_bad (h : d.dmaBad n = true) : d.dmaStart n = d.dmaEnd n 3 := by
  simp only [Dev.dmaStart, idle, Option.isSome_none, Bool.false_eq_true, if_false, h, if_true]

theorem Dev.dmaStart_good (h : d.dmaBad n = false) : d.dmaStart n = d.dmaBegun n := by
  simp only [Dev.dmaStart, idle, Option.isSome_none, Bool.false_eq_true, if_false, h]
  rfl

theorem Dev.dmaBegun_dmaOf : (d.dmaBegun n).dmaOf n = some (d.get (F.SYS_DMA_SRAM_VALUE n), d.get (F.SYS_DMA_LEN_VALUE n)) := by
  have run : (d.dmaBegun n).host.dmaRun = d.host.dmaRun ++ [(n, d.get (F.SYS_DMA_SRAM_VALUE n), d.get (F.SYS_DMA_LEN_VALUE n))] := rfl
  rw [Dev.dmaOf, Option.map_eq_none_iff] at idle
  simp [Dev.dmaOf, run, List.find?_append, idle]

end Start

/-- A channel that has started is busy and shows START, and no other register differs. -/
theorem Dev.dmaBegun_regs (d : Dev) (n : Nat) : (d.dmaBegun n).flag (F.SYS_DMA_STS_BUSY n) = true ∧
    (d.dmaBegun n).flag (F.SYS_DMA_CTL_START n) = true ∧ d.sameRegs (d.dmaBegun n) [R.SYS_DMA_CTL n, R.SYS_DMA_STS n] := by
  refine ⟨Dev.flag_up_same _ (F.SYS_DMA_STS_BUSY n) true rfl (by simp [F.SYS_DMA_STS_BUSY]), ?_, fun o ho => ?_⟩
  · rw [Dev.dmaBegun, Dev.modHost_flag, Dev.flag_up_ne _ _ (dmaCtl_ne_sts n n)]
    exact Dev.flag_up_same d (F.SYS_DMA_CTL_START n) true rfl (by simp [F.SYS_DMA_CTL_START])
  · simp only [List.mem_cons, List.not_mem_nil, or_false, not_or] at ho
    obtain ⟨ctl, sts⟩ := ho
    rw [Dev.dmaBegun, Dev.modHost_rd, Dev.up, Dev.rd_put_ne _ _ sts]
    exact Dev.rd_put_ne d _ ctl

theorem dma_startAbort (s : State) (n : Fin 8) : let d := s.dev
    ((d.dmaOf n).isSome → answers (.dmaStart n) s (s.upd (Dev.parityWritten (R.SYS_DMA_CTL n)))) ∧
    (d.dmaOf n = none → answers (.dmaAbort n) s (s.upd (Dev.parityWritten (R.SYS_DMA_CTL n)))) ∧
    (d.dmaOf n = none → d.dmaBad n = true → leads (.dmaStart n) s fun x => x.dev.get (F.SYS_DMA_STS_RESULT n) = 3 ∧
      x.dev.flag (F.SYS_DMA_STS_BUSY n) = false ∧ x.dev.flag (F.SYS_DMA_STS_DONE_EVT n) = true ∧ x.dev.dmaOf n = none ∧
      d.sameRegs x.dev [R.SYS_DMA_CTL n, R.SYS_DMA_STS n] ∧ s.sameMem x) ∧
    (d.dmaOf n = none → d.dmaBad n = false → leads (.dmaStart n) s fun x => x.dev.flag (F.SYS_DMA_STS_BUSY n) = true ∧
      x.dev.flag (F.SYS_DMA_CTL_START n) = true ∧ x.dev.dmaOf n = some (d.get (F.SYS_DMA_SRAM_VALUE n), d.get (F.SYS_DMA_LEN_VALUE n)) ∧
      tget x.dev.host.dmaHost n = d.get64 (R.SYS_DMA_HOST_LO n) ∧
      (d.flag (F.SYS_DMA_CTL_DIR n) = false → x.dev.host.dmaIn = dmaReqs 512 (d.get64 (R.SYS_DMA_HOST_LO n)) (d.get (F.SYS_DMA_LEN_VALUE n))) ∧
      d.sameRegs x.dev [R.SYS_DMA_CTL n, R.SYS_DMA_STS n] ∧ s.sameMem x) ∧
    ((d.dmaOf n).isSome → leads (.dmaAbort n) s fun x => x.dev.flag (F.SYS_DMA_CTL_ABORT n) = true ∧
      d.sameRegs x.dev [R.SYS_DMA_CTL n] ∧ s.sameMem x) := by
  intro d
  have start : answers (.dmaStart n) s (s.upd (fun d => (d.parityWritten (R.SYS_DMA_CTL n)).dmaStart n)) := rfl
  have abort : answers (.dmaAbort n) s (s.upd (fun d => (d.parityWritten (R.SYS_DMA_CTL n)).dmaAbort n)) := rfl
  obtain ⟨of', bad', -⟩ := d.parityWritten_dma (R.SYS_DMA_CTL n) n
  have regs := d.parityWritten_regs (R.SYS_DMA_CTL n)
  set e := d.parityWritten (R.SYS_DMA_CTL n) with he
  refine ⟨fun run => ?_, fun idle => ?_, fun idle bad => ⟨_, start, ?_⟩, fun idle good => ⟨_, start, ?_⟩, fun run => ⟨_, abort, ?_⟩⟩
  · rwa [State.upd, Dev.dmaStart_running (of' ▸ run)] at start
  · rwa [State.upd, Dev.dmaAbort_idle (of'.trans idle)] at abort
  · rw [State.upd, Dev.dmaStart_bad (of'.trans idle) (bad'.trans bad)]
    obtain ⟨result, busy, done, same⟩ := e.dmaEnd_outcome n (code := 3) (by norm_num)
    exact ⟨result, busy, done, e.dmaEnd_dmaOf n 3, fun o ho => (same o ho).trans (Dev.rd_of_regs regs o), rfl, rfl, rfl, rfl⟩
  · rw [State.upd, Dev.dmaStart_good (of'.trans idle) (bad'.trans good)]
    obtain ⟨busy, started, same⟩ := e.dmaBegun_regs n
    refine ⟨busy, started, ?_, ?_, fun dir => ?_, fun o ho => (same o ho).trans (Dev.rd_of_regs regs o), rfl, rfl, rfl, rfl⟩
    · rw [← Dev.get_of_regs regs, ← Dev.get_of_regs regs]
      exact Dev.dmaBegun_dmaOf (of'.trans idle)
    · rw [Dev.get64, ← Dev.rd_of_regs regs, ← Dev.rd_of_regs regs]
      exact tblGet_set_same _ _ _ _
    · rw [← Dev.flag_of_regs regs] at dir
      rw [Dev.get64, ← Dev.rd_of_regs regs, ← Dev.rd_of_regs regs, ← Dev.get_of_regs regs]
      exact if_neg (by simp [dir])
  · rw [State.upd, Dev.dmaAbort_running (of' ▸ run)]
    exact ⟨Dev.flag_up_same _ _ _ rfl (by simp [F.SYS_DMA_CTL_ABORT]),
      fun o ho => (Dev.rd_put_ne e _ (List.ne_of_not_mem_cons ho)).trans (Dev.rd_of_regs regs o), rfl, rfl, rfl, rfl⟩

/-! The end of a transfer. -/

theorem State.dmaDone_idle {s : State} {n : Nat} (h : s.dev.dmaOf n = none) (e : DmaEnd) (data : List Word) : s.dmaDone n e data = s := by
  simp only [State.dmaDone, h]

theorem dma_idle (s : State) (n : Fin 8) (e : DmaEnd) (data : List Word) (h : s.dev.dmaOf n = none) :
    answers (.dmaEnd n e data) s s ∧ answers (.dmaHostTimeout n data) s s := by
  have done : answers (.dmaEnd n e data) s (s.dmaDone n e data) := rfl
  have late : answers (.dmaHostTimeout n data) s (s.dmaDone n .hostErr data) := rfl
  rw [State.dmaDone_idle h] at done late
  exact ⟨done, late⟩

/-- An error of SRAM or of the host ends a running transfer with its code, whatever has moved. -/
theorem State.dmaDone_error {s : State} {n : Nat} {r : Nat × Nat} (h : s.dev.dmaOf n = some r) (data : List Word) :
    s.dmaDone n .sramErr data = (s.dmaMove n data.length data).upd (Dev.dmaEnd n 4) ∧
      s.dmaDone n .hostErr data = (s.dmaMove n data.length data).upd (Dev.dmaEnd n 5) := by
  obtain ⟨a, len⟩ := r
  constructor <;> simp only [State.dmaDone, h, reduceCtorEq, false_and, if_false]

theorem dma_errors (s : State) (n : Fin 8) (data : List Word) (run : (s.dev.dmaOf n).isSome) :
    (leads (.dmaEnd n .sramErr data) s fun x => x.dev.get (F.SYS_DMA_STS_RESULT n) = 4 ∧ x.dev.dmaOf n = none) ∧
    (leads (.dmaEnd n .hostErr data) s fun x => x.dev.get (F.SYS_DMA_STS_RESULT n) = 5 ∧ x.dev.dmaOf n = none) ∧
    leads (.dmaHostTimeout n data) s fun x => x.dev.get (F.SYS_DMA_STS_RESULT n) = 5 ∧ x.dev.dmaOf n = none ∧
      x.dev.flag (F.SYS_DMA_STS_DONE_EVT n) = true := by
  have done : ∀ e, answers (.dmaEnd n e data) s (s.dmaDone n e data) := fun _ => rfl
  have late : answers (.dmaHostTimeout n data) s (s.dmaDone n .hostErr data) := rfl
  obtain ⟨r, h⟩ := Option.isSome_iff_exists.mp run
  obtain ⟨sram, host⟩ := State.dmaDone_error h data
  obtain ⟨res4, -, -, -⟩ := (s.dmaMove n data.length data).dev.dmaEnd_outcome n (code := 4) (by norm_num)
  obtain ⟨res5, -, evt5, -⟩ := (s.dmaMove n data.length data).dev.dmaEnd_outcome n (code := 5) (by norm_num)
  refine ⟨⟨_, done .sramErr, ?_⟩, ⟨_, done .hostErr, ?_⟩, ⟨_, late, ?_⟩⟩
  · rw [sram]
    exact ⟨res4, Dev.dmaEnd_dmaOf _ _ _⟩
  · rw [host]
    exact ⟨res5, Dev.dmaEnd_dmaOf _ _ _⟩
  · rw [host]
    exact ⟨res5, Dev.dmaEnd_dmaOf _ _ _, evt5⟩

/-! A transfer that has moved all its words. -/

section Moved
variable {s : State} {n a len : Nat} {data : List Word} (run : s.dev.dmaOf n = some (a, len))
  (ab : s.dev.flag (F.SYS_DMA_CTL_ABORT n) = false) (all : len / 4 ≤ data.length) (on : s.dev.regionOff (bar2Region a) = false)
include run ab all on

/-- To SRAM: the words that the host gave are stored, and RESULT is 0. -/
theorem State.dmaDone_in (dir : n ∉ s.dev.host.dmaToHost) :
    s.dmaDone n .moved data = (s.putMems a (data.take (len / 4))).upd (Dev.dmaEnd n 0) := by
  have dir' : s.dev.host.dmaToHost.contains n = false := by simpa using dir
  have enough : ¬ data.length < len / 4 := not_lt.mpr all
  simp only [State.dmaDone, State.dmaMove, run, ab, dir', on, enough, Bool.false_and, Bool.false_eq_true, if_false, and_false]

/-- The words of a range as the bytes that go to the host. -/
def State.dmaBytes (s : State) (a len : Nat) : List Byte := (s.mem.words a (len / 4)).flatMap (fun w => leBytes 4 w.toNat)

/-- From SRAM: the words there go to the host address, and RESULT is 0. -/
theorem State.dmaDone_out (dir : n ∈ s.dev.host.dmaToHost) (ecc : ∀ b ∈ s.dev.eccBad, b < a ∨ a + len ≤ b)
    (sh : bar2Region a = 3 → s.dev.boot.shadow = false) : s.dmaDone n .moved data =
      (s.upd (fun d => d.modHost (fun h => { h with dmaOut := d.dmaWrites (tget h.dmaHost n) (s.dmaBytes a len) }))).upd (Dev.dmaEnd n 0) := by
  have dir' : s.dev.host.dmaToHost.contains n = true := by simpa using dir
  have enough : ¬ data.length < len / 4 := not_lt.mpr all
  have good : s.dev.eccBad.any (fun b => decide (a ≤ b ∧ b < a + len)) = false := by
    rw [List.any_eq_false]
    intro b hb
    have := ecc b hb
    simp only [decide_eq_true_eq]
    omega
  have shown : ¬ (bar2Region a = 3 ∧ s.dev.boot.shadow = true) := fun ⟨r, t⟩ => by simp [sh r] at t
  simp only [State.dmaDone, State.dmaMove, State.hostWords, State.dmaBytes, run, ab, dir', on, enough, good, if_neg shown, Nat.min_eq_right all,
    Bool.true_and, Bool.false_and, Bool.false_eq_true, if_false, and_false, if_true]

end Moved

theorem dma_moved (s : State) (n : Fin 8) (data : List Word) (a len : Nat) : s.dev.dmaOf n = some (a, len) →
    s.dev.flag (F.SYS_DMA_CTL_ABORT n) = false → len / 4 ≤ data.length → s.dev.regionOff (bar2Region a) = false →
    (n.val ∉ s.dev.host.dmaToHost → leads (.dmaEnd n .moved data) s fun x => x.dev.get (F.SYS_DMA_STS_RESULT n) = 0 ∧
      x.dev.flag (F.SYS_DMA_STS_DONE_EVT n) = true ∧ x.dev.flag (F.SYS_DMA_STS_BUSY n) = false ∧ x.dev.dmaOf n = none ∧
      (∀ k < len / 4, x.mem.word (a + 4 * k) = data.getD k 0) ∧
      (∀ b, b < a ∨ a + 4 * (len / 4) ≤ b → tblGet sramReset x.mem b = tblGet sramReset s.mem b) ∧
      s.dev.sameRegs x.dev [R.SYS_DMA_CTL n, R.SYS_DMA_STS n] ∧ x.flash = s.flash ∧ x.otp = s.otp ∧ x.pending = s.pending) ∧
    (n.val ∈ s.dev.host.dmaToHost → (∀ b ∈ s.dev.eccBad, b < a ∨ a + len ≤ b) → (bar2Region a = 3 → s.dev.boot.shadow = false) → leads (.dmaEnd n .moved data) s fun x =>
      x.dev.get (F.SYS_DMA_STS_RESULT n) = 0 ∧ x.dev.flag (F.SYS_DMA_STS_DONE_EVT n) = true ∧
      x.dev.host.dmaOut = s.dev.dmaWrites (tget s.dev.host.dmaHost n) ((s.mem.words a (len / 4)).flatMap (fun w => leBytes 4 w.toNat)) ∧ s.sameMem x ∧ s.dev.sameRegs x.dev [R.SYS_DMA_CTL n, R.SYS_DMA_STS n]) := by
  intro run ab all on
  have out : answers (.dmaEnd n .moved data) s (s.dmaDone n .moved data) := rfl
  refine ⟨fun dir => ⟨_, out, ?_⟩, fun dir ecc sh => ⟨_, out, ?_⟩⟩
  · rw [State.dmaDone_in run ab all on dir]
    obtain ⟨result, busy, done, same⟩ := (s.putMems a (data.take (len / 4))).dev.dmaEnd_outcome n (code := 0) (by norm_num)
    have size : (data.take (len / 4)).length = len / 4 := by rw [List.length_take, Nat.min_eq_left all]
    refine ⟨result, done, busy, Dev.dmaEnd_dmaOf _ _ _, fun k hk => ?_, fun b hb => ?_, same, rfl, rfl, rfl⟩
    · have stored := Memory.word_putWords (data.take (len / 4)) s.mem a k (by rwa [size])
      rw [List.getElem_take] at stored
      rw [List.getD_eq_getElem _ _ (lt_of_lt_of_le hk all)]
      exact stored
    · exact Memory.putWords_get _ _ _ _ (by rwa [size])
  · rw [State.dmaDone_out run ab all on dir ecc sh]
    set d := s.dev.modHost (fun h => { h with dmaOut := s.dev.dmaWrites (tget h.dmaHost n) (s.dmaBytes a len) }) with hd
    obtain ⟨result, -, done, same⟩ := d.dmaEnd_outcome n (code := 0) (by norm_num)
    have sent := congrArg (fun h : HostSt => h.dmaOut) (d.dmaEnd_hostRest n 0)
    exact ⟨result, done, sent, ⟨rfl, rfl, rfl, rfl⟩, same⟩

/-- Settles O11: START and ABORT are told apart by whether the channel runs, and the end of a transfer by what ended it. -/
theorem dmaTransfers : Obligations.DmaTransfers := by
  unfold Obligations.DmaTransfers
  exact ⟨dma_startAbort, dma_idle, dma_moved, dma_errors⟩

end Sys2Proof.Machine
end

section
/-! Frames on the management SPI (03 R72 to R74). -/
namespace Sys2Proof.Machine

/-! A saturating counter, and the byte lists of a frame. -/

theorem Dev.cnt_get (d : Dev) {f : Fld} (h : f.ok) : (d.cnt f).get f = min (d.get f + 1) (2 ^ (f.hi + 1 - f.lo) - 1) := by
  have pos : 0 < 2 ^ (f.hi + 1 - f.lo) := by positivity
  rw [Dev.cnt, Dev.cntBy, Dev.get_put_same _ _ _ h]
  exact Nat.mod_eq_of_lt (by omega)

theorem Dev.cnt_sameRegs (d : Dev) (f : Fld) : d.sameRegs (d.cnt f) [f.reg] := fun _ ho => Dev.rd_put_ne d _ (List.ne_of_not_mem_cons ho)

theorem Dev.freeBytes_length (d : Dev) (n : Nat) : (d.freeBytes n).1.length = n := leBytes_length n _

theorem beBytes_length (n v : Nat) : (beBytes n v).length = n := by rw [beBytes, List.length_reverse, leBytes_length]

theorem beBytes_flatMap_length (ws : List Word) : (ws.flatMap (fun w => beBytes 4 w.toNat)).length = 4 * ws.length := by
  induction ws with
  | nil => rfl
  | cons w t ih => rw [List.flatMap_cons, List.length_append, beBytes_length, ih, List.length_cons]; omega

theorem Dev.mspiFetch_length (n : Nat) : ∀ (off : Nat) (d : Dev), (Dev.mspiFetch n off d).1.length = n := by
  induction n with
  | zero => exact fun _ _ => rfl
  | succ n ih => exact fun off d => congrArg (· + 1) (ih (off + 4) (d.regRead .mspi off 15).2)

/-- Four bytes are one word. -/
theorem beWords32_four {l : List Byte} (h : l.length = 4) : beWords32 l = [BitVec.ofNat 32 (beNat l)] := by
  obtain ⟨a, b, c, d, rfl⟩ := List.length_eq_four.mp h
  rfl

/-! A frame that is heard. -/

section Any
variable {s : State} {bs : List Byte}

theorem State.mspiAny_unheard (h : s.dev.answers = false ∨ bs = []) : s.mspiAny bs = s := by
  have shut : (!s.dev.answers || bs.isEmpty) = true := by rcases h with h | rfl <;> simp [*]
  rw [State.mspiAny, if_pos shut]

variable (ans : s.dev.answers = true) (ne : bs ≠ [])
include ans ne

theorem State.mspiAny_read (cmd : (bs.getD 0 0).toNat = 3) : s.mspiAny bs = s.upd (Dev.mspiRead bs) := by
  have go : ¬ (!s.dev.answers || bs.isEmpty) = true := by simp [ans, ne]
  rw [State.mspiAny, if_neg go, if_pos cmd]

theorem State.mspiAny_write (cmd : (bs.getD 0 0).toNat ≠ 3) : s.mspiAny bs = s.mspiWrite bs := by
  have go : ¬ (!s.dev.answers || bs.isEmpty) = true := by simp [ans, ne]
  rw [State.mspiAny, if_neg go, if_neg cmd]

end Any

/-- A frame begins, answered by the status byte and zeros. -/
def State.mspiHeard (bs : List Byte) (s : State) : State :=
  s.upd fun d => d.mspiNew.miso (BitVec.ofNat 8 s.dev.mspiStatus :: List.replicate (bs.length - 1) 0)

/-- The number of words that a frame names, its form, its CRC-8, and its address. -/
def mspiLen (bs : List Byte) : Nat := (bs.getD 5 0).toNat + 1
def mspiGood (bs : List Byte) : Prop := 6 ≤ bs.length ∧ mspiLen bs ≤ 16 ∧ bs.length = 7 + 4 * mspiLen bs
def mspiCrcOk (bs : List Byte) : Prop := crc8 (bs.take (bs.length - 1)) = (bs.getD (bs.length - 1) 0).toNat
def mspiOff (bs : List Byte) : Nat := beNat ((bs.drop 1).take 4)

theorem mspiGood_iff (bs : List Byte) :
    ¬ mspiGood bs ↔ bs.length < 6 ∨ 16 < (bs.getD 5 0).toNat + 1 ∨ bs.length ≠ 7 + 4 * ((bs.getD 5 0).toNat + 1) := by
  unfold mspiGood mspiLen
  omega

/-! The cases of a write frame. -/

section Frame
variable {s : State} {bs : List Byte}

/-- A frame with neither command: after the header free bytes go out. -/
theorem State.mspiWrite_other (cmd : (bs.getD 0 0).toNat ≠ 2) :
    ∃ d r, r.length = bs.length - 6 ∧ s.mspiWrite bs =
      s.upd (fun _ => Dev.miso ((BitVec.ofNat 8 s.dev.mspiStatus :: List.replicate (min 5 (bs.length - 1)) 0) ++ r) d) := by
  refine ⟨((s.mspiHeard bs).dev.freeBytes (bs.length - 6)).2.mspiBad, _, Dev.freeBytes_length (s.mspiHeard bs).dev (bs.length - 6), ?_⟩
  simp only [State.mspiWrite, if_pos cmd]
  rfl

variable (cmd : (bs.getD 0 0).toNat = 2)
include cmd

theorem State.mspiWrite_bad (form : ¬ mspiGood bs) : s.mspiWrite bs = (s.mspiHeard bs).upd Dev.mspiBad := by
  have cmd' : ¬ (bs.getD 0 0).toNat ≠ 2 := not_not.mpr cmd
  simp only [State.mspiWrite, if_neg cmd', if_pos ((mspiGood_iff bs).mp form)]
  rfl

variable (form : mspiGood bs)
include form

theorem State.mspiWrite_crcBad (crc : ¬ mspiCrcOk bs) : s.mspiWrite bs = (s.mspiHeard bs).upd Dev.mspiCrcBad := by
  have cmd' : ¬ (bs.getD 0 0).toNat ≠ 2 := not_not.mpr cmd
  have form' := mt (mspiGood_iff bs).mpr (not_not.mpr form)
  simp only [State.mspiWrite, if_neg cmd', if_neg form']
  exact if_pos crc

variable (crc : mspiCrcOk bs)
include crc

theorem State.mspiWrite_shut (shut : s.dev.host.granted = false) : s.mspiWrite bs = s.mspiHeard bs := by
  have cmd' : ¬ (bs.getD 0 0).toNat ≠ 2 := not_not.mpr cmd
  have form' := mt (mspiGood_iff bs).mpr (not_not.mpr form)
  have crc' : ¬ crc8 (bs.take (bs.length - 1)) ≠ (bs.getD (bs.length - 1) 0).toNat := not_not.mpr crc
  have shut' : (!(s.mspiHeard bs).dev.host.granted) = true := by
    rw [Bool.not_eq_true']
    exact shut
  simp only [State.mspiWrite, if_neg cmd', if_neg form', if_neg crc']
  exact if_pos shut'

theorem State.mspiWrite_good (granted : s.dev.host.granted = true) (addr : mspiAddrBad (mspiOff bs) = false) :
    s.mspiWrite bs = (s.mspiHeard bs).mspiCommit (mspiOff bs) (beWords32 ((bs.drop 6).take (4 * mspiLen bs))) := by
  have cmd' : ¬ (bs.getD 0 0).toNat ≠ 2 := not_not.mpr cmd
  have form' := mt (mspiGood_iff bs).mpr (not_not.mpr form)
  have crc' : ¬ crc8 (bs.take (bs.length - 1)) ≠ (bs.getD (bs.length - 1) 0).toNat := not_not.mpr crc
  have notShut : ¬ (!(s.mspiHeard bs).dev.host.granted) = true := by
    rw [Bool.not_eq_true', Bool.not_eq_false]
    exact granted
  simp only [State.mspiWrite, if_neg cmd', if_neg form', if_neg crc']
  exact (if_neg notShut).trans (if_neg (by simpa [mspiOff] using addr))

end Frame

/-- Where host access is not granted a frame counts no error. -/
theorem Dev.mspiBad_shut {d : Dev} (h : d.host.granted = false) : d.mspiBad = d ∧ d.mspiCrcBad = d := by
  have no : ¬ d.host.granted = true := by simp [h]
  exact ⟨if_neg no, if_neg no⟩

/-- A write frame without the grant is answered and does nothing. -/
theorem State.mspiWrite_ungranted {s : State} {bs : List Byte} (cmd : (bs.getD 0 0).toNat = 2) (h : s.dev.host.granted = false) :
    s.mspiWrite bs = s.mspiHeard bs := by
  obtain ⟨bad, crcBad⟩ := Dev.mspiBad_shut (d := (s.mspiHeard bs).dev) h
  by_cases form : mspiGood bs
  · by_cases crc : mspiCrcOk bs
    · exact State.mspiWrite_shut cmd form crc h
    · rw [State.mspiWrite_crcBad cmd form crc, State.upd, crcBad]
  · rw [State.mspiWrite_bad cmd form, State.upd, bad]

/-! The cases of a read frame. -/

/-- The data bytes of a read frame; those of a bad address are free. -/
def Dev.mspiData (L off : Nat) (d : Dev) : List Byte × Dev :=
  if d.host.granted && mspiAddrBad off then (d.logErr 0x10 false 6 1 false off).freeBytes (4 * L)
  else ((Dev.mspiFetch L off d).1.flatMap (fun w => beBytes 4 w.toNat), (Dev.mspiFetch L off d).2)

theorem Dev.mspiData_length (d : Dev) (L off : Nat) : (d.mspiData L off).1.length = 4 * L := by
  unfold Dev.mspiData
  split
  · exact Dev.freeBytes_length _ _
  · rw [beBytes_flatMap_length, Dev.mspiFetch_length]

/-- The bytes of a read frame's answer up to the CRC-8 of its data. -/
def mspiAnswer (st : Byte) (data : List Byte) : List Byte := (st :: List.replicate 5 0) ++ [0, 0] ++ data ++ [BitVec.ofNat 8 (crc8 data)]

theorem mspiAnswer_length (st : Byte) (data : List Byte) : (mspiAnswer st data).length = 9 + data.length := by
  simp only [mspiAnswer, List.length_append, List.length_cons, List.length_replicate, List.length_nil]
  omega

section Read
variable {d : Dev} {bs : List Byte}

theorem Dev.mspiRead_short (h : bs.length < 6) :
    d.mspiRead bs = d.mspiNew.miso ((BitVec.ofNat 8 d.mspiStatus :: List.replicate 5 0).take bs.length) := by
  simp only [Dev.mspiRead, if_pos h]

theorem Dev.mspiRead_long (h : ¬ bs.length < 6) (k : 16 < mspiLen bs) : d.mspiRead bs =
    d.mspiNew.mspiBad.miso ((BitVec.ofNat 8 d.mspiStatus :: List.replicate 5 0) ++ List.replicate (bs.length - 6) 0xFF) := by
  have k' : 16 < (bs.getD 5 0).toNat + 1 := k
  simp only [Dev.mspiRead, if_neg h, if_pos k']

/-- A read frame with a length that exists is answered by its data; cut short, it has no other effect. -/
theorem Dev.mspiRead_data (h : ¬ bs.length < 6) (k : ¬ 16 < mspiLen bs) :
    let r := d.mspiNew.mspiData (mspiLen bs) (mspiOff bs)
    let f := r.2.freeBytes (bs.length - (9 + 4 * mspiLen bs))
    let out := (mspiAnswer (BitVec.ofNat 8 d.mspiStatus) r.1 ++ f.1).take bs.length
    d.mspiRead bs = if decide (bs.length < 9 + 4 * mspiLen bs) then d.mspiNew.miso out else f.2.miso out :=
  (if_neg h).trans (if_neg k)

end Read

theorem Dev.miso_bytes (d : Dev) (bs : List Byte) : (d.miso bs).host.miso = bs := (rfl)

/-- The bytes of an answer: as many as the frame's, the status byte first. -/
def Dev.answered (d : Dev) (st : Byte) (n : Nat) : Prop := d.host.miso.length = n ∧ d.host.miso.head? = some st

theorem Dev.mspiRead_answered (d : Dev) {bs : List Byte} (ne : 0 < bs.length) :
    (d.mspiRead bs).answered (BitVec.ofNat 8 d.mspiStatus) bs.length := by
  unfold Dev.answered
  by_cases short : bs.length < 6
  · rw [Dev.mspiRead_short short, Dev.miso_bytes]
    refine ⟨?_, by simp [List.head?_take, ne.ne']⟩
    simp only [List.length_take, List.length_cons, List.length_replicate]
    omega
  · by_cases long : 16 < mspiLen bs
    · rw [Dev.mspiRead_long short long, Dev.miso_bytes]
      refine ⟨?_, rfl⟩
      simp only [List.length_append, List.length_cons, List.length_replicate]
      omega
    · have size := d.mspiNew.mspiData_length (mspiLen bs) (mspiOff bs)
      have rest := (d.mspiNew.mspiData (mspiLen bs) (mspiOff bs)).2.freeBytes_length (bs.length - (9 + 4 * mspiLen bs))
      have bytes : (d.mspiRead bs).host.miso = (mspiAnswer (BitVec.ofNat 8 d.mspiStatus) (d.mspiNew.mspiData (mspiLen bs) (mspiOff bs)).1 ++
          ((d.mspiNew.mspiData (mspiLen bs) (mspiOff bs)).2.freeBytes (bs.length - (9 + 4 * mspiLen bs))).1).take bs.length := by
        rw [Dev.mspiRead_data short long]
        split <;> rfl
      rw [bytes]
      refine ⟨?_, by simp [List.head?_take, ne.ne', mspiAnswer]⟩
      rw [List.length_take, List.length_append, mspiAnswer_length, size, rest]
      omega

theorem State.mspiHeard_answered (s : State) {bs : List Byte} (ne : 0 < bs.length) :
    (s.mspiHeard bs).dev.answered (BitVec.ofNat 8 s.dev.mspiStatus) bs.length := by
  refine ⟨?_, rfl⟩
  show (BitVec.ofNat 8 s.dev.mspiStatus :: List.replicate (bs.length - 1) 0).length = _
  rw [List.length_cons, List.length_replicate]
  omega

/-- Every frame that is heard and is no write frame, or comes before the grant, is answered byte for byte. -/
theorem State.mspiAny_answered {s : State} {bs : List Byte} (ans : s.dev.answers = true) (ne : bs ≠ [])
    (h : (bs.getD 0 0).toNat ≠ 2 ∨ s.dev.host.granted = false) :
    (s.mspiAny bs).dev.answered (BitVec.ofNat 8 s.dev.mspiStatus) bs.length := by
  have pos : 0 < bs.length := List.length_pos_iff.mpr ne
  by_cases read : (bs.getD 0 0).toNat = 3
  · rw [State.mspiAny_read ans ne read]
    exact s.dev.mspiRead_answered pos
  · rw [State.mspiAny_write ans ne read]
    by_cases write : (bs.getD 0 0).toNat = 2
    · rw [State.mspiWrite_ungranted write (h.resolve_left (not_not.mpr write))]
      exact s.mspiHeard_answered pos
    · obtain ⟨d, r, size, e⟩ := State.mspiWrite_other (s := s) write
      rw [e]
      refine ⟨?_, rfl⟩
      rw [State.upd, Dev.miso_bytes, List.length_append, List.length_cons, List.length_replicate, size]
      omega

/-! The statement's parts. -/

theorem mspi_answered (s : State) (bs : List Byte) : ∀ c ∈ ([.mspiWriteFrame bs, .mspiReadFrame bs] : List Instr),
    ((s.dev.answers = false ∨ bs = []) → answers c s s) ∧
    (s.dev.answers = true → bs ≠ [] → ((bs.getD 0 0).toNat ≠ 2 ∨ s.dev.host.granted = false) → leads c s fun x =>
      x.dev.host.miso.length = bs.length ∧ x.dev.host.miso.head? = some (BitVec.ofNat 8 s.dev.mspiStatus)) := by
  intro c hc
  have out : answers c s (s.mspiAny bs) := by
    simp only [List.mem_cons, List.not_mem_nil, or_false] at hc
    rcases hc with rfl | rfl <;> rfl
  refine ⟨fun unheard => ?_, fun ans ne other => ⟨_, out, State.mspiAny_answered ans ne other⟩⟩
  rwa [State.mspiAny_unheard unheard] at out

/-- A framing error is counted and reported in the next frame, and so is a bad CRC-8. -/
theorem Dev.mspiBad_outcome {d : Dev} (h : d.host.granted = true) : d.sameRegs d.mspiBad [R.SYS_MSPI_ERR] ∧ d.mspiBad.host.mspiFrame = true ∧
    d.mspiBad.get F.SYS_MSPI_ERR_FRAME_ERR = min (d.get F.SYS_MSPI_ERR_FRAME_ERR + 1) (2 ^ 16 - 1) := by
  rw [Dev.mspiBad, if_pos h]
  exact ⟨d.cnt_sameRegs F.SYS_MSPI_ERR_FRAME_ERR, rfl, d.cnt_get (f := F.SYS_MSPI_ERR_FRAME_ERR) ⟨by decide, by decide⟩⟩

theorem Dev.mspiCrcBad_outcome {d : Dev} (h : d.host.granted = true) : d.sameRegs d.mspiCrcBad [R.SYS_MSPI_ERR] ∧
    d.mspiCrcBad.host.mspiCrc = true ∧
    d.mspiCrcBad.get F.SYS_MSPI_ERR_CRC_ERR = min (d.get F.SYS_MSPI_ERR_CRC_ERR + 1) (2 ^ 16 - 1) := by
  rw [Dev.mspiCrcBad, if_pos h]
  exact ⟨d.cnt_sameRegs F.SYS_MSPI_ERR_CRC_ERR, rfl, d.cnt_get (f := F.SYS_MSPI_ERR_CRC_ERR) ⟨by decide, by decide⟩⟩

theorem mspiAddrBad_of_reaches {d : Dev} {p : Port} {o : Nat} (h : d.reaches p o) : mspiAddrBad o = false := by
  obtain ⟨-, aligned, lt, -, -⟩ := h
  have inside : decide (2 ^ 26 ≤ o) = false := decide_eq_false (by omega)
  simp only [mspiAddrBad, aligned, inside, bne_self_eq_false, Bool.or_self]

/-- A good frame of one word commits that word. -/
theorem State.mspiWrite_one {s : State} {bs : List Byte} (cmd : (bs.getD 0 0).toNat = 2) (form : mspiGood bs) (crc : mspiCrcOk bs)
    (granted : s.dev.host.granted = true) (addr : mspiAddrBad (mspiOff bs) = false) (one : mspiLen bs = 1) :
    s.mspiWrite bs = (s.mspiHeard bs).regWrite .mspi 0 (mspiOff bs) 15 (BitVec.ofNat 32 (beNat ((bs.drop 6).take 4))) := by
  obtain ⟨-, -, size⟩ := form
  have four : ((bs.drop 6).take 4).length = 4 := by
    rw [List.length_take, List.length_drop]
    omega
  rw [State.mspiWrite_good cmd ⟨by omega, by omega, size⟩ crc granted addr, one, Nat.mul_one, beWords32_four four]
  rfl

theorem mspi_writeFrame (s : State) (bs : List Byte) : let L := (bs.getD 5 0).toNat + 1
    let good := 6 ≤ bs.length ∧ L ≤ 16 ∧ bs.length = 7 + 4 * L
    let crcOk := crc8 (bs.take (bs.length - 1)) = (bs.getD (bs.length - 1) 0).toNat
    s.dev.answers = true → s.dev.host.granted = true → bs ≠ [] → (bs.getD 0 0).toNat = 2 →
    (¬ good → leads (.mspiWriteFrame bs) s fun x => s.dev.sameRegs x.dev [R.SYS_MSPI_ERR] ∧ s.sameMem x ∧ x.dev.host.mspiFrame = true ∧
      x.dev.get F.SYS_MSPI_ERR_FRAME_ERR = min (s.dev.get F.SYS_MSPI_ERR_FRAME_ERR + 1) (2 ^ 16 - 1)) ∧
    (good → ¬ crcOk → leads (.mspiWriteFrame bs) s fun x => s.dev.sameRegs x.dev [R.SYS_MSPI_ERR] ∧ s.sameMem x ∧ x.dev.host.mspiCrc = true ∧
      x.dev.get F.SYS_MSPI_ERR_CRC_ERR = min (s.dev.get F.SYS_MSPI_ERR_CRC_ERR + 1) (2 ^ 16 - 1)) ∧
    (good → crcOk → mspiAddrBad (beNat ((bs.drop 1).take 4)) = false → answers (.mspiWriteFrame bs) s
      (State.mspiCommit (beNat ((bs.drop 1).take 4)) (beWords32 ((bs.drop 6).take (4 * L)))
        (s.upd fun d => d.mspiNew.miso (BitVec.ofNat 8 s.dev.mspiStatus :: List.replicate (bs.length - 1) 0)))) ∧
    (∀ r, good → crcOk → L = 1 → let o := beNat ((bs.drop 1).take 4)
      s.dev.takes .mspi o → s.dev.guardOf .mspi = none → plainReg .mspi o r → r.rc = 0 → leads (.mspiWriteFrame bs) s fun x =>
        x.dev.rd o = r.stored (s.dev.rd o) (BitVec.ofNat 32 (beNat ((bs.drop 6).take 4))) ∧ s.dev.sameRegs x.dev [o] ∧ s.sameMem x) := by
  intro L good crcOk ans granted ne cmd
  have out : answers (.mspiWriteFrame bs) s (s.mspiAny bs) := rfl
  rw [State.mspiAny_write ans ne (by omega)] at out
  have granted' : (s.mspiHeard bs).dev.host.granted = true := granted
  refine ⟨fun form => ⟨_, out, ?_⟩, fun form crc => ⟨_, out, ?_⟩, fun form crc addr => ?_, ?_⟩
  · obtain ⟨same, frame, count⟩ := Dev.mspiBad_outcome granted'
    rw [State.mspiWrite_bad cmd form]
    exact ⟨same, ⟨rfl, rfl, rfl, rfl⟩, frame, count⟩
  · obtain ⟨same, frame, count⟩ := Dev.mspiCrcBad_outcome granted'
    rw [State.mspiWrite_crcBad cmd form crc]
    exact ⟨same, ⟨rfl, rfl, rfl, rfl⟩, frame, count⟩
  · rwa [State.mspiWrite_good cmd form crc granted addr] at out
  · intro r form crc one o t g plain rc
    refine ⟨_, out, ?_⟩
    rw [State.mspiWrite_one cmd form crc granted (mspiAddrBad_of_reaches t.1) one]
    have t' : (s.mspiHeard bs).dev.takes .mspi o := t
    obtain ⟨u, b, l, e⟩ := State.regWrite_plain (node := 0) (w := BitVec.ofNat 32 (beNat ((bs.drop 6).take 4))) t' g plain rc
    rw [show mspiOff bs = o from rfl, e]
    exact ⟨Dev.rd_wr_same _ _ _, fun a ha => Dev.rd_wr_ne ((s.mspiHeard bs).dev.entered u b l) _ (List.ne_of_not_mem_cons ha),
      rfl, rfl, rfl, rfl⟩

theorem Dev.mspiData_fetched {d : Dev} {L off : Nat} (addr : mspiAddrBad off = false) :
    d.mspiData L off = ((Dev.mspiFetch L off d).1.flatMap (fun w => beBytes 4 w.toNat), (Dev.mspiFetch L off d).2) :=
  if_neg (by simp [addr])

theorem mspi_readFrame (s : State) (bs : List Byte) : let L := (bs.getD 5 0).toNat + 1
    let off := beNat ((bs.drop 1).take 4)
    let got := Dev.mspiFetch L off s.dev.mspiNew
    s.dev.answers = true → s.dev.host.granted = true → (bs.getD 0 0).toNat = 3 → L ≤ 16 → 9 + 4 * L ≤ bs.length → mspiAddrBad off = false →
      leads (.mspiReadFrame bs) s fun x => let data := got.1.flatMap (fun w => beBytes 4 w.toNat)
        x.dev.host.miso.take (9 + 4 * L) =
          BitVec.ofNat 8 s.dev.mspiStatus :: (List.replicate 7 0 ++ data ++ [BitVec.ofNat 8 (crc8 data)]) ∧
        x.dev.regs = got.2.regs ∧ s.sameMem x := by
  intro L off got ans _ cmd len full addr
  have out : answers (.mspiReadFrame bs) s (s.mspiAny bs) := rfl
  have ne : bs ≠ [] := fun e => by simp [e] at full
  rw [State.mspiAny_read ans ne cmd] at out
  refine ⟨_, out, ?_⟩
  have whole : ¬ decide (bs.length < 9 + 4 * mspiLen bs) = true := by
    rw [decide_eq_true_eq]
    exact not_lt.mpr full
  have size : (mspiAnswer (BitVec.ofNat 8 s.dev.mspiStatus) (got.1.flatMap (fun w => beBytes 4 w.toNat))).length = 9 + 4 * L := by
    rw [mspiAnswer_length, beBytes_flatMap_length, Dev.mspiFetch_length]
  rw [State.upd, Dev.mspiRead_data (by omega) (not_lt.mpr len), if_neg whole, Dev.mspiData_fetched (off := mspiOff bs) addr]
  refine ⟨?_, rfl, rfl, rfl, rfl, rfl⟩
  rw [Dev.miso_bytes, List.take_take, Nat.min_eq_left full]
  exact List.take_left' size

/-- Settles O10: a frame's command, form, CRC-8 and address decide in this order, and a read frame's answer is its data between the
header and their CRC-8. -/
theorem mspiFrames : Obligations.MspiFrames := by
  unfold Obligations.MspiFrames
  exact ⟨mspi_answered, mspi_writeFrame, mspi_readFrame⟩

end Sys2Proof.Machine
end

section
/-! What sending a frame of this node leaves (05 R125, R127, R130; 06 R151). -/
namespace Sys2Proof.Machine

/-- Of d and e: LINK and the report apart, every register is the same, and so is the host's part but for MSI-X. -/
def Dev.sent (d e : Dev) : Prop := e.hostRest = d.hostRest ∧ ∀ o, o / 0x100000 ≠ 3 → o ≠ R.SYS_FAULT_EVT → e.rd o = d.rd o

theorem Dev.sent_refl (d : Dev) : d.sent d := ⟨rfl, fun _ _ _ => rfl⟩

theorem Dev.sent_trans {a b c : Dev} (h : a.sent b) (k : b.sent c) : a.sent c :=
  ⟨k.1.trans h.1, fun o link evt => (k.2 o link evt).trans (h.2 o link evt)⟩

theorem Dev.sent_modPort (d : Dev) (p : Nat) (f : PortSt → PortSt) : d.sent (d.modPort p f) := ⟨rfl, fun _ _ _ => rfl⟩

/-- A field of LINK is put. -/
theorem Dev.sent_put (d : Dev) {f : Fld} (v : Nat) (h : f.reg / 0x100000 = 3) : d.sent (d.put f v) :=
  ⟨d.hostRest_put f v, fun _ link _ => Dev.rd_put_ne d v (fun e => link (e ▸ h))⟩

theorem Dev.sent_up (d : Dev) {f : Fld} (b : Bool) (h : f.reg / 0x100000 = 3) : d.sent (d.up f b) := d.sent_put _ h

theorem Dev.sent_upIf (d : Dev) (c b : Bool) {f : Fld} (h : f.reg / 0x100000 = 3) : d.sent (if c then d.up f b else d) := by
  split
  · exact d.sent_up b h
  · exact d.sent_refl

/-- An event of LINK is raised and reported. -/
theorem Dev.sent_event0 (d : Dev) {f : Fld} (h : f.reg / 0x100000 = 3) : d.sent (d.event0 f) :=
  ⟨d.hostRest_event0 f, fun _ link evt => d.event0_rd_ne (fun e => link (e ▸ h)) evt⟩

/-- The registers of a port lie in LINK. -/
theorem linkPort_block {p : Nat} (h : p < 8) : R.LINK_PORT_CTL p / 0x100000 = 3 ∧ R.LINK_PORT_EVT p / 0x100000 = 3 ∧
    R.LINK_PORT_CNT2 p / 0x100000 = 3 := by
  simp only [R.LINK_PORT_CTL, R.LINK_PORT_EVT, R.LINK_PORT_CNT2]
  omega

/-- Where the transmitters are on, a frame goes out as the line's symbols, and INJ_CRC is taken. -/
theorem Dev.letOut_cases (d : Dev) (p : Nat) (it : EgrItem) (t : Nat) : d.letOut p it t = d ∨ ∃ (c : Bool) (f : Frame) (g : PortSt → PortSt),
    d.letOut p it t = ((if c then d.up (F.LINK_PORT_CTL_INJ_CRC p) false else d).lineSend p f).modPort p g := by
  unfold Dev.letOut
  split
  · exact Or.inl rfl
  · exact Or.inr ⟨it.own && d.flag (F.LINK_PORT_CTL_INJ_CRC p), _, _, rfl⟩

section Port
variable {p : Nat} (hp : p < 8) (d : Dev)
include hp

theorem Dev.sent_lineSend (f : Frame) : d.sent (d.lineSend p f) :=
  Dev.sent_trans (d.sent_upIf (d.flag (F.LINK_PORT_CTL_INJ_CODE p)) false (f := F.LINK_PORT_CTL_INJ_CODE p) (linkPort_block hp).1)
    (Dev.sent_modPort _ _ _)

theorem Dev.sent_letOut (it : EgrItem) (t : Nat) : d.sent (d.letOut p it t) := by
  rcases d.letOut_cases p it t with e | ⟨c, f, g, e⟩ <;> rw [e]
  · exact d.sent_refl
  · exact Dev.sent_trans (d.sent_upIf c false (f := F.LINK_PORT_CTL_INJ_CRC p) (linkPort_block hp).1)
      (Dev.sent_trans (Dev.sent_lineSend hp _ f) (Dev.sent_modPort _ _ _))

theorem Dev.sent_egrDrop : d.sent (d.egrDrop p) := by
  obtain ⟨-, evt, cnt⟩ := linkPort_block hp
  exact Dev.sent_trans (d.sent_put (f := F.LINK_PORT_CNT2_EGR_DROP p) _ cnt) (Dev.sent_event0 (f := F.LINK_PORT_EVT_DROP_EVT p) _ evt)

theorem Dev.sent_egressWait (it : EgrItem) : d.sent (d.egressWait p it) := by
  unfold Dev.egressWait
  split
  · exact d.sent_modPort _ _
  · refine Dev.sent_trans ?_ (Dev.sent_egrDrop hp _)
    split
    · exact d.sent_modPort _ _
    · exact d.sent_refl

theorem Dev.sent_egressAt (it : EgrItem) (t : Nat) : d.sent (d.egressAt p it t) := by
  simp only [Dev.egressAt]
  split
  · exact Dev.sent_letOut hp d it t
  · split
    · exact Dev.sent_trans (d.sent_upIf _ true (f := F.LINK_PORT_CTL_INJ_CRC p) (linkPort_block hp).1)
        (Dev.sent_trans (Dev.sent_letOut hp _ it _) (Dev.sent_egressWait hp _ _))
    · exact Dev.sent_egressWait hp d it

theorem Dev.sent_sendNow (f : Frame) : d.sent (d.sendNow p f) := by
  unfold Dev.sendNow
  split
  · exact Dev.sent_egressAt hp d _ _
  · exact d.sent_refl

end Port

/-- A frame leaves on ports that exist. -/
theorem Dev.ownPorts_lt (d : Dev) (f : Frame) : ∀ p ∈ d.ownPorts f, p < 8 := by
  intro p hp
  unfold Dev.ownPorts at hp
  split at hp
  · dsimp only at hp
    split at hp
    · rwa [List.mem_singleton.mp hp]
    · simp at hp
  · dsimp only at hp
    split at hp
    · rwa [List.mem_singleton.mp hp]
    · simp at hp
  · exact onesBelow_lt hp
  · simp at hp

theorem Dev.sent_sendBody (d : Dev) (typ dst stream : Nat) (body : List Word) : d.sent (d.sendBody typ dst stream body) := by
  unfold Dev.sendBody
  split
  · exact ⟨rfl, fun _ _ _ => rfl⟩
  · exact foldl_rel_mem Dev.sent Dev.sent_refl Dev.sent_trans _ _ (fun p hp d => Dev.sent_sendNow (Dev.ownPorts_lt _ _ p hp) d _) d

end Sys2Proof.Machine
end

section
/-! The tunnel: its requester (03 R90, R92) and its port (R91). -/
namespace Sys2Proof.Machine

/-! The end of a request. -/

theorem tunSts_fields : statusFields F.SYS_TUN_STS_RESULT F.SYS_TUN_STS_BUSY F.SYS_TUN_STS_DONE_EVT := by
  simp [statusFields, Fld.evt, F.SYS_TUN_STS_RESULT, F.SYS_TUN_STS_BUSY, F.SYS_TUN_STS_DONE_EVT]

/-- The device before the event that ends a request is raised. -/
def Dev.tunClose (code : Nat) (d : Dev) : Dev :=
  (((d.put F.SYS_TUN_STS_RESULT code).up F.SYS_TUN_STS_BUSY false).up F.SYS_TUN_CMD_START false).modHost (fun h => { h with tunReq := none })

theorem Dev.tunEnd_eq (d : Dev) (code : Nat) : d.tunEnd code = (d.tunClose code).raise F.SYS_TUN_STS_DONE_EVT := (rfl)

theorem Dev.tunClose_rd (d : Dev) (code : Nat) {o : Nat} (h : o ≠ R.SYS_TUN_CMD) :
    (d.tunClose code).rd o = ((d.put F.SYS_TUN_STS_RESULT code).up F.SYS_TUN_STS_BUSY false).rd o := by
  rw [Dev.tunClose, Dev.modHost_rd]
  exact Dev.rd_put_ne _ _ h

theorem Dev.tunEnd_sameRegs (d : Dev) (code : Nat) : d.sameRegs (d.tunEnd code) [R.SYS_TUN_STS, R.SYS_TUN_CMD] := by
  intro o ho
  simp only [List.mem_cons, List.not_mem_nil, or_false, not_or] at ho
  obtain ⟨sts, cmd⟩ := ho
  rw [Dev.tunEnd_eq, Dev.raise_rd_ne _ sts, Dev.tunClose_rd _ _ cmd, Dev.up, Dev.rd_put_ne _ _ sts, Dev.rd_put_ne _ _ sts]

theorem Dev.tunEnd_tunReq (d : Dev) (code : Nat) : (d.tunEnd code).host.tunReq = none := by
  have req := congrArg (fun h : HostSt => h.tunReq) (Dev.hostRest_raise (d.tunClose code) F.SYS_TUN_STS_DONE_EVT)
  exact req

/-- A request that has ended: RESULT says why, BUSY is clear, DONE_EVT is set and FAIL is as before. -/
theorem Dev.tunEnd_outcome (d : Dev) {code : Nat} (h : code < 256) : (d.tunEnd code).get F.SYS_TUN_STS_RESULT = code ∧
    (d.tunEnd code).flag F.SYS_TUN_STS_BUSY = false ∧ (d.tunEnd code).flag F.SYS_TUN_STS_DONE_EVT = true ∧
    (d.tunEnd code).get F.SYS_TUN_STS_FAIL = d.get F.SYS_TUN_STS_FAIL := by
  obtain ⟨result, busy, done⟩ := Dev.raise_ended tunSts_fields (d.tunClose_rd code (by decide)) h
  refine ⟨result, busy, done, ?_⟩
  rw [Dev.tunEnd_eq, Dev.raise_get_apart _ F.SYS_TUN_STS_DONE_EVT F.SYS_TUN_STS_FAIL ⟨by decide, by decide⟩ rfl (Or.inl (by decide)) (by decide),
    Dev.get_of_rd (d.tunClose_rd code (by decide)), Dev.up,
    Dev.get_put_apart _ F.SYS_TUN_STS_BUSY F.SYS_TUN_STS_FAIL _ ⟨by decide, by decide⟩ rfl (Or.inl (by decide)),
    Dev.get_put_apart _ F.SYS_TUN_STS_RESULT F.SYS_TUN_STS_FAIL _ ⟨by decide, by decide⟩ rfl (Or.inr (by decide))]

/-! START and the time limit. -/

/-- The device whose request (to a node, with an operation and a number of words) is outstanding since at. -/
def Dev.tunAsked (dst op n at' : Nat) (d : Dev) : Dev :=
  ((d.up F.SYS_TUN_CMD_START true).up F.SYS_TUN_STS_BUSY true).modHost
    (fun h => { h with tunReq := some (dst, d.host.tunTag, op, n), tunAt := at' })

section Start
variable {d : Dev}

theorem Dev.tunStart_busy (h : d.flag F.SYS_TUN_STS_BUSY = true) : d.tunStart = d := if_pos h

variable (free : d.flag F.SYS_TUN_STS_BUSY = false)
include free

theorem Dev.tunStart_noRoute (h : d.tunRoute (d.get F.SYS_TUN_CTL_DST) = false) : d.tunStart = d.tunEnd 0x10 := by
  simp only [Dev.tunStart, free, h, Bool.false_eq_true, if_false, Bool.not_false, if_true]

/-- The request is noted, its frame leaves, and the next TAG is one on. -/
theorem Dev.tunStart_route (h : d.tunRoute (d.get F.SYS_TUN_CTL_DST) = true) : ∃ at' body, d.tunStart =
    ((d.tunAsked (d.get F.SYS_TUN_CTL_DST) (d.get F.SYS_TUN_CTL_OP) (min 59 (d.get F.SYS_TUN_CTL_LM1) + 1) at').sendBody 8
      (d.get F.SYS_TUN_CTL_DST) 0 body).modHost (fun h => { h with tunTag := (h.tunTag + 1) % 256 }) := by
  simp only [Dev.tunStart, free, h, Bool.false_eq_true, if_false, Bool.not_true]
  exact ⟨_, _, rfl⟩

end Start

theorem Dev.tunAsked_busy (d : Dev) (dst op n at' : Nat) : (d.tunAsked dst op n at').flag F.SYS_TUN_STS_BUSY = true :=
  Dev.flag_up_same _ F.SYS_TUN_STS_BUSY true rfl (by decide)

theorem Dev.tick_frame (d : Dev) (k : Nat) : ∃ t l, d.tick k = { d with time := t, host := { d.host with msgs := l } } := by
  unfold Dev.tick
  split
  · exact ⟨d.time, d.host.msgs, rfl⟩
  · exact ⟨_, _, rfl⟩

/-- Letting TIME run changes no register. -/
theorem Dev.runUp_regs (d : Dev) (t : Nat) : (d.runUp t).regs = d.regs := by
  unfold Dev.runUp Dev.runTo
  split
  · rfl
  · obtain ⟨t, l, e⟩ := d.tick_frame ((2 ^ 32 * (((2 ^ 32 * (t : Int) - d.time.stepped) + (2 ^ 32 - 1)) / 2 ^ 32).toNat - d.time.now + d.tickInc - 1) / d.tickInc)
    rw [e]

theorem tunnel_start (s : State) : let d := s.dev
    let dst := d.get F.SYS_TUN_CTL_DST
    (d.flag F.SYS_TUN_STS_BUSY = true → answers .tunnelStart s s) ∧
    (d.flag F.SYS_TUN_STS_BUSY = false → d.tunRoute dst = false → leads .tunnelStart s fun x => x.dev.get F.SYS_TUN_STS_RESULT = 0x10 ∧
      x.dev.flag F.SYS_TUN_STS_DONE_EVT = true ∧ x.dev.host.tunReq = none ∧ d.sameRegs x.dev [R.SYS_TUN_STS, R.SYS_TUN_CMD] ∧ s.sameMem x) ∧
    (d.flag F.SYS_TUN_STS_BUSY = false → d.tunRoute dst = true → leads .tunnelStart s fun x =>
      x.dev.flag F.SYS_TUN_STS_BUSY = true ∧ x.dev.host.tunTag = (d.host.tunTag + 1) % 256 ∧
      x.dev.host.tunReq = some (dst, d.host.tunTag, d.get F.SYS_TUN_CTL_OP, min 59 (d.get F.SYS_TUN_CTL_LM1) + 1) ∧ s.sameMem x) ∧
    (d.host.tunReq = none → answers .tunnelTimeout s s) ∧
    (d.host.tunReq ≠ none → leads .tunnelTimeout s fun x => x.dev.get F.SYS_TUN_STS_RESULT = 0x11 ∧ x.dev.host.tunReq = none ∧
      x.dev.flag F.SYS_TUN_STS_BUSY = false ∧ x.dev.flag F.SYS_TUN_STS_DONE_EVT = true ∧
      d.sameRegs x.dev [R.SYS_TUN_STS, R.SYS_TUN_CMD] ∧ s.sameMem x) := by
  intro d dst
  have start : answers .tunnelStart s (s.upd Dev.tunStart) := rfl
  have late : answers .tunnelTimeout s (s.upd Dev.tunTimeout) := rfl
  refine ⟨fun busy => ?_, fun free route => ⟨_, start, ?_⟩, fun free route => ⟨_, start, ?_⟩, fun none => ?_, fun some => ⟨_, late, ?_⟩⟩
  · rwa [State.upd, Dev.tunStart_busy busy] at start
  · rw [State.upd, Dev.tunStart_noRoute free route]
    obtain ⟨result, -, done, -⟩ := s.dev.tunEnd_outcome (code := 0x10) (by norm_num)
    exact ⟨result, done, s.dev.tunEnd_tunReq 0x10, s.dev.tunEnd_sameRegs 0x10, rfl, rfl, rfl, rfl⟩
  · obtain ⟨at', body, e⟩ := Dev.tunStart_route free route
    rw [State.upd, e]
    obtain ⟨host, regs⟩ := (s.dev.tunAsked (s.dev.get F.SYS_TUN_CTL_DST) (s.dev.get F.SYS_TUN_CTL_OP)
      (min 59 (s.dev.get F.SYS_TUN_CTL_LM1) + 1) at').sent_sendBody 8 (s.dev.get F.SYS_TUN_CTL_DST) 0 body
    have tag := congrArg (fun h : HostSt => h.tunTag) host
    have req := congrArg (fun h : HostSt => h.tunReq) host
    refine ⟨?_, congrArg (fun n => (n + 1) % 256) tag, req, rfl, rfl, rfl, rfl⟩
    rw [Dev.modHost_flag, Dev.flag_of_rd (regs _ (by decide) (by decide))]
    exact Dev.tunAsked_busy _ _ _ _ _
  · have same : s.dev.tunTimeout = s.dev := if_pos (by rw [none]; rfl)
    rwa [State.upd, same] at late
  · have ended : ∃ t, s.dev.tunTimeout = (s.dev.runUp t).tunEnd 0x11 :=
      ⟨_, if_neg (fun none => some (Option.isNone_iff_eq_none.mp none))⟩
    obtain ⟨t, e⟩ := ended
    rw [State.upd, e]
    obtain ⟨result, busy, done, -⟩ := (s.dev.runUp t).tunEnd_outcome (code := 0x11) (by norm_num)
    exact ⟨result, (s.dev.runUp t).tunEnd_tunReq 0x11, busy, done,
      fun o ho => ((s.dev.runUp t).tunEnd_sameRegs 0x11 o ho).trans (Dev.rd_of_regs (s.dev.runUp_regs t) o), rfl, rfl, rfl, rfl⟩

/-! The response (R92). -/

/-- One data word of a response is stored; a word the frame does not carry is free. -/
def Dev.tunDatum (body : List Word) (i : Nat) (d : Dev) : Dev :=
  match body[3 + i]? with
  | some w => d.wr (R.SYS_TUN_DATA i) w
  | none => d.drawW.2.wr (R.SYS_TUN_DATA i) (BitVec.ofNat 32 d.drawW.1)

theorem Dev.tunData_succ (body : List Word) (n : Nat) (d : Dev) :
    d.tunData body (n + 1) = (d.tunData body n).tunDatum body n := by
  rw [Dev.tunData, Dev.each, List.range_succ, List.foldl_append]
  rfl

theorem Dev.tunDatum_rd_ne (d : Dev) (body : List Word) (i : Nat) {o : Nat} (h : o ≠ R.SYS_TUN_DATA i) : (d.tunDatum body i).rd o = d.rd o := by
  unfold Dev.tunDatum
  split
  · exact Dev.rd_wr_ne d _ h
  · exact Dev.rd_wr_ne d.drawW.2 _ h

/-- The data registers hold the words of the response's frame. -/
theorem Dev.tunData_rd (d : Dev) (body : List Word) {n i : Nat} (h : i < n) (here : 3 + i < body.length) :
    (d.tunData body n).rd (R.SYS_TUN_DATA i) = body.getD (3 + i) 0 := by
  induction n with
  | zero => omega
  | succ n ih =>
    rw [Dev.tunData_succ]
    by_cases last : i = n
    · subst last
      rw [Dev.tunDatum, List.getElem?_eq_getElem here, List.getD_eq_getElem _ _ here]
      exact Dev.rd_wr_same _ _ _
    · rw [Dev.tunDatum_rd_ne _ _ _ (by simp only [R.SYS_TUN_DATA]; omega)]
      exact ih (by omega)

section Response
variable {d : Dev} {f : Frame} (own : d.host.tunFab.contains (f.src, bitsOf (f.w 0) 23 16) = false)
include own

theorem Dev.tunResponse_late (none : d.host.tunReq = none) : d.tunResponse f = d.cnt F.SYS_TUN_CNT_TUN_LATE := by
  simp only [Dev.tunResponse, own, none, Bool.false_eq_true, if_false]

/-- The response to the outstanding TAG stores a read's words and ends the request. -/
theorem Dev.tunResponse_ends {op n : Nat} (req : d.host.tunReq = some (f.src, bitsOf (f.w 0) 23 16, op, n)) :
    d.tunResponse f = ((if op = 1 then d.tunData f.body n else d).put F.SYS_TUN_STS_FAIL (bitsOf (f.w 2) 7 0)).tunEnd (bitsOf (f.w 0) 7 0) := by
  simp only [Dev.tunResponse, own, req, Bool.false_eq_true, if_false, and_self, if_true]

end Response

/-- The end of a request leaves the data registers. -/
theorem Dev.tunEnd_data (d : Dev) (fail code i : Nat) :
    ((d.put F.SYS_TUN_STS_FAIL fail).tunEnd code).rd (R.SYS_TUN_DATA i) = d.rd (R.SYS_TUN_DATA i) := by
  have sts : R.SYS_TUN_DATA i ≠ R.SYS_TUN_STS := by simp only [R.SYS_TUN_DATA, R.SYS_TUN_STS]; omega
  have cmd : R.SYS_TUN_DATA i ≠ R.SYS_TUN_CMD := by simp only [R.SYS_TUN_DATA, R.SYS_TUN_CMD]; omega
  rw [Dev.tunEnd_sameRegs _ _ _ (by simp [sts, cmd])]
  exact Dev.rd_put_ne d _ sts

theorem answers_tunnelResponse {s : State} {p : Fin 8} {f : Frame} {t : Nat} {d : Dev} {here : Bool}
    (frame : s.dev.frameIn p f t = (d, here)) : answers (.tunnelResponse p f t) s
      { s with dev := if here && f.typ == 8 && bitsOf (f.w 0) 31 24 == 2 then d.tunResponse f else d } := by
  rw [answers, exec_tunnelResponse, execTunnelResponse, onDev, frame]
  rfl

theorem tunnel_response (s : State) (p : Fin 8) (f : Frame) (t : Nat) (d : Dev) (here : Bool) (frame : s.dev.frameIn p f t = (d, here)) :
    ((here = false ∨ f.typ ≠ 8 ∨ bitsOf (f.w 0) 31 24 ≠ 2) → answers (.tunnelResponse p f t) s { s with dev := d }) ∧
    (∀ op n, here = true → f.typ = 8 → bitsOf (f.w 0) 31 24 = 2 → n ≤ 60 → d.host.tunFab.contains (f.src, bitsOf (f.w 0) 23 16) = false →
      d.host.tunReq = some (f.src, bitsOf (f.w 0) 23 16, op, n) → leads (.tunnelResponse p f t) s fun x =>
        x.dev.get F.SYS_TUN_STS_RESULT = bitsOf (f.w 0) 7 0 ∧ x.dev.get F.SYS_TUN_STS_FAIL = bitsOf (f.w 2) 7 0 ∧
        x.dev.flag F.SYS_TUN_STS_DONE_EVT = true ∧ x.dev.flag F.SYS_TUN_STS_BUSY = false ∧ x.dev.host.tunReq = none ∧
        (op = 1 → ∀ i < n, 3 + i < f.body.length → x.dev.rd (R.SYS_TUN_DATA i) = f.body.getD (3 + i) 0) ∧ s.sameMem x) ∧
    (here = true → f.typ = 8 → bitsOf (f.w 0) 31 24 = 2 → d.host.tunFab.contains (f.src, bitsOf (f.w 0) 23 16) = false →
      d.host.tunReq = none → leads (.tunnelResponse p f t) s fun x =>
        x.dev.get F.SYS_TUN_CNT_TUN_LATE = min (d.get F.SYS_TUN_CNT_TUN_LATE + 1) 255 ∧ d.sameRegs x.dev [R.SYS_TUN_CNT] ∧ s.sameMem x) := by
  have run := answers_tunnelResponse (s := s) frame
  refine ⟨fun other => ?_, fun op n h8 typ kind _ own req => ?_, fun h8 typ kind own none => ?_⟩
  · have not : (here && f.typ == 8 && bitsOf (f.w 0) 31 24 == 2) = false := by
      rcases other with h | h | h <;> simp [h]
    rwa [not] at run
  · have is : (here && f.typ == 8 && bitsOf (f.w 0) 31 24 == 2) = true := by simp [h8, typ, kind]
    rw [is, if_pos rfl, Dev.tunResponse_ends own req] at run
    refine ⟨_, run, ?_⟩
    set e := if op = 1 then d.tunData f.body n else d with he
    obtain ⟨result, busy, done, fail⟩ := (e.put F.SYS_TUN_STS_FAIL (bitsOf (f.w 2) 7 0)).tunEnd_outcome (bitsOf_lt (f.w 0) 7 0)
    refine ⟨result, fail.trans ?_, done, busy, Dev.tunEnd_tunReq _ _, fun read i lt here => ?_, rfl, rfl, rfl, rfl⟩
    · rw [Dev.get_put_same _ _ _ ⟨by decide, by decide⟩]
      exact Nat.mod_eq_of_lt (bitsOf_lt (f.w 2) 7 0)
    · rw [Dev.tunEnd_data, he, if_pos read]
      exact d.tunData_rd f.body lt here
  · have is : (here && f.typ == 8 && bitsOf (f.w 0) 31 24 == 2) = true := by simp [h8, typ, kind]
    rw [is, if_pos rfl, Dev.tunResponse_late own none] at run
    exact ⟨_, run, d.cnt_get (f := F.SYS_TUN_CNT_TUN_LATE) ⟨by decide, by decide⟩, d.cnt_sameRegs F.SYS_TUN_CNT_TUN_LATE, rfl, rfl, rfl, rfl⟩

/-! The port: a request is turned away or served (R91). -/

theorem Dev.freeWords_regs (n : Nat) (d : Dev) : (Dev.freeWords n d).2.regs = d.regs := by
  induction n generalizing d with
  | zero => rfl
  | succ n ih => exact ih d.drawW.2

/-- A read through the tunnel writes no register but the error log's and the cores' clock counters. -/
theorem Dev.tunnelRead_rd (d : Dev) (off : Nat) {o : Nat} (log : o ≠ 0x10) (addr : o ≠ 0x10 + 4) (count : o ≠ 0x10 + 8)
    (clk : o < 0x800000 ∨ 0x800400 ≤ o) : (d.regRead .tunnel off 15).2.rd o = d.rd o := by
  have logged := fun cause => d.logErr_rd_ne 0x10 false false cause 4 off log addr count
  simp only [Dev.regRead]
  split
  · rfl
  split
  · exact logged 3
  split
  · exact logged 2
  split
  · exact logged 2
  split
  · exact logged 1
  · obtain ⟨h, e, -⟩ := d.blockRead_dev .tunnel off
    rw [e]
    exact d.clkCounts_rd_ne clk

theorem Dev.tunRead_rd (off n i : Nat) (bad : Option Nat) (d : Dev) {o : Nat} (log : o ≠ 0x10) (addr : o ≠ 0x10 + 4) (count : o ≠ 0x10 + 8)
    (clk : o < 0x800000 ∨ 0x800400 ≤ o) : (Dev.tunRead off n i bad d).2.2.rd o = d.rd o := by
  induction n generalizing i bad d with
  | zero => rfl
  | succ n ih => exact (ih _ _ _).trans (d.tunnelRead_rd (off + 4 * i) log addr count clk)

/-- A response leaves and counts as served. -/
theorem Dev.tunReply_served (d : Dev) (f : Frame) (n result fail : Nat) (ws : List Word) :
    (d.tunReply f n result fail ws).get F.SYS_TUN_CNT_SERVED = (d.get F.SYS_TUN_CNT_SERVED + 1) % 2 ^ 16 := by
  rw [Dev.tunReply, Dev.cntWrap, Dev.get_put_same _ _ _ ⟨by decide, by decide⟩,
    Dev.get_of_rd ((d.sent_sendBody _ _ _ _).2 _ (by decide) (by decide))]
  rfl

theorem Dev.tunReply_rd (d : Dev) (f : Frame) (n result fail : Nat) (ws : List Word) {o : Nat} (link : o / 0x100000 ≠ 3)
    (evt : o ≠ R.SYS_FAULT_EVT) (cnt : o ≠ R.SYS_TUN_CNT) : (d.tunReply f n result fail ws).rd o = d.rd o := by
  rw [Dev.tunReply, Dev.cntWrap, Dev.rd_put_ne _ _ cnt]
  exact (d.sent_sendBody _ _ _ _).2 o link evt

/-- Of d and e: e is d after a response has left, with SYS_TUN_CNT as it was before. -/
def Dev.tunAnswered (f : Frame) (d e : Dev) : Prop :=
  ∃ (u : Dev) (n result fail : Nat) (ws : List Word), u.rd R.SYS_TUN_CNT = d.rd R.SYS_TUN_CNT ∧ e = u.tunReply f n result fail ws

theorem Dev.tunAnswered_served {f : Frame} {d e : Dev} (h : Dev.tunAnswered f d e) :
    e.get F.SYS_TUN_CNT_SERVED = (d.get F.SYS_TUN_CNT_SERVED + 1) % 2 ^ 16 := by
  obtain ⟨u, n, result, fail, ws, cnt, rfl⟩ := h
  rw [Dev.tunReply_served, Dev.get_of_rd cnt]

/-- A request that is refused (its permission or its form). -/
def Dev.tunRefuse (f : Frame) (n code : Nat) (d : Dev) : Dev :=
  if bitsOf (f.w 0) 15 14 = 1 then (Dev.freeWords n d).2.tunReply f n code 0xFF (Dev.freeWords n d).1 else d.tunReply f n code 0xFF []

theorem Dev.tunRefuse_answered (f : Frame) (n code : Nat) (d : Dev) : Dev.tunAnswered f d (d.tunRefuse f n code) := by
  unfold Dev.tunRefuse
  split
  · exact ⟨_, _, _, _, _, Dev.rd_of_regs (Dev.freeWords_regs n d) _, rfl⟩
  · exact ⟨_, _, _, _, _, rfl, rfl⟩

/-- The number of words a request names. -/
def tunLen (f : Frame) : Nat := min 59 (bitsOf (f.w 0) 13 8) + 1

section Serve
variable {s : State} {f : Frame}

theorem State.tunServe_denied (h : s.dev.tunAllowed f.src (bitsOf (f.w 0) 15 14) (f.w 1) (tunLen f) = false) :
    s.tunServe f = s.upd (Dev.tunRefuse f (tunLen f) 1) := by
  have refuse : s.tunServe f = s.upd _ := if_pos (by rw [← tunLen, h]; rfl)
  rw [refuse]
  simp only [State.upd, Dev.tunRefuse]
  split <;> rfl

variable (h : s.dev.tunAllowed f.src (bitsOf (f.w 0) 15 14) (f.w 1) (tunLen f) = true)
include h

/-- A read that is allowed is refused for its address, or gives its words. -/
theorem State.tunServe_read (op : bitsOf (f.w 0) 15 14 = 1) : s.tunServe f = s.upd (Dev.tunRefuse f (tunLen f) 2) ∨
    ∃ result fail, s.tunServe f = { s with dev :=
      (Dev.tunRead (f.w 1) (tunLen f) 0 none s.dev).2.2.tunReply f (tunLen f) result fail (Dev.tunRead (f.w 1) (tunLen f) 0 none s.dev).1 } := by
  have allowed : ¬ (!s.dev.tunAllowed f.src (bitsOf (f.w 0) 15 14) (f.w 1) (tunLen f)) = true := by simp [h]
  by_cases bad : mspiAddrBad (f.w 1) = true
  · left
    have refuse : s.tunServe f = s.upd _ := (if_neg allowed).trans (if_pos (Or.inr (Or.inr bad)))
    rw [refuse]
    simp only [State.upd, Dev.tunRefuse, tunLen, if_pos op]
  · right
    have form : ¬ (bitsOf (f.w 0) 15 14 = 0 ∨ bitsOf (f.w 0) 15 14 = 3 ∨ mspiAddrBad (f.w 1) = true) := by simp [op, bad]
    have read : ¬ bitsOf (f.w 0) 15 14 = 2 := by omega
    exact ⟨_, _, (if_neg allowed).trans ((if_neg form).trans (if_neg read))⟩

/-- A write of one word that is allowed is a write of that word from the tunnel, and its response. -/
theorem State.tunServe_write (op : bitsOf (f.w 0) 15 14 = 2) (one : tunLen f = 1) (addr : mspiAddrBad (f.w 1) = false) {w : Word}
    (word : f.body.drop 3 = [w]) : ∃ result fail,
      s.tunServe f = (s.regWrite .tunnel f.src (f.w 1) 15 w).upd (Dev.tunReply f 1 result fail []) := by
  have allowed : ¬ (!s.dev.tunAllowed f.src (bitsOf (f.w 0) 15 14) (f.w 1) (tunLen f)) = true := by simp [h]
  have form : ¬ (bitsOf (f.w 0) 15 14 = 0 ∨ bitsOf (f.w 0) 15 14 = 3 ∨ mspiAddrBad (f.w 1) = true) := by simp [op, addr]
  have write : s.tunServe f = State.upd _ (s.tunWrite f.src (f.w 1) (tunLen f) 0 (f.body.drop 3) none).2 :=
    (if_neg allowed).trans ((if_neg form).trans (if_pos op))
  have commit : (s.tunWrite f.src (f.w 1) 1 0 [w] none).2 = s.regWrite .tunnel f.src (f.w 1) 15 w := rfl
  rw [write, one, word, commit, ← tunLen, one]
  exact ⟨_, _, rfl⟩

end Serve

/-- A request without permission, or for a read, is answered. -/
theorem State.tunServe_answered {s : State} {f : Frame}
    (h : s.dev.tunAllowed f.src (bitsOf (f.w 0) 15 14) (f.w 1) (tunLen f) = false ∨ bitsOf (f.w 0) 15 14 = 1) :
    ∃ e, s.tunServe f = { s with dev := e } ∧ Dev.tunAnswered f s.dev e := by
  rcases Bool.eq_false_or_eq_true (s.dev.tunAllowed f.src (bitsOf (f.w 0) 15 14) (f.w 1) (tunLen f)) with allowed | denied
  · rcases State.tunServe_read allowed (h.resolve_left (by simp [allowed])) with e | ⟨result, fail, e⟩
    · exact ⟨_, e, Dev.tunRefuse_answered _ _ _ _⟩
    · exact ⟨_, e, _, _, _, _, _, Dev.tunRead_rd _ _ _ _ _ (by decide) (by decide) (by decide) (Or.inl (by decide)), rfl⟩
  · exact ⟨_, State.tunServe_denied denied, Dev.tunRefuse_answered _ _ _ _⟩

/-- A register whose event bits a write does not clear is not SYS_FAULT_EVT. -/
theorem plainReg_not_faultEvt {p : Port} {off : Nat} {r : RegRow} (h : plainReg p off r) (rc : r.rc = 0) : off ≠ R.SYS_FAULT_EVT := by
  rintro rfl
  obtain ⟨reg, -⟩ := h
  have events : ((regAt R.SYS_FAULT_EVT).map (·.rc)) ≠ some 0 := by decide
  exact events (by rw [reg, Option.map_some, rc])

theorem answers_tunnelRequest {s : State} {p : Fin 8} {f : Frame} {t : Nat} {d : Dev} {here : Bool}
    (frame : s.dev.frameIn p f t = (d, here)) : answers (.tunnelRequest p f t) s
      (if here && f.typ == 8 && bitsOf (f.w 0) 31 24 == 1 then State.tunRequest f { s with dev := d } else { s with dev := d }) := by
  rw [answers, exec_tunnelRequest, execTunnelRequest, frame]
  rfl

/-- The requests that this node still serves or has waiting. -/
def Dev.tunBusy (d : Dev) : List Nat := d.host.tunFin.filter (fun t => decide (d.nowPs.toNat < t))

theorem State.tunRequest_full {s : State} {f : Frame} (h : 5 ≤ s.dev.tunBusy.length) : s.tunRequest f = s.upd (Dev.cnt F.SYS_TUN_CNT_TUN_DROP) :=
  if_pos h

/-- The device with the ends of its requests noted. -/
def Dev.tunQueued (l : List Nat) (d : Dev) : Dev := d.modHost (fun h => { h with tunFin := l })

theorem State.tunRequest_serves {s : State} {f : Frame} (h : s.dev.tunBusy.length < 5) :
    ∃ l, s.tunRequest f = (s.upd (Dev.tunQueued l)).tunServe f :=
  ⟨_, if_neg (not_le_of_gt h)⟩

section Request
variable {s : State} {p : Fin 8} {f : Frame} {t : Nat} {d : Dev} {here : Bool} (frame : s.dev.frameIn p f t = (d, here))
  (mine : here = true ∧ f.typ = 8 ∧ bitsOf (f.w 0) 31 24 = 1)
include frame

theorem tunnelRequest_other (other : ¬ (here = true ∧ f.typ = 8 ∧ bitsOf (f.w 0) 31 24 = 1)) : answers (.tunnelRequest p f t) s { s with dev := d } := by
  have run := answers_tunnelRequest (s := s) frame
  have not : ¬ (here && f.typ == 8 && bitsOf (f.w 0) 31 24 == 1) = true := by simpa [and_assoc] using other
  rwa [if_neg not] at run

include mine

theorem tunnelRequest_mine : answers (.tunnelRequest p f t) s (State.tunRequest f { s with dev := d }) := by
  have run := answers_tunnelRequest (s := s) frame
  have is : (here && f.typ == 8 && bitsOf (f.w 0) 31 24 == 1) = true := by simpa [and_assoc] using mine
  rwa [if_pos is] at run

theorem tunnelRequest_full (full : 5 ≤ d.tunBusy.length) : leads (.tunnelRequest p f t) s fun x =>
    x.dev.get F.SYS_TUN_CNT_TUN_DROP = min (d.get F.SYS_TUN_CNT_TUN_DROP + 1) 255 ∧ d.sameRegs x.dev [R.SYS_TUN_CNT] ∧ s.sameMem x := by
  have run := tunnelRequest_mine frame mine
  rw [State.tunRequest_full (s := { s with dev := d }) full, State.upd] at run
  exact ⟨_, run, d.cnt_get (f := F.SYS_TUN_CNT_TUN_DROP) ⟨by decide, by decide⟩, d.cnt_sameRegs F.SYS_TUN_CNT_TUN_DROP, rfl, rfl, rfl, rfl⟩

variable (free : d.tunBusy.length < 5)
include free

theorem tunnelRequest_answered (h : d.tunAllowed f.src (bitsOf (f.w 0) 15 14) (f.w 1) (tunLen f) = false ∨ bitsOf (f.w 0) 15 14 = 1) :
    leads (.tunnelRequest p f t) s fun x => x.dev.get F.SYS_TUN_CNT_SERVED = (d.get F.SYS_TUN_CNT_SERVED + 1) % 2 ^ 16 ∧ s.sameMem x := by
  have run := tunnelRequest_mine frame mine
  obtain ⟨l, e⟩ := State.tunRequest_serves (s := { s with dev := d }) (f := f) free
  obtain ⟨x, served, answered⟩ := State.tunServe_answered (f := f) (s := State.upd (Dev.tunQueued l) { s with dev := d }) h
  rw [e, served] at run
  exact ⟨_, run, Dev.tunAnswered_served answered, rfl, rfl, rfl, rfl⟩

theorem tunnelRequest_write {r : RegRow} {w : Word} (write : bitsOf (f.w 0) 15 14 = 2) (one : tunLen f = 1)
    (allowed : d.tunAllowed f.src (bitsOf (f.w 0) 15 14) (f.w 1) (tunLen f) = true) (word : f.body.drop 3 = [w])
    (takes : d.takes .tunnel (f.w 1)) (guard : d.guardOf .tunnel = none) (plain : plainReg .tunnel (f.w 1) r) (rc : r.rc = 0)
    (link : f.w 1 / 0x100000 ≠ 3) (cnt : f.w 1 ≠ R.SYS_TUN_CNT) :
    leads (.tunnelRequest p f t) s fun x => x.dev.rd (f.w 1) = r.stored (d.rd (f.w 1)) w ∧ s.sameMem x := by
  have run := tunnelRequest_mine frame mine
  obtain ⟨l, e⟩ := State.tunRequest_serves (s := { s with dev := d }) (f := f) free
  have takes' : (d.tunQueued l).takes .tunnel (f.w 1) := takes
  obtain ⟨result, fail, served⟩ := State.tunServe_write (f := f) (s := State.upd (Dev.tunQueued l) { s with dev := d })
    allowed write one (mspiAddrBad_of_reaches takes.1) word
  obtain ⟨u, b, k, stored⟩ := State.regWrite_plain (node := f.src) (w := w) (s := State.upd (Dev.tunQueued l) { s with dev := d })
    takes' guard plain rc
  rw [e, served, stored] at run
  refine ⟨_, run, (Dev.tunReply_rd _ _ _ _ _ _ link (plainReg_not_faultEvt plain rc) cnt).trans ?_, rfl, rfl, rfl, rfl⟩
  exact Dev.rd_wr_same _ _ _

end Request

/-- Settles O12: an arrived request is turned away, refused or served, and a request of this node ends by its response or its time limit,
each of which writes the status and counter fields named and no other part of the machine. -/
theorem tunnelRequests : Obligations.TunnelRequests := by
  unfold Obligations.TunnelRequests
  refine ⟨tunnel_start, tunnel_response, fun s p f t d here frame => ?_⟩
  exact ⟨tunnelRequest_other frame, tunnelRequest_full frame, tunnelRequest_answered frame,
    fun _ _ mine free write one allowed => tunnelRequest_write frame mine free write one allowed⟩

end Sys2Proof.Machine
end

section
/-! TIME runs and CYC_START falls (04 R95, R96, R106, R110, R487). -/
namespace Sys2Proof.Machine

/-! What ticks change. -/

/-- A table whose values are all changed reads the changed value, where the default is its own. -/
theorem tget_map {α : Type} [Inhabited α] (f : α → α) (h : f default = default) (l : List (Nat × α)) (k : Nat) :
    tget (l.map fun p => (p.1, f p.2)) k = f (tget l k) := by
  induction l with
  | nil => exact h.symm
  | cons x t ih =>
    obtain ⟨i, v⟩ := x
    simp only [tget, List.map_cons, tblGet] at ih ⊢
    split
    · rfl
    · exact ih

/-- The device with another TIME_NOW, tick count, driven pulses and waiting messages. -/
def Dev.ticked (now ticks : Nat) (pulse : Option Nat) (ev : List (Nat × EvChan)) (msgs : List Nat) (d : Dev) : Dev :=
  { d with time := { d.time with now := now, ticks := ticks, ppsOutEnd := pulse, ev := ev }, host := { d.host with msgs := msgs } }

/-- Of d and e: TIME has run from d to e; of an event channel, only its pulse may have ended. -/
def Dev.ran (d e : Dev) : Prop := ∃ now ticks pulse ev msgs, e = d.ticked now ticks pulse ev msgs ∧
  ∀ n, ∃ p, tget ev n = { tget d.time.ev n with pulseEnd := p }

theorem Dev.ran_refl (d : Dev) : d.ran d := ⟨d.time.now, d.time.ticks, d.time.ppsOutEnd, d.time.ev, d.host.msgs, rfl, fun _ => ⟨_, rfl⟩⟩

/-- What is left of a driven pulse when TIME has run up, in 2^-32 ns: it ends at its end. -/
def pulseLeft (up : Int) (o : Option Nat) : Option Nat :=
  match o with
  | some e => if 2 ^ 32 * (e : Int) ≤ up then none else some e
  | none => none

/-- A channel whose driven pulse has ended where its end has come. -/
def EvChan.pulsed (up : Int) (c : EvChan) : EvChan := { c with pulseEnd := pulseLeft up c.pulseEnd }

/-- Ticks that pass while TIME runs. -/
theorem Dev.tick_running {d : Dev} {k : Nat} (pass : k ≠ 0) (run : d.time.running = true) : d.tick k =
    let up := ((d.time.now + k * d.tickInc : Nat) : Int) + d.time.stepped
    d.ticked (d.time.now + k * d.tickInc) (d.time.ticks + k) (pulseLeft up d.time.ppsOutEnd)
      (d.time.ev.map fun p => (p.1, p.2.pulsed up)) [] :=
  if_neg (by simp [pass, run])

theorem Dev.ran_tick (d : Dev) (k : Nat) : d.ran (d.tick k) := by
  by_cases h : k = 0 ∨ d.time.running = false
  · rw [show d.tick k = d from if_pos h]
    exact d.ran_refl
  · obtain ⟨pass, run⟩ := not_or.mp h
    rw [Dev.tick_running pass (by simpa using run)]
    exact ⟨_, _, _, _, _, rfl, fun n => ⟨_, tget_map (EvChan.pulsed _) rfl d.time.ev n⟩⟩

theorem Dev.ran_runTo (d : Dev) (ns : Nat) : d.ran (d.runTo ns) := by
  unfold Dev.runTo
  split
  · exact d.ran_refl
  · exact d.ran_tick _

theorem Dev.ran_runBelow (d : Dev) (ns : Nat) : d.ran (d.runBelow ns) := by
  unfold Dev.runBelow
  split
  · exact d.ran_refl
  · exact d.ran_tick _

theorem Dev.ran_regs {d e : Dev} (h : d.ran e) : e.regs = d.regs := by
  obtain ⟨_, _, _, _, _, rfl, -⟩ := h
  rfl

theorem Dev.ran_lastEdge {d e : Dev} (h : d.ran e) (n : Nat) : (tget e.time.ev n).lastEdge = (tget d.time.ev n).lastEdge := by
  obtain ⟨_, _, _, _, _, rfl, ev⟩ := h
  obtain ⟨_, same⟩ := ev n
  have edge := congrArg EvChan.lastEdge same
  exact edge

theorem Dev.ran_upAt {d e : Dev} (h : d.ran e) (ns : Nat) : e.upAt ns = d.upAt ns := by
  obtain ⟨_, _, _, _, _, rfl, -⟩ := h
  rfl

theorem Dev.runTo_regs (d : Dev) (ns : Nat) : (d.runTo ns).regs = d.regs := Dev.ran_regs (d.ran_runTo ns)

theorem Dev.runBelow_regs (d : Dev) (ns : Nat) : (d.runBelow ns).regs = d.regs := Dev.ran_regs (d.ran_runBelow ns)

/-! CYC_START (R96, R487). -/

theorem Dev.each_time {α : Type} (l : List α) (f : α → Dev → Dev) (h : ∀ x d, (f x d).time = d.time) (d : Dev) :
    (Dev.each l f d).time = d.time := foldl_keep Dev.time _ (fun d x => h x d) l d

theorem Dev.evCheck_time (n : Nat) (d : Dev) : (d.evCheck n).time = d.time := by
  simp only [Dev.evCheck]
  split <;> simp only [Dev.up_time]

theorem Dev.evChecks_time (d : Dev) : d.evChecks.time = d.time := Dev.each_time _ _ Dev.evCheck_time d

/-- TIME that has reached a CYC_START: the cycle begins there, and the counters advance. -/
def TimeSt.cycNext (t : TimeSt) : TimeSt :=
  { t with cycStart := t.nextCyc, nextCyc := t.nextCyc + t.tb, cycno := (t.cycno + 1) % 2 ^ 32, cycPh := (t.cycPh + 1) % 1680,
           planPh := (t.planPh + 1) % t.m }

/-- Without a waiting section, CYC_START counts. -/
theorem Dev.cycTick_none {d : Dev} (h : d.time.pendCfg = none) :
    d.cycTick = { d.runTo d.time.nextCyc with time := (d.runTo d.time.nextCyc).time.cycNext } := by
  obtain ⟨_, _, _, _, _, e, -⟩ := d.ran_runTo d.time.nextCyc
  have waits : (d.runTo d.time.nextCyc).time.pendCfg = none := by rw [e]; exact h
  simp only [Dev.cycTick]
  split
  · next some => rw [waits] at some; contradiction
  · rfl

/-- A waiting section's Tb, IN_CUT and m come into use, and CYC_START counts with them. -/
theorem Dev.cycTick_some {d : Dev} {tb ic m : Nat} (h : d.time.pendCfg = some (tb, ic, m)) :
    d.cycTick.time = { (d.runTo d.time.nextCyc).time with tb := tb, inCut := ic, m := m, pendCfg := none }.cycNext := by
  obtain ⟨_, _, _, _, _, e, -⟩ := d.ran_runTo d.time.nextCyc
  have waits : (d.runTo d.time.nextCyc).time.pendCfg = some (tb, ic, m) := by rw [e]; exact h
  simp only [Dev.cycTick, waits, Dev.evChecks_time]
  rfl

theorem cycStart_counts (d : Dev) (h : d.time.pendCfg = none) :
    d.cycTick.time.cycno = (d.time.cycno + 1) % 2 ^ 32 ∧ d.cycTick.time.cycPh = (d.time.cycPh + 1) % 1680 ∧
    d.cycTick.time.planPh = (d.time.planPh + 1) % d.time.m ∧ d.cycTick.time.cycStart = d.time.nextCyc ∧
    d.cycTick.time.nextCyc = d.time.nextCyc + d.time.tb ∧ d.cycTick.time.now = (d.runTo d.time.nextCyc).time.now ∧
    d.cycTick.regs = d.regs := by
  rw [Dev.cycTick_none h]
  obtain ⟨_, _, _, _, _, e, -⟩ := d.ran_runTo d.time.nextCyc
  rw [e]
  exact ⟨rfl, rfl, rfl, rfl, rfl, rfl, rfl⟩

theorem cycStart_takes (d : Dev) (tb ic m : Nat) (h : d.time.pendCfg = some (tb, ic, m)) :
    d.cycTick.time.tb = tb ∧ d.cycTick.time.inCut = ic ∧ d.cycTick.time.m = m ∧ d.cycTick.time.pendCfg = none ∧
    d.cycTick.time.nextCyc = d.time.nextCyc + tb ∧ d.cycTick.time.planPh = (d.time.planPh + 1) % m := by
  rw [Dev.cycTick_some h]
  obtain ⟨_, _, _, _, _, e, -⟩ := d.ran_runTo d.time.nextCyc
  rw [e]
  exact ⟨rfl, rfl, rfl, rfl, rfl, rfl⟩

/-! What each instant of the cycle does while TIME runs (Table 4.7). -/

section Runs
variable {s : State} {d : Dev}

theorem State.cycStart_running (h : s.dev.time.running = true) (low : Nat) :
    s.cycStart low = (s.upd Dev.cycTick).cycFollow s.dev.sstate low :=
  if_neg (by simp [h])

theorem Dev.half_running (h : d.time.running = true) : d.half =
    let y := d.runTo (d.time.cycStart + (d.time.tb + 1) / 2)
    ({ y with loop := { y.loop with atHalf := true, centre := y.sysClk } } : Dev).adcTrigger 1 :=
  if_neg (by simp [h])

theorem Dev.inCut_running (h : d.time.running = true) : d.inCut =
    let y := ((d.runTo (d.time.cycStart + d.time.inCut)).redQuarantine).encInCut
    if y.inPark then y else y.loopInCut :=
  if_neg (by simp [h])

theorem State.tick4_running (h : s.dev.time.running = true) : s.tick4 =
    let y := (s.upd (Dev.runTo (s.dev.time.cycStart + (s.dev.time.inCut + 4000)))).arbTick
    if y.dev.inPark then y else { y with dev := ((y.dev.trajGroups).solvTake y.mem).trajAxes y.mem } := by
  have instant : (s.upd fun d => d.runInCycle (d.time.inCut + 4000)) =
    s.upd (Dev.runTo (s.dev.time.cycStart + (s.dev.time.inCut + 4000))) := by simp only [State.upd, Dev.runInCycle]
  rw [State.tick4, if_neg (by simp [h]), instant]

theorem Dev.trajDone_running (h : d.time.running = true) : d.trajDone =
    let y := d.runTo (d.time.cycStart + (d.time.inCut + 10000))
    ((if y.inPark then y else y.trajEnd).patchDecide).powDecide :=
  if_neg (by simp [h])

theorem State.snap_running (h : s.dev.time.running = true) :
    s.snap = s.upd fun d => (d.runTo (d.time.cycStart + (d.time.tb - 1250))).redSnap s.mem :=
  if_neg (by simp [h])

end Runs

/-- Settles O16: each command runs TIME to its instant of the cycle, and CYC_START counts with the section it takes into use. -/
theorem cycleStart : Obligations.CycleStart := by
  unfold Obligations.CycleStart
  refine ⟨fun s m run => ?_, cycStart_counts, cycStart_takes, fun s run => ?_, fun s run => ⟨_, rfl, _, rfl, ?_⟩,
    fun s run => ⟨_, rfl, _, rfl, State.tick4_running run⟩, fun s run => ⟨_, rfl, _, rfl, ?_⟩, fun s run => ?_⟩
  · exact congrArg done (State.cycStart_running run m.toNat)
  · exact congrArg (fun d => done { s with dev := d }) (Dev.half_running run)
  · exact congrArg (fun d => ({ s with dev := d } : State)) (Dev.inCut_running run)
  · exact congrArg (fun d => ({ s with dev := d } : State)) (Dev.trajDone_running run)
  · exact congrArg done (State.snap_running run)

end Sys2Proof.Machine
end

section
/-! Event channels: arming, moving, firing and capturing (04 R112 to R115; 21 Table 21.2). -/
namespace Sys2Proof.Machine

/-! The registers of a channel. -/

theorem bitOf_eq_testBit (v i : Nat) : bitOf v i = v.testBit i := by
  rw [Nat.testBit_eq_decide_div_mod_eq]
  rfl

theorem tget_tmod_same {α : Type} [Inhabited α] [DecidableEq α] (l : List (Nat × α)) (k : Nat) (f : α → α) :
    tget (tmod l k f) k = f (tget l k) := tblGet_mod_same _ l k f

theorem Dev.flag_raise_ne (d : Dev) {f g : Fld} (h : g.reg ≠ f.reg) : (d.raise f).flag g = d.flag g :=
  Dev.flag_of_rd (d.raise_rd_ne h)

theorem Dev.flag_raise_apart (d : Dev) (f g : Fld) (h : f.evt) (r : g.reg = f.reg) (a : f.hi < g.lo ∨ g.hi < f.lo) (b : g.hi < 24) :
    (d.raise f).flag g = d.flag g := Dev.flag_of_get (d.raise_get_apart f g h r a b)

theorem Dev.get64_of_rd {d e : Dev} {o : Nat} (lo : e.rd o = d.rd o) (hi : e.rd (o + 4) = d.rd (o + 4)) : e.get64 o = d.get64 o := by
  simp only [Dev.get64, lo, hi]

/-- A pair of registers reads the value put into it, modulo 2^64. -/
theorem Dev.get64_put64 (d : Dev) (o v : Nat) : (d.put64 o v).get64 o = v % 2 ^ 64 := by
  simp only [Dev.get64, Dev.put64, Dev.rd_wr_same, Dev.rd_wr_ne _ _ (show o ≠ o + 4 by omega), BitVec.toNat_ofNat]
  omega

section Channel
variable (d : Dev) (n : Nat)

/-! CFG_ERR (R112). -/

theorem Dev.evBad_congr {d e : Dev} (mode : e.get (F.TIME_EV_CTL_MODE n) = d.get (F.TIME_EV_CTL_MODE n))
    (cyc : e.rd (R.TIME_EV_CYC n) = d.rd (R.TIME_EV_CYC n)) (tb : e.time.tb = d.time.tb) : e.evBad n = d.evBad n := by
  have phase : e.get (F.TIME_EV_CYC_PHASE n) = d.get (F.TIME_EV_CYC_PHASE n) := Dev.get_of_rd cyc
  have div : e.get (F.TIME_EV_CYC_DIV n) = d.get (F.TIME_EV_CYC_DIV n) := Dev.get_of_rd cyc
  simp only [Dev.evBad, Dev.evDiv, mode, phase, div, tb]

/-- The check shows its result, and idles a channel that is configured wrongly. -/
theorem Dev.evCheck_eq : d.evCheck n = let e := d.up (F.TIME_EV_STS_CFG_ERR n) (d.evBad n)
    if d.evBad n then e.up (F.TIME_EV_CTL_ARM n) false else e := (rfl)

theorem Dev.evCheck_rd_ne {o : Nat} (ctl : o ≠ R.TIME_EV_CTL n) (sts : o ≠ R.TIME_EV_STS n) : (d.evCheck n).rd o = d.rd o := by
  have shown : (d.up (F.TIME_EV_STS_CFG_ERR n) (d.evBad n)).rd o = d.rd o := Dev.rd_put_ne _ _ sts
  rw [Dev.evCheck_eq]
  dsimp only
  split
  · exact (Dev.rd_put_ne _ _ ctl).trans shown
  · exact shown

/-- ARM lies inside its word, above MODE. -/
theorem evArm_ok : (F.TIME_EV_CTL_ARM n).ok := by simp [Fld.ok, F.TIME_EV_CTL_ARM]

theorem evMode_below_arm : (F.TIME_EV_CTL_MODE n).hi < (F.TIME_EV_CTL_ARM n).lo := by simp [F.TIME_EV_CTL_MODE, F.TIME_EV_CTL_ARM]

theorem evSts_ne_ctl : R.TIME_EV_CTL n ≠ R.TIME_EV_STS n := by simp [R.TIME_EV_CTL, R.TIME_EV_STS]

theorem Dev.evCheck_mode : (d.evCheck n).get (F.TIME_EV_CTL_MODE n) = d.get (F.TIME_EV_CTL_MODE n) := by
  have shown : (d.up (F.TIME_EV_STS_CFG_ERR n) (d.evBad n)).get (F.TIME_EV_CTL_MODE n) = d.get (F.TIME_EV_CTL_MODE n) :=
    Dev.get_put_ne _ _ (evSts_ne_ctl n)
  rw [Dev.evCheck_eq]
  dsimp only
  split
  · exact (Dev.get_put_apart _ (F.TIME_EV_CTL_ARM n) (F.TIME_EV_CTL_MODE n) _ (evArm_ok n) rfl (Or.inr (evMode_below_arm n))).trans shown
  · exact shown

theorem Dev.evCheck_arm : (d.evCheck n).flag (F.TIME_EV_CTL_ARM n) = (d.flag (F.TIME_EV_CTL_ARM n) && !d.evBad n) := by
  rw [Dev.evCheck_eq]
  dsimp only
  cases bad : d.evBad n with
  | true => rw [if_pos rfl, Dev.flag_up_same _ (F.TIME_EV_CTL_ARM n) false rfl (evArm_ok n).2]; simp
  | false => rw [if_neg (by decide), Dev.flag_up_ne _ _ (evSts_ne_ctl n)]; simp

theorem Dev.evCheck_evBad : (d.evCheck n).evBad n = d.evBad n :=
  Dev.evBad_congr n (d.evCheck_mode n) (d.evCheck_rd_ne n (by simp [R.TIME_EV_CYC, R.TIME_EV_CTL]) (by simp [R.TIME_EV_CYC, R.TIME_EV_STS]))
    (congrArg TimeSt.tb (Dev.evCheck_time n d))

/-! Lateness (R113, R114). -/

theorem Dev.evLate_late : (tget (d.evLate n).time.ev n).late =
    decide (d.get (F.TIME_EV_CTL_MODE n) = 1 ∧ d.get64 (R.TIME_EV_TGT_LO n) ≤ d.nowNs) := by
  simp only [Dev.evLate, tget_tmod_same]

/-- TGT of a channel is not one of its CTL and STS. -/
theorem evTgt_apart : R.TIME_EV_TGT_LO n ≠ R.TIME_EV_CTL n ∧ R.TIME_EV_TGT_LO n ≠ R.TIME_EV_STS n ∧
    R.TIME_EV_TGT_LO n + 4 ≠ R.TIME_EV_CTL n ∧ R.TIME_EV_TGT_LO n + 4 ≠ R.TIME_EV_STS n := by
  simp only [R.TIME_EV_TGT_LO, R.TIME_EV_CTL, R.TIME_EV_STS]
  omega

/-! CTL (R112). -/

/-- Does a word written to CTL arm the channel, as far as MODE and ARM go? -/
def evArms (w : Word) : Bool := bitOf w.toNat 2 && (w.toNat % 4 == 1 || w.toNat % 4 == 2)

/-- CTL holds its RW fields and ARM. -/
def Dev.evCtlPut (w : Word) (d : Dev) : Dev :=
  (d.wr (R.TIME_EV_CTL n) (w &&& 0x0003FF1B)).up (F.TIME_EV_CTL_ARM n) (evArms w)

theorem evCtlWord_mode (w : Word) : bitsOf (w &&& 0x0003FF1B).toNat 1 0 = w.toNat % 4 := by
  simp only [bitsOf, BitVec.toNat_and, pow_zero, Nat.div_one, Nat.and_mod_two_pow]
  exact (Nat.and_two_pow_sub_one_eq_mod _ 2).trans (Nat.mod_mod _ _)

theorem Dev.evCtlPut_mode (w : Word) : (d.evCtlPut n w).get (F.TIME_EV_CTL_MODE n) = w.toNat % 4 := by
  rw [Dev.evCtlPut, Dev.up, Dev.get_put_apart _ (F.TIME_EV_CTL_ARM n) (F.TIME_EV_CTL_MODE n) _ (evArm_ok n) rfl (Or.inr (evMode_below_arm n))]
  exact (Dev.get_wr_same d (F.TIME_EV_CTL_MODE n) _).trans (evCtlWord_mode w)

theorem Dev.evCtlPut_arm (w : Word) : (d.evCtlPut n w).flag (F.TIME_EV_CTL_ARM n) = evArms w :=
  Dev.flag_up_same _ _ _ rfl (evArm_ok n).2

theorem Dev.evCtlPut_rd_ne (w : Word) {o : Nat} (h : o ≠ R.TIME_EV_CTL n) : (d.evCtlPut n w).rd o = d.rd o :=
  (Dev.rd_put_ne _ _ h).trans (Dev.rd_wr_ne _ _ h)

/-- A write of CTL puts the register, forgets a late firing, then checks the channel, and says anew whether it is late. -/
theorem Dev.evCtlWrite_cases (w : Word) : ∃ (e : Dev) (io : IoSt), d.evCtlWrite n w = { (e.evCheck n).evLate n with io := io } ∧
    e.regs = (d.evCtlPut n w).regs ∧ e.time.tb = d.time.tb ∧ e.time.now = d.time.now := by
  have mode : ((d.wr (R.TIME_EV_CTL n) (w &&& 0x0003FF1B)).parityWritten (R.TIME_EV_CTL n)).get (F.TIME_EV_CTL_MODE n) = w.toNat % 4 :=
    (Dev.get_of_regs (Dev.parityWritten_regs _ _) _).trans ((Dev.get_wr_same d (F.TIME_EV_CTL_MODE n) _).trans (evCtlWord_mode w))
  obtain ⟨_, _, put⟩ := (d.wr (R.TIME_EV_CTL n) (w &&& 0x0003FF1B)).parityWritten_eq (R.TIME_EV_CTL n)
  simp only [Dev.evCtlWrite, mode]
  rw [put]
  split <;> exact ⟨_, _, rfl, rfl, rfl, rfl⟩

/-- What a write of CTL leaves: MODE and ARM as written, the channel checked, and late where a one-shot's target has passed. -/
theorem Dev.evCtlWrite_outcome (w : Word) :
    (d.evCtlWrite n w).get (F.TIME_EV_CTL_MODE n) = w.toNat % 4 ∧
    (d.evCtlWrite n w).flag (F.TIME_EV_CTL_ARM n) = (evArms w && !(d.evCtlWrite n w).evBad n) ∧
    d.sameRegs (d.evCtlWrite n w) [R.TIME_EV_CTL n, R.TIME_EV_STS n] ∧
    (tget (d.evCtlWrite n w).time.ev n).late = decide (w.toNat % 4 = 1 ∧ d.get64 (R.TIME_EV_TGT_LO n) ≤ d.nowNs) := by
  obtain ⟨e, io, eq, put, tb, now⟩ := d.evCtlWrite_cases n w
  have regs : (d.evCtlWrite n w).regs = (e.evCheck n).regs := by rw [eq]; rfl
  have mode : (e.evCheck n).get (F.TIME_EV_CTL_MODE n) = w.toNat % 4 := by
    rw [Dev.evCheck_mode, Dev.get_of_regs put, Dev.evCtlPut_mode]
  have other : ∀ o, o ≠ R.TIME_EV_CTL n → o ≠ R.TIME_EV_STS n → (e.evCheck n).rd o = d.rd o := fun o ctl sts => by
    rw [Dev.evCheck_rd_ne _ _ ctl sts, Dev.rd_of_regs put, Dev.evCtlPut_rd_ne _ _ _ ctl]
  have bad : (d.evCtlWrite n w).evBad n = e.evBad n := by
    rw [← Dev.evCheck_evBad e n]
    exact Dev.evBad_congr n (Dev.get_of_regs regs _) (Dev.rd_of_regs regs _) (by rw [eq]; rfl)
  refine ⟨(Dev.get_of_regs regs _).trans mode, ?_, fun o ho => ?_, ?_⟩
  · rw [Dev.flag_of_regs regs, Dev.evCheck_arm, Dev.flag_of_regs put, Dev.evCtlPut_arm, bad]
  · simp only [List.mem_cons, List.not_mem_nil, or_false, not_or] at ho
    obtain ⟨ctl, sts⟩ := ho
    rw [Dev.rd_of_regs regs, other o ctl sts]
  · obtain ⟨loCtl, loSts, hiCtl, hiSts⟩ := evTgt_apart n
    have ns : (e.evCheck n).nowNs = d.nowNs := by rw [Dev.nowNs, Dev.evCheck_time, now, Dev.nowNs]
    have late := (e.evCheck n).evLate_late n
    rw [mode, Dev.get64_of_rd (other _ loCtl loSts) (other _ hiCtl hiSts), ns] at late
    rw [eq]
    exact late

theorem Dev.evArm_eq : d.evArm n = d.evCtlWrite n (d.rd (R.TIME_EV_CTL n) ||| 4) := (rfl)

/-- ARM of a one-shot channel arms it: the word written has MODE 1 and ARM 1. -/
theorem evArmWord {r : Word} (mode : r.toNat % 4 = 1) : (r ||| 4).toNat % 4 = 1 ∧ evArms (r ||| 4) = true := by
  have low : (r ||| 4).toNat % 4 = 1 := by
    rw [BitVec.toNat_or]
    exact (Nat.or_mod_two_pow (n := 2)).trans (by simp [mode])
  have arm : bitOf (r ||| 4).toNat 2 = true := by
    rw [bitOf_eq_testBit, BitVec.toNat_or, Nat.testBit_or]
    exact Bool.or_true _
  exact ⟨low, by rw [evArms, arm, low]; rfl⟩

theorem Dev.evArm_outcome (mode : d.get (F.TIME_EV_CTL_MODE n) = 1) :
    (d.evArm n).flag (F.TIME_EV_CTL_ARM n) = true ∧ (d.evArm n).get (F.TIME_EV_CTL_MODE n) = 1 ∧
    (tget (d.evArm n).time.ev n).late = decide (d.get64 (R.TIME_EV_TGT_LO n) ≤ d.nowNs) := by
  have field : (d.rd (R.TIME_EV_CTL n)).toNat % 4 = 1 := by
    rw [← mode]
    simp [Dev.get, bitsOf, F.TIME_EV_CTL_MODE, R.TIME_EV_CTL]
  obtain ⟨low, arms⟩ := evArmWord field
  rw [Dev.evArm_eq]
  generalize d.rd (R.TIME_EV_CTL n) ||| 4 = w at low arms
  obtain ⟨mode', arm, -, late⟩ := d.evCtlWrite_outcome n w
  rw [low] at mode' late
  have good : (d.evCtlWrite n w).evBad n = false := by simp [Dev.evBad, mode']
  rw [arms, good] at arm
  exact ⟨arm, mode', by simpa using late⟩

/-! TGT (R114). -/

/-- The register of one half of TGT. -/
def evTgtHalf (hi : Bool) : Nat := R.TIME_EV_TGT_LO n + (if hi then 4 else 0)

theorem evTgtHalf_ne_ctl (hi : Bool) : R.TIME_EV_CTL n ≠ evTgtHalf n hi := by
  simp only [evTgtHalf, R.TIME_EV_CTL, R.TIME_EV_TGT_LO]
  split <;> omega

/-- A write of one half of a channel's target stores it; an armed channel then moves there. -/
theorem Dev.evTgtWrite_armed {hi : Bool} {w : Word} (arm : d.flag (F.TIME_EV_CTL_ARM n) = true) :
    d.evTgtWrite n hi w = ((d.wr (evTgtHalf n hi) w).parityWritten (evTgtHalf n hi)).evLate n :=
  if_pos ((Dev.flag_of_rd ((Dev.parityWritten_rd _ _ _).trans (Dev.rd_wr_ne d w (evTgtHalf_ne_ctl n hi)))).trans arm)

theorem Dev.evTgtWrite_outcome {hi : Bool} {w : Word} (arm : d.flag (F.TIME_EV_CTL_ARM n) = true)
    (mode : d.get (F.TIME_EV_CTL_MODE n) = 1) :
    (d.evTgtWrite n hi w).rd (evTgtHalf n hi) = w ∧ d.sameRegs (d.evTgtWrite n hi w) [evTgtHalf n hi] ∧
    (tget (d.evTgtWrite n hi w).time.ev n).late =
      decide ((d.evTgtWrite n hi w).get64 (R.TIME_EV_TGT_LO n) ≤ (d.evTgtWrite n hi w).nowNs) := by
  rw [Dev.evTgtWrite_armed d n arm]
  have stored : ∀ o, ((d.wr (evTgtHalf n hi) w).parityWritten (evTgtHalf n hi)).rd o = (d.wr (evTgtHalf n hi) w).rd o :=
    Dev.parityWritten_rd _ _
  have mode' : ((d.wr (evTgtHalf n hi) w).parityWritten (evTgtHalf n hi)).get (F.TIME_EV_CTL_MODE n) = 1 :=
    (Dev.get_of_rd ((stored _).trans (Dev.rd_wr_ne d w (evTgtHalf_ne_ctl n hi)))).trans mode
  refine ⟨(stored _).trans (Dev.rd_wr_same _ _ _), fun o ho => ?_, ?_⟩
  · exact (stored o).trans (Dev.rd_wr_ne d w (List.ne_of_not_mem_cons ho))
  · rw [Dev.evLate_late, mode']
    exact decide_eq_decide.mpr ⟨fun h => h.2, fun h => ⟨rfl, h⟩⟩

/-! Firing (R112). -/

/-- The device at the instant of a firing, before its events: a one-shot has dropped ARM. -/
def Dev.evSpent (n t : Nat) (d : Dev) : Dev :=
  let d := d.runTo t
  let d := if d.get (F.TIME_EV_CTL_MODE n) = 1 then d.up (F.TIME_EV_CTL_ARM n) false else d
  let pe := if d.flag (F.TIME_EV_CTL_PIN_EN n)
    then some (d.upNs + 25 * max 1 (d.get (F.TIME_EV_CTL_WIDTH n))) else none
  { d with time := { d.time with ev := tmod d.time.ev n (fun c =>
    { c with late := false, fired := some d.time.cycStart, pulseEnd := pe }) } }

theorem Dev.evFire_eq (t : Nat) : d.evFire n t =
    (if (tget d.time.ev n).late then (d.evSpent n t).up (F.TIME_EV_STS_LATE_EVT n) true else d.evSpent n t).raise
      (F.TIME_EV_STS_FIRE_EVT n) := (rfl)

theorem Dev.evSpent_arm (t : Nat) (one : d.get (F.TIME_EV_CTL_MODE n) = 1) : (d.evSpent n t).flag (F.TIME_EV_CTL_ARM n) = false := by
  have mode : (d.runTo t).get (F.TIME_EV_CTL_MODE n) = 1 := (Dev.get_of_regs (d.runTo_regs t) _).trans one
  have spent : (d.evSpent n t).regs = ((d.runTo t).up (F.TIME_EV_CTL_ARM n) false).regs := by simp only [Dev.evSpent, mode, if_true]
  rw [Dev.flag_of_regs spent]
  exact Dev.flag_up_same _ _ _ rfl (evArm_ok n).2

/-- The event bits of a channel. -/
theorem evSts_evt : (F.TIME_EV_STS_FIRE_EVT n).evt ∧ (F.TIME_EV_STS_LATE_EVT n).evt ∧ (F.TIME_EV_STS_CAP_EVT n).evt ∧
    (F.TIME_EV_STS_OVR_EVT n).evt := by
  simp [Fld.evt, F.TIME_EV_STS_FIRE_EVT, F.TIME_EV_STS_LATE_EVT, F.TIME_EV_STS_CAP_EVT, F.TIME_EV_STS_OVR_EVT]

theorem Dev.evFire_outcome (t : Nat) : (d.evFire n t).flag (F.TIME_EV_STS_FIRE_EVT n) = true ∧
    ((tget d.time.ev n).late = true → (d.evFire n t).flag (F.TIME_EV_STS_LATE_EVT n) = true) ∧
    (d.get (F.TIME_EV_CTL_MODE n) = 1 → (d.evFire n t).flag (F.TIME_EV_CTL_ARM n) = false) := by
  obtain ⟨fire, late, -, -⟩ := evSts_evt n
  rw [Dev.evFire_eq]
  refine ⟨Dev.raise_flag _ _ fire, fun is => ?_, fun one => ?_⟩
  · rw [if_pos is, Dev.flag_raise_apart _ (F.TIME_EV_STS_FIRE_EVT n) (F.TIME_EV_STS_LATE_EVT n) fire rfl
      (Or.inl (by simp [F.TIME_EV_STS_FIRE_EVT, F.TIME_EV_STS_LATE_EVT])) (by simp [F.TIME_EV_STS_LATE_EVT])]
    exact Dev.flag_up_same _ _ _ rfl (lt_trans late.2 (by decide))
  · rw [Dev.flag_raise_ne _ (evSts_ne_ctl n)]
    split
    · exact (Dev.flag_up_ne _ _ (evSts_ne_ctl n)).trans (d.evSpent_arm n t one)
    · exact d.evSpent_arm n t one

/-- A channel that is due fires, with the encoder requests, conversions and tasks of its firing. -/
theorem State.tevFire_due {s : State} {n t : Nat} (due : s.dev.evDue n = some t) (low : Nat) : s.tevFire n low =
    (s.upd fun _ => ((s.dev.evFire n t).encRequests (8 + n) low).adcTrigger (8 + n)).tevTasks n := by
  simp only [State.tevFire, due, State.upd]

/-! Capturing (R112, R115). -/

/-- The device that has captured an edge at t: the last tick in CAP, and OVR_EVT where a capture was not yet read. -/
def Dev.evCaught (n t : Nat) (d : Dev) : Dev :=
  let e := d.put64 (R.TIME_EV_CAP_LO n) d.nowNs
  let e := { e with time := { e.time with ev := tmod e.time.ev n (fun c => { c with lastEdge := some (e.upAt t) }) } }
  (if d.flag (F.TIME_EV_STS_CAP_EVT n) then e.up (F.TIME_EV_STS_OVR_EVT n) true else e).raise (F.TIME_EV_STS_CAP_EVT n)

/-- CAP of a channel is not its STS. -/
theorem evCap_ne_sts : R.TIME_EV_CAP_LO n ≠ R.TIME_EV_STS n ∧ R.TIME_EV_CAP_LO n + 4 ≠ R.TIME_EV_STS n := by
  simp only [R.TIME_EV_CAP_LO, R.TIME_EV_STS]
  omega

theorem Dev.evCaught_rd (t : Nat) {o : Nat} (h : o ≠ R.TIME_EV_STS n) :
    (d.evCaught n t).rd o = (d.put64 (R.TIME_EV_CAP_LO n) d.nowNs).rd o := by
  rw [Dev.evCaught, Dev.raise_rd_ne _ h]
  split
  · exact Dev.rd_put_ne _ _ h
  · rfl

/-- A capture leaves the trigger that the channel gives ADC. -/
theorem Dev.evCaught_adcTrig {n : Nat} (h : n < 8) (t : Nat) : (d.evCaught n t).rd (R.ADC_TRIG n) = d.rd (R.ADC_TRIG n) := by
  have apart : R.ADC_TRIG n ≠ R.TIME_EV_STS n ∧ R.ADC_TRIG n ≠ R.TIME_EV_CAP_LO n ∧ R.ADC_TRIG n ≠ R.TIME_EV_CAP_LO n + 4 := by
    simp only [R.ADC_TRIG, R.TIME_EV_STS, R.TIME_EV_CAP_LO]
    omega
  obtain ⟨sts, lo, hi⟩ := apart
  rw [Dev.evCaught_rd _ _ _ sts, Dev.put64, Dev.rd_wr_ne _ _ hi, Dev.rd_wr_ne _ _ lo]

theorem Dev.evCaught_outcome (t : Nat) : (d.evCaught n t).get64 (R.TIME_EV_CAP_LO n) = d.nowNs % 2 ^ 64 ∧
    (d.evCaught n t).flag (F.TIME_EV_STS_CAP_EVT n) = true ∧
    (d.flag (F.TIME_EV_STS_CAP_EVT n) = true → (d.evCaught n t).flag (F.TIME_EV_STS_OVR_EVT n) = true) := by
  obtain ⟨-, -, cap, ovr⟩ := evSts_evt n
  refine ⟨?_, Dev.raise_flag _ _ cap, fun before => ?_⟩
  · rw [Dev.get64_of_rd (d.evCaught_rd n t (evCap_ne_sts n).1) (d.evCaught_rd n t (evCap_ne_sts n).2), Dev.get64_put64]
  · rw [Dev.evCaught, Dev.flag_raise_apart _ (F.TIME_EV_STS_CAP_EVT n) (F.TIME_EV_STS_OVR_EVT n) cap rfl
      (Or.inl (by simp [F.TIME_EV_STS_CAP_EVT, F.TIME_EV_STS_OVR_EVT])) (by simp [F.TIME_EV_STS_OVR_EVT]), if_pos before]
    exact Dev.flag_up_same _ _ _ rfl (lt_trans ovr.2 (by decide))

end Channel

section Edge
variable (d : Dev) (p : TrigAt) (r : Bool) (t : Nat)

/-- An edge at a ball that is not the capture input of its channel does nothing. -/
theorem Dev.trigCapture_elsewhere (h : (d.runBelow t).captureAt p = false) : d.trigCapture p r t = d.runBelow t := by
  have edge : d.trigEdge p r t = (d.runBelow t, false) := if_neg fun c => by simp [h] at c
  rw [Dev.trigCapture, edge]
  rfl

/-- An edge at the capture input, selected by EDGE and not too near the last, is captured; it requests no conversion where the
channel's trigger is off. -/
theorem Dev.trigCapture_taken (here : (d.runBelow t).captureAt p = true) (mode : d.get (F.TIME_EV_CTL_MODE p.n) = 3)
    (edge : bitOf (d.get (F.TIME_EV_CTL_EDGE p.n)) (if r then 0 else 1) = true)
    (far : ∀ l, (tget d.time.ev p.n).lastEdge = some l → l + 10 ≤ d.upAt t) (trig : d.flag (F.ADC_TRIG_EN p.n) = false) :
    d.trigCapture p r t = (d.runBelow t).evCaught p.n t := by
  have regs := d.runBelow_regs t
  have caught : d.trigEdge p r t = ((d.runBelow t).evCaught p.n t, true) := by
    refine if_pos ⟨here, (Dev.get_of_regs regs _).trans mode, ?_, ?_⟩
    · rw [Dev.get_of_regs regs]
      cases r <;> exact edge
    · rw [Dev.ran_lastEdge (d.ran_runBelow t), Dev.ran_upAt (d.ran_runBelow t)]
      split
      · next l last => exact decide_eq_false (not_lt.mpr (far l last))
      · rfl
  have quiet : ((d.runBelow t).evCaught p.n t).flag (F.ADC_TRIG_EN p.n) = false :=
    ((Dev.flag_of_rd (Dev.evCaught_adcTrig _ p.n.isLt t)).trans (Dev.flag_of_regs regs _)).trans trig
  simp only [Dev.trigCapture, caught, quiet]
  rfl

end Edge

/-- Settles O15: a channel is armed, moved, fires and captures as the equations of its four operations say. -/
theorem eventChannels : Obligations.EventChannels := by
  unfold Obligations.EventChannels
  refine ⟨fun s n w => ⟨s.upd (Dev.evCtlWrite n w), rfl, ?_⟩, fun s n one => ⟨s.upd (Dev.evArm n), rfl, s.dev.evArm_outcome n one⟩,
    fun s n hi w arm one => ⟨s.upd (Dev.evTgtWrite n hi w), rfl, s.dev.evTgtWrite_outcome n arm one⟩, fun s n m t due => ?_,
    fun s p r t off => ?_, fun s p r t => ?_⟩
  · obtain ⟨mode, arm, other, -⟩ := s.dev.evCtlWrite_outcome n w
    exact ⟨mode, arm, other, rfl, rfl, rfl, rfl⟩
  · exact ⟨_, congrArg done (State.tevFire_due due m.toNat), s.dev.evFire n t, rfl, rfl, s.dev.evFire_outcome n t⟩
  · exact congrArg (fun d => done { s with dev := d }) (s.dev.trigCapture_elsewhere p r t off)
  · intro n here mode edge far trig
    refine ⟨s.upd (Dev.trigCapture p r t), rfl, ?_⟩
    obtain ⟨cap, evt, ovr⟩ := (s.dev.runBelow t).evCaught_outcome n t
    rw [State.upd, s.dev.trigCapture_taken p r t here mode edge far trig]
    exact ⟨cap, evt, fun before => ovr ((Dev.flag_of_regs (s.dev.runBelow_regs t) _).trans before), rfl, rfl, rfl, rfl⟩

end Sys2Proof.Machine
end

section
/-! The clock: ticks up to an instant, the nominal trim, PPS and the time of day (04 R95 to R97, R106 to R110). -/
namespace Sys2Proof.Machine

/-! Ticks up to an instant (R96, R106, R110). -/

/-- Rounded up, a quotient is the least number of steps that reach. -/
theorem ceil_steps {x c : Nat} (hx : 0 < x) (hc : 0 < c) :
    1 ≤ (x + c - 1) / c ∧ x ≤ (x + c - 1) / c * c ∧ ((x + c - 1) / c - 1) * c < x := by
  have split := Nat.div_add_mod' (x + c - 1) c
  have rest := Nat.mod_lt (x + c - 1) hc
  have one : 1 ≤ (x + c - 1) / c := (Nat.le_div_iff_mul_le hc).mpr (by omega)
  rw [Nat.sub_mul, one_mul]
  omega

section Ticks
variable {d : Dev}

theorem Dev.tick_counts (run : d.time.running = true) (k : Nat) :
    (d.tick k).time.now = d.time.now + k * d.tickInc ∧ (d.tick k).time.ticks = d.time.ticks + k := by
  by_cases pass : k = 0
  · rw [show d.tick k = d from if_pos (Or.inl pass), pass, zero_mul]
    exact ⟨rfl, rfl⟩
  · rw [Dev.tick_running pass run]
    exact ⟨rfl, rfl⟩

theorem Dev.now_lt_of_nowNs {ns : Nat} (h : d.nowNs < ns) : d.time.now < 2 ^ 32 * ns := by
  unfold Dev.nowNs at h
  omega

variable (run : d.time.running = true) (pos : 0 < d.tickInc) {ns : Nat} (ahead : d.nowNs < ns)
include run pos ahead

/-- TIME runs to an instant by the fewest ticks that reach it. -/
theorem Dev.runTo_ticks : ∃ k, 1 ≤ k ∧ (d.runTo ns).time.now = d.time.now + k * d.tickInc ∧ (d.runTo ns).time.ticks = d.time.ticks + k ∧
    ns ≤ (d.runTo ns).nowNs ∧ (d.time.now + (k - 1) * d.tickInc) / 2 ^ 32 < ns ∧ (d.runTo ns).regs = d.regs := by
  have before := Dev.now_lt_of_nowNs ahead
  have ticks : d.runTo ns = d.tick ((2 ^ 32 * ns - d.time.now + d.tickInc - 1) / d.tickInc) := if_neg (by omega)
  obtain ⟨some, reach, short⟩ := ceil_steps (x := 2 ^ 32 * ns - d.time.now) (by omega) pos
  obtain ⟨now, count⟩ := Dev.tick_counts run ((2 ^ 32 * ns - d.time.now + d.tickInc - 1) / d.tickInc)
  refine ⟨_, some, ?_, ?_, ?_, ?_, d.runTo_regs ns⟩
  · rw [ticks, now]
  · rw [ticks, count]
  · rw [ticks, Dev.nowNs, now]
    omega
  · omega

/-- TIME runs to the last tick at or before an instant. -/
theorem Dev.runBelow_last : (d.runBelow ns).time.now ≤ 2 ^ 32 * ns ∧ 2 ^ 32 * ns < (d.runBelow ns).time.now + d.tickInc := by
  have before := Dev.now_lt_of_nowNs ahead
  have ticks : d.runBelow ns = d.tick ((2 ^ 32 * ns - d.time.now) / d.tickInc) := if_neg (by omega)
  obtain ⟨now, -⟩ := Dev.tick_counts run ((2 ^ 32 * ns - d.time.now) / d.tickInc)
  have split := Nat.div_add_mod' (2 ^ 32 * ns - d.time.now) d.tickInc
  have rest := Nat.mod_lt (2 ^ 32 * ns - d.time.now) pos
  rw [ticks, now]
  omega

end Ticks

/-- The 1 µs tick runs TIME to the next multiple of 1,000 ns and posts what is due (R110). -/
theorem State.usTick_runs (s : State) : s.usTick = (s.upd (Dev.runTo ((s.dev.nowNs / 1000 + 1) * 1000))).dueTick := by
  simp only [State.usTick, State.upd]

/-! The nominal trim (R97). -/

section Trim
variable (d : Dev)

theorem Dev.showInc_rd_ne {o : Nat} (lo : o ≠ R.TIME_INC_ACT_LO) (hi : o ≠ R.TIME_INC_ACT_HI) : d.showInc.rd o = d.rd o :=
  (Dev.rd_put_ne _ _ hi).trans (Dev.rd_put_ne _ _ lo)

theorem Dev.tickInc_congr {e : Dev} (nom : e.rd R.TIME_INC_NOM = d.rd R.TIME_INC_NOM) (trim : e.time.trim = d.time.trim) :
    e.tickInc = d.tickInc := by
  have get : e.get F.TIME_INC_NOM_NOM_TRIM = d.get F.TIME_INC_NOM_NOM_TRIM := Dev.get_of_rd nom
  simp only [Dev.tickInc, Dev.gets, get, trim]

/-- TIME_INC_ACT shows the increment. -/
theorem Dev.showInc_act : d.showInc.get F.TIME_INC_ACT_LO_INC_FRAC = d.tickInc % 2 ^ 32 ∧
    d.showInc.get F.TIME_INC_ACT_HI_INC_INT = d.tickInc / 2 ^ 32 % 2 ^ (F.TIME_INC_ACT_HI_INC_INT.hi + 1) := by
  constructor
  · rw [Dev.showInc, Dev.get_put_ne _ _ (by decide), Dev.get_put_same _ _ _ ⟨by decide, by decide⟩]
    rfl
  · rw [Dev.showInc, Dev.get_put_same _ _ _ ⟨by decide, by decide⟩]
    rfl

/-- The increment with NOM_TRIM at a word. -/
theorem Dev.tickInc_nom {w : Word} (h : d.rd R.TIME_INC_NOM = w) : d.tickInc = (5 * 2 ^ 32 + sInt 32 w.toNat - d.time.trim).toNat := by
  have field : d.get F.TIME_INC_NOM_NOM_TRIM = w.toNat := by
    rw [← h]
    exact (congrArg (· % 2 ^ 32) (Nat.div_one _)).trans (Nat.mod_eq_of_lt (d.rd R.TIME_INC_NOM).isLt)
  rw [Dev.tickInc, Dev.gets, field]
  rfl

/-- An effect of a guarded write that leaves GUARD_LOG writes the register. -/
theorem Dev.guarded_quiet {off : Nat} {f : Dev → Dev} (h : (f d).rd R.SYS_GUARD_LOG = d.rd R.SYS_GUARD_LOG) :
    ∃ b l, d.guarded off f = { f d with host := { (f d).host with parityBad := b }, faults := l } := by
  rw [Dev.guarded_of_taken (Dev.get_of_rd h)]
  exact (f d).written_parity off

/-- The effect of a write of NOM_TRIM (R97). -/
def Dev.nomTrimEffect (p : Port) (w : Word) (d : Dev) : Dev := if nomTrimOk w then d.nomTrim w else d.illegal p R.TIME_INC_NOM

theorem answers_nomTrimWrite (s : State) (p : Port) (w : Word) :
    answers (.nomTrimWrite p w) s (s.upd (Dev.guarded R.TIME_INC_NOM (Dev.nomTrimEffect p w))) := (rfl)

theorem nomTrimWrite_taken (s : State) (p : Port) (w : Word) (ok : (sInt 32 w.toNat).natAbs ≤ 8589935) :
    leads (.nomTrimWrite p w) s fun x => x.dev.rd R.TIME_INC_NOM = w ∧ x.dev.time = s.dev.time ∧
      x.dev.tickInc = (5 * 2 ^ 32 + sInt 32 w.toNat - s.dev.time.trim).toNat ∧
      (x.dev.get F.TIME_INC_ACT_LO_INC_FRAC = x.dev.tickInc % 2 ^ 32 ∧
        x.dev.get F.TIME_INC_ACT_HI_INC_INT = x.dev.tickInc / 2 ^ 32 % 2 ^ (F.TIME_INC_ACT_HI_INC_INT.hi + 1)) ∧
      s.dev.sameRegs x.dev [R.TIME_INC_NOM, R.TIME_INC_ACT_LO, R.TIME_INC_ACT_HI] ∧ s.sameMem x := by
  refine ⟨_, answers_nomTrimWrite s p w, ?_⟩
  have effect : s.dev.nomTrimEffect p w = (s.dev.wr R.TIME_INC_NOM w).showInc := if_pos (decide_eq_true ok)
  have other : ∀ o, o ≠ R.TIME_INC_NOM → o ≠ R.TIME_INC_ACT_LO → o ≠ R.TIME_INC_ACT_HI →
      (s.dev.wr R.TIME_INC_NOM w).showInc.rd o = s.dev.rd o := fun o nom lo hi =>
    (Dev.showInc_rd_ne _ lo hi).trans (Dev.rd_wr_ne _ _ nom)
  have nom : (s.dev.wr R.TIME_INC_NOM w).showInc.rd R.TIME_INC_NOM = w :=
    (Dev.showInc_rd_ne _ (by decide) (by decide)).trans (Dev.rd_wr_same _ _ _)
  have inc : (s.dev.wr R.TIME_INC_NOM w).showInc.tickInc = (s.dev.wr R.TIME_INC_NOM w).tickInc :=
    Dev.tickInc_congr _ (Dev.showInc_rd_ne _ (by decide) (by decide)) rfl
  obtain ⟨b, l, e⟩ := s.dev.guarded_quiet (off := R.TIME_INC_NOM) (f := Dev.nomTrimEffect p w)
    (by rw [effect]; exact other _ (by decide) (by decide) (by decide))
  rw [State.upd, e, effect]
  refine ⟨nom, rfl, Dev.tickInc_nom _ nom, ?_, fun o ho => ?_, rfl, rfl, rfl, rfl⟩
  · have shown := (s.dev.wr R.TIME_INC_NOM w).showInc_act
    rw [← inc] at shown
    exact shown
  · simp only [List.mem_cons, List.not_mem_nil, or_false, not_or] at ho
    obtain ⟨nom, lo, hi⟩ := ho
    exact other o nom lo hi

theorem nomTrimWrite_refused (s : State) (p : Port) (w : Word) (bad : 8589935 < (sInt 32 w.toNat).natAbs) :
    answers (.nomTrimWrite p w) s (s.upd (Dev.illegal p R.TIME_INC_NOM)) ∧
      (s.dev.illegal p R.TIME_INC_NOM).rd R.TIME_INC_NOM = s.dev.rd R.TIME_INC_NOM := by
  have effect : s.dev.nomTrimEffect p w = s.dev.illegal p R.TIME_INC_NOM := if_neg (by simpa [nomTrimOk] using bad)
  have refused : s.dev.guarded R.TIME_INC_NOM (Dev.nomTrimEffect p w) = s.dev.illegal p R.TIME_INC_NOM := by
    rw [← effect]
    exact Dev.guarded_of_logged (by rw [effect]; exact Dev.logErr_seq _ _ _ _ _ _ _)
  refine ⟨?_, Dev.logErr_rd_ne _ _ _ _ _ _ _ (by decide) (by decide) (by decide)⟩
  have run := answers_nomTrimWrite s p w
  rwa [State.upd, refused] at run

end Trim

/-! PPS and the time of day (R106 to R109). -/

section Pps
variable (d : Dev)

theorem Dev.isZenith_of_rd {d e : Dev} (h : e.rd R.TIME_SERVO_STS = d.rd R.TIME_SERVO_STS) : e.isZenith = d.isZenith := by
  have role : e.get F.TIME_SERVO_STS_ROLE = d.get F.TIME_SERVO_STS_ROLE := Dev.get_of_rd h
  rw [Dev.isZenith, Dev.isZenith, Dev.role, Dev.role, role]

/-- The device that has captured a PPS edge at t (R106). -/
def Dev.ppsCaught (t : Nat) (d : Dev) : Dev :=
  { d.put64 R.TIME_PPS_CAP_LO d.nowNs with time := { d.time with ppsLast := some (d.upAt t) } }

/-- An edge of the selected polarity, far enough from the last, is captured; a node other than the zenith node does no more. -/
theorem Dev.ppsEdge_captured {r : Bool} {t : Nat} (pol : (r != (d.runBelow t).flag F.TIME_PPS_CTL_PPS_IN_POL) = true)
    (far : ∀ l, d.time.ppsLast = some l → l + 500000000 ≤ d.upAt t) (follower : (d.runBelow t).isZenith = false) :
    d.ppsEdge r t = (d.runBelow t).ppsCaught t := by
  have last : (d.runBelow t).time.ppsLast = d.time.ppsLast := by
    obtain ⟨_, _, _, _, _, e, -⟩ := d.ran_runBelow t
    rw [e]
    rfl
  have zenith : ((d.runBelow t).ppsCaught t).isZenith = false :=
    (Dev.isZenith_of_rd ((Dev.rd_wr_ne _ _ (by decide)).trans (Dev.rd_wr_ne _ _ (by decide)))).trans follower
  unfold Dev.ppsEdge
  dsimp only
  rw [if_neg (by simpa using pol), if_neg, ← Dev.ppsCaught, if_neg (by simp [zenith])]
  rw [last, Dev.ran_upAt (d.ran_runBelow t)]
  split
  · next l is => simpa using far l is
  · simp

/-- ALIGN is armed on the zenith node (R107). -/
theorem Dev.todAlign_zenith {d : Dev} (h : d.isZenith = true) :
    (d.parityWritten R.TIME_PPS_CTL).todAlign = (d.parityWritten R.TIME_PPS_CTL).up F.TIME_PPS_CTL_ALIGN true :=
  if_pos ((Dev.isZenith_of_rd (Dev.parityWritten_rd _ _ _)).trans h)

/-- 1.5 s without an accepted edge on an aligned zenith node (R108). -/
theorem Dev.ppsLoss_lost {t : Nat} (zenith : d.isZenith = true) (en : d.flag F.TIME_PPS_CTL_PPS_EN = true) (aligned : d.time.aligned = true)
    (old : ∀ u, d.time.ppsUsed = some u → u + 1500000000 ≤ (d.runTo t).upNs) :
    d.ppsLoss t = (d.runTo t).event0 F.TIME_SERVO_EVT_PPS_LOSS_EVT := by
  have zenith' : (d.runTo t).isZenith = true := (Dev.isZenith_of_rd (Dev.rd_of_regs (d.runTo_regs t) _)).trans zenith
  have en' : (d.runTo t).flag F.TIME_PPS_CTL_PPS_EN = true := (Dev.flag_of_regs (d.runTo_regs t) _).trans en
  have time : (d.runTo t).time.aligned = d.time.aligned ∧ (d.runTo t).time.ppsUsed = d.time.ppsUsed := by
    obtain ⟨_, _, _, _, _, e, -⟩ := d.ran_runTo t
    rw [e]
    exact ⟨rfl, rfl⟩
  unfold Dev.ppsLoss
  dsimp only
  rw [if_pos]
  rw [zenith', en', time.1, aligned, time.2]
  split
  · next u is => simpa using old u is
  · rfl

/-- The device that starts a pulse at PPS_OUT (R109). -/
def Dev.ppsPulse (d : Dev) : Dev :=
  { d with time := { d.time with ppsOutLast := some d.upNs, ppsOutEnd := some (d.upNs + d.ppsWidth) } }

/-- Time of day crosses a whole second at an instant; no pulse within the last 0.5 s. -/
theorem Dev.ppsOut_pulse {at' : Nat} (second : (at' : Int) = ((d.nowNs + d.todOffset) / 1000000000 + 1) * 1000000000 - d.todOffset)
    (en : d.flag F.TIME_PPS_CTL_PPS_OUT_EN = true) (valid : d.flag F.TIME_SERVO_STS_TOD_VALID = true)
    (far : ∀ l, d.time.ppsOutLast = some l → l + 500000000 ≤ (d.runTo at').upNs) : d.ppsOut = (d.runTo at').ppsPulse := by
  have en' : (d.runTo at').flag F.TIME_PPS_CTL_PPS_OUT_EN = true := (Dev.flag_of_regs (d.runTo_regs at') _).trans en
  have valid' : (d.runTo at').flag F.TIME_SERVO_STS_TOD_VALID = true := (Dev.flag_of_regs (d.runTo_regs at') _).trans valid
  have last : (d.runTo at').time.ppsOutLast = d.time.ppsOutLast := by
    obtain ⟨_, _, _, _, _, e, -⟩ := d.ran_runTo at'
    rw [e]
    rfl
  unfold Dev.ppsOut
  dsimp only
  rw [← second, Int.toNat_natCast, if_pos]
  · rfl
  · rw [en', valid', last]
    split
    · next l is => simpa using far l is
    · rfl

theorem Dev.ppsWidth_of_regs {d e : Dev} (h : e.regs = d.regs) : e.ppsWidth = d.ppsWidth := by
  rw [Dev.ppsWidth, Dev.ppsWidth, Dev.get_of_regs h]

end Pps

/-- Settles O14: TIME runs to its instants by whole ticks, the trim's write is taken or refused, and each PPS command acts by its rule. -/
theorem clockCommands : Obligations.ClockCommands := by
  unfold Obligations.ClockCommands
  refine ⟨⟨fun d ns run pos ahead => Dev.runTo_ticks run pos ahead, fun s => congrArg done s.usTick_runs⟩,
    fun s p w => ⟨nomTrimWrite_taken s p w, nomTrimWrite_refused s p w⟩,
    fun s r t run pos ahead pol far follower => ⟨?_, Dev.runBelow_last run pos ahead⟩, fun s zenith => ?_,
    fun s t zenith en aligned old => ?_, fun s at' second en valid far => ⟨s.upd Dev.ppsOut, rfl, ?_⟩⟩
  · exact congrArg (fun d => done { s with dev := d }) (s.dev.ppsEdge_captured pol far follower)
  · exact congrArg (fun d => done { s with dev := d }) (Dev.todAlign_zenith zenith)
  · exact congrArg (fun d => done { s with dev := d }) (s.dev.ppsLoss_lost zenith en aligned old)
  · rw [State.upd, s.dev.ppsOut_pulse second en valid far]
    have width := Dev.ppsWidth_of_regs (s.dev.runTo_regs at')
    exact ⟨rfl, rfl, congrArg (fun w => some ((s.dev.runTo at').upNs + w)) width, s.dev.runTo_regs at', rfl, rfl, rfl, rfl⟩

end Sys2Proof.Machine
end

section
/-! The integration step, and SYNC outside LISTEN (04 R99 to R105; 06 R157, R159). -/
namespace Sys2Proof.Machine

/-! What works on LINK's registers leaves TIME. -/

/-- Of d and e: the time base, and every register below an offset but the report, are the same. -/
structure Dev.Keeps (b : Nat) (d e : Dev) : Prop where
  time : e.time = d.time
  rd : ∀ o < b, o ≠ R.SYS_FAULT_EVT → e.rd o = d.rd o

namespace Dev.Keeps
variable {b : Nat} {d e f : Dev}

theorem refl (d : Dev) : Keeps b d d := ⟨rfl, fun _ _ _ => rfl⟩

theorem trans (h : Keeps b d e) (k : Keeps b e f) : Keeps b d f :=
  ⟨k.time.trans h.time, fun o lt ne => (k.rd o lt ne).trans (h.rd o lt ne)⟩

theorem mono {c : Nat} (h : Keeps b d e) (le : c ≤ b) : Keeps c d e := ⟨h.time, fun o lt => h.rd o (lt_of_lt_of_le lt le)⟩

variable (h : Keeps b d e)
include h

theorem put {g : Fld} (v : Nat) (le : b ≤ g.reg) : Keeps b d (e.put g v) :=
  h.trans ⟨rfl, fun _ lt _ => Dev.rd_put_ne _ _ (by omega)⟩

theorem up {g : Fld} (v : Bool) (le : b ≤ g.reg) : Keeps b d (e.up g v) := h.put _ le

theorem link (l : LinkSt) : Keeps b d { e with link := l } := ⟨h.time, h.rd⟩

theorem causeOff (k : FaultKind) (i : Nat) : Keeps b d (e.causeOff k i) := ⟨h.time, h.rd⟩

theorem each {α : Type} (l : List α) (g : α → Dev → Dev) (step : ∀ x d, Keeps b d (g x d)) : Keeps b d (Dev.each l g e) :=
  h.trans (foldl_rel_mem (Keeps b) refl trans _ l (fun x _ d => step x d) e)

end Dev.Keeps

/-! Streams (06 R162 to R164): their status registers lie from 0x303000 on. -/

theorem linkStrm_high (j : Nat) : 0x303000 ≤ R.LINK_STRM j := Nat.le_add_right _ _

theorem Dev.keeps_strmFaultOff (j : Nat) (d : Dev) : Dev.Keeps 0x303000 d (d.strmFaultOff j) :=
  ((Dev.Keeps.refl d).up (g := F.LINK_STRM_FAULT j) false (linkStrm_high j)).causeOff _ _

theorem Dev.keeps_freshStrm (j : Nat) (d : Dev) : Dev.Keeps 0x303000 d (d.freshStrm j) :=
  ((((Dev.Keeps.refl d).put (g := F.LINK_STRM_AGE j) 0 (linkStrm_high j)).up (g := F.LINK_STRM_STALE j) true (linkStrm_high j)).up
    (g := F.LINK_STRM_VALID j) false (linkStrm_high j)).trans (Dev.keeps_strmFaultOff j _)

theorem Dev.keeps_startStreams (pred : Nat → Bool) (d : Dev) : Dev.Keeps 0x303000 d (d.startStreams pred) :=
  (Dev.Keeps.refl d).each _ _ fun x d => by
    split
    · exact (Dev.keeps_freshStrm x.2 d).link _
    · exact Dev.Keeps.refl d

theorem Dev.keeps_dropStreams (d : Dev) : Dev.Keeps 0x303000 d d.dropStreams :=
  (Dev.Keeps.refl d).each _ _ fun j d =>
    ((Dev.Keeps.refl d).put (g := F.LINK_STRM_AGE j) 255 (linkStrm_high j)).up (g := F.LINK_STRM_STALE j) true (linkStrm_high j)

theorem Dev.keeps_absentStreams (m : Nat) (d : Dev) : Dev.Keeps 0x303000 d (d.absentStreams m) :=
  (Dev.Keeps.refl d).each _ _ fun x d => by
    split
    · exact Dev.Keeps.refl d
    · exact Dev.keeps_strmFaultOff x.2 d

theorem Dev.keeps_streamGood (stream : Nat) (body : List Word) (d : Dev) : Dev.Keeps 0x303000 d (d.streamGood stream body) := by
  unfold Dev.streamGood
  split
  · exact Dev.Keeps.refl d
  · next j _ =>
    have put := ((Dev.Keeps.refl d).link { d.link with bufs := tput d.link.bufs j body }).put (g := F.LINK_STRM_AGE j) 0 (linkStrm_high j)
    exact (((put.up (g := F.LINK_STRM_STALE j) false (linkStrm_high j)).up (g := F.LINK_STRM_VALID j) true (linkStrm_high j)).up
      (g := F.LINK_STRM_FAULT j) false (linkStrm_high j)).causeOff _ _

/-! The schedule's registers lie from 0x300000 on. -/

theorem Dev.keeps_takeMode (m : Nat) (d : Dev) : Dev.Keeps 0x300000 d (d.takeMode m) :=
  ((Dev.Keeps.refl d).put (g := F.LINK_SCHED_STS_CUR_MODE) m (by decide)).trans ((Dev.keeps_absentStreams m _).mono (by decide))

theorem Dev.keeps_slotTake (w : Option (Nat × Nat)) (f : Frame) (d : Dev) : Dev.Keeps 0x300000 d (d.slotTake w f) := by
  unfold Dev.slotTake
  split
  · exact Dev.Keeps.refl d
  · have noted := (Dev.Keeps.refl (b := 0x300000) d).link
    dsimp only
    split
    · split
      · exact (noted _).trans ((Dev.keeps_streamGood _ _ _).mono (by decide))
      · exact noted _
    · exact noted _

theorem Dev.keeps_propSync (f : Frame) (d : Dev) : Dev.Keeps 0x300000 d (d.propSync f) := by
  have shown := ((Dev.Keeps.refl d).put (g := F.LINK_MODE_STS_PROP_STATE) (bitsOf (f.w 0) 6 5) (b := 0x300000) (by decide)).put
    (g := F.LINK_MODE_STS_PROP_MODE) (bitsOf (f.w 0) 4 3) (by decide)
  unfold Dev.propSync
  dsimp only
  split
  · split
    · exact shown
    · exact shown.link _
  · exact shown.link _
  · exact shown.link _
  · exact shown

/-- PHASE follows SSTATE. -/
def Dev.phaseFollow (st : Nat) (d : Dev) : Dev :=
  if 4 ≤ st then { (d.put F.LINK_STS_PHASE 3) with link := { d.link with everSched := true } }
  else if d.phase = 3 then d.put F.LINK_STS_PHASE 2 else d

/-- A start leaves step 8 with the node's entry into SCHEDULED or ZENITH. -/
def Dev.stageFollow (st : Nat) (d : Dev) : Dev :=
  if 4 ≤ st ∧ d.get F.CFG_BOOT_STS_STAGE = 8 then d.put F.CFG_BOOT_STS_STAGE 9 else d

/-- SSTATE, PHASE and STAGE as setSstate puts them, before the streams follow. -/
def Dev.statePut (st : Nat) (d : Dev) : Dev := ((d.put F.LINK_SCHED_STS_SSTATE st).phaseFollow st).stageFollow st

theorem Dev.setSstate_eq (st : Nat) (d : Dev) : d.setSstate st =
    if decide (4 ≤ d.sstate) ∧ st < 4 then (d.statePut st).dropStreams
    else if ¬ decide (4 ≤ d.sstate) ∧ 4 ≤ st then
      (d.statePut st).startStreams ((d.statePut st).inMode ((d.statePut st).get F.LINK_SCHED_STS_CUR_MODE))
    else d.statePut st := (rfl)

theorem Dev.keeps_streamsFollow (st : Nat) (d : Dev) : Dev.Keeps 0x303000 (d.statePut st) (d.setSstate st) := by
  rw [Dev.setSstate_eq]
  split
  · exact Dev.keeps_dropStreams _
  · split
    · exact Dev.keeps_startStreams _ _
    · exact Dev.Keeps.refl _

theorem Dev.keeps_phaseFollow (st : Nat) (d : Dev) : Dev.Keeps 0x300000 d (d.phaseFollow st) := by
  have phase := fun v => (Dev.Keeps.refl d).put (g := F.LINK_STS_PHASE) v (b := 0x300000) (by decide)
  unfold Dev.phaseFollow
  split
  · exact (phase 3).link _
  · split
    · exact phase 2
    · exact Dev.Keeps.refl d

theorem Dev.keeps_stageFollow (st : Nat) (d : Dev) : Dev.Keeps 0x300000 d (d.stageFollow st) := by
  unfold Dev.stageFollow
  split
  · exact (Dev.Keeps.refl d).put _ (by decide)
  · exact Dev.Keeps.refl d

theorem Dev.keeps_statePut (st : Nat) (d : Dev) : Dev.Keeps 0x300000 d (d.statePut st) :=
  (((Dev.Keeps.refl d).put _ (by decide)).trans (Dev.keeps_phaseFollow st _)).trans (Dev.keeps_stageFollow st _)

theorem Dev.keeps_setSstate (st : Nat) (d : Dev) : Dev.Keeps 0x300000 d (d.setSstate st) :=
  (d.keeps_statePut st).trans ((d.keeps_streamsFollow st).mono (by decide))

/-- A state below SCHEDULED is the one put. -/
theorem Dev.sstate_setSstate {st : Nat} (h : st < 4) (d : Dev) : (d.setSstate st).sstate = st := by
  have put : (d.put F.LINK_SCHED_STS_SSTATE st).sstate = st :=
    (Dev.get_put_same _ _ _ ⟨by decide, by decide⟩).trans (Nat.mod_eq_of_lt (lt_trans h (by decide)))
  have follow : (d.setSstate st).sstate = (d.statePut st).sstate :=
    Dev.get_of_rd ((d.keeps_streamsFollow st).rd _ (by decide) (by decide))
  have low : ¬ 4 ≤ st := not_le.mpr h
  rw [follow, Dev.statePut, Dev.stageFollow, if_neg fun c => low c.1, Dev.phaseFollow, if_neg low]
  split
  · exact (Dev.get_put_ne _ _ (by decide)).trans put
  · exact put

/-! LOCKED (R105) and the zenith node's leave. -/

theorem Dev.event0_flag_apart (d : Dev) (f g : Fld) (h : f.evt) (r : g.reg = f.reg) (k : g.reg ≠ R.SYS_FAULT_EVT)
    (a : f.hi < g.lo ∨ g.hi < f.lo) (b : g.hi < 24) : (d.event0 f).flag g = d.flag g :=
  (Dev.flag_of_get (d.event0_get f k)).trans (d.flag_raise_apart f g h r a b)

theorem Dev.setLocked_time (b : Bool) (d : Dev) : (d.setLocked b).time = d.time := by
  unfold Dev.setLocked
  split
  · rfl
  · rw [Dev.event0_time, Dev.up_time]

/-- LOCKED and its events leave STEP_EVT. -/
theorem Dev.setLocked_step (b : Bool) (d : Dev) :
    (d.setLocked b).flag F.TIME_SERVO_EVT_STEP_EVT = d.flag F.TIME_SERVO_EVT_STEP_EVT := by
  have event : ∀ f : Fld, f.evt → f.reg = R.TIME_SERVO_EVT → f.hi < 2 →
      ((d.up F.TIME_SERVO_STS_LOCKED b).event0 f).flag F.TIME_SERVO_EVT_STEP_EVT = d.flag F.TIME_SERVO_EVT_STEP_EVT :=
    fun f evt reg low => (Dev.event0_flag_apart _ f _ evt reg.symm (by decide) (Or.inl low) (by decide)).trans
      (d.flag_up_ne (f := F.TIME_SERVO_STS_LOCKED) b (by decide))
  unfold Dev.setLocked
  split
  · rfl
  · cases b
    · exact event F.TIME_SERVO_EVT_UNLOCK_EVT ⟨by decide, by decide⟩ rfl (by decide)
    · exact event F.TIME_SERVO_EVT_LOCK_EVT ⟨by decide, by decide⟩ rfl (by decide)

/-- The device with another run of samples within 10 ns. -/
def Dev.lockRan (run : Nat) (d : Dev) : Dev := { d with time := { d.time with lockRun := run } }

/-- A sample counts towards LOCKED, and may set or clear it. -/
theorem Dev.lockSample_cases (e : Int) (d : Dev) :
    ∃ run, d.lockSample e = d.lockRan run ∨ ∃ b, d.lockSample e = (d.lockRan run).setLocked b := by
  unfold Dev.lockSample
  dsimp only
  generalize (if e.natAbs ≤ 10000 then d.time.lockRun + 1 else 0) = run
  refine ⟨run, ?_⟩
  split
  · exact Or.inr ⟨false, rfl⟩
  · split
    · exact Or.inr ⟨true, rfl⟩
    · exact Or.inl rfl

/-! What a step sets, and what leaves it. -/

/-- Of d and e: TIME_NOW, the servo's integral, the integration and STEP_EVT are the same. -/
structure Dev.KeepsStep (d e : Dev) : Prop where
  now : e.time.now = d.time.now
  servoI : e.time.servoI = d.time.servoI
  integrated : e.time.integrated = d.time.integrated
  evt : e.flag F.TIME_SERVO_EVT_STEP_EVT = d.flag F.TIME_SERVO_EVT_STEP_EVT

namespace Dev.KeepsStep
variable {d e f : Dev}

theorem refl (d : Dev) : KeepsStep d d := ⟨rfl, rfl, rfl, rfl⟩

theorem trans (h : KeepsStep d e) (k : KeepsStep e f) : KeepsStep d f :=
  ⟨k.now.trans h.now, k.servoI.trans h.servoI, k.integrated.trans h.integrated, k.evt.trans h.evt⟩

theorem of_regs (now : e.time.now = d.time.now) (servoI : e.time.servoI = d.time.servoI)
    (integrated : e.time.integrated = d.time.integrated) (regs : e.regs = d.regs) : KeepsStep d e :=
  ⟨now, servoI, integrated, Dev.flag_of_regs regs _⟩

variable (h : KeepsStep d e)
include h

/-- A register other than TIME_SERVO_EVT is written. -/
theorem wr {o : Nat} (w : Word) (ne : R.TIME_SERVO_EVT ≠ o) : KeepsStep d (e.wr o w) :=
  h.trans ⟨rfl, rfl, rfl, Dev.flag_of_rd (Dev.rd_wr_ne _ _ ne)⟩

theorem put {g : Fld} (v : Nat) (ne : R.TIME_SERVO_EVT ≠ g.reg) : KeepsStep d (e.put g v) := h.wr _ ne

theorem link (l : LinkSt) : KeepsStep d { e with link := l } := ⟨h.now, h.servoI, h.integrated, h.evt⟩

theorem seen : KeepsStep d { e with time := { e.time with syncSeen := true } } := ⟨h.now, h.servoI, h.integrated, h.evt⟩

theorem ev (l : List (Nat × EvChan)) : KeepsStep d { e with time := { e.time with ev := l } } :=
  ⟨h.now, h.servoI, h.integrated, h.evt⟩

end Dev.KeepsStep

theorem Dev.Keeps.step {d e : Dev} (h : Dev.Keeps 0x300000 d e) : Dev.KeepsStep d e :=
  ⟨congrArg TimeSt.now h.time, congrArg TimeSt.servoI h.time, congrArg TimeSt.integrated h.time,
    Dev.flag_of_rd (h.rd R.TIME_SERVO_EVT (by decide) (by decide))⟩

theorem Dev.keepsStep_setLocked (b : Bool) (d : Dev) : Dev.KeepsStep d (d.setLocked b) :=
  ⟨congrArg TimeSt.now (d.setLocked_time b), congrArg TimeSt.servoI (d.setLocked_time b), congrArg TimeSt.integrated (d.setLocked_time b),
    d.setLocked_step b⟩

theorem Dev.keepsStep_lockSample (e : Int) (d : Dev) : Dev.KeepsStep d (d.lockSample e) := by
  obtain ⟨run, same | ⟨b, locked⟩⟩ := d.lockSample_cases e
  · rw [same]
    exact Dev.KeepsStep.of_regs rfl rfl rfl rfl
  · rw [locked]
    have ran : Dev.KeepsStep d (d.lockRan run) := Dev.KeepsStep.of_regs rfl rfl rfl rfl
    exact ran.trans (Dev.keepsStep_setLocked b _)

theorem Dev.keepsStep_syncCopy (f : Frame) (d : Dev) : Dev.KeepsStep d (d.syncCopy f) :=
  ((((((Dev.KeepsStep.refl d).link _).wr _ (by decide)).put _ (by decide)).wr _ (by decide)).wr _ (by decide)).put
    (g := F.TIME_SERVO_STS_TOD_VALID) _ (by decide) |>.seen

theorem Dev.keepsStep_cycPassed (d : Dev) : Dev.KeepsStep d d.cycPassed := by
  unfold Dev.cycPassed
  exact (Dev.KeepsStep.refl d).ev _

theorem Dev.keepsStep_lateTargets (d : Dev) : Dev.KeepsStep d d.lateTargets := by
  refine foldl_rel_mem Dev.KeepsStep Dev.KeepsStep.refl Dev.KeepsStep.trans _ _ (fun n _ d => ?_) d
  dsimp only
  split
  · exact (Dev.KeepsStep.refl d).ev _
  · exact Dev.KeepsStep.refl d

/-! The integration step (R103). -/

/-- TIME_NOW less e, cut at 0, and the cycle that holds it. -/
def Dev.timeMoved (e : Int) (d : Dev) : Dev :=
  let now := ((d.time.now : Int) - (e * 2 ^ 32).fdiv 1000).toNat
  { d with time := { d.time with
    now := now, stepped := d.time.stepped + d.time.now - now, servoI := 0, nextCyc := nextMultiple d.time.tb (now / 2 ^ 32),
    cycStart := now / 2 ^ 32 / d.time.tb * d.time.tb, integrated := true, lockRun := 0, outRun := 0 } }

theorem Dev.timeStep_eq (e : Int) (d : Dev) :
    d.timeStep e = ((d.timeMoved e).event0 F.TIME_SERVO_EVT_STEP_EVT).cycPassed.lateTargets := (rfl)

theorem Dev.keepsStep_timeStep (e : Int) (d : Dev) :
    Dev.KeepsStep ((d.timeMoved e).event0 F.TIME_SERVO_EVT_STEP_EVT) (d.timeStep e) := by
  rw [Dev.timeStep_eq]
  exact (Dev.keepsStep_cycPassed _).trans (Dev.keepsStep_lateTargets _)

/-- What an integrating node does after its step (Table 6.8, R22). -/
theorem Dev.keepsStep_integrate (e : Int) (f : Frame) (d : Dev) : Dev.KeepsStep (d.timeStep e) (d.integrate e f) := by
  unfold Dev.integrate
  refine Dev.KeepsStep.trans ?_ (Dev.keeps_propSync f _).step
  refine Dev.KeepsStep.trans ?_ (Dev.keepsStep_syncCopy f _)
  refine Dev.KeepsStep.trans ?_ (Dev.keeps_setSstate 3 _).step
  refine Dev.KeepsStep.trans ?_ (Dev.keepsStep_lockSample e _)
  refine Dev.KeepsStep.trans ?_ ((Dev.KeepsStep.refl _).put _ (by decide))
  refine Dev.KeepsStep.trans ?_ ((Dev.KeepsStep.refl _).put _ (by decide))
  refine Dev.KeepsStep.trans ?_ ((Dev.KeepsStep.refl _).put _ (by decide))
  refine Dev.KeepsStep.trans ?_ (Dev.keeps_takeMode _ _).step
  exact Dev.KeepsStep.of_regs rfl rfl rfl rfl

/-- A node that integrates has stepped TIME_NOW by e, with i := 0 and STEP_EVT. -/
theorem Dev.integrate_outcome (e : Int) (f : Frame) (d : Dev) :
    ((d.integrate e f).time.now : Int) = max 0 ((d.time.now : Int) - (e * 2 ^ 32).fdiv 1000) ∧ (d.integrate e f).time.servoI = 0 ∧
    (d.integrate e f).time.integrated = true ∧ (d.integrate e f).flag F.TIME_SERVO_EVT_STEP_EVT = true := by
  obtain ⟨now, servoI, integrated, evt⟩ := (d.keepsStep_timeStep e).trans (d.keepsStep_integrate e f)
  rw [now, servoI, integrated, evt, Dev.event0_time]
  exact ⟨(Int.toNat_eq_max _).trans (max_comm _ _), rfl, rfl, Dev.event0_flag _ ⟨by decide, by decide⟩ (by decide)⟩

/-! A SYNC in LISTEN (R157). -/

/-- Does LISTEN accept a SYNC: no DAWN is recent, or its node has the lowest ID of those heard? -/
def Dev.dawnAccepts (d : Dev) (f : Frame) : Prop := d.recentDawns = [] ∨ (∀ n ∈ d.recentDawns, f.src ≤ n) ∧ f.src ∈ d.recentDawns

section Listen
variable {d : Dev} (listen : d.sstate = 1) (p : Nat) (f : Frame) (stamp : Nat)
include listen

theorem Dev.syncIn_listen : d.syncIn p f stamp =
    if d.recentDawns = [] ∨ d.recentDawns.all (fun n => decide (f.src ≤ n)) ∧ d.recentDawns.contains f.src
    then d.integrate (d.syncOffset p f stamp) f else d := by
  simp only [Dev.syncIn, listen]

theorem Dev.syncIn_accepted (h : d.dawnAccepts f) : d.syncIn p f stamp = d.integrate (d.syncOffset p f stamp) f := by
  rw [Dev.syncIn_listen listen, if_pos (by simpa [Dev.dawnAccepts] using h)]

theorem Dev.syncIn_ignored (h : ¬ d.dawnAccepts f) : d.syncIn p f stamp = d := by
  rw [Dev.syncIn_listen listen, if_neg (by simpa [Dev.dawnAccepts] using h)]

end Listen

/-! Back to LISTEN (Table 6.8). -/

theorem Dev.zenithLeave_now (d : Dev) : d.zenithLeave.time.now = d.time.now := by
  unfold Dev.zenithLeave
  split
  · rw [Dev.setLocked_time]
  · rfl

theorem Dev.toListen_outcome (d : Dev) :
    d.toListen.time.integrated = false ∧ d.toListen.sstate = 1 ∧ d.toListen.time.now = d.time.now := by
  have state : d.toListen.sstate = (d.zenithLeave.setSstate 1).sstate := Dev.get_put_ne _ _ (by decide)
  have now : d.toListen.time.now = (d.zenithLeave.setSstate 1).time.now := rfl
  refine ⟨rfl, state.trans (Dev.sstate_setSstate (by decide) _), now.trans ?_⟩
  rw [(d.zenithLeave.keeps_setSstate 1).time, Dev.zenithLeave_now]

theorem Dev.toListen_now (d : Dev) : d.toListen.time.now = d.time.now := d.toListen_outcome.2.2

theorem Dev.driftOut_now (d : Dev) : d.driftOut.time.now = d.time.now := by
  unfold Dev.driftOut
  split
  · exact d.toListen_now
  · rw [Dev.silence, Dev.toListen_now, Dev.event0_time, Dev.cnt_time]

/-! A SYNC outside LISTEN (R101, R104, R159). -/

theorem Dev.syncSample_now (e : Int) (d : Dev) : (d.syncSample e).1.time.now = d.time.now := by
  unfold Dev.syncSample
  dsimp only
  split
  · show ((d.cnt F.TIME_SERVO_CNT_OUTLIER).event0 F.TIME_SERVO_EVT_OUTLIER_EVT).time.now = _
    rw [Dev.event0_time, Dev.cnt_time]
  · rw [(Dev.keepsStep_lockSample e _).now]
    rfl

theorem Dev.keeps_newZenith (f : Frame) (d : Dev) : Dev.Keeps 0x300000 d (d.newZenith f) := by
  have put := (Dev.Keeps.refl d).put (g := F.LINK_SCHED_STS_ZENITH_ID) f.src (b := 0x300000) (by decide)
  unfold Dev.newZenith
  dsimp only
  split
  · exact Dev.Keeps.refl d
  · split
    · exact (put.put _ (by decide)).link _
    · exact put.link _

theorem Dev.driftClass_now (d : Dev) : d.driftClass.time.now = d.time.now := by
  unfold Dev.driftClass
  dsimp only
  split
  · exact d.driftOut_now
  · split
    · split
      · rfl
      · rw [Dev.event0_time, Dev.up_time]
    · rfl

/-- CUR_MODE as an INTEGRATING node takes it from a SYNC (R167). -/
def Dev.syncMode (f : Frame) (d : Dev) : Dev :=
  if d.sstate = 3 ∧ bitsOf (f.w 0) 2 1 ≠ d.get F.LINK_SCHED_STS_CUR_MODE then
    { d.takeMode (bitsOf (f.w 0) 2 1) with link := { (d.takeMode (bitsOf (f.w 0) 2 1)).link with accepted := [], goods := [] } }
  else d

theorem Dev.keeps_syncMode (f : Frame) (d : Dev) : Dev.Keeps 0x300000 d (d.syncMode f) := by
  unfold Dev.syncMode
  split
  · exact (Dev.keeps_takeMode _ d).link _
  · exact Dev.Keeps.refl d

theorem Dev.keeps_syncTake (p : Nat) (f : Frame) (d : Dev) : Dev.Keeps 0x300000 d (d.syncTake p f) := Dev.keeps_slotTake _ f d

theorem Dev.syncFollow_eq (p : Nat) (e : Int) (f : Frame) (d : Dev) : d.syncFollow p e f =
    let s := d.syncSample e
    if !s.2 then (if 4 ≤ s.1.time.outRun then s.1.driftOut else s.1)
    else ((((((s.1.newZenith f).syncCopy f).syncMode f).syncTake p f).propSync f).driftClass) := (rfl)

theorem Dev.syncFollow_now (p : Nat) (e : Int) (f : Frame) (d : Dev) : (d.syncFollow p e f).time.now = d.time.now := by
  rw [Dev.syncFollow_eq]
  dsimp only
  split
  · split
    · exact (Dev.driftOut_now _).trans (d.syncSample_now e)
    · exact d.syncSample_now e
  · have taken := ((Dev.keeps_syncMode f (((d.syncSample e).1.newZenith f).syncCopy f)).trans (Dev.keeps_syncTake p f _)).trans
      (Dev.keeps_propSync f _)
    rw [Dev.driftClass_now]
    exact (taken.step.now.trans (Dev.keepsStep_syncCopy f _).now).trans ((Dev.keeps_newZenith f _).step.now.trans (d.syncSample_now e))

theorem Dev.syncIn_now {d : Dev} (h : d.sstate ≠ 1) (p : Nat) (f : Frame) (stamp : Nat) :
    (d.syncIn p f stamp).time.now = d.time.now := by
  unfold Dev.syncIn
  dsimp only
  split
  · next listen => exact absurd listen h
  · split
    · rfl
    · split
      · rw [Dev.toListen_now, Dev.event0_time]
      · rw [Dev.cnt_time]
  · split
    · rfl
    · split
      · exact d.syncFollow_now p _ f
      · split
        · exact d.syncFollow_now p _ f
        · rw [Dev.cnt_time]

/-- Settles O17: an accepted SYNC in LISTEN integrates the node, any other there does nothing, and outside LISTEN none moves TIME_NOW. -/
theorem integrationStep : Obligations.IntegrationStep := by
  unfold Obligations.IntegrationStep
  refine ⟨fun d p f stamp listen accepts => ?_, fun d p f stamp listen some lower => ?_,
    fun d p f stamp other => Dev.syncIn_now other p f stamp, Dev.toListen_outcome⟩
  · dsimp only
    rw [Dev.syncIn_accepted listen p f stamp accepts]
    exact d.integrate_outcome _ f
  · refine Dev.syncIn_ignored listen p f stamp fun accepts => ?_
    obtain ⟨least, heard⟩ := accepts.resolve_left some
    rcases lower with unheard | ⟨n, mem, lt⟩
    · exact unheard heard
    · exact absurd (least n mem) (not_le.mpr lt)

end Sys2Proof.Machine
end

section
/-! What a frame at an egress port touches (05 R130, R143; 06 R132, R151). -/
namespace Sys2Proof.Machine

theorem Dev.Keeps.event0 {b : Nat} {d e : Dev} (h : Dev.Keeps b d e) {g : Fld} (le : b ≤ g.reg) : Dev.Keeps b d (e.event0 g) :=
  h.trans ⟨e.event0_time g, fun _ lt evt => e.event0_rd_ne (by omega) evt⟩

/-- Of d and e: the same but for the ports, their registers from 0x301000 on, the report and parts that no frame on the line belongs to. -/
structure Dev.Egressed (d e : Dev) : Prop where
  keeps : Dev.Keeps 0x301000 d e
  link : ∃ q, e.link = { d.link with ports := q }
  safe : e.safe = d.safe

namespace Dev.Egressed
variable {d e f : Dev}

theorem refl (d : Dev) : Egressed d d := ⟨Dev.Keeps.refl d, ⟨_, rfl⟩, rfl⟩

theorem trans (h : Egressed d e) (k : Egressed e f) : Egressed d f := by
  obtain ⟨q, link⟩ := h.link
  obtain ⟨q', link'⟩ := k.link
  exact ⟨h.keeps.trans k.keeps, ⟨q', by rw [link', link]⟩, k.safe.trans h.safe⟩

theorem each {α : Type} (l : List α) (g : α → Dev → Dev) (step : ∀ x d, Egressed d (g x d)) (d : Dev) : Egressed d (Dev.each l g d) :=
  foldl_rel_mem Egressed refl trans _ l (fun x _ d => step x d) d

variable (h : Egressed d e)
include h

theorem modPort (p : Nat) (g : PortSt → PortSt) : Egressed d (e.modPort p g) :=
  h.trans ⟨(Dev.Keeps.refl e).link _, ⟨_, rfl⟩, rfl⟩

theorem put {g : Fld} (v : Nat) (le : 0x301000 ≤ g.reg) : Egressed d (e.put g v) :=
  h.trans ⟨(Dev.Keeps.refl e).put v le, ⟨_, rfl⟩, rfl⟩

theorem upIf (c b : Bool) {g : Fld} (le : 0x301000 ≤ g.reg) : Egressed d (if c then e.up g b else e) := by
  split
  · exact h.put _ le
  · exact h

theorem event0 {g : Fld} (le : 0x301000 ≤ g.reg) : Egressed d (e.event0 g) :=
  h.trans ⟨(Dev.Keeps.refl e).event0 le, ⟨_, e.event0_link g⟩, e.event0_safe g⟩

end Dev.Egressed

section Port
variable (p : Nat) (d : Dev)

/-- The registers of a port lie from 0x301000 on. -/
theorem linkPort_high : 0x301000 ≤ R.LINK_PORT_CTL p ∧ 0x301000 ≤ R.LINK_PORT_EVT p ∧ 0x301000 ≤ R.LINK_PORT_CNT2 p ∧
    0x301000 ≤ R.LINK_PORT_CNT4 p := by
  simp only [R.LINK_PORT_CTL, R.LINK_PORT_EVT, R.LINK_PORT_CNT2, R.LINK_PORT_CNT4]
  omega

theorem Dev.egressed_lineSend (f : Frame) : Dev.Egressed d (d.lineSend p f) :=
  ((Dev.Egressed.refl d).upIf (d.flag (F.LINK_PORT_CTL_INJ_CODE p)) false (g := F.LINK_PORT_CTL_INJ_CODE p) (linkPort_high p).1).modPort p _

theorem Dev.egressed_letOut (it : EgrItem) (t : Nat) : Dev.Egressed d (d.letOut p it t) := by
  rcases d.letOut_cases p it t with e | ⟨c, f, g, e⟩ <;> rw [e]
  · exact Dev.Egressed.refl d
  · have inj := (Dev.Egressed.refl d).upIf c false (g := F.LINK_PORT_CTL_INJ_CRC p) (linkPort_high p).1
    exact (inj.trans (Dev.egressed_lineSend p _ f)).modPort p g

theorem Dev.egressed_egrDrop : Dev.Egressed d (d.egrDrop p) := by
  obtain ⟨-, evt, cnt2, -⟩ := linkPort_high p
  exact ((Dev.Egressed.refl d).put (g := F.LINK_PORT_CNT2_EGR_DROP p) _ cnt2).event0 (g := F.LINK_PORT_EVT_DROP_EVT p) evt

theorem Dev.egressed_egressWait (it : EgrItem) : Dev.Egressed d (d.egressWait p it) := by
  unfold Dev.egressWait
  split
  · exact (Dev.Egressed.refl d).modPort p _
  · split
    · exact ((Dev.Egressed.refl d).modPort p _).trans (Dev.egressed_egrDrop p _)
    · exact Dev.egressed_egrDrop p d

theorem Dev.egressed_egressAt (it : EgrItem) (t : Nat) : Dev.Egressed d (d.egressAt p it t) := by
  simp only [Dev.egressAt]
  split
  · exact d.egressed_letOut p it t
  · split
    · next c t0 inj _ =>
      have armed := (Dev.Egressed.refl d).upIf inj true (g := F.LINK_PORT_CTL_INJ_CRC p) (linkPort_high p).1
      exact (armed.trans (Dev.egressed_letOut p _ it _)).trans (Dev.egressed_egressWait p _ _)
    · exact d.egressed_egressWait p it

theorem Dev.egressed_slotHold (it : EgrItem) : Dev.Egressed d (d.slotHold p it) := by
  obtain ⟨-, -, -, cnt4⟩ := linkPort_high p
  have counted : Dev.Egressed d (d.cnt (F.LINK_PORT_CNT4_DLY_CONFLICT p)) := (Dev.Egressed.refl d).put _ cnt4
  unfold Dev.slotHold
  dsimp only
  split
  · exact counted.trans (Dev.egressed_egrDrop p _)
  · exact counted.modPort p _

end Port

theorem Dev.egressed_broadcastNow (f : Frame) (d : Dev) : Dev.Egressed d (d.broadcastNow f) :=
  Dev.Egressed.each _ _ (fun p d => by
    split
    · exact d.egressed_egressAt p _ _
    · exact Dev.Egressed.refl d) d

theorem Dev.egressed_slotSend (e : Config.Slot) (typ : Nat) (body : List Word) (x : OnExit) (d : Dev) :
    Dev.Egressed d (d.slotSend e typ body x) := by
  unfold Dev.slotSend
  split
  · exact Dev.Egressed.refl d
  · refine Dev.Egressed.each _ _ (fun p d => ?_) d
    dsimp only
    split
    · exact Dev.Egressed.refl d
    · split
      · exact d.egressed_slotHold p _
      · exact d.egressed_egressAt p _ _

end Sys2Proof.Machine
end

section
/-! The states of Table 6.8 (06 R155 to R157, R160). -/
namespace Sys2Proof.Machine

/-! TIME runs. -/

theorem Dev.ran_link {d e : Dev} (h : d.ran e) : e.link = d.link := by
  obtain ⟨_, _, _, _, _, rfl, -⟩ := h
  rfl

theorem Dev.ran_tb {d e : Dev} (h : d.ran e) : e.time.tb = d.time.tb := by
  obtain ⟨_, _, _, _, _, rfl, -⟩ := h
  rfl

theorem Dev.runTo_link (d : Dev) (ns : Nat) : (d.runTo ns).link = d.link := Dev.ran_link (d.ran_runTo ns)

theorem Dev.runTo_tb (d : Dev) (ns : Nat) : (d.runTo ns).time.tb = d.time.tb := Dev.ran_tb (d.ran_runTo ns)

theorem Dev.runTo_get (d : Dev) (ns : Nat) (f : Fld) : (d.runTo ns).get f = d.get f := Dev.get_of_regs (d.runTo_regs ns) f

theorem Dev.runTo_sstate (d : Dev) (ns : Nat) : (d.runTo ns).sstate = d.sstate := d.runTo_get ns _

theorem Dev.runTo_nodeId (d : Dev) (ns : Nat) : (d.runTo ns).nodeId = d.nodeId := d.runTo_get ns _

/-! Into LISTEN. -/

theorem Dev.setLocked_sameRegs (b : Bool) (d : Dev) :
    d.sameRegs (d.setLocked b) [R.TIME_SERVO_STS, R.TIME_SERVO_EVT, R.SYS_FAULT_EVT] := by
  intro o ho
  simp only [List.mem_cons, List.not_mem_nil, or_false, not_or] at ho
  obtain ⟨sts, evt, report⟩ := ho
  have event : ∀ f : Fld, f.reg = R.TIME_SERVO_EVT → ((d.up F.TIME_SERVO_STS_LOCKED b).event0 f).rd o = d.rd o := fun f reg =>
    (Dev.event0_rd_ne _ (by rwa [reg]) report).trans (Dev.rd_put_ne d _ sts)
  unfold Dev.setLocked
  split
  · rfl
  · cases b
    · exact event F.TIME_SERVO_EVT_UNLOCK_EVT rfl
    · exact event F.TIME_SERVO_EVT_LOCK_EVT rfl

theorem Dev.zenithLeave_eq (d : Dev) : d.zenithLeave = if d.isZenith then (d.lockRan 0).setLocked false else d := (rfl)

theorem Dev.zenithLeave_sameRegs (d : Dev) : d.sameRegs d.zenithLeave [R.TIME_SERVO_STS, R.TIME_SERVO_EVT, R.SYS_FAULT_EVT] := by
  have ran : ∀ o, (d.lockRan 0).rd o = d.rd o := Dev.rd_of_regs rfl
  rw [Dev.zenithLeave_eq]
  split
  · exact fun o ho => ((d.lockRan 0).setLocked_sameRegs false o ho).trans (ran o)
  · exact fun _ _ => rfl

theorem Dev.zenithLeave_tb (d : Dev) : d.zenithLeave.time.tb = d.time.tb := by
  rw [Dev.zenithLeave_eq]
  split
  · rw [Dev.setLocked_time]
    rfl
  · rfl

/-- A state below SCHEDULED writes SSTATE and PHASE, and the streams follow. -/
theorem Dev.setSstate_rd {st o : Nat} (h : st < 4) (sched : o ≠ R.LINK_SCHED_STS) (sts : o ≠ R.LINK_STS) (report : o ≠ R.SYS_FAULT_EVT)
    (strm : o < 0x303000) (d : Dev) : (d.setSstate st).rd o = d.rd o := by
  have low : ¬ 4 ≤ st := not_le.mpr h
  rw [(d.keeps_streamsFollow st).rd o strm report, Dev.statePut, Dev.stageFollow, if_neg fun c => low c.1, Dev.phaseFollow, if_neg low]
  split
  · exact (Dev.rd_put_ne _ _ sts).trans (Dev.rd_put_ne _ _ sched)
  · exact Dev.rd_put_ne _ _ sched

/-- Between two states below SCHEDULED, where PHASE is not SCHEDULED, SSTATE alone changes. -/
theorem Dev.setSstate_below {st : Nat} (h : st < 4) {d : Dev} (below : d.sstate < 4) (phase : d.phase ≠ 3) :
    d.setSstate st = d.put F.LINK_SCHED_STS_SSTATE st := by
  have low : ¬ 4 ≤ st := not_le.mpr h
  have phase' : (d.put F.LINK_SCHED_STS_SSTATE st).phase ≠ 3 := by
    rwa [show (d.put F.LINK_SCHED_STS_SSTATE st).phase = d.phase from Dev.get_put_ne _ _ (by decide)]
  rw [Dev.setSstate_eq, if_neg (by simp [below]), if_neg (by simp [h]), Dev.statePut, Dev.stageFollow, if_neg fun c => low c.1,
    Dev.phaseFollow, if_neg low, if_neg phase']

theorem Dev.toListen_rd {o : Nat} (role : o ≠ R.TIME_SERVO_STS) (d : Dev) : d.toListen.rd o = (d.zenithLeave.setSstate 1).rd o :=
  Dev.rd_put_ne _ _ role

theorem Dev.toListen_sstate (d : Dev) : d.toListen.sstate = 1 := d.toListen_outcome.2.1

/-- Back in LISTEN, a register of LINK but for its state and streams is as before. -/
theorem Dev.toListen_get_link {f : Fld} (d : Dev) (low : R.LINK_STS < f.reg) (sched : f.reg ≠ R.LINK_SCHED_STS) (strm : f.reg < 0x303000) :
    d.toListen.get f = d.get f := by
  have sts := Nat.ne_of_gt low
  simp only [R.LINK_STS] at low
  have apart : f.reg ≠ R.TIME_SERVO_STS ∧ f.reg ≠ R.TIME_SERVO_EVT ∧ f.reg ≠ R.SYS_FAULT_EVT := by
    simp only [R.TIME_SERVO_STS, R.TIME_SERVO_EVT, R.SYS_FAULT_EVT]
    omega
  obtain ⟨role, evt, report⟩ := apart
  refine Dev.get_of_rd ((Dev.toListen_rd role d).trans ((Dev.setSstate_rd (by decide) sched sts report strm _).trans ?_))
  exact d.zenithLeave_sameRegs _ (by simp [role, evt, report])

/-- A node that is not in the schedule enters LISTEN: its listen timer starts, and no stream changes. -/
theorem Dev.toListen_below {d : Dev} (below : d.sstate < 4) (phase : d.phase ≠ 3) :
    d.toListen.link.listenTimer = 2 * d.time.tb + 1000 * d.nodeId ∧ d.toListen.link.listenFrom = d.nowNs ∧
    d.sameRegs d.toListen [R.LINK_SCHED_STS, R.TIME_SERVO_STS, R.TIME_SERVO_EVT, R.SYS_FAULT_EVT] := by
  have left := d.zenithLeave_sameRegs
  have below' : d.zenithLeave.sstate < 4 := (Dev.get_of_rd (f := F.LINK_SCHED_STS_SSTATE) (left _ (by decide))).trans_lt below
  have phase' : d.zenithLeave.phase ≠ 3 := fun p => phase ((Dev.get_of_rd (f := F.LINK_STS_PHASE) (left _ (by decide))).symm.trans p)
  have put := Dev.setSstate_below (st := 1) (by decide) below' phase'
  have regs : d.sameRegs d.toListen [R.LINK_SCHED_STS, R.TIME_SERVO_STS, R.TIME_SERVO_EVT, R.SYS_FAULT_EVT] := fun o ho => by
    simp only [List.mem_cons, List.not_mem_nil, or_false, not_or] at ho
    obtain ⟨sched, role, evt, report⟩ := ho
    rw [Dev.toListen_rd role, put, Dev.rd_put_ne _ _ sched]
    exact left o (by simp [role, evt, report])
  have time : (d.zenithLeave.setSstate 1).time = d.zenithLeave.time := by rw [put, Dev.put_time]
  have node : d.toListen.nodeId = d.nodeId := Dev.get_of_rd (f := F.LINK_STS_NODE_ID) (regs _ (by decide))
  refine ⟨?_, ?_, regs⟩
  · have span : d.toListen.link.listenTimer = 2 * (d.zenithLeave.setSstate 1).time.tb + 1000 * d.toListen.nodeId := rfl
    rw [span, time, d.zenithLeave_tb, node]
  · have from' : d.toListen.link.listenFrom = (d.zenithLeave.setSstate 1).time.now / 2 ^ 32 := rfl
    rw [from', time, d.zenithLeave_now]
    rfl

/-- ENTER_LISTEN with all its conditions met (R148, R156). -/
theorem Dev.enterListen_passed {d : Dev} (valid : d.idValid = true) (load : d.phase = 2) (off : d.sstate = 0)
    (stage : 8 ≤ d.get F.CFG_BOOT_STS_STAGE) (tables : checkTables d.link.cfg d.nodeId = none) : d.enterListen = d.toListen := by
  rw [Dev.enterListen, if_neg (by simp [valid, load, off, stage]), tables]

theorem enterListen_listens (s : State) (valid : s.dev.idValid = true) (load : s.dev.phase = 2) (off : s.dev.sstate = 0)
    (stage : 8 ≤ s.dev.get F.CFG_BOOT_STS_STAGE) (tables : checkTables s.dev.link.cfg s.dev.nodeId = none) :
    leads .enterListen s fun x => x.dev.sstate = 1 ∧ x.dev.link.listenTimer = 2 * s.dev.time.tb + 1000 * s.dev.nodeId ∧
      x.dev.link.listenFrom = s.dev.nowNs ∧ x.dev.link.dawns = [] ∧
      s.dev.sameRegs x.dev [R.LINK_SCHED_STS, R.TIME_SERVO_STS, R.TIME_SERVO_EVT, R.SYS_FAULT_EVT] ∧ s.sameMem x := by
  refine ⟨s.upd Dev.enterListen, rfl, ?_⟩
  obtain ⟨timer, since, regs⟩ := Dev.toListen_below (d := s.dev) (by omega) (by omega)
  rw [State.upd, Dev.enterListen_passed valid load off stage tables]
  exact ⟨s.dev.toListen_sstate, timer, since, rfl, regs, rfl, rfl, rfl, rfl⟩

/-! From LISTEN: the first DAWN, the wait for a SYNC after one heard, and NO_SYNC_EVT. -/

/-- COLDSTART begins: the DAWN is counted, and its window lasts 2·Tb. -/
def Dev.dawnBegun (n : Nat) (d : Dev) : Dev :=
  { d.setSstate 2 with link := { (d.setSstate 2).link with
      dawnSent := n, dawnEnd := (d.setSstate 2).nowNs + 2 * (d.setSstate 2).time.tb } }

/-- The DAWN of a node, with its count. -/
def Dev.dawnFrame (n : Nat) (d : Dev) : Frame :=
  d.mkFrame 2 d.nodeId 2 0xFFFD [BitVec.ofNat 32 (0x960 * 2 ^ 16 + d.nodeId), BitVec.ofNat 32 n]

theorem Dev.listenExpire_cold {d : Dev} (listen : d.sstate = 1) (cold : d.link.cfg.coldstart.contains d.nodeId = true)
    (quiet : d.link.dawns = []) : d.listenExpire =
      let y := (d.runTo (d.link.listenFrom + d.link.listenTimer)).dawnBegun (d.link.dawnSent + 1)
      y.broadcastNow (y.dawnFrame (d.link.dawnSent + 1)) := by
  unfold Dev.listenExpire
  dsimp only
  rw [d.runTo_sstate, d.runTo_nodeId, d.runTo_link, if_pos ⟨listen, cold, quiet⟩]
  rfl

theorem Dev.nowNs_of_time {d e : Dev} (h : e.time = d.time) : e.nowNs = d.nowNs := by rw [Dev.nowNs, Dev.nowNs, h]

/-- A DAWN that goes out leaves the node in COLDSTART, with its window. -/
theorem Dev.dawnBegun_outcome (n : Nat) (f : Frame) (d : Dev) : let x := (d.dawnBegun n).broadcastNow f
    x.sstate = 2 ∧ x.time = d.time ∧ x.link.dawnSent = n ∧ x.link.dawnEnd = d.nowNs + 2 * d.time.tb := by
  dsimp only
  obtain ⟨keeps, ⟨_, link⟩, -⟩ := Dev.egressed_broadcastNow f (d.dawnBegun n)
  have time := (d.keeps_setSstate 2).time
  have state : ((d.dawnBegun n).broadcastNow f).sstate = (d.dawnBegun n).sstate := Dev.get_of_rd (keeps.rd _ (by decide) (by decide))
  refine ⟨state.trans (Dev.sstate_setSstate (by decide) d), keeps.time.trans time, by rw [link, Dev.dawnBegun], ?_⟩
  rw [link, Dev.dawnBegun, Dev.nowNs_of_time time, time]

theorem listenTimerExpire_dawns (s : State) (listen : s.dev.sstate = 1)
    (cold : s.dev.link.cfg.coldstart.contains s.dev.nodeId = true) (quiet : s.dev.link.dawns = []) :
    leads .listenTimerExpire s fun x => x.dev.sstate = 2 ∧ x.dev.link.dawnSent = s.dev.link.dawnSent + 1 ∧
      x.dev.time = (s.dev.runTo (s.dev.link.listenFrom + s.dev.link.listenTimer)).time ∧
      x.dev.link.dawnEnd = x.dev.nowNs + 2 * s.dev.time.tb ∧ s.sameMem x := by
  refine ⟨s.upd Dev.listenExpire, rfl, ?_⟩
  rw [State.upd, Dev.listenExpire_cold listen cold quiet]
  obtain ⟨state, time, sent, window⟩ := Dev.dawnBegun_outcome (s.dev.link.dawnSent + 1)
    (((s.dev.runTo (s.dev.link.listenFrom + s.dev.link.listenTimer)).dawnBegun (s.dev.link.dawnSent + 1)).dawnFrame (s.dev.link.dawnSent + 1))
    (s.dev.runTo (s.dev.link.listenFrom + s.dev.link.listenTimer))
  rw [s.dev.runTo_tb, ← Dev.nowNs_of_time time] at window
  exact ⟨state, sent, time, window, rfl, rfl, rfl, rfl⟩

/-- No SYNC came after a DAWN: the listen timer's end moves to a full span from now. -/
theorem Dev.dawnWait_heard {d : Dev} {n t : Nat} {r : List (Nat × Nat)} (heard : d.link.dawns = (n, t) :: r) (listen : d.sstate = 1) :
    d.dawnWait = let y := d.runTo (t + 4 * d.time.tb)
      { y with link := { y.link with dawns := [], listenTimer := (y.nowNs - d.link.listenFrom) + (2 * d.time.tb + 1000 * d.nodeId) } } := by
  simp only [Dev.dawnWait, heard, listen, if_true, Dev.runTo_link, Dev.listenSpan, Dev.runTo_tb, Dev.runTo_nodeId]

theorem dawnWaitTimeout_restarts (s : State) (n t : Nat) (r : List (Nat × Nat)) (heard : s.dev.link.dawns = (n, t) :: r)
    (listen : s.dev.sstate = 1) : answers .dawnWaitTimeout s (s.upd fun d =>
      let y := d.runTo (t + 4 * d.time.tb)
      { y with link := { y.link with dawns := [], listenTimer := (y.nowNs - d.link.listenFrom) + (2 * d.time.tb + 1000 * d.nodeId) } }) :=
  congrArg (fun d => done { s with dev := d }) (Dev.dawnWait_heard heard listen)

/-- 100 ms in LISTEN are noted and reported. -/
def Dev.noSyncNoted (d : Dev) : Dev := ({ d with link := { d.link with noSyncDone := true } }).event0 F.LINK_SCHED_EVT_NO_SYNC_EVT

theorem Dev.noSync_first {d : Dev} (listen : d.sstate = 1) (first : d.link.noSyncDone = false) :
    d.noSync = (d.runTo (d.link.listenFrom + 100000000)).noSyncNoted := if_pos ⟨listen, first⟩

theorem Dev.noSyncNoted_outcome (d : Dev) : d.noSyncNoted.flag F.LINK_SCHED_EVT_NO_SYNC_EVT = true ∧ d.noSyncNoted.link.noSyncDone = true ∧
    d.sameRegs d.noSyncNoted [R.LINK_SCHED_EVT, R.SYS_FAULT_EVT] := by
  refine ⟨Dev.event0_flag _ ⟨by decide, by decide⟩ (by decide), by rw [Dev.noSyncNoted, Dev.event0_link], fun o ho => ?_⟩
  simp only [List.mem_cons, List.not_mem_nil, or_false, not_or] at ho
  obtain ⟨evt, report⟩ := ho
  exact Dev.event0_rd_ne _ evt report

theorem noSyncTimeout_reports (s : State) (listen : s.dev.sstate = 1) (first : s.dev.link.noSyncDone = false) :
    leads .noSyncTimeout s fun x => x.dev.flag F.LINK_SCHED_EVT_NO_SYNC_EVT = true ∧ x.dev.link.noSyncDone = true ∧ x.dev.sstate = 1 ∧
      s.dev.sameRegs x.dev [R.LINK_SCHED_EVT, R.SYS_FAULT_EVT] ∧ s.sameMem x := by
  refine ⟨s.upd Dev.noSync, rfl, ?_⟩
  rw [State.upd, Dev.noSync_first listen first]
  generalize s.dev.link.listenFrom + 100000000 = due
  obtain ⟨event, done, noted⟩ := (s.dev.runTo due).noSyncNoted_outcome
  have regs : s.dev.sameRegs (s.dev.runTo due).noSyncNoted [R.LINK_SCHED_EVT, R.SYS_FAULT_EVT] := fun o ho =>
    (noted o ho).trans (Dev.rd_of_regs (s.dev.runTo_regs due) o)
  have state : (s.dev.runTo due).noSyncNoted.sstate = s.dev.sstate := Dev.get_of_rd (regs _ (by decide))
  exact ⟨event, done, state.trans listen, regs, rfl, rfl, rfl, rfl⟩

/-! Out of COLDSTART, INTEGRATING and SCHEDULED. -/

theorem dawnWindowEnd_arms (s : State) (cold : s.dev.sstate = 2) : leads .dawnWindowEnd s fun x =>
    x.dev.link.becomeZenith = true ∧ x.dev.sstate = 2 ∧ x.dev.time = (s.dev.runTo s.dev.link.dawnEnd).time ∧ x.dev.regs = s.dev.regs ∧
    s.sameMem x := by
  refine ⟨s.upd Dev.dawnWindowEnd, rfl, ?_⟩
  rw [State.upd, Dev.dawnWindowEnd, if_pos cold]
  exact ⟨rfl, (s.dev.runTo_sstate _).trans cold, rfl, s.dev.runTo_regs _, rfl, rfl, rfl, rfl⟩

theorem integrationTimeout_listens (s : State) (integ : s.dev.sstate = 3) (due : 16 ≤ s.dev.link.integCycles) :
    leads .integrationTimeout s fun x => x.dev.sstate = 1 ∧
      x.dev.get F.LINK_SCHED_CNT2_SILENCE = s.dev.get F.LINK_SCHED_CNT2_SILENCE ∧ s.sameMem x := by
  refine ⟨s.upd Dev.integTimeout, rfl, ?_⟩
  rw [State.upd, Dev.integTimeout, if_pos ⟨integ, due⟩]
  exact ⟨s.dev.toListen_sstate, s.dev.toListen_get_link (by decide) (by decide) (by decide), rfl, rfl, rfl, rfl⟩

/-- A node that is silenced counts it, reports it and listens (Table 6.8). -/
theorem Dev.silence_outcome (d : Dev) : d.silence.sstate = 1 ∧ d.silence.flag F.LINK_SCHED_EVT_SILENCE_EVT = true ∧
    d.silence.get F.LINK_SCHED_CNT2_SILENCE = min (d.get F.LINK_SCHED_CNT2_SILENCE + 1)
      (2 ^ (F.LINK_SCHED_CNT2_SILENCE.hi + 1 - F.LINK_SCHED_CNT2_SILENCE.lo) - 1) := by
  refine ⟨Dev.toListen_sstate _, ?_, ?_⟩
  · exact (Dev.flag_of_get (Dev.toListen_get_link _ (by decide) (by decide) (by decide))).trans
      (Dev.event0_flag _ ⟨by decide, by decide⟩ (by decide))
  · rw [Dev.silence, Dev.toListen_get_link _ (by decide) (by decide) (by decide), Dev.event0_get_ne _ (by decide) (by decide)]
    exact d.cnt_get ⟨by decide, by decide⟩

theorem holdMaxSilence_silences (s : State) (sched : s.dev.sstate = 4) (due : s.dev.link.cfg.holdMax ≤ s.dev.get F.LINK_SCHED_STS_MISS_RUN) :
    leads .holdMaxSilence s fun x => x.dev.sstate = 1 ∧ x.dev.flag F.LINK_SCHED_EVT_SILENCE_EVT = true ∧
      x.dev.get F.LINK_SCHED_CNT2_SILENCE = min (s.dev.get F.LINK_SCHED_CNT2_SILENCE + 1)
        (2 ^ (F.LINK_SCHED_CNT2_SILENCE.hi + 1 - F.LINK_SCHED_CNT2_SILENCE.lo) - 1) ∧ s.sameMem x := by
  refine ⟨s.upd Dev.holdMax, rfl, ?_⟩
  rw [State.upd, Dev.holdMax, if_pos ⟨sched, due⟩]
  obtain ⟨state, event, count⟩ := s.dev.silence_outcome
  exact ⟨state, event, count, rfl, rfl, rfl, rfl⟩

theorem zenithSuccession_arms (s : State) (k : Nat) (rank : s.dev.rank = some k) (sched : s.dev.sstate = 4)
    (due : 4 + 2 * k ≤ s.dev.get F.LINK_SCHED_STS_MISS_RUN) : leads .zenithSuccession s fun x =>
      x.dev.link.succ = true ∧ x.dev.regs = s.dev.regs ∧ x.dev.time = s.dev.time ∧ s.sameMem x := by
  refine ⟨s.upd Dev.succession, rfl, ?_⟩
  have armed : s.dev.succession = { s.dev with link := { s.dev.link with succ := true } } := by
    simp only [Dev.succession, rank, sched, due, and_self, if_true]
  rw [State.upd, armed]
  exact ⟨rfl, rfl, rfl, rfl, rfl, rfl, rfl⟩

/-- Settles O23, by what each command's effect is once its conditions hold; entering LISTEN is one lemma for all who come there. -/
theorem scheduleStates : Obligations.ScheduleStates := by
  unfold Obligations.ScheduleStates
  exact ⟨enterListen_listens, listenTimerExpire_dawns, dawnWaitTimeout_restarts, dawnWindowEnd_arms, noSyncTimeout_reports,
    integrationTimeout_listens, holdMaxSilence_silences, zenithSuccession_arms⟩

end Sys2Proof.Machine
end

section
/-! A data entry's START, and the SEQ of a safe message (06 R151; 17 R412, R413). -/
namespace Sys2Proof.Machine

/-- A frame goes out after the safe stream that it carries, if any, has counted it (17 R413). -/
def Dev.smsgCounted (typ stream : Nat) (d : Dev) : Dev := if typ = 6 then d.smsgSent stream else d

/-- A data entry whose data is ready hands its frame to its ports at START. -/
theorem Dev.slotTx_data {d e' : Dev} {i : Nat} {e : Config.Slot} {t : Config.TxStream} {b : List Word} (tx : d.txSlot i = some e)
    (kind : e.kind = 0) (stream : d.link.cfg.tx.find? (fun x => x.stream == e.stream) = some t)
    (ready : (d.atStart i e).slotBody e t = (some b, e')) :
    d.slotTx i = (e'.smsgCounted t.typ e.stream).slotSend e t.typ b .plain := by
  have stream' : (d.atStart i e).link.cfg.tx.find? (fun x => x.stream == e.stream) = some t := by
    obtain ⟨_, _, _, _, _, ran, -⟩ := d.ran_runTo (d.time.cycStart + 25 * e.start)
    rw [Dev.atStart, Dev.runInCycle, ran]
    exact stream
  simp only [Dev.atStart] at stream' ready
  simp only [Dev.slotTx, tx, kind, ne_eq, not_true_eq_false, if_false, stream', ready, Dev.smsgCounted]

theorem Dev.safe_of_rest {d e : Dev} (h : e.rest = d.rest) : e.safe = d.safe := by
  simp only [Dev.rest, Prod.mk.injEq] at h
  obtain ⟨-, -, -, -, -, -, -, safe, -⟩ := h
  exact safe

/-- Settling leaves SAFE alone, so an answer fixes it. -/
theorem answers_safe {i : Instr} {s x y : State} (hx : answers i s x) (hy : answers i s y) : x.dev.safe = y.dev.safe := by
  have same : x.settle = y.settle := Host.Outcome.next.inj (hx.symm.trans hy)
  have dev : x.dev.settle = y.dev.settle := congrArg State.dev same
  refine Dev.safe_of_rest ?_
  rw [← x.dev.rest_settle, dev, y.dev.rest_settle]

/-- An entry of 61 words for safe stream 9 on port 0, at the start of the cycle. -/
def safeSlot : Config.Slot :=
  { start := 0, ports := 1, tx := true, kind := 0, dlv := false, stream := 9, src := 0, dst := 1, rclass := 0, len := 61 }

/-- A node in SCHEDULED with port 0 UP, whose table holds that entry, and with a copy of the safe stream built for this cycle (17 R412). -/
def safeSender : Dev :=
  let d := (Dev.reset.put F.LINK_SCHED_STS_SSTATE 4).put (F.LINK_PORT_STS_STATE 0) 3
  let link : Config.LinkCfg := { d.link.cfg with held := [0], modes := [[safeSlot]], tx := [⟨9, 6, 0⟩] }
  { d with
    link := { d.link with cfg := link }
    safe := { d.safe with ssm := { d.safe.ssm with tx := [⟨0, 9, 1, 0, 0, []⟩] }, txBuf := [(0, [1], [1])] } }

theorem safeSender_ready : safeSender.txSlot 0 = some safeSlot ∧
    (safeSender.atStart 0 safeSlot).slotBody safeSlot ⟨9, 6, 0⟩ = (some [1], safeSender.atStart 0 safeSlot) := ⟨by decide, rfl⟩

/-- Refutes O24: a safe message that goes out in its slot counts its stream's SEQ (17 R413), so the frame of a data entry of TYPE 6 is not
all that its START leaves. -/
theorem not_streamsSlotsModes : ¬ Obligations.StreamsSlotsModes := by
  unfold Obligations.StreamsSlotsModes
  rintro ⟨-, -, -, data, -⟩
  obtain ⟨tx, ready⟩ := safeSender_ready
  let s : State := { State.reset with dev := safeSender }
  have claimed := data s 0 safeSlot ⟨9, 6, 0⟩ [1] _ tx rfl rfl ready
  have made : answers (.slotTx 0) s (s.upd (Dev.slotTx 0)) := rfl
  rw [State.upd, Dev.slotTx_data tx rfl rfl ready] at made
  have same := answers_safe made claimed
  rw [(Dev.egressed_slotSend _ _ _ _ _).safe, (Dev.egressed_slotSend _ _ _ _ _).safe] at same
  exact absurd (congrArg (fun x => tget x.txSeq 9) same) (by decide)

end Sys2Proof.Machine
end

section
/-! Feedback: what its operations on the registers and its own hidden state read back as, and its faults (07 R168, R173, R188). -/
namespace Sys2Proof.Machine
open Sys2Proof.Config

/-! Two's complement. -/

theorem uNat_cast (w : Nat) (i : Int) : (uNat w i : Int) = i % ((2 ^ w : Nat) : Int) :=
  Int.toNat_of_nonneg (Int.emod_nonneg _ (by positivity))

theorem uNat_lt (w : Nat) (i : Int) : uNat w i < 2 ^ w := by
  have below : (uNat w i : Int) < ((2 ^ w : Nat) : Int) := by rw [uNat_cast]; exact Int.emod_lt_of_pos _ (by positivity)
  exact_mod_cast below

theorem uNat_congr {w : Nat} {i j : Int} (h : i ≡ j [ZMOD ((2 ^ w : Nat) : Int)]) : uNat w i = uNat w j := congrArg Int.toNat h

theorem sInt_modEq (w v : Nat) : sInt w v ≡ v [ZMOD ((2 ^ w : Nat) : Int)] := by
  have low : ((v % 2 ^ w : Nat) : Int) ≡ v [ZMOD ((2 ^ w : Nat) : Int)] := by
    rw [Int.natCast_mod]
    exact Int.mod_modEq _ _
  unfold sInt
  split
  · exact low
  · exact (Int.sub_modulus_modEq_iff.mpr rfl).trans low

/-- A number of w bits is read back from its pattern. -/
theorem sInt_uNat {w : Nat} {i : Int} (pos : 0 < w) (lo : -((2 ^ (w - 1) : Nat) : Int) ≤ i) (hi : i < ((2 ^ (w - 1) : Nat) : Int)) :
    sInt w (uNat w i) = i := by
  have twice : 2 ^ w = 2 * 2 ^ (w - 1) := by rw [← pow_succ', Nat.sub_add_cancel pos]
  have cast := uNat_cast w i
  unfold sInt
  rw [Nat.mod_eq_of_lt (uNat_lt w i)]
  rcases lt_or_ge i 0 with neg | nonneg
  · rw [← Int.add_emod_right, Int.emod_eq_of_lt (by omega) (by omega)] at cast
    rw [if_neg (by omega)]
    omega
  · rw [Int.emod_eq_of_lt nonneg (by omega)] at cast
    rw [if_pos (by omega)]
    omega

theorem sInt_range {w : Nat} (pos : 0 < w) (v : Nat) : -((2 ^ (w - 1) : Nat) : Int) ≤ sInt w v ∧ sInt w v < ((2 ^ (w - 1) : Nat) : Int) := by
  have twice : 2 ^ w = 2 * 2 ^ (w - 1) := by rw [← pow_succ', Nat.sub_add_cancel pos]
  have low := Nat.mod_lt v (show 0 < 2 ^ w by positivity)
  unfold sInt
  split <;> omega

/-- A field reads the pattern of the signed value put. -/
theorem Dev.get_puts_same (d : Dev) (f : Fld) (v : Int) (h : f.ok) : (d.puts f v).get f = uNat (f.hi + 1 - f.lo) v :=
  (d.get_put_same f _ h).trans (Nat.mod_eq_of_lt (uNat_lt _ v))

theorem Dev.gets_puts_same (d : Dev) (f : Fld) {v : Int} (h : f.ok) (lo : -((2 ^ (f.hi + 1 - f.lo - 1) : Nat) : Int) ≤ v)
    (hi : v < ((2 ^ (f.hi + 1 - f.lo - 1) : Nat) : Int)) : (d.puts f v).gets f = v := by
  have pos : 0 < f.hi + 1 - f.lo := by have := h.1; omega
  rw [Dev.gets, Dev.get_puts_same d f v h, sInt_uNat pos lo hi]

/-! Registers that an operation leaves as they are. -/

namespace Dev.sameRegs
variable {d e : Dev} {l : List Nat}

theorem refl (d : Dev) (l : List Nat) : d.sameRegs d l := fun _ _ => rfl

theorem trans {f : Dev} (h : d.sameRegs e l) (k : e.sameRegs f l) : d.sameRegs f l := fun o ho => (k o ho).trans (h o ho)

theorem wr (h : d.sameRegs e l) {r : Nat} (w : Word) (mem : r ∈ l) : d.sameRegs (e.wr r w) l :=
  fun o ho => (Dev.rd_wr_ne e w (ne_of_mem_of_not_mem mem ho).symm).trans (h o ho)

theorem put (h : d.sameRegs e l) {f : Fld} (v : Nat) (mem : f.reg ∈ l) : d.sameRegs (e.put f v) l := h.wr _ mem

theorem up (h : d.sameRegs e l) {f : Fld} (b : Bool) (mem : f.reg ∈ l) : d.sameRegs (e.up f b) l := h.put _ mem

theorem puts (h : d.sameRegs e l) {f : Fld} (v : Int) (mem : f.reg ∈ l) : d.sameRegs (e.puts f v) l := h.put _ mem

theorem cnt (h : d.sameRegs e l) {f : Fld} (mem : f.reg ∈ l) : d.sameRegs (e.cnt f) l := h.put _ mem

theorem event0 (h : d.sameRegs e l) {f : Fld} (mem : f.reg ∈ l) (report : R.SYS_FAULT_EVT ∈ l) : d.sameRegs (e.event0 f) l :=
  fun o ho => (Dev.event0_rd_ne e (ne_of_mem_of_not_mem mem ho).symm (ne_of_mem_of_not_mem report ho).symm).trans (h o ho)

theorem of_regs (h : d.sameRegs e l) {f : Dev} (regs : f.regs = e.regs) : d.sameRegs f l :=
  fun o ho => (Dev.rd_of_regs regs o).trans (h o ho)

end Dev.sameRegs

/-! Hidden state. -/

@[simp] theorem Dev.modChan_rd (d : Dev) (n o : Nat) (f : ChanSt → ChanSt) : (d.modChan n f).rd o = d.rd o := (rfl)
@[simp] theorem Dev.modChan_get (d : Dev) (n : Nat) (f : ChanSt → ChanSt) (g : Fld) : (d.modChan n f).get g = d.get g := (rfl)
@[simp] theorem Dev.modChan_flag (d : Dev) (n : Nat) (f : ChanSt → ChanSt) (g : Fld) : (d.modChan n f).flag g = d.flag g := (rfl)
@[simp] theorem Dev.modEnc_rd (d : Dev) (j o : Nat) (f : EncSt → EncSt) : (d.modEnc j f).rd o = d.rd o := (rfl)
@[simp] theorem Dev.modEnc_get (d : Dev) (j : Nat) (f : EncSt → EncSt) (g : Fld) : (d.modEnc j f).get g = d.get g := (rfl)
@[simp] theorem Dev.modEnc_flag (d : Dev) (j : Nat) (f : EncSt → EncSt) (g : Fld) : (d.modEnc j f).flag g = d.flag g := (rfl)
@[simp] theorem Dev.modDiv_rd (d : Dev) (k o : Nat) (f : DivSt → DivSt) : (d.modDiv k f).rd o = d.rd o := (rfl)

/-- A count channel's hidden state. -/
def Dev.chan (d : Dev) (n : Nat) : ChanSt := tget d.fb.chans n

@[simp] theorem Dev.modChan_chan (d : Dev) (n : Nat) (f : ChanSt → ChanSt) : (d.modChan n f).chan n = f (d.chan n) :=
  tget_tmod_same _ _ _

theorem Dev.chan_of_fb {d e : Dev} (h : e.fb = d.fb) (n : Nat) : e.chan n = d.chan n := by rw [Dev.chan, Dev.chan, h]

@[simp] theorem Dev.modEnc_enc (d : Dev) (j : Nat) (f : EncSt → EncSt) : tget (d.modEnc j f).fb.encs j = f (tget d.fb.encs j) :=
  tget_tmod_same _ _ _
@[simp] theorem Dev.modDiv_div (d : Dev) (k : Nat) (f : DivSt → DivSt) : tget (d.modDiv k f).fb.divs k = f (tget d.fb.divs k) :=
  tget_tmod_same _ _ _

/-! Counts that reach the dividers (R189, R190). -/

theorem Dev.Keeps.modDiv {b : Nat} {d e : Dev} (h : Dev.Keeps b d e) (k : Nat) (f : DivSt → DivSt) : Dev.Keeps b d (e.modDiv k f) :=
  ⟨h.time, h.rd⟩

theorem divSts_high (k : Nat) : 0x901000 ≤ R.FB_DIV_STS k := by unfold R.FB_DIV_STS; omega

/-- A divider that takes counts leaves every register below the dividers' but the report. -/
theorem Dev.keeps_divTake (k : Nat) (v : Int) (d : Dev) : Dev.Keeps 0x901000 d (d.divTake k v) :=
  (((Dev.Keeps.refl d).put (g := F.FB_DIV_STS_BACKLOG k) _ (divSts_high k)).modDiv k _).each _ _
    fun _ d => (Dev.Keeps.refl d).event0 (g := F.FB_DIV_STS_OVF_EVT k) (divSts_high k)

theorem Dev.keeps_divFeed (typ idx : Nat) (v : Int) (d : Dev) : Dev.Keeps 0x901000 d (d.divFeed typ idx v) :=
  (Dev.Keeps.refl d).each _ _ fun k d => by
    simp only
    split
    · exact d.keeps_divTake k v
    · exact Dev.Keeps.refl d

theorem Dev.divTake_chans (k : Nat) (v : Int) (d : Dev) : (d.divTake k v).fb.chans = d.fb.chans :=
  foldl_keep (fun d => d.fb.chans) _ (fun d _ => congrArg FbSt.chans (d.event0_fb _)) _ _

theorem Dev.divFeed_chan (typ idx : Nat) (v : Int) (d : Dev) (n : Nat) : (d.divFeed typ idx v).chan n = d.chan n :=
  congrArg (fun l => tget l n) (foldl_keep (fun d => d.fb.chans) _ (fun d k => by
    simp only
    split
    · exact d.divTake_chans k v
    · rfl) _ d)

/-! Faults (R173, R188, Table 7.1). -/

theorem Dev.mem_record_of_idx (d : Dev) {k : FaultKind} {i : Nat} (c a : Nat) (b : Bool) (o : Option Fld) {r : FaultRec}
    (h : r ∈ d.faults) (hi : r.idx ≠ i) : r ∈ (d.record k i c a b o).faults := by
  rw [Dev.record_faults]
  exact List.mem_cons_of_mem _ (List.mem_filter.mpr ⟨h, by simp [hi]⟩)

/-- The class F2 fault of the axes geared to a source stands beside the class F3 fault of those that the source positions. -/
theorem Dev.feedbackFault_mem (d : Dev) {k : FaultKind} (hk : k ≠ .report) (idx typ : Nat) {x : PosSrc} (own : Fld) (h : d.sourcedBy x ≠ 0) :
    (⟨k, idx, 3, d.sourcedBy x, true, some own⟩ : FaultRec) ∈ (d.feedbackFault k idx typ x own).faults := by
  have first := d.mem_fault_self idx 3 (d.sourcedBy x) true (some own) hk
  simp only [Dev.feedbackFault, h, false_and, if_false]
  split
  · exact first
  · exact (Dev.reported_react _ _ _).1 _ (Dev.mem_record_of_idx _ _ _ _ _ first (by simp)) hk

theorem Dev.feedbackFault_rd (d : Dev) (k : FaultKind) (idx typ : Nat) (x : PosSrc) (own : Fld) {o : Nat} (h : ¬ settles o) :
    (d.feedbackFault k idx typ x own).rd o = d.rd o := by
  have f3 : ∀ (c : Prop) [Decidable c] (e : Dev) (i cls a : Nat),
      (if c then e else e.fault k i cls a true (some own)).rd o = e.rd o := fun c _ e i cls a => by
    split
    · rfl
    · exact e.fault_rd _ _ _ _ _ _ h
  simp only [Dev.feedbackFault]
  split
  · rw [Dev.fault_rd _ _ _ _ _ _ _ h, f3, f3]
  · rw [f3, f3]

/-- A source's FAULT, its event and the faults of its axes. -/
def Dev.sourceFault (flt evt : Fld) (k : FaultKind) (idx typ : Nat) (x : PosSrc) (d : Dev) : Dev :=
  ((d.up flt true).raise evt).feedbackFault k idx typ x evt

/-- FAULT and its event stay through the reaction of the axes, whose class F3 fault stands. -/
theorem Dev.sourceFault_outcome (d : Dev) {flt evt : Fld} {k : FaultKind} (idx typ : Nat) {x : PosSrc} (ok : flt.hi = flt.lo ∧ flt.lo < 32)
    (ev : evt.evt) (apart : flt.reg ≠ evt.reg) (fl : ¬ settles flt.reg) (el : ¬ settles evt.reg) (hk : k ≠ .report) (h : d.sourcedBy x ≠ 0) :
    (d.sourceFault flt evt k idx typ x).flag flt = true ∧ (d.sourceFault flt evt k idx typ x).flag evt = true ∧
      ∃ r ∈ (d.sourceFault flt evt k idx typ x).faults, r.kind = k ∧ r.idx = idx ∧ r.cls = 3 ∧ r.axes = d.sourcedBy x ∧ r.cause = true := by
  have axes : ((d.up flt true).raise evt).sourcedBy x = d.sourcedBy x := by simp only [Dev.sourcedBy, Dev.raise_traj, Dev.up_traj]
  refine ⟨?_, ?_, _, axes ▸ Dev.feedbackFault_mem _ hk idx typ evt (by rwa [axes]), rfl, rfl, rfl, rfl, rfl⟩
  · rw [Dev.sourceFault, Dev.flag_of_rd (Dev.feedbackFault_rd _ k idx typ x evt fl), Dev.flag_raise_ne _ apart, Dev.flag_up_same _ _ _ ok.1 ok.2]
  · rw [Dev.sourceFault, Dev.flag_of_rd (Dev.feedbackFault_rd _ k idx typ x evt el), Dev.raise_flag _ _ ev]

/-- The registers of FB are none that settling writes. -/
theorem not_settles_feedback {o : Nat} (h : 0x900000 ≤ o) : ¬ settles o :=
  not_settles_of_apart (fun e => absurd (e ▸ h) (by decide)) (fun e => absurd (e ▸ h) (by decide)) (Or.inr (by omega))

end Sys2Proof.Machine
end

section
/-! Count channels: the filters, counting, illegal transitions, standstill and the Z line (07 R170 to R180). -/
namespace Sys2Proof.Machine

/-! A line's filter (R170). -/

/-- The raw edge of the change that a line is in at a SYS clock. -/
def LineF.edge (l : LineF) (clk : Nat) : Nat := if l.run = 0 then clk else l.since

section Filter
variable {need clk : Nat} {x : Bool} {l : LineF}

theorem LineF.sample_waiting (h : x ≠ l.lvl → l.run + 1 < need) : (l.sample need clk x).1.lvl = l.lvl ∧ (l.sample need clk x).2 = none := by
  unfold LineF.sample
  by_cases same : x = l.lvl
  · rw [if_pos same]
    exact ⟨rfl, rfl⟩
  · rw [if_neg same, if_neg (not_le.mpr (h same))]
    exact ⟨rfl, rfl⟩

theorem LineF.sample_taken (h : x ≠ l.lvl → need ≤ l.run + 1) :
    (l.sample need clk x).1.lvl = x ∧ (l.sample need clk x).2 = if x = l.lvl then none else some (l.edge clk) := by
  unfold LineF.sample
  by_cases same : x = l.lvl
  · rw [if_pos same, if_pos same]
    exact ⟨same.symm, rfl⟩
  · rw [if_neg same, if_neg same, if_pos (h same)]
    exact ⟨rfl, rfl⟩

end Filter

/-! One sample of A and B. -/

section Sample
variable {d : Dev} {n clk t : Nat} {x : Bool × Bool}

/-- The filters of A and B with one sample more. -/
def Dev.filterA (d : Dev) (n : Nat) (x : Bool × Bool) : LineF × Option Nat :=
  let c := d.chan n
  c.a.sample (d.chanN n) c.clk x.1
def Dev.filterB (d : Dev) (n : Nat) (x : Bool × Bool) : LineF × Option Nat :=
  let c := d.chan n
  c.b.sample (d.chanN n) c.clk x.2

/-- The changes of the filtered line B with the one, if any, that its filter has just let through. -/
def ChanSt.dirsWith (b : LineF × Option Nat) (c : ChanSt) : List (Nat × Bool) :=
  match b.2 with
  | some t => ((t, b.1.lvl) :: c.dirs).take 300
  | none => c.dirs

/-- The device when a channel's filters have taken a sample, and nothing has counted yet. -/
def Dev.filtered (n : Nat) (x : Bool × Bool) (d : Dev) : Dev := d.modChan n (fun c => { c with
  a := (d.filterA n x).1, b := (d.filterB n x).1, clk := c.clk + 1, dirs := (d.chan n).dirsWith (d.filterB n x) })

/-- Neither line changes: nothing counts. -/
theorem Dev.chanSample_still (a : (d.filterA n x).2 = none) (b : (d.filterB n x).2 = none) : d.chanSample n x = d.filtered n x := by
  simp only [Dev.filterA, Dev.filterB, Dev.chan] at a b
  simp only [Dev.chanSample, Dev.chan, Dev.filtered, Dev.filterA, Dev.filterB, ChanSt.dirsWith, a, b]

/-- A change of A, of B or of both is a quadrature transition, stamped by A where A changes. -/
theorem Dev.chanSample_quad (mode : d.chanMode n = 1) (turn : (d.filterA n x).2.or (d.filterB n x).2 = some t) :
    d.chanSample n x = (d.filtered n x).quadTransition n (d.chan n).a.lvl (d.chan n).b.lvl t := by
  have mode' : ∀ f, (d.modChan n f).chanMode n = 1 := fun _ => mode
  simp only [Dev.filterA, Dev.filterB, Dev.chan] at turn
  rcases a : ((tget d.fb.chans n).a.sample (d.chanN n) (tget d.fb.chans n).clk x.1).2 with _ | ta
  · rw [a, Option.none_or] at turn
    simp only [Dev.chanSample, Dev.chan, Dev.filtered, Dev.filterA, Dev.filterB, ChanSt.dirsWith, a, turn, mode', if_true]
  · rw [a, Option.some_or, Option.some_inj] at turn
    simp only [Dev.chanSample, Dev.chan, Dev.filtered, Dev.filterA, Dev.filterB, ChanSt.dirsWith, a, turn, mode', if_true] <;> rfl

/-- In step mode a change of the step line is a step edge. -/
theorem Dev.chanSample_step (mode : d.chanMode n = 2) (a : (d.filterA n x).2 = some t) :
    d.chanSample n x = (d.filtered n x).stepEdge n t := by
  have mode' : ∀ f, (d.modChan n f).chanMode n = 2 := fun _ => mode
  simp only [Dev.filterA, Dev.chan] at a
  simp only [Dev.chanSample, Dev.chan, Dev.filtered, Dev.filterA, Dev.filterB, ChanSt.dirsWith, a, mode', OfNat.ofNat_ne_one, if_false] <;> rfl

/-- A sample whose transition, if any, is not before the last latch is taken as it comes (R174). -/
theorem Dev.lateSample_timely
    (h : ((d.chanSample n x).chan n).last = (d.chan n).last ∨
      ((d.chanSample n x).chan n).latClk ≤ ((d.chanSample n x).chan n).last.getD 0) :
    d.lateSample n x = d.chanSample n x := if_pos (h.imp_right Or.inl)

/-- The channel at the SYS clock of its next sample. -/
def Dev.sampling (n clk : Nat) (d : Dev) : Dev := d.modChan n (fun c => { c with clk := max c.clk clk })

theorem Dev.sampling_chan (h : (d.chan n).clk = clk) : (d.sampling n clk).chan n = d.chan n := by
  rw [Dev.sampling, Dev.modChan_chan, h, max_self, ← h]

/-- The next sample of a channel, where it makes no latch: it is one step of the filters and what follows from it. -/
theorem Dev.chanLines_one {mode : Nat} (m : d.chanMode n = mode) (h : (d.chan n).clk = clk)
    (timely : (d.sampling n clk).lateSample n x = (d.sampling n clk).chanSample n x)
    (lat : ((d.sampling n clk).chanSample n x).rd (R.FB_QLAT n) = d.rd (R.FB_QLAT n)) :
    d.chanLines mode n [x] clk = (d.sampling n clk).chanSample n x := by
  have one : d.chanSamples n [x] clk = (d.sampling n clk).lateSample n x := by
    rw [Dev.chan] at h
    simp only [Dev.chanSamples, h, Nat.sub_self, Nat.min_zero, List.replicate_zero, Dev.each, List.foldl_nil, List.foldl_cons]
    rfl
  simp only [Dev.chanLines, m, ne_eq, not_true_eq_false, if_false, one, timely, lat, if_true]

end Sample

/-! The period history (R172, R176, R179). -/

/-- Of d and e: the same but for the period history of a channel, which METHOD belongs to. -/
structure Dev.PeriodsOnly (n : Nat) (d e : Dev) : Prop where
  rd : ∀ o, o ≠ R.FB_QSTS n → e.rd o = d.rd o
  sts : ∀ f : Fld, f.reg = R.FB_QSTS n → 3 < f.lo → e.get f = d.get f
  chan : ∃ o p, e.chan n = { d.chan n with opened := o, per := p }

namespace Dev.PeriodsOnly
variable {n : Nat} {d e f : Dev}

theorem refl (d : Dev) : PeriodsOnly n d d := ⟨fun _ _ => rfl, fun _ _ _ => rfl, _, _, rfl⟩

theorem up (h : PeriodsOnly n d e) {g : Fld} (b : Bool) (r : g.reg = R.FB_QSTS n) (ok : g.ok) (low : g.hi ≤ 3) : PeriodsOnly n d (e.up g b) :=
  ⟨fun o ne => (Dev.rd_put_ne e _ (r ▸ ne)).trans (h.rd o ne),
    fun x xr lt => (Dev.get_put_apart e g x _ ok (xr.trans r.symm) (Or.inl (by omega))).trans (h.sts x xr lt), h.chan⟩

theorem mod (h : PeriodsOnly n d e) {g : ChanSt → ChanSt} (only : ∀ c, ∃ o p, g c = { c with opened := o, per := p }) :
    PeriodsOnly n d (e.modChan n g) := by
  obtain ⟨_, _, was⟩ := h.chan
  obtain ⟨o, p, now⟩ := only (e.chan n)
  exact ⟨h.rd, h.sts, o, p, by rw [Dev.modChan_chan, now, was]⟩

end Dev.PeriodsOnly

theorem qsts_low (n : Nat) : (F.FB_QSTS_PER_VALID n).reg = R.FB_QSTS n ∧ (F.FB_QSTS_METHOD n).reg = R.FB_QSTS n ∧
    (F.FB_QSTS_PER_VALID n).ok ∧ (F.FB_QSTS_METHOD n).ok := by
  simp [F.FB_QSTS_PER_VALID, F.FB_QSTS_METHOD, R.FB_QSTS, Fld.ok]

theorem Dev.chanClear_periods (d : Dev) (n : Nat) : Dev.PeriodsOnly n d (d.chanClear n) := by
  obtain ⟨pr, mr, pok, mok⟩ := qsts_low n
  exact (((Dev.PeriodsOnly.refl d).up false pr pok (Nat.le_succ 2)).up false mr mok le_rfl).mod fun c => ⟨_, _, rfl⟩

theorem Dev.chanClear_invalid (d : Dev) (n : Nat) : (d.chanClear n).flag (F.FB_QSTS_PER_VALID n) = false := by
  obtain ⟨-, -, -, ok⟩ := qsts_low n
  exact (Dev.flag_up_apart _ (F.FB_QSTS_METHOD n) (F.FB_QSTS_PER_VALID n) _ ok rfl (Or.inr (Nat.lt_succ_self 2))).trans
    (Dev.flag_up_same d _ false rfl (show 2 < 32 by decide))

/-! A counted transition (R171, R178, R179). -/

section Count
variable {d : Dev} {n : Nat}

/-- COUNT, the direction and standstill with a counted transition, and its stamp: the period history apart. -/
def Dev.moved (n : Nat) (neg : Bool) (clk : Nat) (d : Dev) : Dev :=
  let e := d.chanAdd n (if neg then -1 else 1)
  (((e.up (F.FB_QSTS_DIR n) neg).up (F.FB_QSTS_DIR_KNOWN n) true).up (F.FB_QSTS_STANDSTILL n)
    (d.flag (F.FB_QSTS_STANDSTILL n) && e.inPark)).modChan n (fun c => { c with last := some clk, lastNeg := some neg })

theorem Dev.chanCount_periods (d : Dev) (n : Nat) (neg : Bool) (clk : Nat) : Dev.PeriodsOnly n (d.moved n neg clk) (d.chanCount n neg clk) := by
  obtain ⟨valid, -, ok, -⟩ := qsts_low n
  have same := Dev.PeriodsOnly.refl (n := n) (d.moved n neg clk)
  simp only [Dev.chanCount]
  split
  · exact same.mod fun c => ⟨_, _, rfl⟩
  · split
    · split
      · exact (same.up true valid ok (Nat.le_succ 2)).mod fun c => ⟨_, _, rfl⟩
      · exact same.mod fun c => ⟨_, _, rfl⟩
    · exact Dev.chanClear_periods _ n

theorem Dev.chanAdd_keeps (s : Int) {o : Nat} (low : o < 0x901000) (report : o ≠ R.SYS_FAULT_EVT) (count : o ≠ R.FB_QCNT n) :
    (d.chanAdd n s).rd o = d.rd o :=
  ((Dev.keeps_divFeed 0 n s _).rd o low report).trans (Dev.rd_put_ne d _ count)

theorem Dev.chanAdd_count (hn : n < 32) (s : Int) :
    (d.chanAdd n s).get (F.FB_QCNT_COUNT n) = uNat 32 ((d.get (F.FB_QCNT_COUNT n) : Int) + s) := by
  have low : (F.FB_QCNT_COUNT n).reg < 0x901000 ∧ (F.FB_QCNT_COUNT n).reg ≠ R.SYS_FAULT_EVT := by
    simp only [F.FB_QCNT_COUNT, R.SYS_FAULT_EVT]; omega
  calc (d.chanAdd n s).get (F.FB_QCNT_COUNT n)
      = (d.puts (F.FB_QCNT_COUNT n) (d.gets (F.FB_QCNT_COUNT n) + s)).get (F.FB_QCNT_COUNT n) :=
        Dev.get_of_rd ((Dev.keeps_divFeed 0 n s _).rd _ low.1 low.2)
    _ = uNat 32 (d.gets (F.FB_QCNT_COUNT n) + s) := Dev.get_puts_same _ _ _ ⟨Nat.zero_le _, by simp [F.FB_QCNT_COUNT]⟩
    _ = uNat 32 ((d.get (F.FB_QCNT_COUNT n) : Int) + s) := uNat_congr ((sInt_modEq 32 _).add_right s)

theorem Dev.chanAdd_chan (s : Int) : (d.chanAdd n s).chan n = d.chan n := Dev.divFeed_chan 0 n s _ n

theorem Dev.inPark_of_rd {d e : Dev} (h : e.rd R.PWR_STS = d.rd R.PWR_STS) : e.inPark = d.inPark := by
  rw [Dev.inPark, Dev.inPark, Dev.get_of_rd (f := F.PWR_STS_STATE) h]

theorem qsts_bits (n : Nat) : (F.FB_QSTS_DIR n).ok ∧ (F.FB_QSTS_DIR_KNOWN n).ok ∧ (F.FB_QSTS_STANDSTILL n).ok := by
  simp [F.FB_QSTS_DIR, F.FB_QSTS_DIR_KNOWN, F.FB_QSTS_STANDSTILL, Fld.ok]

theorem Dev.moved_rd (neg : Bool) (clk : Nat) {o : Nat} (low : o < 0x901000) (report : o ≠ R.SYS_FAULT_EVT) (count : o ≠ R.FB_QCNT n)
    (sts : o ≠ R.FB_QSTS n) : (d.moved n neg clk).rd o = d.rd o := by
  rw [Dev.moved, Dev.modChan_rd, Dev.up, Dev.rd_put_ne _ _ sts, Dev.up, Dev.rd_put_ne _ _ sts, Dev.up, Dev.rd_put_ne _ _ sts,
    Dev.chanAdd_keeps _ low report count]

theorem Dev.moved_count (hn : n < 32) (neg : Bool) (clk : Nat) :
    (d.moved n neg clk).get (F.FB_QCNT_COUNT n) = uNat 32 ((d.get (F.FB_QCNT_COUNT n) : Int) + (if neg then -1 else 1)) := by
  have apart : (F.FB_QCNT_COUNT n).reg ≠ R.FB_QSTS n := by simp [F.FB_QCNT_COUNT, R.FB_QSTS]
  rw [Dev.moved, Dev.modChan_get, Dev.up, Dev.get_put_ne _ _ apart, Dev.up, Dev.get_put_ne _ _ apart, Dev.up, Dev.get_put_ne _ _ apart,
    Dev.chanAdd_count hn]

theorem Dev.moved_status (hn : n < 32) (park : d.inPark = false) (neg : Bool) (clk : Nat) :
    (d.moved n neg clk).flag (F.FB_QSTS_DIR n) = neg ∧ (d.moved n neg clk).flag (F.FB_QSTS_DIR_KNOWN n) = true ∧
      (d.moved n neg clk).flag (F.FB_QSTS_STANDSTILL n) = false := by
  have running : (d.chanAdd n (if neg then -1 else 1)).inPark = false :=
    (Dev.inPark_of_rd (Dev.chanAdd_keeps _ (by decide) (by decide) (by simp only [R.PWR_STS, R.FB_QCNT]; omega))).trans park
  obtain ⟨dir, known, still⟩ := qsts_bits n
  rw [Dev.moved, running, Bool.and_false]
  simp only [Dev.modChan_flag]
  refine ⟨?_, ?_, Dev.flag_up_same _ _ _ rfl (show 4 < 32 by decide)⟩
  · rw [Dev.flag_up_apart _ (F.FB_QSTS_STANDSTILL n) (F.FB_QSTS_DIR n) _ still rfl (Or.inl (show 4 < 5 by decide)),
      Dev.flag_up_apart _ (F.FB_QSTS_DIR_KNOWN n) (F.FB_QSTS_DIR n) _ known rfl (Or.inr (show 5 < 6 by decide))]
    exact Dev.flag_up_same _ _ _ rfl (show 5 < 32 by decide)
  · rw [Dev.flag_up_apart _ (F.FB_QSTS_STANDSTILL n) (F.FB_QSTS_DIR_KNOWN n) _ still rfl (Or.inl (show 4 < 6 by decide))]
    exact Dev.flag_up_same _ _ _ rfl (show 6 < 32 by decide)

theorem Dev.moved_chan (neg : Bool) (clk : Nat) :
    (d.moved n neg clk).chan n = { d.chan n with last := some clk, lastNeg := some neg } := by
  rw [Dev.moved, Dev.modChan_chan, Dev.chan_of_fb ((Dev.up_fb _ _ _).trans ((Dev.up_fb _ _ _).trans (Dev.up_fb _ _ _))) n, Dev.chanAdd_chan]

/-- What a counted transition makes of COUNT, of the channel's status and of its hidden state; LAT stays. -/
theorem Dev.chanCount_outcome (hn : n < 32) (park : d.inPark = false) (neg : Bool) (clk : Nat) :
    (d.chanCount n neg clk).get (F.FB_QCNT_COUNT n) = uNat 32 ((d.get (F.FB_QCNT_COUNT n) : Int) + (if neg then -1 else 1)) ∧
    ((d.chanCount n neg clk).flag (F.FB_QSTS_DIR n) = neg ∧ (d.chanCount n neg clk).flag (F.FB_QSTS_DIR_KNOWN n) = true ∧
      (d.chanCount n neg clk).flag (F.FB_QSTS_STANDSTILL n) = false) ∧
    (d.chanCount n neg clk).rd (R.FB_QLAT n) = d.rd (R.FB_QLAT n) ∧
    ∃ o p, (d.chanCount n neg clk).chan n =
      { d.chan n with last := some clk, lastNeg := some neg, opened := o, per := p } := by
  have history := d.chanCount_periods n neg clk
  obtain ⟨dir, known, still⟩ := Dev.moved_status hn park neg clk
  obtain ⟨o, p, chan⟩ := history.chan
  have lat : R.FB_QLAT n < 0x901000 ∧ R.FB_QLAT n ≠ R.SYS_FAULT_EVT ∧ R.FB_QLAT n ≠ R.FB_QCNT n ∧ R.FB_QLAT n ≠ R.FB_QSTS n := by
    simp only [R.FB_QLAT, R.SYS_FAULT_EVT, R.FB_QCNT, R.FB_QSTS]; omega
  obtain ⟨low, report, count, sts⟩ := lat
  refine ⟨?_, ⟨?_, ?_, ?_⟩, ?_, o, p, ?_⟩
  · rw [Dev.get_of_rd (f := F.FB_QCNT_COUNT n) (history.rd _ (by simp [F.FB_QCNT_COUNT, R.FB_QSTS])), Dev.moved_count hn]
  · rw [Dev.flag_of_get (history.sts (F.FB_QSTS_DIR n) rfl (show 3 < 5 by decide)), dir]
  · rw [Dev.flag_of_get (history.sts (F.FB_QSTS_DIR_KNOWN n) rfl (show 3 < 6 by decide)), known]
  · rw [Dev.flag_of_get (history.sts (F.FB_QSTS_STANDSTILL n) rfl (show 3 < 4 by decide)), still]
  · rw [history.rd _ sts, Dev.moved_rd neg clk low report count sts]
  · rw [chan, Dev.moved_chan]

end Count
end Sys2Proof.Machine
end

section
/-! The events of count channels and output dividers (07 R170 to R191). -/
namespace Sys2Proof.Machine

/-! Both lines changed in one sample (R172). -/

section Illegal
variable (d : Dev) (n : Nat)

theorem qerr_fields : (F.FB_QERR_QUAD_ERR n).ok ∧ (F.FB_QERR_CYC_ERR n).ok ∧ (F.FB_QEVT_QERR_EVT n).evt := by
  simp [F.FB_QERR_QUAD_ERR, F.FB_QERR_CYC_ERR, F.FB_QEVT_QERR_EVT, Fld.ok, Fld.evt]

/-- An illegal transition, counted and reported. -/
def Dev.illegalNoted : Dev := ((d.cnt (F.FB_QERR_QUAD_ERR n)).cnt (F.FB_QERR_CYC_ERR n)).event0 (F.FB_QEVT_QERR_EVT n)

theorem Dev.illegalNoted_sameRegs : d.sameRegs (d.illegalNoted n) [R.FB_QERR n, R.FB_QEVT n, R.FB_QSTS n, R.SYS_FAULT_EVT] :=
  (((Dev.sameRegs.refl d _).cnt (f := F.FB_QERR_QUAD_ERR n) (by simp [F.FB_QERR_QUAD_ERR, R.FB_QERR])).cnt (f := F.FB_QERR_CYC_ERR n)
    (by simp [F.FB_QERR_CYC_ERR, R.FB_QERR])).event0 (f := F.FB_QEVT_QERR_EVT n) (by simp [F.FB_QEVT_QERR_EVT, R.FB_QEVT]) (by simp)

theorem Dev.illegalNoted_errors : (d.illegalNoted n).get (F.FB_QERR_QUAD_ERR n) = min (d.get (F.FB_QERR_QUAD_ERR n) + 1)
    (2 ^ ((F.FB_QERR_QUAD_ERR n).hi + 1 - (F.FB_QERR_QUAD_ERR n).lo) - 1) := by
  obtain ⟨quad, cyc, -⟩ := qerr_fields n
  rw [Dev.illegalNoted, Dev.event0_get_ne _ (by simp [F.FB_QERR_QUAD_ERR, F.FB_QEVT_QERR_EVT])
    (by simp only [F.FB_QERR_QUAD_ERR, R.SYS_FAULT_EVT]; omega)]
  exact (Dev.get_put_apart _ (F.FB_QERR_CYC_ERR n) (F.FB_QERR_QUAD_ERR n) _ cyc rfl (Or.inl (show 7 < 16 by decide))).trans (d.cnt_get quad)

theorem Dev.illegalNoted_event : (d.illegalNoted n).flag (F.FB_QEVT_QERR_EVT n) = true := by
  obtain ⟨-, -, evt⟩ := qerr_fields n
  exact Dev.event0_flag _ evt (by simp only [F.FB_QEVT_QERR_EVT, R.SYS_FAULT_EVT]; omega)

theorem Dev.illegalNoted_chan : (d.illegalNoted n).chan n = d.chan n := Dev.chan_of_fb (Dev.event0_fb _ _) n

/-- Without CATCHUP an illegal transition counts its error, and the period history clears. -/
theorem Dev.chanIllegal_noted (noCatch : d.flag (F.FB_QCFG_CATCHUP n) = false) : d.chanIllegal n = (d.illegalNoted n).chanClear n := by
  have cfg : ((d.illegalNoted n).chanClear n).flag (F.FB_QCFG_CATCHUP n) = false := by
    rw [← noCatch]
    refine Dev.flag_of_rd ((((d.illegalNoted n).chanClear_periods n).rd _ ?_).trans (d.illegalNoted_sameRegs n _ ?_))
    · simp [F.FB_QCFG_CATCHUP, R.FB_QSTS]
    · simp only [F.FB_QCFG_CATCHUP, R.FB_QERR, R.FB_QEVT, R.FB_QSTS, R.SYS_FAULT_EVT, List.mem_cons, List.not_mem_nil, or_false]
      omega
  rw [Dev.illegalNoted] at cfg
  simp only [Dev.chanIllegal, cfg, Bool.false_eq_true, false_and, if_false]
  rfl

theorem Dev.chanIllegal_outcome (noCatch : d.flag (F.FB_QCFG_CATCHUP n) = false) :
    (d.chanIllegal n).get (F.FB_QERR_QUAD_ERR n) = min (d.get (F.FB_QERR_QUAD_ERR n) + 1)
      (2 ^ ((F.FB_QERR_QUAD_ERR n).hi + 1 - (F.FB_QERR_QUAD_ERR n).lo) - 1) ∧
    (d.chanIllegal n).flag (F.FB_QEVT_QERR_EVT n) = true ∧ (d.chanIllegal n).flag (F.FB_QSTS_PER_VALID n) = false ∧
    d.sameRegs (d.chanIllegal n) [R.FB_QERR n, R.FB_QEVT n, R.FB_QSTS n, R.SYS_FAULT_EVT] ∧
    ∃ o p, (d.chanIllegal n).chan n = { d.chan n with opened := o, per := p } := by
  rw [d.chanIllegal_noted n noCatch]
  have history := (d.illegalNoted n).chanClear_periods n
  obtain ⟨o, p, chan⟩ := history.chan
  refine ⟨?_, ?_, Dev.chanClear_invalid _ n, ?_, o, p, ?_⟩
  · rw [Dev.get_of_rd (f := F.FB_QERR_QUAD_ERR n) (history.rd _ (by simp [F.FB_QERR_QUAD_ERR, R.FB_QSTS])), Dev.illegalNoted_errors]
  · rw [Dev.flag_of_rd (f := F.FB_QEVT_QERR_EVT n) (history.rd _ (by simp [F.FB_QEVT_QERR_EVT, R.FB_QSTS])), Dev.illegalNoted_event]
  · exact (d.illegalNoted_sameRegs n).trans fun o ho => history.rd o (fun eq => ho (by simp [eq]))
  · rw [chan, d.illegalNoted_chan n]

end Illegal

/-! Samples in quadrature mode (R170 to R172). -/

/-- The raw edge that stamps a transition to level a of A: A's where A changes, B's otherwise. -/
def ChanSt.edge (c : ChanSt) (a : Bool) (clk : Nat) : Nat := if a = c.a.lvl then c.b.edge clk else c.a.edge clk

/-- How far (A, B) goes along 00, 10, 11, 01 from the filtered levels (R171). -/
def ChanSt.turn (c : ChanSt) (a b : Bool) : Nat := (quadPos a b + 4 - quadPos c.a.lvl c.b.lvl) % 4

/-- A move of one place along the sequence, or of one back, is a move of one line. -/
theorem quadPos_turned {a b a' b' : Bool} (h : (quadPos a' b' + 4 - quadPos a b) % 4 ≠ 0) : a' ≠ a ∨ b' ≠ b := by
  by_contra same
  push Not at same
  obtain ⟨rfl, rfl⟩ := same
  exact h (by simp)

theorem Dev.quadTransition_one {d : Dev} {n clk k : Nat} {a b : Bool}
    (turn : (quadPos (d.chan n).a.lvl (d.chan n).b.lvl + 4 - quadPos a b) % 4 = k) (one : k = 1 ∨ k = 3) :
    d.quadTransition n a b clk = d.chanCount n ((k == 3) != d.flag (F.FB_QCFG_INV_DIR n)) clk := by
  rw [Dev.chan] at turn
  rcases one with rfl | rfl
  · simp [Dev.quadTransition, turn]
  · simp [Dev.quadTransition, turn]

theorem Dev.quadTransition_two {d : Dev} {n clk : Nat} {a b : Bool}
    (turn : (quadPos (d.chan n).a.lvl (d.chan n).b.lvl + 4 - quadPos a b) % 4 = 2) :
    d.quadTransition n a b clk = d.chanIllegal n := by
  rw [Dev.chan] at turn
  simp only [Dev.quadTransition, turn]

section Quad
variable {d : Dev} {n : Nat} {a b : Bool}

/-- The device whose channel n takes the levels a and b in its next sample, before anything counts. -/
def Dev.sampled (n : Nat) (a b : Bool) (d : Dev) : Dev := (d.sampling n (d.chan n).clk).filtered n (a, b)

/-- Lines whose filters let the new levels through, and lines whose filters do not yet. -/
def Dev.linesPass (d : Dev) (n : Nat) (a b : Bool) : Prop :=
  (a ≠ (d.chan n).a.lvl → d.chanN n ≤ (d.chan n).a.run + 1) ∧
    (b ≠ (d.chan n).b.lvl → d.chanN n ≤ (d.chan n).b.run + 1)
def Dev.linesWait (d : Dev) (n : Nat) (a b : Bool) : Prop :=
  (a ≠ (d.chan n).a.lvl → (d.chan n).a.run + 1 < d.chanN n) ∧
    (b ≠ (d.chan n).b.lvl → (d.chan n).b.run + 1 < d.chanN n)

theorem Dev.sampling_filterA (d : Dev) (n : Nat) (a b : Bool) : (d.sampling n (d.chan n).clk).filterA n (a, b) =
    (d.chan n).a.sample (d.chanN n) (d.chan n).clk a := by
  rw [Dev.filterA, Dev.sampling_chan rfl]
  rfl

theorem Dev.sampling_filterB (d : Dev) (n : Nat) (a b : Bool) : (d.sampling n (d.chan n).clk).filterB n (a, b) =
    (d.chan n).b.sample (d.chanN n) (d.chan n).clk b := by
  rw [Dev.filterB, Dev.sampling_chan rfl]
  rfl

/-- A sample changes a channel's lines, its clock and the changes of B alone. -/
theorem Dev.sampled_chan (d : Dev) (n : Nat) (a b : Bool) : let c := d.chan n
    (d.sampled n a b).chan n = { c with
      a := (c.a.sample (d.chanN n) c.clk a).1, b := (c.b.sample (d.chanN n) c.clk b).1, clk := c.clk + 1,
      dirs := c.dirsWith (c.b.sample (d.chanN n) c.clk b) } := by
  simp only [Dev.sampled, Dev.filtered, Dev.modChan_chan, Dev.sampling_filterA, Dev.sampling_filterB, Dev.sampling_chan rfl]

theorem Dev.sampled_passed (h : d.linesPass n a b) :
    ((d.sampled n a b).chan n).a.lvl = a ∧ ((d.sampled n a b).chan n).b.lvl = b := by
  rw [Dev.sampled_chan]
  exact ⟨(LineF.sample_taken h.1).1, (LineF.sample_taken h.2).1⟩

/-- A sample whose levels the filters do not yet let through changes nothing but the filters. -/
theorem Dev.quadLines_waiting (mode : d.chanMode n = 1) (h : d.linesWait n a b) :
    d.chanLines 1 n [(a, b)] (d.chan n).clk = d.sampled n a b := by
  have none : (d.sampling n (d.chan n).clk).chanSample n (a, b) = d.sampled n a b :=
    Dev.chanSample_still (by rw [Dev.sampling_filterA]; exact (LineF.sample_waiting h.1).2)
      (by rw [Dev.sampling_filterB]; exact (LineF.sample_waiting h.2).2)
  rw [← none]
  refine Dev.chanLines_one mode rfl (Dev.lateSample_timely (Or.inl ?_)) (by rw [none]; rfl)
  rw [none, Dev.sampled_chan, Dev.sampling_chan rfl]

/-- The change that the filters let through is stamped by the edge of its line. -/
theorem Dev.sampling_edge (h : d.linesPass n a b) (change : (d.chan n).turn a b ≠ 0) :
    ((d.sampling n (d.chan n).clk).filterA n (a, b)).2.or ((d.sampling n (d.chan n).clk).filterB n (a, b)).2 =
      some ((d.chan n).edge a (d.chan n).clk) := by
  rw [Dev.sampling_filterA, Dev.sampling_filterB, (LineF.sample_taken h.1).2, (LineF.sample_taken h.2).2, ChanSt.edge]
  rcases quadPos_turned change with ha | hb
  · rw [if_neg ha, if_neg ha, Option.some_or]
  · rw [if_neg hb]
    split
    · exact Option.none_or
    · exact Option.some_or

/-- Levels that the filters let through, whose effect e is no transition before the last latch, and which leaves LAT, has that effect. -/
theorem Dev.quadLines_passed (mode : d.chanMode n = 1) (h : d.linesPass n a b) (change : (d.chan n).turn a b ≠ 0) {e : Dev}
    (eff : (d.sampled n a b).quadTransition n (d.chan n).a.lvl (d.chan n).b.lvl
      ((d.chan n).edge a (d.chan n).clk) = e)
    (timely : (e.chan n).last = (d.chan n).last ∨ (e.chan n).latClk ≤ (e.chan n).last.getD 0)
    (lat : e.rd (R.FB_QLAT n) = d.rd (R.FB_QLAT n)) : d.chanLines 1 n [(a, b)] (d.chan n).clk = e := by
  have one : (d.sampling n (d.chan n).clk).chanSample n (a, b) = e := by
    rw [Dev.chanSample_quad (d := d.sampling n (d.chan n).clk) mode (Dev.sampling_edge h change), Dev.sampling_chan rfl]
    exact eff
  rw [← one]
  exact Dev.chanLines_one mode rfl (Dev.lateSample_timely (by rwa [one, Dev.sampling_chan rfl])) (by rwa [one])

/-- One place along the sequence, or one back: the transition counts. -/
theorem Dev.quadLines_one (hn : n < 32) (park : d.inPark = false) (mode : d.chanMode n = 1) (h : d.linesPass n a b)
    {k : Nat} (turn : (d.chan n).turn a b = k) (one : k = 1 ∨ k = 3)
    (late : (d.chan n).latClk ≤ (d.chan n).edge a (d.chan n).clk) :
    d.chanLines 1 n [(a, b)] (d.chan n).clk = (d.sampled n a b).chanCount n ((k == 3) != d.flag (F.FB_QCFG_INV_DIR n))
      ((d.chan n).edge a (d.chan n).clk) := by
  obtain ⟨la, lb⟩ := Dev.sampled_passed h
  obtain ⟨-, -, lat, o, p, chan⟩ := Dev.chanCount_outcome (d := d.sampled n a b) hn park ((k == 3) != d.flag (F.FB_QCFG_INV_DIR n))
    ((d.chan n).edge a (d.chan n).clk)
  refine Dev.quadLines_passed mode h (by omega) (Dev.quadTransition_one (by rw [la, lb]; exact turn) one) (Or.inr ?_) lat
  rw [chan, Dev.sampled_chan]
  exact late

/-- Both lines: the transition is illegal. -/
theorem Dev.quadLines_two (mode : d.chanMode n = 1) (h : d.linesPass n a b) (turn : (d.chan n).turn a b = 2)
    (noCatch : d.flag (F.FB_QCFG_CATCHUP n) = false) :
    d.chanLines 1 n [(a, b)] (d.chan n).clk = (d.sampled n a b).chanIllegal n := by
  obtain ⟨la, lb⟩ := Dev.sampled_passed h
  obtain ⟨-, -, -, regs, o, p, chan⟩ := (d.sampled n a b).chanIllegal_outcome n noCatch
  refine Dev.quadLines_passed mode h (by omega) (Dev.quadTransition_two (by rw [la, lb]; exact turn)) (Or.inl ?_) (regs _ ?_)
  · rw [chan, Dev.sampled_chan]
  · simp only [R.FB_QLAT, R.FB_QERR, R.FB_QEVT, R.FB_QSTS, R.SYS_FAULT_EVT, List.mem_cons, List.not_mem_nil, or_false]
    omega

end Quad

/-! The step input (R180). -/

section Step
variable {d : Dev} {n : Nat} {a : Bool}

theorem ChanSt.dirAt_congr {c e : ChanSt} (dirs : e.dirs = c.dirs) (b : e.b.lvl = c.b.lvl) (t : Int) : e.dirAt t = c.dirAt t := by
  rw [ChanSt.dirAt, ChanSt.dirAt, dirs, b]

/-- A sample in which A alone may change leaves the direction line. -/
theorem Dev.sampled_dirAt (d : Dev) (n : Nat) (a : Bool) (t : Int) :
    ((d.sampled n a (d.chan n).b.lvl).chan n).dirAt t = (d.chan n).dirAt t := by
  have still := LineF.sample_waiting (need := d.chanN n) (clk := (d.chan n).clk) (l := (d.chan n).b) (fun ne => absurd rfl ne)
  refine ChanSt.dirAt_congr ?_ ?_ t
  · rw [Dev.sampled_chan, ChanSt.dirsWith, still.2]
  · rw [Dev.sampled_chan]
    exact still.1

/-- The direction of a step at a stamp: that of the direction level DIR_SU clocks before. -/
def Dev.stepNeg (d : Dev) (n t : Nat) : Bool :=
  (d.chan n).dirAt ((t : Int) - d.get (F.FB_QCFG_DIR_SU n)) == d.flag (F.FB_QCFG_INV_DIR n)

theorem Dev.stepEdge_passive {t : Nat} (h : (d.chan n).a.lvl = d.flag (F.FB_QCFG_STEP_EDGE n)) : d.stepEdge n t = d := if_pos (beq_iff_eq.mpr h)

theorem Dev.stepEdge_active {t : Nat} (h : (d.chan n).a.lvl ≠ d.flag (F.FB_QCFG_STEP_EDGE n)) :
    d.stepEdge n t = d.chanCount n (d.stepNeg n t) t := if_neg (fun e => h (beq_iff_eq.mp e))

/-- A filtered change of the step line, whose effect is no transition before the last latch and leaves LAT, has that effect. -/
theorem Dev.stepLines_passed (mode : d.chanMode n = 2) (ne : a ≠ (d.chan n).a.lvl)
    (long : d.chanN n ≤ (d.chan n).a.run + 1) {e : Dev}
    (eff : (d.sampled n a (d.chan n).b.lvl).stepEdge n ((d.chan n).a.edge (d.chan n).clk) = e)
    (timely : (e.chan n).last = (d.chan n).last ∨ (e.chan n).latClk ≤ (e.chan n).last.getD 0)
    (lat : e.rd (R.FB_QLAT n) = d.rd (R.FB_QLAT n)) :
    d.chanLines 2 n [(a, (d.chan n).b.lvl)] (d.chan n).clk = e := by
  have turn : ((d.sampling n (d.chan n).clk).filterA n (a, (d.chan n).b.lvl)).2 =
      some ((d.chan n).a.edge (d.chan n).clk) := by
    rw [Dev.sampling_filterA, (LineF.sample_taken fun _ => long).2, if_neg ne]
  have one : (d.sampling n (d.chan n).clk).chanSample n (a, (d.chan n).b.lvl) = e := by
    rw [Dev.chanSample_step (d := d.sampling n (d.chan n).clk) mode turn]
    exact eff
  rw [← one]
  exact Dev.chanLines_one mode rfl (Dev.lateSample_timely (by rwa [one, Dev.sampling_chan rfl])) (by rwa [one])

theorem Dev.stepLines_passive (mode : d.chanMode n = 2) (ne : a ≠ (d.chan n).a.lvl)
    (long : d.chanN n ≤ (d.chan n).a.run + 1) (passive : a = d.flag (F.FB_QCFG_STEP_EDGE n)) :
    d.chanLines 2 n [(a, (d.chan n).b.lvl)] (d.chan n).clk = d.sampled n a (d.chan n).b.lvl := by
  have la := (Dev.sampled_passed (a := a) (b := (d.chan n).b.lvl) ⟨fun _ => long, fun ne => absurd rfl ne⟩).1
  refine Dev.stepLines_passed mode ne long (Dev.stepEdge_passive (la.trans passive)) (Or.inl ?_) rfl
  rw [Dev.sampled_chan]

theorem Dev.stepLines_active (hn : n < 32) (park : d.inPark = false) (mode : d.chanMode n = 2) (ne : a ≠ (d.chan n).a.lvl)
    (long : d.chanN n ≤ (d.chan n).a.run + 1) (active : a ≠ d.flag (F.FB_QCFG_STEP_EDGE n))
    (late : (d.chan n).latClk ≤ (d.chan n).a.edge (d.chan n).clk) :
    d.chanLines 2 n [(a, (d.chan n).b.lvl)] (d.chan n).clk = (d.sampled n a (d.chan n).b.lvl).chanCount n
      (d.stepNeg n ((d.chan n).a.edge (d.chan n).clk)) ((d.chan n).a.edge (d.chan n).clk) := by
  have la := (Dev.sampled_passed (a := a) (b := (d.chan n).b.lvl) ⟨fun _ => long, fun ne => absurd rfl ne⟩).1
  obtain ⟨-, -, lat, o, p, chan⟩ := Dev.chanCount_outcome (d := d.sampled n a (d.chan n).b.lvl) hn park
    (d.stepNeg n ((d.chan n).a.edge (d.chan n).clk)) ((d.chan n).a.edge (d.chan n).clk)
  refine Dev.stepLines_passed mode ne long ?_ (Or.inr ?_) lat
  · rw [Dev.stepEdge_active (by rw [la]; exact active), Dev.stepNeg, Dev.sampled_dirAt]
    rfl
  · rw [chan, Dev.sampled_chan]
    exact late

end Step

end Sys2Proof.Machine
end

section
/-! What the commands of count channels do (07 R170 to R180). -/
namespace Sys2Proof.Machine

section Channel
variable (s : State) (n : Fin 32) {a b : Bool}

theorem quadTransition_waits (mode : s.dev.chanMode n = 1) (h : s.dev.linesWait n a b) :
    leads (.quadTransition n [a] [b] (s.dev.chan n).clk) s fun x => x.dev.regs = s.dev.regs ∧
      (x.dev.chan n).a.lvl = (s.dev.chan n).a.lvl ∧ (x.dev.chan n).b.lvl = (s.dev.chan n).b.lvl ∧ s.sameMem x := by
  refine ⟨s.upd (Dev.chanLines 1 n [(a, b)] (s.dev.chan n).clk), rfl, ?_⟩
  rw [State.upd, Dev.quadLines_waiting mode h]
  refine ⟨rfl, ?_, ?_, rfl, rfl, rfl, rfl⟩
  · rw [Dev.sampled_chan]
    exact (LineF.sample_waiting h.1).1
  · rw [Dev.sampled_chan]
    exact (LineF.sample_waiting h.2).1

theorem quadTransition_counts (mode : s.dev.chanMode n = 1) (park : s.dev.inPark = false) (h : s.dev.linesPass n a b)
    {k : Nat} (turn : (s.dev.chan n).turn a b = k) (one : k = 1 ∨ k = 3)
    (late : (s.dev.chan n).latClk ≤ (s.dev.chan n).edge a (s.dev.chan n).clk) :
    let neg := (k == 3) != s.dev.flag (F.FB_QCFG_INV_DIR n)
    leads (.quadTransition n [a] [b] (s.dev.chan n).clk) s fun x =>
      x.dev.get (F.FB_QCNT_COUNT n) = uNat 32 ((s.dev.get (F.FB_QCNT_COUNT n) : Int) + (if neg then -1 else 1)) ∧
      x.dev.flag (F.FB_QSTS_DIR n) = neg ∧ x.dev.flag (F.FB_QSTS_DIR_KNOWN n) = true ∧ x.dev.flag (F.FB_QSTS_STANDSTILL n) = false ∧
      (x.dev.chan n).a.lvl = a ∧ (x.dev.chan n).b.lvl = b ∧ (x.dev.chan n).last = some ((s.dev.chan n).edge a (s.dev.chan n).clk) ∧
      s.sameMem x := by
  intro neg
  refine ⟨s.upd (Dev.chanLines 1 n [(a, b)] (s.dev.chan n).clk), rfl, ?_⟩
  rw [State.upd, Dev.quadLines_one n.isLt park mode h turn one late]
  obtain ⟨la, lb⟩ := Dev.sampled_passed h
  obtain ⟨count, ⟨dir, known, still⟩, -, o, p, chan⟩ := Dev.chanCount_outcome (d := s.dev.sampled n a b) n.isLt park neg
    ((s.dev.chan n).edge a (s.dev.chan n).clk)
  refine ⟨count, dir, known, still, ?_, ?_, ?_, rfl, rfl, rfl, rfl⟩
  · rw [chan]
    exact la
  · rw [chan]
    exact lb
  · rw [chan]

theorem quadTransition_illegal (mode : s.dev.chanMode n = 1) (h : s.dev.linesPass n a b) (turn : (s.dev.chan n).turn a b = 2)
    (noCatch : s.dev.flag (F.FB_QCFG_CATCHUP n) = false) : leads (.quadTransition n [a] [b] (s.dev.chan n).clk) s fun x =>
      x.dev.get (F.FB_QERR_QUAD_ERR n) = min (s.dev.get (F.FB_QERR_QUAD_ERR n) + 1)
        (2 ^ ((F.FB_QERR_QUAD_ERR n).hi + 1 - (F.FB_QERR_QUAD_ERR n).lo) - 1) ∧
      x.dev.flag (F.FB_QEVT_QERR_EVT n) = true ∧ x.dev.rd (R.FB_QCNT n) = s.dev.rd (R.FB_QCNT n) ∧
      x.dev.flag (F.FB_QSTS_PER_VALID n) = false ∧
      s.dev.sameRegs x.dev [R.FB_QERR n, R.FB_QEVT n, R.FB_QSTS n, R.SYS_FAULT_EVT] ∧ s.sameMem x := by
  refine ⟨s.upd (Dev.chanLines 1 n [(a, b)] (s.dev.chan n).clk), rfl, ?_⟩
  rw [State.upd, Dev.quadLines_two mode h turn noCatch]
  obtain ⟨err, evt, invalid, regs, -⟩ := (s.dev.sampled n a b).chanIllegal_outcome n noCatch
  refine ⟨err, evt, regs _ ?_, invalid, regs, rfl, rfl, rfl, rfl⟩
  simp only [R.FB_QCNT, R.FB_QERR, R.FB_QEVT, R.FB_QSTS, R.SYS_FAULT_EVT, List.mem_cons, List.not_mem_nil, or_false]
  omega

theorem quadFault_faults (park : s.dev.inPark = false) (thr : 0 < s.dev.get (F.FB_QCFG_QERR_THR n))
    (errs : s.dev.get (F.FB_QCFG_QERR_THR n) ≤ (s.dev.chan n).cycErr) (clean : s.dev.flag (F.FB_QSTS_FAULT n) = false)
    (axes : s.dev.sourcedBy (.chan n) ≠ 0) : leads (.quadFault n) s fun x =>
      x.dev.flag (F.FB_QSTS_FAULT n) = true ∧ x.dev.flag (F.FB_QEVT_FAULT_EVT n) = true ∧
      (∃ r ∈ x.dev.faults, r.kind = FaultKind.quadErr ∧ r.idx = n.val ∧ r.cls = 3 ∧ r.axes = s.dev.sourcedBy (.chan n) ∧ r.cause = true) ∧
      s.sameMem x := by
  have faults : s.dev.quadFault n = s.dev.sourceFault (F.FB_QSTS_FAULT n) (F.FB_QEVT_FAULT_EVT n) .quadErr n 0 (.chan n) :=
    if_neg (by rw [Dev.chan] at errs; simp [park, clean]; omega)
  refine ⟨s.upd (Dev.quadFault n), rfl, ?_⟩
  rw [State.upd, faults]
  obtain ⟨flag, evt, fault⟩ := s.dev.sourceFault_outcome (flt := F.FB_QSTS_FAULT n) (evt := F.FB_QEVT_FAULT_EVT n) (k := .quadErr) n 0
    ⟨rfl, show 7 < 32 by decide⟩ ⟨rfl, show 3 < 24 by decide⟩ (by simp [F.FB_QSTS_FAULT, F.FB_QEVT_FAULT_EVT])
    (not_settles_feedback (by simp only [F.FB_QSTS_FAULT]; omega)) (not_settles_feedback (by simp only [F.FB_QEVT_FAULT_EVT]; omega))
    (by decide) axes
  exact ⟨flag, evt, fault, rfl, rfl, rfl, rfl⟩

theorem stepInputEdge_acts (mode : s.dev.chanMode n = 2) (park : s.dev.inPark = false) (ne : a ≠ (s.dev.chan n).a.lvl)
    (long : s.dev.chanN n ≤ (s.dev.chan n).a.run + 1) (late : (s.dev.chan n).latClk ≤ (s.dev.chan n).a.edge (s.dev.chan n).clk) :
    let t := (s.dev.chan n).a.edge (s.dev.chan n).clk
    leads (.stepInputEdge n [(a, (s.dev.chan n).b.lvl)] (s.dev.chan n).clk) s fun x =>
      (a = s.dev.flag (F.FB_QCFG_STEP_EDGE n) → x.dev.regs = s.dev.regs) ∧
      (a ≠ s.dev.flag (F.FB_QCFG_STEP_EDGE n) →
        x.dev.get (F.FB_QCNT_COUNT n) = uNat 32 ((s.dev.get (F.FB_QCNT_COUNT n) : Int) + (if s.dev.stepNeg n t then -1 else 1)) ∧
        x.dev.flag (F.FB_QSTS_DIR n) = s.dev.stepNeg n t ∧ (x.dev.chan n).last = some t) ∧ s.sameMem x := by
  intro t
  refine ⟨s.upd (Dev.chanLines 2 n [(a, (s.dev.chan n).b.lvl)] (s.dev.chan n).clk), rfl, fun passive => ?_, fun active => ?_,
    rfl, rfl, rfl, rfl⟩
  · rw [State.upd, Dev.stepLines_passive mode ne long passive]
    rfl
  · rw [State.upd, Dev.stepLines_active n.isLt park mode ne long active late]
    obtain ⟨count, ⟨dir, -, -⟩, -, o, p, chan⟩ := Dev.chanCount_outcome (d := s.dev.sampled n a (s.dev.chan n).b.lvl) n.isLt park
      (s.dev.stepNeg n t) t
    exact ⟨count, dir, by rw [chan]⟩

end Channel

/-! The Z line (R175). -/

section Zline
variable {d : Dev} {n : Nat}

/-- The device when the Z line's filter has taken a sample. -/
def Dev.zFiltered (n : Nat) (x : Bool) (d : Dev) : Dev :=
  d.modChan n (fun c => { c with z := ((d.chan n).z.sample (d.chanN n) (d.chan n).zClk x).1, zClk := c.zClk + 1 })

theorem Dev.zFiltered_lvl {x : Bool} (long : d.chanN n ≤ (d.chan n).z.run + 1) : ((d.zFiltered n x).chan n).z.lvl = x := by
  rw [Dev.zFiltered, Dev.modChan_chan]
  exact (LineF.sample_taken fun _ => long).1

theorem Dev.zSample_rise (low : (d.chan n).z.lvl = false) (long : d.chanN n ≤ (d.chan n).z.run + 1) :
    d.zSample n true = (d.zFiltered n true).zEdge n := by
  obtain ⟨lvl, edge⟩ := LineF.sample_taken (clk := (d.chan n).zClk) (x := true) (l := (d.chan n).z) (fun _ => long)
  rw [if_neg (by rw [low]; decide)] at edge
  simp only [Dev.chan] at lvl edge
  simp only [Dev.zSample, Dev.zFiltered, Dev.chan, edge, lvl, Option.isSome_some, Bool.and_self, if_true]

/-- The Z line of a channel at the SYS clock of its next sample. -/
def Dev.zSampling (n clk : Nat) (d : Dev) : Dev := d.modChan n (fun c => { c with zClk := max c.zClk clk })

theorem Dev.zSampling_chan : (d.zSampling n (d.chan n).zClk).chan n = d.chan n := by
  rw [Dev.zSampling, Dev.modChan_chan, max_self]

theorem Dev.zSamples_one (mode : d.chanMode n ≠ 0) (x : Bool) : d.zSamples n [x] (d.chan n).zClk = (d.zSampling n (d.chan n).zClk).zSample n x := by
  simp only [Dev.zSamples, Dev.chan, mode, if_false, Nat.sub_self, Nat.min_zero, List.replicate_zero, Dev.each, List.foldl_nil, List.foldl_cons]
  rfl

theorem Dev.zEdge_outcome (d : Dev) {n : Nat} (hn : n < 32) : (d.zEdge n).rd (R.FB_QZCAP n) = d.rd (R.FB_QCNT n) ∧
    (d.zEdge n).flag (F.FB_QEVT_Z_EVT n) = true ∧ (d.zEdge n).chan n = d.chan n ∧
    d.sameRegs (d.zEdge n) [R.FB_QZCAP n, R.FB_QEVT n, R.SYS_FAULT_EVT] := by
  have zcap : R.FB_QZCAP n ≠ (F.FB_QEVT_Z_EVT n).reg ∧ R.FB_QZCAP n ≠ R.SYS_FAULT_EVT ∧ (F.FB_QEVT_Z_EVT n).reg ≠ R.SYS_FAULT_EVT := by
    simp only [R.FB_QZCAP, F.FB_QEVT_Z_EVT, R.SYS_FAULT_EVT]; omega
  obtain ⟨apart, report, evt⟩ := zcap
  refine ⟨?_, Dev.event0_flag _ ⟨rfl, show 2 < 24 by decide⟩ evt, Dev.chan_of_fb (Dev.event0_fb _ _) n, ?_⟩
  · rw [Dev.zEdge, Dev.event0_rd_ne _ apart report, Dev.rd_wr_same]
  · exact ((Dev.sameRegs.refl d _).wr _ (by simp)).event0 (f := F.FB_QEVT_Z_EVT n) (by simp [F.FB_QEVT_Z_EVT, R.FB_QEVT]) (by simp)

theorem zEdge_captures (s : State) (n : Fin 32) (mode : s.dev.chanMode n ≠ 0) (low : (s.dev.chan n).z.lvl = false)
    (long : s.dev.chanN n ≤ (s.dev.chan n).z.run + 1) : leads (.zEdge (n, ⟨[true], (s.dev.chan n).zClk⟩)) s fun x =>
      x.dev.rd (R.FB_QZCAP n) = s.dev.rd (R.FB_QCNT n) ∧ x.dev.flag (F.FB_QEVT_Z_EVT n) = true ∧ (x.dev.chan n).z.lvl = true ∧
      s.dev.sameRegs x.dev [R.FB_QZCAP n, R.FB_QEVT n, R.SYS_FAULT_EVT] ∧ s.sameMem x := by
  refine ⟨s.upd (Dev.zSamples n [true] (s.dev.chan n).zClk), rfl, ?_⟩
  have long' : (s.dev.zSampling n (s.dev.chan n).zClk).chanN n ≤ ((s.dev.zSampling n (s.dev.chan n).zClk).chan n).z.run + 1 := by
    rw [Dev.zSampling_chan]
    exact long
  rw [State.upd, Dev.zSamples_one mode, Dev.zSample_rise (by rwa [Dev.zSampling_chan]) long']
  obtain ⟨zcap, evt, chan, regs⟩ := Dev.zEdge_outcome ((s.dev.zSampling n (s.dev.chan n).zClk).zFiltered n true) n.isLt
  exact ⟨zcap, evt, by rw [chan, Dev.zFiltered_lvl long'], regs, rfl, rfl, rfl, rfl⟩

/-! Standstill (R178). -/

theorem qspd_apart {n : Nat} (hn : n < 32) : R.FB_QSPD n ≠ (F.FB_QEVT_STILL_EVT n).reg ∧ R.FB_QSPD n ≠ R.SYS_FAULT_EVT ∧
    (F.FB_QSTS_STANDSTILL n).reg ≠ R.FB_QSPD n ∧ (F.FB_QSTS_STANDSTILL n).reg ≠ (F.FB_QEVT_STILL_EVT n).reg ∧
    (F.FB_QSTS_STANDSTILL n).reg ≠ R.SYS_FAULT_EVT ∧ (F.FB_QEVT_STILL_EVT n).reg ≠ R.SYS_FAULT_EVT := by
  simp only [R.FB_QSPD, F.FB_QEVT_STILL_EVT, F.FB_QSTS_STANDSTILL, R.SYS_FAULT_EVT]
  omega

/-- A channel whose period history is cleared, with no direction to continue. -/
def Dev.stopped (n : Nat) (d : Dev) : Dev := (d.chanClear n).modChan n (fun c => { c with lastNeg := none })

theorem Dev.setStill_eq (d : Dev) (n : Nat) : d.setStill n =
    (((d.stopped n).up (F.FB_QSTS_STANDSTILL n) true).wr (R.FB_QSPD n) 0).event0 (F.FB_QEVT_STILL_EVT n) := (rfl)

theorem Dev.stopped_rd (d : Dev) {n o : Nat} (h : o ≠ R.FB_QSTS n) : (d.stopped n).rd o = d.rd o := (d.chanClear_periods n).rd o h

theorem Dev.setStill_outcome (d : Dev) {n : Nat} (hn : n < 32) : (d.setStill n).flag (F.FB_QSTS_STANDSTILL n) = true ∧
    (d.setStill n).rd (R.FB_QSPD n) = 0 ∧ (d.setStill n).flag (F.FB_QEVT_STILL_EVT n) = true ∧
    d.sameRegs (d.setStill n) [R.FB_QSTS n, R.FB_QSPD n, R.FB_QEVT n, R.SYS_FAULT_EVT] := by
  obtain ⟨spdEvt, spdReport, stsSpd, stsEvt, stsReport, evtReport⟩ := qspd_apart hn
  have stopped : d.sameRegs (d.stopped n) [R.FB_QSTS n, R.FB_QSPD n, R.FB_QEVT n, R.SYS_FAULT_EVT] := fun o ho =>
    d.stopped_rd (fun eq => ho (by simp [eq]))
  rw [Dev.setStill_eq]
  refine ⟨?_, ?_, Dev.event0_flag _ ⟨rfl, show 0 < 24 by decide⟩ evtReport, ?_⟩
  · rw [Dev.flag_of_get (Dev.event0_get_ne _ stsEvt stsReport), Dev.flag_of_get (Dev.get_wr_ne _ _ stsSpd),
      Dev.flag_up_same _ _ _ rfl (show 4 < 32 by decide)]
  · rw [Dev.event0_rd_ne _ spdEvt spdReport, Dev.rd_wr_same]
  · exact ((stopped.up (f := F.FB_QSTS_STANDSTILL n) true (by simp [F.FB_QSTS_STANDSTILL, R.FB_QSTS])).wr 0
      (by simp)).event0 (f := F.FB_QEVT_STILL_EVT n) (by simp [F.FB_QEVT_STILL_EVT, R.FB_QEVT]) (by simp)

theorem standstillTimeout_stands (s : State) (n : Fin 32) (clk : Nat) (mode : s.dev.chanMode n ≠ 0) (park : s.dev.inPark = false)
    (moving : s.dev.flag (F.FB_QSTS_STANDSTILL n) = false) (due : s.dev.stillFrom n + s.dev.stillClks n ≤ clk) :
    leads (.standstillTimeout n clk) s fun x =>
      x.dev.flag (F.FB_QSTS_STANDSTILL n) = true ∧ x.dev.rd (R.FB_QSPD n) = 0 ∧ x.dev.flag (F.FB_QEVT_STILL_EVT n) = true ∧
      s.dev.sameRegs x.dev [R.FB_QSTS n, R.FB_QSPD n, R.FB_QEVT n, R.SYS_FAULT_EVT] ∧ s.sameMem x := by
  refine ⟨s.upd (Dev.stillTimeout n clk), rfl, ?_⟩
  rw [State.upd, Dev.stillTimeout, if_pos ⟨mode, park, moving, due⟩]
  obtain ⟨still, speed, evt, regs⟩ := s.dev.setStill_outcome n.isLt
  exact ⟨still, speed, evt, regs, rfl, rfl, rfl, rfl⟩

end Zline

/-! Output dividers (R189 to R191). -/

/-- The present phase and backlog of a divider one step on: forwards for a positive backlog unless INV is set. -/
def Dev.divStepped (k clk : Nat) (d : Dev) : Dev :=
  let b := d.gets (F.FB_DIV_STS_BACKLOG k)
  let fwd := decide (0 < b) != bitOf (tget d.fb.divs k).ctl.toNat 7
  (d.puts (F.FB_DIV_STS_BACKLOG k) (if decide (0 < b) then b - 1 else b + 1)).modDiv k (fun x =>
    { x with phase := (x.phase + (if fwd then 1 else 3)) % 4, lastStep := some clk })

theorem Dev.divStep_due {d : Dev} {k clk : Nat} (en : divEn (tget d.fb.divs k).ctl = true) (some : d.gets (F.FB_DIV_STS_BACKLOG k) ≠ 0)
    (due : ∀ l, (tget d.fb.divs k).lastStep = Option.some l → l + max 10 (bitsOf (tget d.fb.divs k).ctl.toNat 15 8) ≤ clk) :
    d.divStep k clk = d.divStepped k clk := by
  rcases last : (tget d.fb.divs k).lastStep with _ | l
  · exact if_neg (by simp [last, some, en])
  · exact if_neg (by simp [last, some, en, due l last])

theorem divSts_ok (k : Nat) : (F.FB_DIV_STS_BACKLOG k).ok := by simp [F.FB_DIV_STS_BACKLOG, Fld.ok]

theorem divSts_width (k : Nat) : (F.FB_DIV_STS_BACKLOG k).hi + 1 - (F.FB_DIV_STS_BACKLOG k).lo = 16 := (rfl)

theorem divSts_range (d : Dev) (k : Nat) : -32768 ≤ d.gets (F.FB_DIV_STS_BACKLOG k) ∧ d.gets (F.FB_DIV_STS_BACKLOG k) < 32768 := by
  have range := sInt_range (w := 16) (by decide) (d.get (F.FB_DIV_STS_BACKLOG k))
  rw [Dev.gets, divSts_width]
  exact range

/-- A backlog that is not 0 comes one nearer to it. -/
theorem Dev.divStepped_backlog (d : Dev) (k clk : Nat) (some : d.gets (F.FB_DIV_STS_BACKLOG k) ≠ 0) :
    ((d.divStepped k clk).gets (F.FB_DIV_STS_BACKLOG k)).natAbs + 1 = (d.gets (F.FB_DIV_STS_BACKLOG k)).natAbs := by
  obtain ⟨lo, hi⟩ := divSts_range d k
  have read : ∀ v : Int, -32768 ≤ v → v < 32768 → (d.puts (F.FB_DIV_STS_BACKLOG k) v).gets (F.FB_DIV_STS_BACKLOG k) = v :=
    fun v l h => Dev.gets_puts_same d _ (divSts_ok k) (by rw [divSts_width]; exact l) (by rw [divSts_width]; exact h)
  have left : (d.divStepped k clk).gets (F.FB_DIV_STS_BACKLOG k) = (d.puts (F.FB_DIV_STS_BACKLOG k)
      (if decide (0 < d.gets (F.FB_DIV_STS_BACKLOG k)) then d.gets (F.FB_DIV_STS_BACKLOG k) - 1
        else d.gets (F.FB_DIV_STS_BACKLOG k) + 1)).gets (F.FB_DIV_STS_BACKLOG k) := rfl
  rcases lt_or_gt_of_ne some with neg | pos
  · rw [left, if_neg (by simpa using neg.le), read _ (by omega) (by omega)]
    omega
  · rw [left, if_pos (by simpa using pos), read _ (by omega) (by omega)]
    omega

theorem divOutputStep_steps (s : State) (k : Fin 8) (clk : Nat) (en : divEn (tget s.dev.fb.divs k).ctl = true)
    (some : s.dev.gets (F.FB_DIV_STS_BACKLOG k) ≠ 0)
    (due : ∀ l, (tget s.dev.fb.divs k).lastStep = Option.some l → l + max 10 (bitsOf (tget s.dev.fb.divs k).ctl.toNat 15 8) ≤ clk) :
    leads (.divOutputStep k clk) s fun x =>
      (x.dev.gets (F.FB_DIV_STS_BACKLOG k)).natAbs + 1 = (s.dev.gets (F.FB_DIV_STS_BACKLOG k)).natAbs ∧
      (tget x.dev.fb.divs k).phase = ((tget s.dev.fb.divs k).phase +
        (if decide (0 < s.dev.gets (F.FB_DIV_STS_BACKLOG k)) != bitOf (tget s.dev.fb.divs k).ctl.toNat 7 then 1 else 3)) % 4 ∧
      (tget x.dev.fb.divs k).lastStep = Option.some clk ∧
      s.dev.sameRegs x.dev [R.FB_DIV_STS k] ∧ s.sameMem x := by
  refine ⟨s.upd (Dev.divStep k clk), rfl, ?_⟩
  rw [State.upd, Dev.divStep_due en some due]
  refine ⟨s.dev.divStepped_backlog k clk some, ?_, ?_, ?_, rfl, rfl, rfl, rfl⟩
  · rw [Dev.divStepped, Dev.modDiv_div, Dev.puts_fb]
  · rw [Dev.divStepped, Dev.modDiv_div]
  · exact (Dev.sameRegs.puts (.refl s.dev _) (f := F.FB_DIV_STS_BACKLOG k) _ (by simp [F.FB_DIV_STS_BACKLOG, R.FB_DIV_STS])).of_regs rfl

theorem Dev.parityWritten_fb (d : Dev) (o : Nat) : (d.parityWritten o).fb = d.fb := by
  obtain ⟨h, l, e⟩ := d.parityWritten_eq o
  rw [e]

theorem divCtlWrite_waits (s : State) (k : Fin 8) (w : Word) : leads (.divCtlWrite k w) s fun x =>
    x.dev.rd (R.FB_DIV_CTL k) = w &&& 0x0001FFFF ∧ x.dev.fb = s.dev.fb ∧ s.dev.sameRegs x.dev [R.FB_DIV_CTL k] ∧ s.sameMem x := by
  refine ⟨s.upd (fun d => (d.wr (R.FB_DIV_CTL k) (w &&& 0x0001FFFF)).parityWritten (R.FB_DIV_CTL k)), rfl, ?_, ?_, ?_, rfl, rfl, rfl, rfl⟩
  · rw [State.upd, Dev.parityWritten_rd, Dev.rd_wr_same]
  · rw [State.upd, Dev.parityWritten_fb, Dev.wr_fb]
  · exact ((Dev.sameRegs.refl s.dev _).wr _ (by simp)).of_regs (Dev.parityWritten_regs _ _)

theorem divRatioWrite_waits (s : State) (k : Fin 8) (w : Word) : leads (.divRatioWrite k w) s fun x =>
    x.dev.rd (R.FB_DIV_RATIO k) = w ∧ (tget x.dev.fb.divs k).ratio = (tget s.dev.fb.divs k).ratio ∧
    (tget x.dev.fb.divs k).pendRatio = true ∧ s.dev.sameRegs x.dev [R.FB_DIV_RATIO k] ∧ s.sameMem x := by
  refine ⟨s.upd (Dev.divRatioWrite k w), rfl, ?_, ?_, ?_, ?_, rfl, rfl, rfl, rfl⟩
  · rw [State.upd, Dev.divRatioWrite, Dev.modDiv_rd, Dev.parityWritten_rd, Dev.rd_wr_same]
  · rw [State.upd, Dev.divRatioWrite, Dev.modDiv_div, Dev.parityWritten_fb, Dev.wr_fb]
  · rw [State.upd, Dev.divRatioWrite, Dev.modDiv_div]
  · exact ((Dev.sameRegs.refl s.dev _).wr _ (by simp)).of_regs (Dev.parityWritten_regs _ _)

/-- Settles O25, by what one sample of a channel's filters can do, and by what each of its effects, once it counts, writes. -/
theorem encoderEvents : Obligations.EncoderEvents := by
  unfold Obligations.EncoderEvents
  refine ⟨⟨?_, quadFault_faults⟩, ?_, ?_, standstillTimeout_stands, divOutputStep_steps, divCtlWrite_waits, divRatioWrite_waits⟩
  · rintro s n a b _ mode park rfl
    exact ⟨fun ha hb => quadTransition_waits s n mode ⟨ha, hb⟩, fun ha hb =>
      ⟨fun one late => quadTransition_counts s n mode park ⟨ha, hb⟩ rfl one late,
        fun two noCatch => quadTransition_illegal s n mode ⟨ha, hb⟩ two noCatch⟩⟩
  · rintro s n _ c mode rfl low long
    exact zEdge_captures s n mode low long
  · rintro s n a _ c t neg mode park rfl ne long late
    exact stepInputEdge_acts s n mode park ne long late

end Sys2Proof.Machine
end

section
/-! Absolute encoders: a word that completes, standstill and the fault (07 R182 to R188). -/
namespace Sys2Proof.Machine

/-! How a word is read: by the port's configuration alone (R182 to R184). -/

section Format
variable {d e : Dev} {j raw : Nat} (h : e.rd (R.FB_ENCCFG j) = d.rd (R.FB_ENCCFG j))
include h

theorem Dev.encFramed_congr : e.encFramed j = d.encFramed j := by
  rw [Dev.encFramed, Dev.encFramed, Dev.get_of_rd (f := F.FB_ENCCFG_FRAME j) h]

theorem Dev.encLen_congr : e.encLen j = d.encLen j := by
  rw [Dev.encLen, Dev.encLen, Dev.encFramed_congr h, Dev.get_of_rd (f := F.FB_ENCCFG_POSLEN j) h, Dev.get_of_rd (f := F.FB_ENCCFG_WLEN j) h]

theorem Dev.encPosLen_congr : e.encPosLen j = d.encPosLen j := by
  simp only [Dev.encPosLen, Dev.encFramed_congr h, Dev.get_of_rd (f := F.FB_ENCCFG_POSLEN j) h, Dev.get_of_rd (f := F.FB_ENCCFG_WLEN j) h]

theorem Dev.encPosField_congr : e.encPosField j raw = d.encPosField j raw := by
  simp only [Dev.encPosField, Dev.encFramed_congr h, Dev.encLen_congr h, Dev.encPosLen_congr h, Dev.get_of_rd (f := F.FB_ENCCFG_FRAME j) h]

theorem Dev.encBad_congr : e.encBad j raw = d.encBad j raw := by
  simp only [Dev.encBad, Dev.encFramed_congr h, Dev.encLen_congr h, Dev.encPosLen_congr h, Dev.get_of_rd (f := F.FB_ENCCFG_ERRBIT j) h,
    Dev.flag_of_rd (f := F.FB_ENCCFG_ERRPOL j) h]

end Format

/-- An error of a word has a counter of the port and an event of the port (R185). -/
theorem Dev.encBad_fields {d : Dev} {j raw : Nat} {c v : Fld} (h : d.encBad j raw = some (c, v)) :
    (c.reg = R.FB_ENCCNT0 j ∨ c.reg = R.FB_ENCCNT1 j) ∧ c.ok ∧ v.reg = R.FB_ENCEVT j ∧ v.evt := by
  have frame : (F.FB_ENCCNT1_START_ERR j).ok ∧ (F.FB_ENCEVT_FRAME_EVT j).evt := by
    simp [F.FB_ENCCNT1_START_ERR, F.FB_ENCEVT_FRAME_EVT, Fld.ok, Fld.evt]
  have crc : (F.FB_ENCCNT0_CRC_ERR j).ok := by simp [F.FB_ENCCNT0_CRC_ERR, Fld.ok]
  have alarm : (F.FB_ENCCNT1_ALARM j).ok ∧ (F.FB_ENCEVT_ALARM_EVT j).evt := by
    simp [F.FB_ENCCNT1_ALARM, F.FB_ENCEVT_ALARM_EVT, Fld.ok, Fld.evt]
  have which : (c, v) = (F.FB_ENCCNT1_START_ERR j, F.FB_ENCEVT_FRAME_EVT j) ∨ (c, v) = (F.FB_ENCCNT0_CRC_ERR j, F.FB_ENCEVT_FRAME_EVT j) ∨
      (c, v) = (F.FB_ENCCNT1_ALARM j, F.FB_ENCEVT_ALARM_EVT j) := by
    simp only [Dev.encBad] at h
    split_ifs at h
    · exact Or.inl (Option.some.inj h).symm
    · exact Or.inr (Or.inl (Option.some.inj h).symm)
    · exact Or.inr (Or.inr (Option.some.inj h).symm)
    · exact Or.inr (Or.inr (Option.some.inj h).symm)
  rcases which with eq | eq | eq <;> obtain ⟨rfl, rfl⟩ := Prod.mk.inj eq
  · exact ⟨Or.inr rfl, frame.1, rfl, frame.2⟩
  · exact ⟨Or.inl rfl, crc, rfl, frame.2⟩
  · exact ⟨Or.inr rfl, alarm.1, rfl, alarm.2⟩

/-! The end of a transfer (R182). -/

theorem Dev.runTo_fb (d : Dev) (ns : Nat) : (d.runTo ns).fb = d.fb := by
  obtain ⟨_, _, _, _, _, ran, -⟩ := d.ran_runTo ns
  rw [ran]
  rfl

theorem encSts_bits (j : Nat) : (F.FB_ENCSTS_BUSY j).ok ∧ (F.FB_ENCSTS_VALID j).ok ∧ (F.FB_ENCSTS_STANDSTILL j).ok ∧ (F.FB_ENCSTS_WARN j).ok := by
  simp [F.FB_ENCSTS_BUSY, F.FB_ENCSTS_VALID, F.FB_ENCSTS_STANDSTILL, F.FB_ENCSTS_WARN, Fld.ok]

/-- The instant at which a port's transfer is complete. -/
def Dev.wordEnd (d : Dev) (j : Nat) : Nat :=
  (tget d.fb.encs j).tReq + d.encLen j * max 20 (min 400 (d.get (F.FB_ENCCFG3_CLKDIV j))) * 5 + (d.get (F.FB_ENCCFG2_DAT_DLY j) * 5 + 1) / 2

/-- The device at that instant, the word shown in RAW. -/
def Dev.wordShown (j raw : Nat) (d : Dev) : Dev :=
  (((((d.runTo (d.wordEnd j)).up (F.FB_ENCSTS_BUSY j) false).modEnc j (fun e => { e with anyWord := true })).put
    (F.FB_ENCRAW_LO_RAW j) raw).put (F.FB_ENCRAW_HI_RAW j) (raw / 2 ^ 32))

section Shown
variable (d : Dev) (j raw : Nat)

theorem Dev.wordShown_rd {o : Nat} (sts : o ≠ R.FB_ENCSTS j) (lo : o ≠ R.FB_ENCRAW_LO j) (hi : o ≠ R.FB_ENCRAW_HI j) :
    (d.wordShown j raw).rd o = d.rd o := by
  rw [Dev.wordShown, Dev.rd_put_ne _ _ hi, Dev.rd_put_ne _ _ lo, Dev.modEnc_rd, Dev.up, Dev.rd_put_ne _ _ sts,
    Dev.rd_of_regs (d.runTo_regs _)]

theorem Dev.wordShown_cfg : (d.wordShown j raw).rd (R.FB_ENCCFG j) = d.rd (R.FB_ENCCFG j) :=
  d.wordShown_rd j raw (by simp [R.FB_ENCCFG, R.FB_ENCSTS]) (by simp [R.FB_ENCCFG, R.FB_ENCRAW_LO]) (by simp [R.FB_ENCCFG, R.FB_ENCRAW_HI])

theorem Dev.wordShown_enc : tget (d.wordShown j raw).fb.encs j = { tget d.fb.encs j with anyWord := true } := by
  rw [Dev.wordShown, Dev.put_fb, Dev.put_fb, Dev.modEnc_enc, Dev.up_fb, Dev.runTo_fb]

theorem Dev.wordShown_raw : (d.wordShown j raw).get (F.FB_ENCRAW_LO_RAW j) = raw % 2 ^ 32 := by
  rw [Dev.wordShown, Dev.get_put_ne _ _ (by simp [F.FB_ENCRAW_LO_RAW, F.FB_ENCRAW_HI_RAW])]
  exact Dev.get_put_same _ _ _ (by simp [F.FB_ENCRAW_LO_RAW, Fld.ok])

/-- BUSY clears and VALID stays. -/
theorem Dev.wordShown_status : (d.wordShown j raw).flag (F.FB_ENCSTS_BUSY j) = false ∧
    (d.wordShown j raw).flag (F.FB_ENCSTS_VALID j) = d.flag (F.FB_ENCSTS_VALID j) := by
  have sts : (d.wordShown j raw).rd (R.FB_ENCSTS j) = ((d.runTo (d.wordEnd j)).up (F.FB_ENCSTS_BUSY j) false).rd (R.FB_ENCSTS j) := by
    rw [Dev.wordShown, Dev.rd_put_ne _ _ (by simp [R.FB_ENCSTS, F.FB_ENCRAW_HI_RAW]),
      Dev.rd_put_ne _ _ (by simp [R.FB_ENCSTS, F.FB_ENCRAW_LO_RAW]), Dev.modEnc_rd]
  refine ⟨(Dev.flag_of_rd (f := F.FB_ENCSTS_BUSY j) sts).trans (Dev.flag_up_same _ _ _ rfl (show 2 < 32 by decide)),
    (Dev.flag_of_rd (f := F.FB_ENCSTS_VALID j) sts).trans ?_⟩
  rw [Dev.flag_up_apart _ (F.FB_ENCSTS_BUSY j) (F.FB_ENCSTS_VALID j) _ (encSts_bits j).1 rfl (Or.inr (show 1 < 2 by decide)),
    Dev.flag_of_regs (d.runTo_regs _)]

end Shown

/-! A completed word (R185, R186). -/

section Word
variable {d : Dev} {j : Nat}

theorem Dev.encWord_idle (idle : d.flag (F.FB_ENCSTS_BUSY j) = false) (raw : Nat) : d.encWord j raw = d := if_pos (by simp [idle])

theorem Dev.encWord_busy (busy : d.flag (F.FB_ENCSTS_BUSY j) = true) (park : d.inPark = false) (raw : Nat) :
    (∀ c v, d.encBad j (raw % 2 ^ d.encLen j) = some (c, v) →
      d.encWord j raw = ((d.wordShown j (raw % 2 ^ d.encLen j)).cnt c).event0 v) ∧
    (d.encBad j (raw % 2 ^ d.encLen j) = none → d.flag (F.FB_ENCSTS_VALID j) = false →
      d.encWord j raw = (d.wordShown j (raw % 2 ^ d.encLen j)).encGood j (raw % 2 ^ d.encLen j)
        (d.encPosField j (raw % 2 ^ d.encLen j) % 2 ^ 32) 0) := by
  have cfg := d.wordShown_cfg j (raw % 2 ^ d.encLen j)
  constructor
  · intro c v bad
    rw [← Dev.encBad_congr cfg] at bad
    simp only [Dev.wordShown, Dev.wordEnd] at bad ⊢
    simp only [Dev.encWord, busy, park, Bool.not_true, Bool.or_false, Bool.false_eq_true, if_false, bad]
  · intro good invalid
    rw [← Dev.encBad_congr cfg] at good
    rw [← Dev.encPosField_congr cfg]
    rw [← (d.wordShown_status j (raw % 2 ^ d.encLen j)).2] at invalid
    simp only [Dev.wordShown, Dev.wordEnd] at good invalid ⊢
    simp only [Dev.encWord, busy, park, Bool.not_true, Bool.or_false, Bool.false_eq_true, if_false, good, invalid, Bool.not_false, if_true]

/-- A word with an error counts it and raises its event. -/
theorem Dev.badWord_outcome (d : Dev) (raw : Nat) {c v : Fld} (cnt : c.reg = R.FB_ENCCNT0 j ∨ c.reg = R.FB_ENCCNT1 j) (ok : c.ok)
    (reg : v.reg = R.FB_ENCEVT j) (evt : v.evt) : let x := ((d.wordShown j raw).cnt c).event0 v
    x.flag (F.FB_ENCSTS_BUSY j) = false ∧ x.rd (R.FB_ENCPOS j) = d.rd (R.FB_ENCPOS j) ∧
      x.flag (F.FB_ENCSTS_VALID j) = d.flag (F.FB_ENCSTS_VALID j) ∧ x.flag v = true ∧
      x.get c = min (d.get c + 1) (2 ^ (c.hi + 1 - c.lo) - 1) ∧ tget x.fb.encs j = { tget d.fb.encs j with anyWord := true } := by
  intro x
  have keep : ∀ o, o ≠ R.FB_ENCCNT0 j → o ≠ R.FB_ENCCNT1 j → o ≠ R.FB_ENCEVT j → o ≠ R.SYS_FAULT_EVT →
      x.rd o = (d.wordShown j raw).rd o := fun o c0 c1 ev report => by
    have counter : o ≠ c.reg := by rcases cnt with r | r <;> rwa [r]
    exact (Dev.event0_rd_ne _ (by rwa [reg]) report).trans (Dev.rd_put_ne _ _ counter)
  obtain ⟨busy, valid⟩ := d.wordShown_status j raw
  have sts : x.rd (R.FB_ENCSTS j) = (d.wordShown j raw).rd (R.FB_ENCSTS j) := by
    refine keep _ ?_ ?_ ?_ ?_ <;> simp only [R.FB_ENCSTS, R.FB_ENCCNT0, R.FB_ENCCNT1, R.FB_ENCEVT, R.SYS_FAULT_EVT] <;> omega
  refine ⟨(Dev.flag_of_rd (f := F.FB_ENCSTS_BUSY j) sts).trans busy, ?_, (Dev.flag_of_rd (f := F.FB_ENCSTS_VALID j) sts).trans valid,
    Dev.event0_flag _ evt ?_, ?_, ?_⟩
  · rw [keep, Dev.wordShown_rd] <;>
      simp only [R.FB_ENCPOS, R.FB_ENCSTS, R.FB_ENCRAW_LO, R.FB_ENCRAW_HI, R.FB_ENCCNT0, R.FB_ENCCNT1, R.FB_ENCEVT, R.SYS_FAULT_EVT] <;> omega
  · rw [reg]
    simp only [R.FB_ENCEVT, R.SYS_FAULT_EVT]; omega
  · have apart : c.reg ≠ v.reg ∧ c.reg ≠ R.SYS_FAULT_EVT ∧ c.reg ≠ R.FB_ENCSTS j ∧ c.reg ≠ R.FB_ENCRAW_LO j ∧ c.reg ≠ R.FB_ENCRAW_HI j := by
      rw [reg]
      rcases cnt with r | r <;> rw [r] <;>
        simp only [R.FB_ENCCNT0, R.FB_ENCCNT1, R.FB_ENCEVT, R.SYS_FAULT_EVT, R.FB_ENCSTS, R.FB_ENCRAW_LO, R.FB_ENCRAW_HI] <;> omega
    obtain ⟨event, report, status, lo, hi⟩ := apart
    rw [Dev.event0_get_ne _ event report, Dev.cnt_get _ ok, Dev.get_of_rd (d.wordShown_rd j raw status lo hi)]
  · rw [Dev.event0_fb, Dev.cnt_fb, Dev.wordShown_enc]

/-! A good word (R185, R186). -/

/-- The speed that a good word gives, and its counts at the dividers: none with the first word. -/
def Dev.wordSpeed (j : Nat) (dp ts : Int) (d : Dev) : Dev :=
  let e := tget d.fb.encs j
  if e.words = 0 then d else (d.puts (F.FB_ENCSPD_SPEED j) ((4096 * dp * d.time.tb).tdiv (ts - e.ts))).divFeed 1 j dp

/-- The position that a good word gives, with its stamp and its status bits. -/
def Dev.wordPos (j raw pos : Nat) (ts : Int) (moved : Bool) (d : Dev) : Dev :=
  let d := ((d.put (F.FB_ENCPOS_POS j) pos).up (F.FB_ENCSTS_VALID j) true).puts (F.FB_ENCTS_TS j) ts
  let d := if d.encFramed j then d.up (F.FB_ENCSTS_WARN j) (bitOf raw (d.encLen j - 3)) else d
  if moved then d.up (F.FB_ENCSTS_STANDSTILL j) false else d

theorem Dev.encGood_eq (d : Dev) (j raw pos : Nat) (dp : Int) : ∃ ts moved f, (∀ e, (f e).goodWord = true) ∧
    d.encGood j raw pos dp = ((d.wordSpeed j dp ts).wordPos j raw pos ts moved).modEnc j f :=
  ⟨_, _, _, fun _ => rfl, rfl⟩

/-- A speed and its counts leave the port's other registers. -/
theorem Dev.wordSpeed_rd (dp ts : Int) {o : Nat} (low : o < 0x901000) (report : o ≠ R.SYS_FAULT_EVT) (speed : o ≠ R.FB_ENCSPD j) :
    (d.wordSpeed j dp ts).rd o = d.rd o := by
  simp only [Dev.wordSpeed]
  split
  · rfl
  · exact ((Dev.keeps_divFeed 1 j dp _).rd o low report).trans (Dev.rd_put_ne d _ speed)

theorem Dev.rd_upIf_ne (d : Dev) (c b : Bool) {f : Fld} {o : Nat} (h : o ≠ f.reg) : (if c then d.up f b else d).rd o = d.rd o := by
  split
  · exact Dev.rd_put_ne d _ h
  · rfl

theorem Dev.flag_upIf_apart (d : Dev) (c : Bool) (f g : Fld) (b : Bool) (h : f.ok) (r : g.reg = f.reg) (a : f.hi < g.lo ∨ g.hi < f.lo) :
    (if c then d.up f b else d).flag g = d.flag g := by
  split
  · exact Dev.flag_up_apart d f g b h r a
  · rfl

/-- WARN and STANDSTILL leave BUSY and VALID. -/
theorem Dev.wordPos_status (raw pos : Nat) (ts : Int) (moved : Bool) : (d.wordPos j raw pos ts moved).flag (F.FB_ENCSTS_VALID j) = true ∧
    (d.wordPos j raw pos ts moved).flag (F.FB_ENCSTS_BUSY j) = d.flag (F.FB_ENCSTS_BUSY j) := by
  obtain ⟨-, valid, still, warn⟩ := encSts_bits j
  have stamp : ∀ e : Dev, (e.puts (F.FB_ENCTS_TS j) ts).rd (R.FB_ENCSTS j) = e.rd (R.FB_ENCSTS j) := fun e =>
    Dev.rd_put_ne e _ (by simp [R.FB_ENCSTS, F.FB_ENCTS_TS])
  simp only [Dev.wordPos]
  constructor
  · rw [Dev.flag_upIf_apart _ _ (F.FB_ENCSTS_STANDSTILL j) (F.FB_ENCSTS_VALID j) _ still rfl (Or.inr (show 1 < 3 by decide)),
      Dev.flag_upIf_apart _ _ (F.FB_ENCSTS_WARN j) (F.FB_ENCSTS_VALID j) _ warn rfl (Or.inl (show 0 < 1 by decide)),
      Dev.flag_of_rd (f := F.FB_ENCSTS_VALID j) (stamp _)]
    exact Dev.flag_up_same _ _ _ rfl (show 1 < 32 by decide)
  · rw [Dev.flag_upIf_apart _ _ (F.FB_ENCSTS_STANDSTILL j) (F.FB_ENCSTS_BUSY j) _ still rfl (Or.inr (show 2 < 3 by decide)),
      Dev.flag_upIf_apart _ _ (F.FB_ENCSTS_WARN j) (F.FB_ENCSTS_BUSY j) _ warn rfl (Or.inl (show 0 < 2 by decide)),
      Dev.flag_of_rd (f := F.FB_ENCSTS_BUSY j) (stamp _),
      Dev.flag_up_apart _ (F.FB_ENCSTS_VALID j) (F.FB_ENCSTS_BUSY j) _ valid rfl (Or.inl (show 1 < 2 by decide))]
    exact Dev.flag_of_rd (f := F.FB_ENCSTS_BUSY j) (Dev.rd_put_ne d _ (by simp [F.FB_ENCSTS_BUSY, F.FB_ENCPOS_POS]))

theorem Dev.wordPos_rd (raw pos : Nat) (ts : Int) (moved : Bool) {o : Nat} (sts : o ≠ R.FB_ENCSTS j) (stamp : o ≠ R.FB_ENCTS j) :
    (d.wordPos j raw pos ts moved).rd o = (d.put (F.FB_ENCPOS_POS j) pos).rd o := by
  simp only [Dev.wordPos]
  rw [Dev.rd_upIf_ne _ _ _ sts, Dev.rd_upIf_ne _ _ _ sts, Dev.puts, Dev.rd_put_ne _ _ stamp, Dev.up, Dev.rd_put_ne _ _ sts]

/-- A good word shows its position, and the transfer's RAW and BUSY stay. -/
theorem Dev.encGood_outcome (d : Dev) (hj : j < 16) (raw pos : Nat) (dp : Int) :
    (d.encGood j raw pos dp).flag (F.FB_ENCSTS_BUSY j) = d.flag (F.FB_ENCSTS_BUSY j) ∧
    (d.encGood j raw pos dp).flag (F.FB_ENCSTS_VALID j) = true ∧
    (d.encGood j raw pos dp).get (F.FB_ENCPOS_POS j) = pos % 2 ^ 32 ∧
    (d.encGood j raw pos dp).get (F.FB_ENCRAW_LO_RAW j) = d.get (F.FB_ENCRAW_LO_RAW j) ∧
    (tget (d.encGood j raw pos dp).fb.encs j).goodWord = true := by
  obtain ⟨ts, moved, f, good, eq⟩ := d.encGood_eq j raw pos dp
  rw [eq, Dev.modEnc_enc]
  simp only [Dev.modEnc_flag, Dev.modEnc_get]
  obtain ⟨valid, busy⟩ := Dev.wordPos_status (d := d.wordSpeed j dp ts) (j := j) raw pos ts moved
  refine ⟨?_, valid, ?_, ?_, good _⟩
  · rw [busy]
    refine Dev.flag_of_rd (Dev.wordSpeed_rd dp ts ?_ ?_ ?_) <;> simp only [F.FB_ENCSTS_BUSY, R.SYS_FAULT_EVT, R.FB_ENCSPD] <;> omega
  · rw [Dev.get_of_rd (f := F.FB_ENCPOS_POS j) (Dev.wordPos_rd raw pos ts moved (by simp [F.FB_ENCPOS_POS, R.FB_ENCSTS])
      (by simp [F.FB_ENCPOS_POS, R.FB_ENCTS]))]
    exact Dev.get_put_same _ _ _ (by simp [F.FB_ENCPOS_POS, Fld.ok])
  · rw [Dev.get_of_rd (f := F.FB_ENCRAW_LO_RAW j) (Dev.wordPos_rd raw pos ts moved (by simp [F.FB_ENCRAW_LO_RAW, R.FB_ENCSTS])
      (by simp [F.FB_ENCRAW_LO_RAW, R.FB_ENCTS])), Dev.get_put_ne _ _ (by simp [F.FB_ENCRAW_LO_RAW, F.FB_ENCPOS_POS])]
    refine Dev.get_of_rd (Dev.wordSpeed_rd dp ts ?_ ?_ ?_) <;> simp only [F.FB_ENCRAW_LO_RAW, R.SYS_FAULT_EVT, R.FB_ENCSPD] <;> omega

end Word

/-! What the commands of encoder ports do. -/

section Port
variable (s : State) (j : Fin 16)

theorem encWordDone_first (raw : BitVec 40) (busy : s.dev.flag (F.FB_ENCSTS_BUSY j) = true) (park : s.dev.inPark = false)
    (good : s.dev.encBad j (raw.toNat % 2 ^ s.dev.encLen j) = none) (invalid : s.dev.flag (F.FB_ENCSTS_VALID j) = false) :
    let w := raw.toNat % 2 ^ s.dev.encLen j
    leads (.encWordDone j raw) s fun x =>
      x.dev.flag (F.FB_ENCSTS_BUSY j) = false ∧ x.dev.flag (F.FB_ENCSTS_VALID j) = true ∧
      x.dev.get (F.FB_ENCPOS_POS j) = s.dev.encPosField j w % 2 ^ 32 ∧ x.dev.get (F.FB_ENCRAW_LO_RAW j) = w % 2 ^ 32 ∧
      (tget x.dev.fb.encs j).goodWord = true ∧ s.sameMem x := by
  intro w
  refine ⟨s.upd (Dev.encWord j raw.toNat), rfl, ?_⟩
  rw [State.upd, (Dev.encWord_busy busy park raw.toNat).2 good invalid]
  obtain ⟨idle, valid, pos, shown, word⟩ := Dev.encGood_outcome (s.dev.wordShown j w) j.isLt w (s.dev.encPosField j w % 2 ^ 32) 0
  refine ⟨idle.trans (s.dev.wordShown_status j w).1, valid, pos.trans (Nat.mod_mod _ _), shown.trans (s.dev.wordShown_raw j w), word,
    rfl, rfl, rfl, rfl⟩

theorem encWordDone_bad (raw : BitVec 40) (busy : s.dev.flag (F.FB_ENCSTS_BUSY j) = true) (park : s.dev.inPark = false) {c v : Fld}
    (bad : s.dev.encBad j (raw.toNat % 2 ^ s.dev.encLen j) = some (c, v)) : leads (.encWordDone j raw) s fun x =>
      x.dev.flag (F.FB_ENCSTS_BUSY j) = false ∧ x.dev.rd (R.FB_ENCPOS j) = s.dev.rd (R.FB_ENCPOS j) ∧
      x.dev.flag (F.FB_ENCSTS_VALID j) = s.dev.flag (F.FB_ENCSTS_VALID j) ∧ x.dev.flag v = true ∧
      x.dev.get c = min (s.dev.get c + 1) (2 ^ (c.hi + 1 - c.lo) - 1) ∧
      (tget x.dev.fb.encs j).goodWord = (tget s.dev.fb.encs j).goodWord ∧ s.sameMem x := by
  refine ⟨s.upd (Dev.encWord j raw.toNat), rfl, ?_⟩
  rw [State.upd, (Dev.encWord_busy busy park raw.toNat).1 c v bad]
  obtain ⟨cnt, ok, reg, evt⟩ := Dev.encBad_fields bad
  obtain ⟨idle, pos, valid, event, count, word⟩ := s.dev.badWord_outcome (raw.toNat % 2 ^ s.dev.encLen j) cnt ok reg evt
  exact ⟨idle, pos, valid, event, count, by rw [word], rfl, rfl, rfl, rfl⟩

theorem encWordDone_idle (raw : BitVec 40) (idle : s.dev.flag (F.FB_ENCSTS_BUSY j) = false) : answers (.encWordDone j raw) s s := by
  have made : answers (.encWordDone j raw) s (s.upd (Dev.encWord j raw.toNat)) := rfl
  rwa [State.upd, Dev.encWord_idle idle] at made

theorem encStandstill_stands (t : Nat) (src : s.dev.encSrc j ≠ 0) (park : s.dev.inPark = false) : leads (.encStandstill j t) s fun x =>
    x.dev.flag (F.FB_ENCSTS_STANDSTILL j) = (s.dev.flag (F.FB_ENCSTS_STANDSTILL j) ||
      decide ((tget s.dev.fb.encs j).lastMove + 10000 * ((tget s.dev.fb.encs j).stillT : Int) ≤ (s.dev.runTo t).upNs)) ∧
    x.dev.time = (s.dev.runTo t).time ∧ s.dev.sameRegs x.dev [R.FB_ENCSTS j] ∧ s.sameMem x := by
  have ran : s.dev.encStill j t = if (tget s.dev.fb.encs j).lastMove + 10000 * ((tget s.dev.fb.encs j).stillT : Int) ≤ (s.dev.runTo t).upNs
      then (s.dev.runTo t).up (F.FB_ENCSTS_STANDSTILL j) true else s.dev.runTo t := by
    simp only [Dev.encStill, src, park, Bool.false_eq_true, or_self, if_false, Dev.runTo_fb]
  have regs : s.dev.sameRegs (s.dev.runTo t) [R.FB_ENCSTS j] := (Dev.sameRegs.refl s.dev _).of_regs (s.dev.runTo_regs t)
  refine ⟨s.upd (Dev.encStill j t), rfl, ?_⟩
  rw [State.upd, ran]
  by_cases due : (tget s.dev.fb.encs j).lastMove + 10000 * ((tget s.dev.fb.encs j).stillT : Int) ≤ (s.dev.runTo t).upNs
  · rw [if_pos due, decide_eq_true due, Bool.or_true]
    exact ⟨Dev.flag_up_same _ _ _ rfl (show 3 < 32 by decide), rfl,
      regs.up (f := F.FB_ENCSTS_STANDSTILL j) true (by simp [F.FB_ENCSTS_STANDSTILL, R.FB_ENCSTS]), rfl, rfl, rfl, rfl⟩
  · rw [if_neg due, decide_eq_false due, Bool.or_false]
    exact ⟨Dev.flag_of_regs (s.dev.runTo_regs t) _, rfl, regs, rfl, rfl, rfl, rfl⟩

theorem encFault_faults (park : s.dev.inPark = false)
    (fails : max 1 (s.dev.get (F.FB_ENCCFG2_FAIL_LIMIT j)) < s.dev.get (F.FB_ENCSTS_FAILRUN j))
    (clean : s.dev.flag (F.FB_ENCSTS_FAULT j) = false) (axes : s.dev.sourcedBy (.enc j) ≠ 0) : leads (.encFault j) s fun x =>
      x.dev.flag (F.FB_ENCSTS_FAULT j) = true ∧ x.dev.flag (F.FB_ENCEVT_FAULT_EVT j) = true ∧
      (∃ r ∈ x.dev.faults, r.kind = FaultKind.encoder ∧ r.idx = j.val ∧ r.cls = 3 ∧ r.axes = s.dev.sourcedBy (.enc j) ∧ r.cause = true) ∧
      s.sameMem x := by
  have faults : s.dev.encFault j = s.dev.sourceFault (F.FB_ENCSTS_FAULT j) (F.FB_ENCEVT_FAULT_EVT j) .encoder j 1 (.enc j) :=
    if_pos ⟨park, fails, clean⟩
  refine ⟨s.upd (Dev.encFault j), rfl, ?_⟩
  rw [State.upd, faults]
  obtain ⟨flag, evt, fault⟩ := s.dev.sourceFault_outcome (flt := F.FB_ENCSTS_FAULT j) (evt := F.FB_ENCEVT_FAULT_EVT j) (k := .encoder) j 1
    ⟨rfl, show 4 < 32 by decide⟩ ⟨rfl, show 5 < 24 by decide⟩ (by simp [F.FB_ENCSTS_FAULT, F.FB_ENCEVT_FAULT_EVT])
    (not_settles_feedback (by simp only [F.FB_ENCSTS_FAULT]; omega)) (not_settles_feedback (by simp only [F.FB_ENCEVT_FAULT_EVT]; omega))
    (by decide) axes
  exact ⟨flag, evt, fault, rfl, rfl, rfl, rfl⟩

end Port

/-- Settles O26, by what the end of a transfer shows, and by what a good word and a bad one add to it. -/
theorem encoderWords : Obligations.EncoderWords := by
  unfold Obligations.EncoderWords
  refine ⟨fun s j raw busy park => ?_, encWordDone_idle, encStandstill_stands, encFault_faults⟩
  exact ⟨encWordDone_first s j raw busy park, fun c v => encWordDone_bad s j raw busy park⟩

end Sys2Proof.Machine
end

section
/-! Converters: what the operations on their bits, their hidden state and their events read back as, and what they leave (08 R194 to R206). -/
namespace Sys2Proof.Machine
open Sys2Proof.Config

/-! A converter's bit of a mask field. -/

theorem bitOf_setBit_same (v i : Nat) (b : Bool) : bitOf (setBit v i b) i = b := by
  cases b with
  | false => exact bitOf_setBit_clear v i
  | true =>
    unfold setBit
    split
    · assumption
    · rename_i h
      have even : v / 2 ^ i % 2 ≠ 1 := by simpa [bitOf] using h
      have more : (v + 2 ^ i) / 2 ^ i = v / 2 ^ i + 1 := Nat.add_div_right _ (by positivity)
      simp only [if_true, bitOf, more, beq_iff_eq]
      omega

theorem bitOf_mod {i w : Nat} (h : i < w) (v : Nat) : bitOf (v % 2 ^ w) i = bitOf v i := by
  simp only [bitOf_eq_testBit, Nat.testBit_mod_two_pow, h, decide_true, Bool.true_and]

section PutBit
variable (d : Dev) {f : Fld} (c : Nat) (b : Bool)

theorem Dev.putBit_same (ok : f.ok) (h : c < f.hi + 1 - f.lo) : bitOf ((d.putBit f c b).get f) c = b := by
  rw [Dev.putBit, Dev.get_put_same _ _ _ ok, bitOf_mod h, bitOf_setBit_same]

theorem Dev.putBit_get_ne {g : Fld} (h : g.reg ≠ f.reg) : (d.putBit f c b).get g = d.get g := Dev.get_put_ne d _ h

theorem Dev.putBit_get_apart (g : Fld) (ok : f.ok) (r : g.reg = f.reg) (a : f.hi < g.lo ∨ g.hi < f.lo) :
    (d.putBit f c b).get g = d.get g := Dev.get_put_apart d f g _ ok r a

@[simp] theorem Dev.putBit_adc (f : Fld) : (d.putBit f c b).adc = d.adc := (rfl)
@[simp] theorem Dev.putBit_time (f : Fld) : (d.putBit f c b).time = d.time := (rfl)

end PutBit

theorem Dev.sameRegs.putBit {d e : Dev} {l : List Nat} (h : d.sameRegs e l) {f : Fld} (c : Nat) (b : Bool) (mem : f.reg ∈ l) :
    d.sameRegs (e.putBit f c b) l := h.put _ mem

/-- CAL, CAL_WAIT, CAL_RUN and BG_STARVED have a bit for each of the four converters. -/
theorem adcMasks_ok : F.ADC_CTL_CAL.ok ∧ F.ADC_STS_CAL_WAIT.ok ∧ F.ADC_STS_CAL_RUN.ok ∧ F.ADC_STS_BG_STARVED.ok := by unfold Fld.ok; decide

/-! CAL_WAIT and CAL_RUN share a register. -/

section WaitRun
variable (d : Dev) (c : Nat) (b : Bool)

theorem Dev.calRun_putWait (n : Nat) : (d.putBit F.ADC_STS_CAL_WAIT n b).calRun c = d.calRun c := by
  obtain ⟨-, wait, -, -⟩ := adcMasks_ok
  simp only [Dev.calRun, Dev.putBit_get_apart d n b F.ADC_STS_CAL_RUN wait rfl (Or.inl (by decide))]

theorem Dev.calWait_putRun (n : Nat) : (d.putBit F.ADC_STS_CAL_RUN n b).calWait c = d.calWait c := by
  obtain ⟨-, -, run, -⟩ := adcMasks_ok
  simp only [Dev.calWait, Dev.putBit_get_apart d n b F.ADC_STS_CAL_WAIT run rfl (Or.inr (by decide))]

variable {c} (h : c < 4)
include h

theorem Dev.calRun_putRun : (d.putBit F.ADC_STS_CAL_RUN c b).calRun c = b := by
  obtain ⟨-, -, run, -⟩ := adcMasks_ok
  exact d.putBit_same c b run h

theorem Dev.calWait_putWait : (d.putBit F.ADC_STS_CAL_WAIT c b).calWait c = b := by
  obtain ⟨-, wait, -, -⟩ := adcMasks_ok
  exact d.putBit_same c b wait h

end WaitRun

theorem Dev.calRun_of_regs {d e : Dev} (h : e.regs = d.regs) (c : Nat) : e.calRun c = d.calRun c := by
  simp only [Dev.calRun, Dev.get_of_regs h]

theorem Dev.calWait_of_regs {d e : Dev} (h : e.regs = d.regs) (c : Nat) : e.calWait c = d.calWait c := by
  simp only [Dev.calWait, Dev.get_of_regs h]

/-! Hidden state. -/

@[simp] theorem Dev.modConv_regs (d : Dev) (c : Nat) (f : ConvSt → ConvSt) : (d.modConv c f).regs = d.regs := (rfl)
@[simp] theorem Dev.modConv_rd (d : Dev) (c o : Nat) (f : ConvSt → ConvSt) : (d.modConv c f).rd o = d.rd o := (rfl)
@[simp] theorem Dev.modConv_get (d : Dev) (c : Nat) (f : ConvSt → ConvSt) (g : Fld) : (d.modConv c f).get g = d.get g := (rfl)
@[simp] theorem Dev.modConv_flag (d : Dev) (c : Nat) (f : ConvSt → ConvSt) (g : Fld) : (d.modConv c f).flag g = d.flag g := (rfl)
@[simp] theorem Dev.modConv_calRun (d : Dev) (c n : Nat) (f : ConvSt → ConvSt) : (d.modConv c f).calRun n = d.calRun n := (rfl)
@[simp] theorem Dev.modConv_calWait (d : Dev) (c n : Nat) (f : ConvSt → ConvSt) : (d.modConv c f).calWait n = d.calWait n := (rfl)
@[simp] theorem Dev.modConv_time (d : Dev) (c : Nat) (f : ConvSt → ConvSt) : (d.modConv c f).time = d.time := (rfl)
@[simp] theorem Dev.modConv_conv (d : Dev) (c : Nat) (f : ConvSt → ConvSt) : tget (d.modConv c f).adc.convs c = f (tget d.adc.convs c) :=
  tget_tmod_same _ _ _

theorem tget_tput_same {α : Type} [Inhabited α] [DecidableEq α] (l : List (Nat × α)) (k : Nat) (v : α) : tget (tput l k v) k = v :=
  tblGet_set_same _ l k v

theorem Dev.sameRegs.modConv {d e : Dev} {l : List Nat} (h : d.sameRegs e l) (c : Nat) (f : ConvSt → ConvSt) :
    d.sameRegs (e.modConv c f) l := h

theorem Dev.ran_adc {d e : Dev} (h : d.ran e) : e.adc = d.adc := by
  obtain ⟨_, _, _, _, _, rfl, -⟩ := h
  rfl

theorem Dev.ran_pwr {d e : Dev} (h : d.ran e) : e.pwr = d.pwr := by
  obtain ⟨_, _, _, _, _, rfl, -⟩ := h
  rfl

@[simp] theorem Dev.runOsc_regs (d : Dev) (ps : Nat) : (d.runOsc ps).regs = d.regs := Dev.ran_regs (d.ran_tick _)
@[simp] theorem Dev.runOsc_adc (d : Dev) (ps : Nat) : (d.runOsc ps).adc = d.adc := Dev.ran_adc (d.ran_tick _)

/-- What begins up to an instant changes the converters' hidden state alone. -/
theorem Dev.pump_adc (c t n : Nat) : ∀ d, ∃ a, Dev.pump c t n d = { d with adc := a } := by
  induction n with
  | zero => exact fun d => ⟨d.adc, rfl⟩
  | succ n ih =>
    intro d
    unfold Dev.pump
    split
    · split
      · obtain ⟨a, e⟩ := ih (d.modConv c fun k => k.begin _ _)
        exact ⟨a, e⟩
      · exact ⟨d.adc, rfl⟩
    · exact ⟨d.adc, rfl⟩

theorem Dev.pumpNow_adc (d : Dev) (c : Nat) : ∃ a, d.pumpNow c = { d with adc := a } := by
  obtain ⟨a, e⟩ := Dev.pump_adc c (d.oscPs - 1) ((tget d.adc.convs c).work.length + (tget d.adc.convs c).inj.length) d
  simp only [Dev.pumpNow, e]
  split <;> exact ⟨_, rfl⟩

@[simp] theorem Dev.pumpNow_regs (d : Dev) (c : Nat) : (d.pumpNow c).regs = d.regs := by
  obtain ⟨a, e⟩ := d.pumpNow_adc c
  rw [e]

@[simp] theorem Dev.pumpNow_time (d : Dev) (c : Nat) : (d.pumpNow c).time = d.time := by
  obtain ⟨a, e⟩ := d.pumpNow_adc c
  rw [e]

/-- A command on the device alone, whose effect on this device is known. -/
theorem answers_congr {i : Instr} {s : State} {f g : Dev → Dev} (h : answers i s (s.upd f)) (k : f s.dev = g s.dev) : answers i s (s.upd g) := by
  rwa [State.upd, ← k]

/-- A command on the device alone that changes nothing. -/
theorem answers_same {i : Instr} {s : State} {f : Dev → Dev} (h : answers i s (s.upd f)) (k : f s.dev = s.dev) : answers i s s :=
  answers_congr (g := id) h k

end Sys2Proof.Machine
end

section
/-! Calibration and background correction (08 R202 to R206). -/
namespace Sys2Proof.Machine
open Sys2Proof.Config

/-! Calibration events (R203 to R205). -/

section CalEvent
variable (d : Dev) (f : Fld) (c reason : Nat)

/-- A calibration event before its bit: its converter and its REASON. -/
def Dev.calNoted (c reason : Nat) (d : Dev) : Dev :=
  if reason = 0 then d.put F.ADC_EVT_CAL_CONV c else (d.put F.ADC_EVT_CAL_CONV c).put F.ADC_EVT_REASON reason

theorem Dev.calEvent_eq : d.calEvent f c reason = (d.calNoted c reason).event0 f := (rfl)

@[simp] theorem Dev.calNoted_adc : (d.calNoted c reason).adc = d.adc := by
  unfold Dev.calNoted
  split
  · exact d.put_adc _ _
  · exact (Dev.put_adc _ _ _).trans (d.put_adc _ _)

@[simp] theorem Dev.calEvent_adc : (d.calEvent f c reason).adc = d.adc := by
  rw [Dev.calEvent_eq, Dev.event0_adc, Dev.calNoted_adc]

variable {f} (reg : f.reg = R.ADC_EVT)
include reg

theorem Dev.sameRegs.calEvent {d e : Dev} {l : List Nat} (h : d.sameRegs e l) (mem : R.ADC_EVT ∈ l) (report : R.SYS_FAULT_EVT ∈ l) :
    d.sameRegs (e.calEvent f c reason) l := by
  have conv := h.put (f := F.ADC_EVT_CAL_CONV) c mem
  have noted : d.sameRegs (e.calNoted c reason) l := by
    unfold Dev.calNoted
    split
    · exact conv
    · exact conv.put (f := F.ADC_EVT_REASON) reason mem
  exact noted.event0 (reg ▸ mem) report

theorem Dev.calEvent_flag (evt : f.evt) : (d.calEvent f c reason).flag f = true :=
  Dev.event0_flag _ evt (by rw [reg]; decide)

theorem Dev.calEvent_reason (evt : f.evt) (low : f.hi < F.ADC_EVT_REASON.lo) {reason : Nat} (some : reason ≠ 0) (h : reason < 8) :
    (d.calEvent f c reason).get F.ADC_EVT_REASON = reason := by
  have noted : (d.calNoted c reason).get F.ADC_EVT_REASON = reason := by
    simp only [Dev.calNoted, if_neg some]
    rw [Dev.get_put_same _ _ _ (by unfold Fld.ok; decide)]
    exact Nat.mod_eq_of_lt h
  rw [Dev.calEvent_eq, Dev.event0_get _ _ (by decide), Dev.raise_get_apart _ f _ evt reg.symm (Or.inl low) (by decide), noted]

end CalEvent

/-- The events of a calibration lie in ADC_EVT, below REASON. -/
theorem calEvents_evt : F.ADC_EVT_CAL_REFUSED_EVT.evt ∧ F.ADC_EVT_CAL_ABORT_EVT.evt ∧ F.ADC_EVT_CAL_FAIL_EVT.evt ∧
    F.ADC_EVT_CAL_DONE_EVT.evt := by
  unfold Fld.evt; decide

/-! A CAL bit is written (R204). -/

section Request
variable {s : State} {m : BitVec 4} {c : Fin 4} (one : onesBelow 4 m.toNat = [c.val])
include one

theorem adcCal_requests : answers (.adcCal m) s (s.upd (Dev.calRequest c)) := by
  have made : answers (.adcCal m) s (s.upd (Dev.adcCal m.toNat)) := rfl
  rwa [State.upd, Dev.adcCal, one] at made

theorem adcCal_off (off : bitOf s.dev.pwr.off 2 = true) : answers (.adcCal m) s s :=
  answers_same (adcCal_requests one) (if_pos (by simp [off]))

variable (idle : bitOf (s.dev.get F.ADC_CTL_CAL) c = false) (on : bitOf s.dev.pwr.off 2 = false)
include idle on

theorem adcCal_refused (axis : s.dev.calAxis c = true) :
    answers (.adcCal m) s (s.upd (Dev.calEvent F.ADC_EVT_CAL_REFUSED_EVT c 1)) := by
  have act : s.dev.calRequest c = s.dev.calEvent F.ADC_EVT_CAL_REFUSED_EVT c 1 := by
    simp only [Dev.calRequest, on, idle, axis, Bool.or_self, Bool.false_eq_true, if_false, if_true]
  exact answers_congr (adcCal_requests one) act

theorem adcCal_waits (axis : s.dev.calAxis c = false) : leads (.adcCal m) s fun x =>
    bitOf (x.dev.get F.ADC_CTL_CAL) c = true ∧ x.dev.calWait c = true ∧
      (tget x.dev.adc.convs c).waitFrom = s.dev.oscPs ∧ (tget x.dev.adc.convs c).aborts = 0 ∧
      s.dev.sameRegs x.dev [R.ADC_CTL, R.ADC_STS] ∧ s.sameMem x := by
  refine ⟨_, adcCal_requests one, ?_⟩
  have act : s.dev.calRequest c = (((s.dev.pumpNow c).putBit F.ADC_CTL_CAL c true).putBit F.ADC_STS_CAL_WAIT c true).modConv c
      (fun k => { k with aborts := 0, waitFrom := (s.dev.pumpNow c).oscPs, calStep := 0 }) := by
    simp only [Dev.calRequest, on, idle, axis, Bool.or_self, Bool.false_eq_true, if_false]
  obtain ⟨ctl, -, -, -⟩ := adcMasks_ok
  have now : (s.dev.pumpNow c).oscPs = s.dev.oscPs := by simp only [Dev.oscPs, Dev.pumpNow_time]
  simp only [State.upd, act]
  refine ⟨?_, by rw [Dev.modConv_calWait, Dev.calWait_putWait _ _ c.isLt], by rw [Dev.modConv_conv, now], by rw [Dev.modConv_conv], ?_,
    rfl, rfl, rfl, rfl⟩
  · rw [Dev.modConv_get, Dev.putBit_get_ne _ _ _ (by decide), Dev.putBit_same _ _ _ ctl c.isLt]
  · exact ((((Dev.sameRegs.refl s.dev _).of_regs (s.dev.pumpNow_regs c)).putBit (f := F.ADC_CTL_CAL) _ _ (by decide)).putBit
      (f := F.ADC_STS_CAL_WAIT) _ _ (by decide)).modConv _ _

end Request

/-! The calibration starts, and its steps end (R203, R205). -/

/-- A step at whose end an injected request aborts the calibration: counted and reported, and the slots go on from there. -/
def Dev.calAborted (c : Nat) (d : Dev) : Dev :=
  (((d.runOsc (tget d.adc.convs c).stepEnd).cnt F.ADC_CNT1_CAL_ABORT).calEvent F.ADC_EVT_CAL_ABORT_EVT c 0).modConv c
    (fun k => { k with slotEnd := k.stepEnd })

theorem Dev.calAborted_outcome (d : Dev) (c : Nat) : d.sameRegs (d.calAborted c) [R.ADC_STS, R.ADC_EVT, R.ADC_CNT1, R.SYS_FAULT_EVT] ∧
    (d.calAborted c).flag F.ADC_EVT_CAL_ABORT_EVT = true ∧ (tget (d.calAborted c).adc.convs c).aborts = (tget d.adc.convs c).aborts := by
  obtain ⟨-, evt, -, -⟩ := calEvents_evt
  have counted := ((Dev.sameRegs.refl d [R.ADC_STS, R.ADC_EVT, R.ADC_CNT1, R.SYS_FAULT_EVT]).of_regs
    (d.runOsc_regs (tget d.adc.convs c).stepEnd)).cnt (f := F.ADC_CNT1_CAL_ABORT) (by decide)
  refine ⟨(Dev.sameRegs.calEvent c 0 rfl counted (by decide) (by decide)).modConv c _, ?_, ?_⟩
  · rw [Dev.calAborted, Dev.modConv_flag]
    exact Dev.calEvent_flag _ c 0 rfl evt
  · rw [Dev.calAborted, Dev.modConv_conv, Dev.calEvent_adc, Dev.cnt_adc, Dev.runOsc_adc]

section Steps
variable (s : State) (c : Fin 4)

theorem calStart_runs (wait : s.dev.calWait c = true) (inj : (tget (s.dev.pumpNow c).adc.convs c).inj = [])
    (begun : (tget (s.dev.pumpNow c).adc.convs c).begun = []) : leads (.calStart c) s fun x =>
      x.dev.calWait c = false ∧ x.dev.calRun c = true ∧ (tget x.dev.adc.convs c).calStep = 1 ∧
      (tget x.dev.adc.convs c).calFrom = (s.dev.pumpNow c).nextSlot c ∧
      s.dev.sameRegs x.dev [R.ADC_STS] ∧ s.sameMem x := by
  have free : (s.dev.pumpNow c).calFree c = true := by
    simp only [Dev.calFree, Dev.calWait_of_regs (s.dev.pumpNow_regs c), wait, inj, begun]
    rfl
  have act : s.dev.calStart c = ((((s.dev.pumpNow c).runOsc ((s.dev.pumpNow c).nextSlot c)).putBit F.ADC_STS_CAL_WAIT c false).putBit
      F.ADC_STS_CAL_RUN c true).modConv c
      (fun k => { k.idle ((s.dev.pumpNow c).nextSlot c) with calStep := 1, calFrom := (s.dev.pumpNow c).nextSlot c }) := if_pos free
  have regs : s.dev.sameRegs ((s.dev.pumpNow c).runOsc ((s.dev.pumpNow c).nextSlot c)) [R.ADC_STS] :=
    (Dev.sameRegs.refl s.dev _).of_regs (by rw [Dev.runOsc_regs, Dev.pumpNow_regs])
  refine ⟨s.upd (Dev.calStart c), rfl, ?_⟩
  simp only [State.upd, act]
  refine ⟨by rw [Dev.modConv_calWait, Dev.calWait_putRun, Dev.calWait_putWait _ _ c.isLt],
    by rw [Dev.modConv_calRun, Dev.calRun_putRun _ _ c.isLt], by rw [Dev.modConv_conv], by rw [Dev.modConv_conv], ?_, rfl, rfl, rfl, rfl⟩
  exact ((regs.putBit (f := F.ADC_STS_CAL_WAIT) _ _ (by decide)).putBit (f := F.ADC_STS_CAL_RUN) _ _ (by decide)).modConv _ _

variable (run : s.dev.calRun c = true)
include run

theorem calStepEnd_next (inj : (tget s.dev.adc.convs c).inj = []) : leads (.calStepEnd c) s fun x =>
    (tget x.dev.adc.convs c).calStep = min 16 ((tget s.dev.adc.convs c).calStep + 1) ∧ x.dev.regs = s.dev.regs ∧ s.sameMem x := by
  have act : s.dev.calStepEnd c = (s.dev.runOsc (tget s.dev.adc.convs c).stepEnd).modConv c
      (fun k => { k with calStep := min 16 (k.calStep + 1) }) := by
    simp only [Dev.calStepEnd, run, inj, Bool.not_true, Bool.false_eq_true, if_false, if_true]
  refine ⟨s.upd (Dev.calStepEnd c), rfl, ?_⟩
  simp only [State.upd, act]
  exact ⟨by rw [Dev.modConv_conv, Dev.runOsc_adc], (Dev.modConv_regs _ _ _).trans (s.dev.runOsc_regs _), rfl, rfl, rfl, rfl⟩

theorem calStepEnd_aborts (inj : (tget s.dev.adc.convs c).inj ≠ []) (few : (tget s.dev.adc.convs c).aborts < 7) :
    leads (.calStepEnd c) s fun x => x.dev.calRun c = false ∧ x.dev.calWait c = true ∧ x.dev.flag F.ADC_EVT_CAL_ABORT_EVT = true ∧
      (tget x.dev.adc.convs c).aborts = (tget s.dev.adc.convs c).aborts + 1 ∧ (tget x.dev.adc.convs c).calStep = 0 ∧
      s.dev.sameRegs x.dev [R.ADC_STS, R.ADC_EVT, R.ADC_CNT1, R.SYS_FAULT_EVT] ∧ s.sameMem x := by
  have act : s.dev.calStepEnd c = (((s.dev.calAborted c).putBit F.ADC_STS_CAL_RUN c false).putBit F.ADC_STS_CAL_WAIT c true).modConv c
      (fun k => { k with calStep := 0, aborts := k.aborts + 1, waitFrom := k.stepEnd }) := by
    simp only [Dev.calStepEnd, run, inj, Bool.not_true, Bool.false_eq_true, if_false, show (tget s.dev.adc.convs c).aborts + 1 ≠ 8 by omega]
    rfl
  obtain ⟨regs, evt, aborts⟩ := s.dev.calAborted_outcome c
  refine ⟨s.upd (Dev.calStepEnd c), rfl, ?_⟩
  simp only [State.upd, act]
  refine ⟨by rw [Dev.modConv_calRun, Dev.calRun_putWait, Dev.calRun_putRun _ _ c.isLt],
    by rw [Dev.modConv_calWait, Dev.calWait_putWait _ _ c.isLt], ?_, ?_, by rw [Dev.modConv_conv], ?_, rfl, rfl, rfl, rfl⟩
  · rw [Dev.modConv_flag, Dev.flag, Dev.putBit_get_ne _ _ _ (by decide), Dev.putBit_get_ne _ _ _ (by decide)]
    exact evt
  · rw [Dev.modConv_conv, Dev.putBit_adc, Dev.putBit_adc, aborts]
  · exact ((regs.putBit (f := F.ADC_STS_CAL_RUN) _ _ (by decide)).putBit (f := F.ADC_STS_CAL_WAIT) _ _ (by decide)).modConv _ _

end Steps

/-! The end of a calibration (R203, R205, R206). -/

section End
variable (d : Dev) (c : Nat)

/-- The converter neither calibrates nor waits to. -/
def Dev.calOff (c : Nat) (d : Dev) : Dev := ((d.putBit F.ADC_STS_CAL_WAIT c false).putBit F.ADC_STS_CAL_RUN c false).putBit F.ADC_CTL_CAL c false

theorem Dev.calEnd_calOff : ∃ f : ConvSt → ConvSt, d.calEnd c = (d.calOff c).modConv c f ∧ ∀ k, (f k).calStep = 0 := ⟨_, rfl, fun _ => rfl⟩

theorem Dev.calEnd_outcome (h : c < 4) : bitOf ((d.calEnd c).get F.ADC_CTL_CAL) c = false ∧ (d.calEnd c).calWait c = false ∧
    (d.calEnd c).calRun c = false ∧ (tget (d.calEnd c).adc.convs c).calStep = 0 := by
  obtain ⟨f, ended, step⟩ := d.calEnd_calOff c
  obtain ⟨ctl, -, -, -⟩ := adcMasks_ok
  rw [ended, Dev.modConv_get, Dev.modConv_calWait, Dev.modConv_calRun, Dev.modConv_conv]
  refine ⟨Dev.putBit_same _ _ _ ctl h, ?_, ?_, step _⟩
  · rw [Dev.calOff, Dev.calWait, Dev.putBit_get_ne _ _ _ (by decide), ← Dev.calWait, Dev.calWait_putRun, Dev.calWait_putWait _ _ h]
  · rw [Dev.calOff, Dev.calRun, Dev.putBit_get_ne _ _ _ (by decide), ← Dev.calRun, Dev.calRun_putRun _ _ h]

theorem Dev.calEnd_sameRegs : d.sameRegs (d.calEnd c) [R.ADC_STS, R.ADC_CTL] :=
  ((Dev.sameRegs.refl d _).putBit (f := F.ADC_STS_CAL_WAIT) _ _ (by decide)).putBit (f := F.ADC_STS_CAL_RUN) _ _ (by decide)
    |>.putBit (f := F.ADC_CTL_CAL) _ _ (by decide) |>.modConv _ _

/-- The event that goes with the end of a calibration stays. -/
theorem Dev.calEnd_rd_evt : (d.calEnd c).rd R.ADC_EVT = d.rd R.ADC_EVT := d.calEnd_sameRegs c _ (by decide)

end End

/-- What step 16 measures loads or fails, with its event (R203). -/
def Dev.calShown (c : Nat) (ok : Bool) (d : Dev) : Dev :=
  if ok then (d.newSlices c).calEvent F.ADC_EVT_CAL_DONE_EVT c 0 else d.calEvent F.ADC_EVT_CAL_FAIL_EVT c 4

/-- The slots go on from a converter's last step, with no reference converted since. -/
def Dev.calClosed (c : Nat) (d : Dev) : Dev := d.modConv c (fun k => { k with slotEnd := k.stepEnd, refs := [], toneRun := false, idleRun := 0 })

theorem calDone_ends (s : State) (c : Fin 4) (ok : Bool) (run : s.dev.calRun c = true) (last : (tget s.dev.adc.convs c).calStep = 16)
    (inj : (tget s.dev.adc.convs c).inj = []) : leads (.calDone c ok) s fun x =>
      bitOf (x.dev.get F.ADC_CTL_CAL) c = false ∧ x.dev.calWait c = false ∧ x.dev.calRun c = false ∧
      (tget x.dev.adc.convs c).calStep = 0 ∧
      (ok = true → x.dev.flag F.ADC_EVT_CAL_DONE_EVT = true) ∧
      (ok = false → x.dev.flag F.ADC_EVT_CAL_FAIL_EVT = true ∧ x.dev.get F.ADC_EVT_REASON = 4 ∧
        ∀ i : Fin 16, x.dev.rd (R.ADC_SLICE i) = s.dev.rd (R.ADC_SLICE i)) ∧ s.sameMem x := by
  have act : s.dev.calDone c ok = (((s.dev.runOsc (tget s.dev.adc.convs c).stepEnd).calShown c ok).calClosed c).calEnd c := by
    simp only [Dev.calDone, run, last, inj, Bool.not_true, bne_self_eq_false, Bool.or_self, Bool.false_eq_true, if_false]
    rfl
  obtain ⟨-, -, fail, done⟩ := calEvents_evt
  refine ⟨s.upd (Dev.calDone c ok), rfl, ?_⟩
  rw [State.upd, act]
  obtain ⟨ctl, wait, ran, step⟩ := Dev.calEnd_outcome (((s.dev.runOsc (tget s.dev.adc.convs c).stepEnd).calShown c ok).calClosed c) c c.isLt
  refine ⟨ctl, wait, ran, step, fun good => ?_, fun bad => ⟨?_, ?_, fun i => ?_⟩, rfl, rfl, rfl, rfl⟩
  · rw [Dev.flag_of_rd (Dev.calEnd_rd_evt _ _), Dev.calClosed, Dev.modConv_flag, Dev.calShown, if_pos good]
    exact Dev.calEvent_flag _ _ _ rfl done
  all_goals have shown : ∀ e : Dev, e.calShown c ok = e.calEvent F.ADC_EVT_CAL_FAIL_EVT c 4 := fun _ => if_neg (by simp [bad])
  · rw [Dev.flag_of_rd (Dev.calEnd_rd_evt _ _), Dev.calClosed, Dev.modConv_flag, shown]
    exact Dev.calEvent_flag _ _ _ rfl fail
  · rw [Dev.get_of_rd (Dev.calEnd_rd_evt _ _), Dev.calClosed, Dev.modConv_get, shown]
    exact Dev.calEvent_reason _ _ rfl fail (by decide) (by decide) (by decide)
  · have slice : 0xA03300 ≤ R.ADC_SLICE i := Nat.le_add_right _ _
    have failed := Dev.sameRegs.calEvent (f := F.ADC_EVT_CAL_FAIL_EVT) c 4 rfl
      ((Dev.sameRegs.refl s.dev [R.ADC_EVT, R.SYS_FAULT_EVT]).of_regs (s.dev.runOsc_regs (tget s.dev.adc.convs c).stepEnd))
      (by decide) (by decide)
    rw [Dev.calEnd_sameRegs _ _ _ (by simp [R.ADC_STS, R.ADC_CTL]; omega), Dev.calClosed, Dev.modConv_rd, shown,
      failed _ (by simp [R.ADC_EVT, R.SYS_FAULT_EVT]; omega)]

section Wait
variable (s : State) (c : Fin 4) (wait : s.dev.calWait c = true)
include wait

theorem Dev.calWaitTimeout_eq : let d := (s.dev.runOsc ((tget s.dev.adc.convs c).waitFrom + 1000000000)).pumpNow c
    s.dev.calWaitTimeout c = if d.calFree c then d.calStart c else (d.calEvent F.ADC_EVT_CAL_REFUSED_EVT c 2).calEnd c := if_pos wait

theorem calWaitTimeout_ends : let d := (s.dev.runOsc ((tget s.dev.adc.convs c).waitFrom + 1000000000)).pumpNow c
    (d.calFree c = true → answers (.calWaitTimeout c) s (s.upd fun _ => d.calStart c)) ∧
    (d.calFree c = false → leads (.calWaitTimeout c) s fun x =>
    bitOf (x.dev.get F.ADC_CTL_CAL) c = false ∧ x.dev.calWait c = false ∧ x.dev.flag F.ADC_EVT_CAL_REFUSED_EVT = true ∧
    x.dev.get F.ADC_EVT_REASON = 2 ∧ s.sameMem x) := by
  intro d
  have act := Dev.calWaitTimeout_eq s c wait
  have made : answers (.calWaitTimeout c) s (s.upd (Dev.calWaitTimeout c)) := rfl
  refine ⟨fun free => answers_congr made (act.trans (if_pos free)), fun held => ⟨_, made, ?_⟩⟩
  obtain ⟨refused, -, -, -⟩ := calEvents_evt
  obtain ⟨ctl, waits, -, -⟩ := Dev.calEnd_outcome (d.calEvent F.ADC_EVT_CAL_REFUSED_EVT c 2) c c.isLt
  rw [State.upd, act, if_neg (by simpa using held)]
  refine ⟨ctl, waits, ?_, ?_, rfl, rfl, rfl, rfl⟩
  · rw [Dev.flag_of_rd (Dev.calEnd_rd_evt _ _)]
    exact Dev.calEvent_flag _ _ _ rfl refused
  · rw [Dev.get_of_rd (Dev.calEnd_rd_evt _ _)]
    exact Dev.calEvent_reason _ _ rfl refused (by decide) (by decide) (by decide)

end Wait

/-! The background correction (R202). -/

theorem Dev.windowEnd_regs (d : Dev) (c : Nat) : (d.windowEnd c).regs = d.regs := by
  unfold Dev.windowEnd
  rw [Dev.pumpNow_regs, Dev.runOsc_regs]

section Window
variable (s : State) (c : Fin 4) (idle : Nat)

theorem bgWindowEnd_made (total : Nat) : answers (.bgWindowEnd c idle total) s (s.upd (Dev.bgWindow c idle total)) := (rfl)

theorem bgWindowEnd_shows (ready : (tget s.dev.adc.convs c).ready = true) (own : idle = (tget (s.dev.windowEnd c).adc.convs c).winIdle) :
    leads (.bgWindowEnd c idle 400000) s fun x =>
      bitOf (x.dev.get F.ADC_STS_BG_STARVED) c = decide (10 * idle < 400000) ∧ (tget x.dev.adc.convs c).winIdle = 0 ∧
        x.dev.time = (s.dev.windowEnd c).time ∧ s.dev.sameRegs x.dev [R.ADC_STS] ∧ s.sameMem x := by
  have due : (!(tget s.dev.adc.convs c).ready || 400000 != windowSlots || idle != (tget (s.dev.windowEnd c).adc.convs c).winIdle) = false := by
    rw [ready, ← own, windowSlots]
    simp
  refine ⟨_, bgWindowEnd_made s c idle 400000, ?_⟩
  obtain ⟨-, -, -, starved⟩ := adcMasks_ok
  simp only [State.upd, Dev.bgWindow, due, Bool.false_eq_true, if_false]
  exact ⟨by rw [Dev.modConv_get, Dev.putBit_same _ _ _ starved c.isLt], by rw [Dev.modConv_conv], by rw [Dev.modConv_time, Dev.putBit_time],
    ((Dev.sameRegs.refl s.dev _).of_regs (s.dev.windowEnd_regs c)).putBit (f := F.ADC_STS_BG_STARVED) _ _ (by decide) |>.modConv _ _,
    rfl, rfl, rfl, rfl⟩

theorem bgWindowEnd_other {total : Nat} (other : idle ≠ (tget (s.dev.windowEnd c).adc.convs c).winIdle ∨ total ≠ 400000) :
    answers (.bgWindowEnd c idle total) s s := by
  refine answers_same (bgWindowEnd_made s c idle total) (if_pos ?_)
  rcases other with other | other <;> simp [windowSlots, other]

end Window

/-! New trims (R202): a measured word goes to the offset and gain, or to the sampling delay, of a slice. -/

theorem Dev.newTrims_eq (d : Dev) (k : Nat) : ∃ (e : Dev) (w : Nat), d.newTrims k = e.put ⟨R.ADC_SLICE k, 23, 0⟩ w ∧ e.regs = d.regs ∧
    e.adc = d.adc := ⟨(d.draw (2 ^ 24)).2, (d.draw (2 ^ 24)).1, rfl, rfl, rfl⟩

theorem Dev.newSkew_eq (d : Dev) (k : Nat) : ∃ (e : Dev) (v : Int), d.newSkew k = e.puts (F.ADC_SLICE_SKEW k) v ∧ e.regs = d.regs :=
  ⟨(d.draw 255).2, _, rfl, rfl⟩

/-- New offset and gain of a slice leave its sampling delay. -/
theorem Dev.newTrims_outcome (d : Dev) (k : Nat) : d.sameRegs (d.newTrims k) [R.ADC_SLICE k] ∧
    bitsOf ((d.newTrims k).rd (R.ADC_SLICE k)).toNat 31 24 = bitsOf (d.rd (R.ADC_SLICE k)).toNat 31 24 ∧ (d.newTrims k).adc = d.adc := by
  obtain ⟨e, w, new, regs, adc⟩ := d.newTrims_eq k
  rw [new]
  refine ⟨((Dev.sameRegs.refl d _).of_regs regs).put (f := ⟨R.ADC_SLICE k, 23, 0⟩) w (by simp), ?_, adc⟩
  have apart := Dev.get_put_apart e ⟨R.ADC_SLICE k, 23, 0⟩ (F.ADC_SLICE_SKEW k) w (by simp [Fld.ok]) rfl (Or.inl (by simp [F.ADC_SLICE_SKEW]))
  exact apart.trans (Dev.get_of_regs regs (F.ADC_SLICE_SKEW k))

/-- The offset and gain of slice i read as before. -/
def Dev.sameTrims (d e : Dev) (i : Nat) : Prop := bitsOf (e.rd (R.ADC_SLICE i)).toNat 23 0 = bitsOf (d.rd (R.ADC_SLICE i)).toNat 23 0

theorem Dev.sameTrims.refl (d : Dev) (i : Nat) : d.sameTrims d i := Eq.refl _

theorem Dev.sameTrims.trans {a b c : Dev} {i : Nat} (h : a.sameTrims b i) (k : b.sameTrims c i) : a.sameTrims c i := Eq.trans k h

theorem Dev.each_cons {α : Type} (x : α) (l : List α) (f : α → Dev → Dev) (d : Dev) : Dev.each (x :: l) f d = Dev.each l f (f x d) := (rfl)

/-- A new sampling delay of a slice leaves every slice's offset and gain. -/
theorem Dev.newSkew_outcome (d : Dev) (k : Nat) : d.sameRegs (d.newSkew k) [R.ADC_SLICE k] ∧ ∀ i, d.sameTrims (d.newSkew k) i := by
  obtain ⟨e, v, new, regs⟩ := d.newSkew_eq k
  have only : d.sameRegs (e.puts (F.ADC_SLICE_SKEW k) v) [R.ADC_SLICE k] :=
    ((Dev.sameRegs.refl d _).of_regs regs).puts (f := F.ADC_SLICE_SKEW k) v (List.mem_singleton.mpr rfl)
  rw [new]
  refine ⟨only, fun i => ?_⟩
  by_cases here : R.ADC_SLICE i = R.ADC_SLICE k
  · have apart : (e.puts (F.ADC_SLICE_SKEW k) v).get ⟨R.ADC_SLICE i, 23, 0⟩ = e.get ⟨R.ADC_SLICE i, 23, 0⟩ :=
      Dev.get_put_apart e (F.ADC_SLICE_SKEW k) _ _ (by simp [F.ADC_SLICE_SKEW, Fld.ok]) here (Or.inr (by simp [F.ADC_SLICE_SKEW]))
    exact apart.trans (Dev.get_of_regs regs _)
  · rw [Dev.sameTrims, only _ (by simpa using here)]

/-- New sampling delays of slices write their registers alone, and leave every slice's offset and gain. -/
theorem Dev.newSkews_outcome (c : Nat) (l : List Nat) : ∀ d : Dev, let e := Dev.each l (fun i d => d.newSkew (4 * c + i)) d
    d.sameRegs e (l.map fun i => R.ADC_SLICE (4 * c + i)) ∧ ∀ i, d.sameTrims e i := by
  induction l with
  | nil => exact fun d => ⟨Dev.sameRegs.refl d _, fun i => Dev.sameTrims.refl d i⟩
  | cons j t ih =>
    intro d
    obtain ⟨first, firstTrims⟩ := d.newSkew_outcome (4 * c + j)
    obtain ⟨rest, restTrims⟩ := ih (d.newSkew (4 * c + j))
    rw [Dev.each_cons]
    refine ⟨fun o ho => ?_, fun i => (firstTrims i).trans (restTrims i)⟩
    rw [List.map_cons, List.mem_cons, not_or] at ho
    exact (rest o ho.2).trans (first o (by simpa using ho.1))

section Trim
variable (s : State) (k : Fin 16)

theorem bgTrimUpdate_made (skew : Bool) : answers (.bgTrimUpdate k skew) s (s.upd (Dev.bgTrim k skew)) := (rfl)

/-- The trims of a starved converter hold. -/
theorem bgTrimUpdate_starved (skew : Bool) (starved : bitOf (s.dev.get F.ADC_STS_BG_STARVED) (k.val / 4) = true) :
    answers (.bgTrimUpdate k skew) s (s.upd fun _ => s.dev.pumpNow (k.val / 4)) :=
  answers_congr (bgTrimUpdate_made s k skew) (if_pos (by simp [Dev.get_of_regs (s.dev.pumpNow_regs _), starved]))

variable (fed : bitOf (s.dev.get F.ADC_STS_BG_STARVED) (k.val / 4) = false)
  (ready : (tget (s.dev.pumpNow (k.val / 4)).adc.convs (k.val / 4)).ready = true)
include fed ready

theorem Dev.bgTrim_fed (skew : Bool) : let d := s.dev.pumpNow (k.val / 4)
    let q := tget d.adc.convs (k.val / 4)
    s.dev.bgTrim k skew = if skew then
        (if q.toneRun then (Dev.each (List.range 4) (fun i d => d.newSkew (4 * (k.val / 4) + i)) d).modConv (k.val / 4) (fun s =>
          { s with toneRun := false, idleRun := 0 }) else d)
      else if 256 ≤ tget q.refs (k.val % 4) then
        (d.newTrims k).modConv (k.val / 4) (fun s => { s with refs := tput s.refs (k.val % 4) (tget s.refs (k.val % 4) - 256) })
      else d :=
  if_neg (by simp [Dev.get_of_regs (s.dev.pumpNow_regs _), fed, ready])

theorem bgTrimUpdate_noTone (early : (tget (s.dev.pumpNow (k.val / 4)).adc.convs (k.val / 4)).toneRun = false) :
    answers (.bgTrimUpdate k true) s (s.upd fun _ => s.dev.pumpNow (k.val / 4)) := by
  refine answers_congr (bgTrimUpdate_made s k true) ((Dev.bgTrim_fed s k fed ready true).trans ?_)
  rw [if_pos rfl, if_neg (by simp [early])]

theorem bgTrimUpdate_few (few : tget (tget (s.dev.pumpNow (k.val / 4)).adc.convs (k.val / 4)).refs (k.val % 4) < 256) :
    answers (.bgTrimUpdate k false) s (s.upd fun _ => s.dev.pumpNow (k.val / 4)) := by
  refine answers_congr (bgTrimUpdate_made s k false) ((Dev.bgTrim_fed s k fed ready false).trans ?_)
  rw [if_neg Bool.false_ne_true, if_neg (Nat.not_le.mpr few)]

theorem bgTrimUpdate_trims (due : 256 ≤ tget (tget (s.dev.pumpNow (k.val / 4)).adc.convs (k.val / 4)).refs (k.val % 4)) :
    leads (.bgTrimUpdate k false) s fun x =>
      s.dev.sameRegs x.dev [R.ADC_SLICE k] ∧
      bitsOf (x.dev.rd (R.ADC_SLICE k)).toNat 31 24 = bitsOf (s.dev.rd (R.ADC_SLICE k)).toNat 31 24 ∧
      tget (tget x.dev.adc.convs (k.val / 4)).refs (k.val % 4) =
        tget (tget (s.dev.pumpNow (k.val / 4)).adc.convs (k.val / 4)).refs (k.val % 4) - 256 ∧ s.sameMem x := by
  refine ⟨_, bgTrimUpdate_made s k false, ?_⟩
  obtain ⟨only, skew, adc⟩ := (s.dev.pumpNow (k.val / 4)).newTrims_outcome k
  have regs := s.dev.pumpNow_regs (k.val / 4)
  rw [State.upd, Dev.bgTrim_fed s k fed ready false, if_neg Bool.false_ne_true, if_pos due]
  refine ⟨(((Dev.sameRegs.refl s.dev _).of_regs regs).trans only).modConv _ _, ?_, ?_, rfl, rfl, rfl, rfl⟩
  · rw [Dev.modConv_rd, skew, Dev.rd_of_regs regs]
  · rw [Dev.modConv_conv, adc, tget_tput_same]

theorem bgTrimUpdate_delays (tone : (tget (s.dev.pumpNow (k.val / 4)).adc.convs (k.val / 4)).toneRun = true) :
    leads (.bgTrimUpdate k true) s fun x =>
      s.dev.sameRegs x.dev ((List.range 4).map fun i => R.ADC_SLICE (4 * (k.val / 4) + i)) ∧
      (∀ i : Fin 16, bitsOf (x.dev.rd (R.ADC_SLICE i)).toNat 23 0 = bitsOf (s.dev.rd (R.ADC_SLICE i)).toNat 23 0) ∧ s.sameMem x := by
  refine ⟨_, bgTrimUpdate_made s k true, ?_⟩
  obtain ⟨only, trims⟩ := Dev.newSkews_outcome (k.val / 4) (List.range 4) (s.dev.pumpNow (k.val / 4))
  have regs := s.dev.pumpNow_regs (k.val / 4)
  rw [State.upd, Dev.bgTrim_fed s k fed ready true, if_pos rfl, if_pos tone]
  refine ⟨((Dev.sameRegs.refl s.dev _).of_regs regs).trans only |>.modConv _ _, fun i => ?_, rfl, rfl, rfl, rfl⟩
  rw [Dev.modConv_rd, trims i, Dev.rd_of_regs regs]

end Trim

/-- Settles O28, command by command: the request, the start, the steps, the end, the wait, the window and the trims. -/
theorem calibration : Obligations.Calibration := by
  unfold Obligations.Calibration
  refine ⟨fun s m c one idle => ⟨adcCal_off one, adcCal_refused one idle, adcCal_waits one idle⟩, fun s c wait _ => calStart_runs s c wait,
    calStepEnd_next, calStepEnd_aborts, calDone_ends, calWaitTimeout_ends,
    fun s c idle ready => ⟨bgWindowEnd_shows s c idle ready, fun _ => bgWindowEnd_other s c idle⟩, fun s k skew => ?_⟩
  refine ⟨bgTrimUpdate_starved s k skew, fun fed ready => ⟨?_, ?_, ?_, ?_⟩⟩
  · rintro rfl few
    exact bgTrimUpdate_few s k fed ready few
  · rintro rfl none
    exact bgTrimUpdate_noTone s k fed ready none
  · rintro rfl due
    exact bgTrimUpdate_trims s k fed ready due
  · rintro rfl tone
    exact bgTrimUpdate_delays s k fed ready tone

end Sys2Proof.Machine
end

section
/-! Conversions: the code of a voltage, sequence triggers, comparators and results (08 R193 to R201). -/
namespace Sys2Proof.Machine
open Sys2Proof.Config

/-! The code (R193): the nearest step, limited to 16 bits. -/

theorem clampI_range {lo hi : Int} (h : lo ≤ hi) (i : Int) : lo ≤ clampI lo hi i ∧ clampI lo hi i ≤ hi := by
  unfold clampI
  split_ifs <;> omega

theorem clampI_inside {lo hi i : Int} (l : lo ≤ i) (h : i ≤ hi) : clampI lo hi i = i := by
  rw [clampI, if_neg (not_lt.mpr l), if_neg (not_lt.mpr h)]

theorem clampI_mono {lo hi i j : Int} (range : lo ≤ hi) (h : i ≤ j) : clampI lo hi i ≤ clampI lo hi j := by
  unfold clampI
  split_ifs <;> omega

theorem adcCode_diff (v : Int) : adcCode true v = clampI (-32768) 32767 ((2 * (v * 32768) + 1800000000) / 3600000000) :=
  congrArg (clampI (-32768) 32767) (Int.fdiv_eq_ediv_of_nonneg _ (by decide))

theorem adcCode_single (v : Int) :
    adcCode false v = clampI (-32768) 32767 ((2 * ((v - 900000000) * 32768) + 900000000) / 1800000000) :=
  congrArg (clampI (-32768) 32767) (Int.fdiv_eq_ediv_of_nonneg _ (by decide))

theorem adcCode_range (diff : Bool) (v : Int) : -32768 ≤ adcCode diff v ∧ adcCode diff v ≤ 32767 := clampI_range (by decide) _

theorem adcCode_diff_nearest {v : Int} (lo : -1800000000 ≤ v) (hi : v < 1799900000) :
    2 * (adcCode true v) * 1800000000 - 1800000000 ≤ 2 * v * 32768 ∧ 2 * v * 32768 < 2 * (adcCode true v) * 1800000000 + 1800000000 := by
  rw [adcCode_diff, clampI_inside (by omega) (by omega)]
  omega

theorem adcCode_single_nearest {v : Int} (lo : 0 ≤ v) (hi : v < 1799950000) :
    2 * (adcCode false v) * 900000000 - 900000000 ≤ 2 * (v - 900000000) * 32768 ∧
    2 * (v - 900000000) * 32768 < 2 * (adcCode false v) * 900000000 + 900000000 := by
  rw [adcCode_single, clampI_inside (by omega) (by omega)]
  omega

theorem adcCode_mono (diff : Bool) {v w : Int} (h : v ≤ w) : adcCode diff v ≤ adcCode diff w := by
  cases diff with
  | false =>
    rw [adcCode_single, adcCode_single]
    exact clampI_mono (by decide) (by omega)
  | true =>
    rw [adcCode_diff, adcCode_diff]
    exact clampI_mono (by decide) (by omega)

/-! A sequence's trigger (R196, R197, R206). -/

section Trigger
variable {s : State} {c q : Fin 4} {x : AdcSeq} (found : s.dev.adc.cfg.seqs.find? (fun y => y.conv == c.val && y.seq == q.val) = some x)
include found

/-- The sequence found is the one asked for. -/
theorem rseq_found : x.conv = c ∧ x.seq = q := by
  simpa using List.find?_some found

theorem rseqTrigger_made : answers (.rseqTrigger c q) s (s.upd (Dev.seqTrigger x)) := by
  have made : execRseqTrigger c q s = .next (s.upd (Dev.seqTrigger x)).settle := by
    simp only [execRseqTrigger, onDev_eq, found]
    rfl
  exact made

variable (ready : (tget (s.dev.pumpNow c).adc.convs c).ready = true)
include ready

/-- The trigger of a converter whose calibration of switch-on has ended. -/
theorem Dev.seqTrigger_ready : let d := s.dev.pumpNow c
    let k := tget d.adc.convs c
    s.dev.seqTrigger x = if d.calRun c || d.calWait c then
        (if k.heldSeq.contains q.val then d.seqOvr else d.modConv c (fun k => { k with heldSeq := k.heldSeq ++ [q.val] }))
      else if k.busySeq q then d.seqOvr
      else d.modConv c (fun k => { k with work := placeJobs d.time.ticks (x.seq + 1) (d.jobsOf x) k.work }) := by
  obtain ⟨conv, seq⟩ := rseq_found found
  simp only [Dev.seqTrigger, conv, seq, ready, Bool.not_true, Bool.false_eq_true, if_false]

section Idle
variable (run : (s.dev.pumpNow c).calRun c = false) (wait : (s.dev.pumpNow c).calWait c = false)
include run wait

theorem rseqTrigger_placed (free : (tget (s.dev.pumpNow c).adc.convs c).busySeq q = false) :
    answers (.rseqTrigger c q) s (s.upd fun _ => (s.dev.pumpNow c).modConv c fun k => { k with
      work := placeJobs (s.dev.pumpNow c).time.ticks (x.seq + 1) ((s.dev.pumpNow c).jobsOf x) k.work }) := by
  refine answers_congr (rseqTrigger_made found) ((Dev.seqTrigger_ready found ready).trans ?_)
  rw [if_neg (by simp [run, wait]), if_neg (by simp [free])]

theorem rseqTrigger_dropped (busy : (tget (s.dev.pumpNow c).adc.convs c).busySeq q = true) :
    answers (.rseqTrigger c q) s (s.upd fun _ => (s.dev.pumpNow c).seqOvr) := by
  refine answers_congr (rseqTrigger_made found) ((Dev.seqTrigger_ready found ready).trans ?_)
  rw [if_neg (by simp [run, wait]), if_pos busy]

end Idle

section Calibrating
variable (cal : (s.dev.pumpNow c).calRun c = true ∨ (s.dev.pumpNow c).calWait c = true)
include cal

theorem rseqTrigger_held (first : q.val ∉ (tget (s.dev.pumpNow c).adc.convs c).heldSeq) : answers (.rseqTrigger c q) s
    (s.upd fun _ => (s.dev.pumpNow c).modConv c fun k => { k with heldSeq := k.heldSeq ++ [q.val] }) := by
  refine answers_congr (rseqTrigger_made found) ((Dev.seqTrigger_ready found ready).trans ?_)
  rw [if_pos (by simpa using cal), if_neg (by simpa using first)]

theorem rseqTrigger_overrun (again : q.val ∈ (tget (s.dev.pumpNow c).adc.convs c).heldSeq) :
    answers (.rseqTrigger c q) s (s.upd fun _ => (s.dev.pumpNow c).seqOvr) := by
  refine answers_congr (rseqTrigger_made found) ((Dev.seqTrigger_ready found ready).trans ?_)
  rw [if_pos (by simpa using cal), if_pos (by simpa using again)]

end Calibrating
end Trigger

/-! A window comparator (R199). -/

section Comparator
variable (s : State) (n : Fin 64) (v : Int) (t : Nat)

/-- The condition of a comparator, as its input's registers give it. -/
def Dev.cmpNow (d : Dev) (n : Nat) (v : Int) : Bool :=
  cmpCond (d.get (F.ADC_INCFG_CMP_MODE n)) (d.flag (F.ADC_INCFG_DIFF (n / 2 * 2))) (bitOf d.adc.cmp n)
    (d.get (F.ADC_INCFG_LO n)) (d.get (F.ADC_INCFG_HI n)) v

/-- A comparator's condition is kept. -/
def Dev.cmpKept (n : Nat) (b : Bool) (d : Dev) : Dev := { d with adc := { d.adc with cmp := setBit d.adc.cmp n b } }

theorem Dev.runTo_adc (d : Dev) (ns : Nat) : (d.runTo ns).adc = d.adc := Dev.ran_adc (d.ran_runTo ns)
theorem Dev.runTo_pwr (d : Dev) (ns : Nat) : (d.runTo ns).pwr = d.pwr := Dev.ran_pwr (d.ran_runTo ns)
theorem Dev.runTo_flag (d : Dev) (ns : Nat) (f : Fld) : (d.runTo ns).flag f = d.flag f := Dev.flag_of_regs (d.runTo_regs ns) f

theorem Dev.cmpNow_runTo (d : Dev) (n : Nat) (ns : Nat) : (d.runTo ns).cmpNow n v = d.cmpNow n v := by
  simp only [Dev.cmpNow, Dev.runTo_get, Dev.runTo_flag, Dev.runTo_adc]

/-- A comparator that works: PD_ADC is on, and its input is not the odd one of a differential pair. -/
theorem Dev.cmpEvent_works {d : Dev} {n : Nat} (on : bitOf d.pwr.off 2 = false)
    (own : n % 2 = 1 → d.flag (F.ADC_INCFG_DIFF (n - 1)) = false) : d.cmpEvent n v t =
      let e := (d.runTo t).cmpKept n (d.cmpNow n v)
      if d.cmpNow n v && !bitOf d.adc.cmp n then (e.record .report (R.ADC_EVT * 32 + 9) 0 0 false none).injRequest n else e := by
  have works : (bitOf (d.runTo t).pwr.off 2 || (n % 2 == 1 && (d.runTo t).flag (F.ADC_INCFG_DIFF (n - 1)))) = false := by
    rw [Dev.runTo_pwr, on, Dev.runTo_flag, Bool.false_or, Bool.and_eq_false_imp]
    simpa using own
  rw [← Dev.cmpNow_runTo v d n t, ← Dev.runTo_adc d t]
  exact if_neg (by simp [works])

theorem cmpEvent_compares (on : bitOf s.dev.pwr.off 2 = false) (own : n.val % 2 = 1 → s.dev.flag (F.ADC_INCFG_DIFF (n.val - 1)) = false) :
    let e := (s.dev.runTo t).cmpKept n (s.dev.cmpNow n v)
    (s.dev.cmpNow n v = true → bitOf s.dev.adc.cmp n = false → answers (.cmpEvent n ⟨v, t⟩) s
      (s.upd fun _ => (e.record .report (R.ADC_EVT * 32 + 9) 0 0 false none).injRequest n)) ∧
    (s.dev.cmpNow n v = false ∨ bitOf s.dev.adc.cmp n = true → answers (.cmpEvent n ⟨v, t⟩) s (s.upd fun _ => e)) := by
  have made : answers (.cmpEvent n ⟨v, t⟩) s (s.upd (Dev.cmpEvent n v t)) := rfl
  have works := Dev.cmpEvent_works v t on own
  refine ⟨fun now was => answers_congr made (works.trans (if_pos ?_)), fun quiet => answers_congr made (works.trans (if_neg ?_))⟩
  · rw [now, was]
    rfl
  · rcases quiet with no | held
    · simp [no]
    · simp [held]

end Comparator

/-! A result (R194, R198). -/

/-- A halfword stored in SRAM reads back, and no other byte changes. -/
theorem Memory.putHalf_outcome (m : Memory) (a : Nat) {h : Nat} (small : h < 65536) :
    (∀ b, b < a ∨ a + 2 ≤ b → tblGet sramReset (m.putBytes sramReset a (leBytes 2 h)) b = tblGet sramReset m b) ∧
    leNat [tblGet sramReset (m.putBytes sramReset a (leBytes 2 h)) a, tblGet sramReset (m.putBytes sramReset a (leBytes 2 h)) (a + 1)] = h := by
  refine ⟨fun b out => Memory.putBytes_get _ _ _ _ _ (by simpa using out), ?_⟩
  have low := Memory.putBytes_get_in sramReset (leBytes 2 h) m a 0 (by simp)
  have high := Memory.putBytes_get_in sramReset (leBytes 2 h) m a 1 (by simp)
  rw [Nat.add_zero] at low
  rw [low, high]
  exact (leNat_leBytes 2 h).trans (Nat.mod_eq_of_lt small)

/-- The instant of a result, whose conversion is no longer among those begun. -/
def Dev.resultDue (c t : Nat) (d : Dev) : Dev := (d.runOsc t).modConv c fun k => { k with begun := k.begun.tail }

theorem conversionDone_writes (s : State) (c : Fin 4) (v : Int) (t : Nat) (x : AdcConv) (late : Bool) (d : Dev)
    (next : s.dev.nextResult c = (some (t, x, late), d)) : leads (.conversionDone c v) s fun y =>
      y.dev = ((d.runOsc t).modConv c fun k => { k with begun := k.begun.tail }).adcResult c x late v ∧
      (x.store = none → y.mem = s.mem) ∧
      (∀ a, x.store = some a → (∀ b, b < a ∨ a + 2 ≤ b → tblGet sramReset y.mem b = tblGet sramReset s.mem b) ∧
        leNat [tblGet sramReset y.mem a, tblGet sramReset y.mem (a + 1)]
          = uNat 16 (adcCode (((d.runOsc t).flag (F.ADC_INCFG_DIFF (x.input / 2 * 2)))) v)) ∧
      y.flash = s.flash ∧ y.otp = s.otp ∧ y.pending = s.pending := by
  have made : answers (.conversionDone c v) s { s with
      dev := (d.resultDue c t).adcResult c x late v
      mem := match (d.resultDue c t).burstSample x v with | some (a, bs) => s.mem.putBytes sramReset a bs | none => s.mem } := by
    show execConversionDone c v s = _
    simp only [execConversionDone, next]
    rfl
  refine ⟨_, made, rfl, fun none => ?_, fun a store => ?_, rfl, rfl, rfl⟩
  · simp only [Dev.burstSample, none, Option.map_none]
  · simp only [Dev.burstSample, store, Option.map_some]
    exact s.mem.putHalf_outcome a (uNat_lt 16 _)

/-- Settles O27, by the code as a rounded division, and by what each command does to a converter. -/
theorem conversions : Obligations.Conversions := by
  unfold Obligations.Conversions
  refine ⟨⟨adcCode_range, fun _ => adcCode_diff_nearest, fun _ => adcCode_single_nearest, fun diff _ _ => adcCode_mono diff⟩,
    fun s c q x found ready => ⟨fun free run wait => rseqTrigger_placed found ready run wait free,
      fun busy run wait => rseqTrigger_dropped found ready run wait busy,
      fun cal => ⟨rseqTrigger_held found ready cal, rseqTrigger_overrun found ready cal⟩⟩,
    fun s n v t on own => cmpEvent_compares s n v t on own, conversionDone_writes⟩

end Sys2Proof.Machine
end

section
/-! TRAJ: its hidden state, what a put leaves of the other fields, changes made for each axis of a list, and what a fault below F3 does to
the axes (09 R212, R213; 01 R36). -/
namespace Sys2Proof.Machine
open Sys2Proof.Config

/-! Hidden state. -/

@[simp] theorem Dev.modAx_get (d : Dev) (n : Nat) (f : AxisSt → AxisSt) (g : Fld) : (d.modAx n f).get g = d.get g := (rfl)
@[simp] theorem Dev.modAx_time (d : Dev) (n : Nat) (f : AxisSt → AxisSt) : (d.modAx n f).time = d.time := (rfl)
@[simp] theorem Dev.modAx_host (d : Dev) (n : Nat) (f : AxisSt → AxisSt) : (d.modAx n f).host = d.host := (rfl)
@[simp] theorem Dev.modAx_faults (d : Dev) (n : Nat) (f : AxisSt → AxisSt) : (d.modAx n f).faults = d.faults := (rfl)
@[simp] theorem Dev.modAx_ax (d : Dev) (n : Nat) (f : AxisSt → AxisSt) : (d.modAx n f).ax n = f (d.ax n) := tget_tmod_same _ _ _

theorem Dev.modAx_ax_ne (d : Dev) {n k : Nat} (f : AxisSt → AxisSt) (h : k ≠ n) : (d.modAx n f).ax k = d.ax k := tblGet_mod_ne _ _ f h

@[simp] theorem Dev.modGr_regs (d : Dev) (g : Nat) (f : GroupSt → GroupSt) : (d.modGr g f).regs = d.regs := (rfl)
@[simp] theorem Dev.modGr_get (d : Dev) (g : Nat) (f : GroupSt → GroupSt) (x : Fld) : (d.modGr g f).get x = d.get x := (rfl)
@[simp] theorem Dev.modGr_flag (d : Dev) (g : Nat) (f : GroupSt → GroupSt) (x : Fld) : (d.modGr g f).flag x = d.flag x := (rfl)
@[simp] theorem Dev.modGr_gr (d : Dev) (g : Nat) (f : GroupSt → GroupSt) : (d.modGr g f).gr g = f (d.gr g) := tget_tmod_same _ _ _

theorem Dev.ax_of_traj {d e : Dev} (h : e.traj = d.traj) (n : Nat) : e.ax n = d.ax n := by rw [Dev.ax, Dev.ax, h]
theorem Dev.gr_of_traj {d e : Dev} (h : e.traj = d.traj) (g : Nat) : e.gr g = d.gr g := by rw [Dev.gr, Dev.gr, h]

@[simp] theorem Dev.put_ax (d : Dev) (f : Fld) (v n : Nat) : (d.put f v).ax n = d.ax n := (rfl)
@[simp] theorem Dev.up_ax (d : Dev) (f : Fld) (b : Bool) (n : Nat) : (d.up f b).ax n = d.ax n := (rfl)
@[simp] theorem Dev.puts_ax (d : Dev) (f : Fld) (v : Int) (n : Nat) : (d.puts f v).ax n = d.ax n := (rfl)
@[simp] theorem Dev.event0_ax (d : Dev) (f : Fld) (n : Nat) : (d.event0 f).ax n = d.ax n := Dev.ax_of_traj (d.event0_traj f) n
@[simp] theorem Dev.put_gr (d : Dev) (f : Fld) (v g : Nat) : (d.put f v).gr g = d.gr g := (rfl)
@[simp] theorem Dev.up_gr (d : Dev) (f : Fld) (b : Bool) (g : Nat) : (d.up f b).gr g = d.gr g := (rfl)
@[simp] theorem Dev.event0_gr (d : Dev) (f : Fld) (g : Nat) : (d.event0 f).gr g = d.gr g := Dev.gr_of_traj (d.event0_traj f) g

@[simp] theorem Dev.causeOff_regs (d : Dev) (k : FaultKind) (i : Nat) : (d.causeOff k i).regs = d.regs := (rfl)
@[simp] theorem Dev.causeOff_time (d : Dev) (k : FaultKind) (i : Nat) : (d.causeOff k i).time = d.time := (rfl)
@[simp] theorem Dev.causeOff_ax (d : Dev) (k : FaultKind) (i n : Nat) : (d.causeOff k i).ax n = d.ax n := (rfl)

theorem Dev.groupAxes_of_axes {d e : Dev} (h : e.traj.axes = d.traj.axes) (g : Nat) : e.groupAxes g = d.groupAxes g := by
  rw [Dev.groupAxes, Dev.groupAxes, h]

theorem Dev.parityWritten_traj (d : Dev) (o : Nat) : (d.parityWritten o).traj = d.traj := by
  obtain ⟨h, l, e⟩ := d.parityWritten_eq o
  rw [e]

theorem Dev.ran_traj {d e : Dev} (h : d.ran e) : e.traj = d.traj := by
  obtain ⟨_, _, _, _, _, rfl, -⟩ := h
  rfl

theorem Dev.runTo_ax (d : Dev) (ns n : Nat) : (d.runTo ns).ax n = d.ax n := Dev.ax_of_traj (Dev.ran_traj (d.ran_runTo ns)) n

namespace Dev.sameRegs
variable {d e : Dev} {l : List Nat}

theorem modAx (h : d.sameRegs e l) (n : Nat) (f : AxisSt → AxisSt) : d.sameRegs (e.modAx n f) l := h
theorem modGr (h : d.sameRegs e l) (g : Nat) (f : GroupSt → GroupSt) : d.sameRegs (e.modGr g f) l := h
theorem parityWritten (h : d.sameRegs e l) (o : Nat) : d.sameRegs (e.parityWritten o) l := h.of_regs (e.parityWritten_regs o)
theorem mono {k : List Nat} (h : d.sameRegs e l) (sub : l ⊆ k) : d.sameRegs e k := fun o ho => h o fun ol => ho (sub ol)
theorem get (h : d.sameRegs e l) {f : Fld} (out : f.reg ∉ l) : e.get f = d.get f := Dev.get_of_rd (h _ out)
theorem flag (h : d.sameRegs e l) {f : Fld} (out : f.reg ∉ l) : e.flag f = d.flag f := Dev.flag_of_rd (h _ out)

end Dev.sameRegs

/-! Fields. -/

/-- Two fields that share no bit: of different words, or of one word and apart. -/
def Fld.apart (f g : Fld) : Prop := g.reg = f.reg → f.hi < g.lo ∨ g.hi < f.lo

theorem Fld.apart_of_reg {f g : Fld} (h : g.reg ≠ f.reg) : f.apart g := fun r => absurd r h

section Put
variable (d : Dev) {f g : Fld} (ok : f.ok) (h : f.apart g)
include ok h

theorem Dev.get_put_of_apart (v : Nat) : (d.put f v).get g = d.get g := by
  by_cases r : g.reg = f.reg
  · exact d.get_put_apart f g v ok r (h r)
  · exact d.get_put_ne v r

theorem Dev.get_up_of_apart (b : Bool) : (d.up f b).get g = d.get g := d.get_put_of_apart ok h _

end Put

/-- A field of an event register below SEQ, apart from the event. -/
theorem Dev.event0_get_apart (d : Dev) {f g : Fld} (h : f.evt) (r : g.reg = f.reg) (k : g.reg ≠ R.SYS_FAULT_EVT)
    (a : f.hi < g.lo ∨ g.hi < f.lo) (b : g.hi < 24) : (d.event0 f).get g = d.get g :=
  (d.event0_get f k).trans (d.raise_get_apart f g h r a b)

/-- RESULT and the event of a command, in one register: both read what was shown. -/
theorem Dev.result_event (d : Dev) {res evt : Fld} {code : Nat} (ok : res.ok) (hi : res.hi < 24) (reg : res.reg = evt.reg)
    (ev : evt.evt) (above : evt.hi < res.lo) (report : evt.reg ≠ R.SYS_FAULT_EVT) (h : code < 2 ^ (res.hi + 1 - res.lo)) :
    ((d.put res code).event0 evt).get res = code ∧ ((d.put res code).event0 evt).flag evt = true := by
  refine ⟨?_, Dev.event0_flag _ ev report⟩
  rw [Dev.event0_get_apart _ ev reg (reg.trans_ne report) (Or.inl above) hi, Dev.get_put_same _ _ _ ok, Nat.mod_eq_of_lt h]

/-! A register written by a command that its block takes. -/

theorem Dev.guarded_parity {d : Dev} {off : Nat} {f : Dev → Dev} (own : ownParity off = false)
    (quiet : (f d).rd R.SYS_GUARD_LOG = d.rd R.SYS_GUARD_LOG) : d.guarded off f = (f d).parityWritten off := by
  rw [Dev.guarded_of_taken (Dev.get_of_rd quiet), Dev.written, if_neg (by simp [own])]

/-- The patch registers lie in CFG. -/
theorem ownParity_low {off : Nat} (h : off < 0xD00000) : ownParity off = false := by
  simp only [ownParity, R.CFG_PATCH_SEL, R.CFG_PATCH_IDX, R.CFG_PATCH_DATA, R.CFG_PATCH_CMD, List.contains_cons, List.contains_nil,
    Bool.or_false, Bool.or_eq_false_iff, beq_eq_false_iff_ne]
  omega

/-- The faults that stand once a register is written rest on its parity and on those that stood before. -/
theorem Dev.parityWritten_faults_congr {d e : Dev} (host : e.host = d.host) (faults : e.faults = d.faults) (o : Nat) :
    (e.parityWritten o).faults = (d.parityWritten o).faults := by
  simp only [Dev.parityWritten, host]
  split
  · simp only [Dev.causeOff, faults]
  · exact faults

/-! STILL (R213). -/

/-- Is the axis at rest with no command waiting? -/
def Dev.still (d : Dev) (n : Nat) : Bool :=
  decide (d.axState n ≤ axHold) && decide ((d.ax n).nv = 0) && decide ((d.ax n).na = 0) && (d.ax n).pend.isNone

theorem Dev.showStill_eq (d : Dev) (n : Nat) : d.showStill n = d.up (F.TRAJ_AX_STS_STILL n) (d.still n) := (rfl)

@[simp] theorem Dev.showStill_ax (d : Dev) (n k : Nat) : (d.showStill n).ax k = d.ax k := (rfl)

theorem trajStill_ok (n : Nat) : (F.TRAJ_AX_STS_STILL n).ok := ⟨le_refl 9, show 9 < 32 by decide⟩

theorem Dev.showStill_still (d : Dev) (n : Nat) : (d.showStill n).flag (F.TRAJ_AX_STS_STILL n) = d.still n :=
  d.flag_up_same _ _ rfl (show 9 < 32 by decide)

theorem Dev.showStill_get (d : Dev) {n : Nat} {g : Fld} (h : (F.TRAJ_AX_STS_STILL n).apart g) : (d.showStill n).get g = d.get g :=
  d.get_up_of_apart (trajStill_ok n) h _

theorem Dev.showStill_flag (d : Dev) {n : Nat} {g : Fld} (h : (F.TRAJ_AX_STS_STILL n).apart g) : (d.showStill n).flag g = d.flag g :=
  Dev.flag_of_get (d.showStill_get h)

@[simp] theorem Dev.showStill_axState (d : Dev) (n k : Nat) : (d.showStill n).axState k = d.axState k :=
  d.showStill_get fun _ => Or.inr (show 2 < 9 by decide)

theorem Dev.sameRegs.showStill {d e : Dev} {l : List Nat} (h : d.sameRegs e l) {n : Nat} (mem : R.TRAJ_AX_STS n ∈ l) :
    d.sameRegs (e.showStill n) l := h.up (f := F.TRAJ_AX_STS_STILL n) _ mem

/-! Changes made for each of a list. -/

/-- What each change makes of the part at its own key, where making it twice is making it once and no change touches another key's part. -/
theorem Dev.each_keyed {β : Type} (g : Dev → Nat → β) (f : Nat → Dev → Dev) (φ : β → β) (own : ∀ n d, g (f n d) n = φ (g d n))
    (other : ∀ n k d, k ≠ n → g (f n d) k = g d k) (twice : ∀ x, φ (φ x) = φ x) (l : List Nat) (k : Nat) :
    ∀ d, g (Dev.each l f d) k = if k ∈ l then φ (g d k) else g d k := by
  induction l with
  | nil => exact fun d => (if_neg List.not_mem_nil).symm
  | cons x t ih =>
    intro d
    rw [Dev.each_cons, ih]
    by_cases e : k = x
    · subst e
      simp only [own, twice, List.mem_cons_self, if_true, ite_self]
    · simp only [other x k d e, List.mem_cons, e, false_or]

/-! A fault below class F3: TRAJ takes note of it for each of its axes, and nothing else moves (01 R36). -/

/-- An axis that has noted a fault of a class (00 R13, R224). -/
def AxisSt.noted (c : Nat) (a : AxisSt) : AxisSt := { a with react := max a.react c, reactTaken := a.reactTaken && decide (c ≤ a.react) }

theorem AxisSt.noted_twice (c : Nat) (a : AxisSt) : (a.noted c).noted c = a.noted c := by
  simp only [AxisSt.noted, max_assoc, max_self, le_max_right, decide_true, Bool.and_true]

theorem Dev.react_low (d : Dev) {c : Nat} (a : Nat) (low : c < 3) (pos : c ≠ 0) :
    d.react c a = Dev.each (onesBelow 128 a) (fun n d => d.noteReact c n) d := by
  rw [Dev.react_eq, if_neg pos]
  simp only [Dev.reactAxis, if_neg (show ¬ 3 ≤ c by omega)]
  rfl

theorem Dev.fault_time (d : Dev) (k : FaultKind) (i c a : Nat) (b : Bool) (w : Option Fld) : (d.fault k i c a b w).time = d.time :=
  congrArg Prod.fst (d.rest_fault k i c a b w)

section Low
variable (d : Dev) (k : FaultKind) (i : Nat) {c : Nat} (a : Nat) (b : Bool) (w : Option Fld) (low : c < 3) (pos : c ≠ 0)
include low pos

theorem Dev.fault_ax (n : Nat) : (d.fault k i c a b w).ax n = if n ∈ onesBelow 128 a then (d.ax n).noted c else d.ax n := by
  rw [Dev.fault, Dev.react_low _ _ low pos, Dev.each_keyed Dev.ax (fun n d => d.noteReact c n) (AxisSt.noted c) (fun n d => d.modAx_ax n _)
    (fun n k d ne => d.modAx_ax_ne _ ne) (AxisSt.noted_twice c), Dev.ax_of_traj (d.record_traj ..)]

/-- No axis but for its reaction: what the note leaves of an axis, the fault leaves. -/
theorem Dev.fault_ax_keep {β : Type} (g : AxisSt → β) (kept : ∀ x : AxisSt, g (x.noted c) = g x) (n : Nat) :
    g ((d.fault k i c a b w).ax n) = g (d.ax n) := by
  rw [d.fault_ax k i a b w low pos]
  split
  · exact kept _
  · rfl

theorem Dev.fault_gr (g : Nat) : (d.fault k i c a b w).gr g = d.gr g := by
  rw [Dev.fault, Dev.react_low _ _ low pos]
  have kept := foldl_keep (fun d => d.gr g) (fun d n => d.noteReact c n) (fun _ _ => rfl) (onesBelow 128 a)
  exact (kept _).trans (Dev.gr_of_traj (d.record_traj ..) g)

theorem Dev.fault_groupAxes (g : Nat) : (d.fault k i c a b w).groupAxes g = d.groupAxes g := by
  have kept := foldl_keep (fun d => d.traj.axes) (fun d n => d.noteReact c n) (fun _ _ => rfl) (onesBelow 128 a)
  rw [Dev.fault, Dev.react_low _ _ low pos]
  exact Dev.groupAxes_of_axes ((kept _).trans (congrArg TrajSt.axes (d.record_traj ..))) g

end Low

/-! Masks of axes. -/

/-- Setting a bit leaves the others. -/
theorem bitOf_setBit_ne {i j : Nat} (v : Nat) (ne : j ≠ i) : bitOf (setBit v i true) j = bitOf v j := by
  by_cases set : bitOf v i = true
  · simp only [setBit, set, if_true]
  simp only [setBit, set, Bool.false_eq_true, if_true, if_false]
  rcases lt_or_gt_of_ne ne with low | high
  · rw [bitOf_eq_testBit, bitOf_eq_testBit, Nat.add_comm, Nat.testBit_two_pow_add_gt low]
  · obtain ⟨m, rfl⟩ := Nat.exists_eq_add_of_lt high
    have even : v / 2 ^ i % 2 ≠ 1 := by simpa [bitOf] using set
    have cut : ∀ x : Nat, x / 2 ^ (i + m + 1) = x / 2 ^ i / 2 / 2 ^ m := fun x => by
      rw [Nat.div_div_eq_div_mul, Nat.div_div_eq_div_mul]
      congr 1
      ring
    have same : (v + 2 ^ i) / 2 ^ i / 2 = v / 2 ^ i / 2 := by
      rw [Nat.add_div_right _ (by positivity)]
      omega
    rw [bitOf, bitOf, cut, cut, same]

theorem bitOf_maskOf {l : List Nat} {n : Nat} (h : n ∈ l) : bitOf (maskOf l) n = true := by
  have fold : ∀ (l : List Nat) (m : Nat), n ∈ l ∨ bitOf m n = true → bitOf (l.foldl (fun m n => setBit m n true) m) n = true := by
    intro l
    induction l with
    | nil => exact fun m h => h.resolve_left List.not_mem_nil
    | cons x t ih =>
      intro m h
      refine ih _ ?_
      by_cases e : n = x
      · exact Or.inr (e ▸ bitOf_setBit_same _ _ _)
      · rw [bitOf_setBit_ne m e]
        exact h.imp_left fun mem => (List.mem_cons.mp mem).resolve_left e
  exact fold l 0 (Or.inl h)

theorem mem_onesBelow_maskOf {l : List Nat} {n : Nat} (h : n ∈ l) (lt : n < 128) : n ∈ onesBelow 128 (maskOf l) :=
  List.mem_filter.mpr ⟨List.mem_range.mpr lt, bitOf_maskOf h⟩

theorem mem_onesBelow_two_pow {n k : Nat} (h : k ∈ onesBelow 128 (2 ^ n)) : k = n := by
  have bit := (List.mem_filter.mp h).2
  rw [bitOf_eq_testBit, Nat.testBit_two_pow] at bit
  exact (of_decide_eq_true bit).symm

end Sys2Proof.Machine
end

section
/-! Axis commands: an accepted write of CMD waits with its operands, and a command that is refused shows its RESULT alone (09 R213, R215,
R216). -/
namespace Sys2Proof.Machine
open Sys2Proof.Config

/-! RESULT (Table 9.4). -/

theorem trajAx_apart (n : Nat) : R.TRAJ_AX_STS n ≠ R.TRAJ_AX_EVT n ∧ R.TRAJ_AX_STS n ≠ R.SYS_FAULT_EVT ∧
    R.TRAJ_AX_EVT n ≠ R.SYS_FAULT_EVT := by
  simp only [R.TRAJ_AX_STS, R.TRAJ_AX_EVT, R.SYS_FAULT_EVT]
  omega

section Result
variable (d : Dev) (n : Nat)

@[simp] theorem Dev.axResult_ax (code k : Nat) : (d.axResult n code).ax k = d.ax k := by
  rw [Dev.axResult, Dev.showStill_ax, Dev.event0_ax, Dev.put_ax]

theorem Dev.axResult_sameRegs (code : Nat) :
    d.sameRegs (d.axResult n code) [R.TRAJ_AX_STS n, R.TRAJ_AX_EVT n, R.SYS_FAULT_EVT] :=
  (((Dev.sameRegs.refl d _).put (f := F.TRAJ_AX_EVT_RESULT n) code (.tail _ (.head _))).event0 (f := F.TRAJ_AX_EVT_CMD_EVT n)
    (.tail _ (.head _)) (.tail _ (.tail _ (.head _)))).showStill (.head _)

/-- What a RESULT leaves of STS: all but STILL. -/
theorem Dev.axResult_sts (code : Nat) {g : Fld} (r : g.reg = R.TRAJ_AX_STS n) (h : (F.TRAJ_AX_STS_STILL n).apart g) :
    (d.axResult n code).get g = d.get g := by
  obtain ⟨evt, report, -⟩ := trajAx_apart n
  rw [Dev.axResult, Dev.showStill_get _ h, Dev.event0_get_ne _ (r.trans_ne evt) (r.trans_ne report), Dev.get_put_ne _ _ (r.trans_ne evt)]

theorem Dev.axResult_axState (code : Nat) : (d.axResult n code).axState n = d.axState n :=
  d.axResult_sts n code rfl fun _ => Or.inr (show 2 < 9 by decide)

theorem Dev.axResult_pending (code : Nat) : (d.axResult n code).flag (F.TRAJ_AX_STS_PENDING n) = d.flag (F.TRAJ_AX_STS_PENDING n) :=
  Dev.flag_of_get (d.axResult_sts n code rfl fun _ => Or.inr (show 8 < 9 by decide))

theorem Dev.axResult_shows {code : Nat} (h : code < 256) : (d.axResult n code).get (F.TRAJ_AX_EVT_RESULT n) = code ∧
    (d.axResult n code).flag (F.TRAJ_AX_EVT_CMD_EVT n) = true := by
  obtain ⟨evt, -, report⟩ := trajAx_apart n
  rw [Dev.axResult, Dev.showStill_get _ (Fld.apart_of_reg evt.symm), Dev.showStill_flag _ (Fld.apart_of_reg evt.symm)]
  exact d.result_event ⟨show 16 ≤ 23 by decide, show 23 < 32 by decide⟩ (show 23 < 24 by decide) rfl ⟨rfl, show 0 < 24 by decide⟩
    (show 0 < 16 by decide) report h

end Result

/-! A command waits (R215, R216). -/

/-- The registers that a CMD write touches. -/
abbrev axCmdRegs (n : Nat) : List Nat := [R.TRAJ_AX_CMD n, R.TRAJ_AX_STS n, R.TRAJ_AX_EVT n, R.SYS_FAULT_EVT]

/-- The operands of a CMD write as the registers hold them. -/
def Dev.axOperands (d : Dev) (n op : Nat) (imm ramp : Bool) : AxCmd :=
  ⟨op, imm, ramp, d.gets64 (R.TRAJ_AX_TGT_LO n), d.get64 (R.TRAJ_AX_VEL_LO n), d.get64 (R.TRAJ_AX_ACC_LO n), d.get64 (R.TRAJ_AX_DEC_LO n),
    d.get64 (R.TRAJ_AX_JERK_LO n), d.gets (F.TRAJ_GEAR_NUM_NUM n), max 1 (d.get (F.TRAJ_GEAR_DEN_DEN n)), d.gets (F.TRAJ_GEAR_MPOS_MPOS n),
    d.gets (F.TRAJ_GEAR_MDIST_MDIST n)⟩

/-- The operands lie apart from what a CMD write touches. -/
theorem Dev.axOperands_of_sameRegs {d e : Dev} {n : Nat} (h : d.sameRegs e (axCmdRegs n)) (lt : n < 128) (op : Nat) (imm ramp : Bool) :
    e.axOperands n op imm ramp = d.axOperands n op imm ramp := by
  have same : ∀ o, R.TRAJ_AX_TGT_LO n ≤ o ∧ o < R.TRAJ_AX_CMD n ∨ R.TRAJ_GEAR_NUM 0 ≤ o → e.rd o = d.rd o := fun o ho => h o (by
    simp only [axCmdRegs, R.TRAJ_AX_TGT_LO, R.TRAJ_AX_CMD, R.TRAJ_AX_STS, R.TRAJ_AX_EVT, R.TRAJ_GEAR_NUM, R.SYS_FAULT_EVT, List.mem_cons,
      List.not_mem_nil, or_false] at ho ⊢
    omega)
  simp (disch := (simp only [R.TRAJ_AX_TGT_LO, R.TRAJ_AX_VEL_LO, R.TRAJ_AX_ACC_LO, R.TRAJ_AX_DEC_LO, R.TRAJ_AX_JERK_LO, R.TRAJ_AX_CMD,
    R.TRAJ_GEAR_NUM, F.TRAJ_GEAR_NUM_NUM, F.TRAJ_GEAR_DEN_DEN, F.TRAJ_GEAR_MPOS_MPOS, F.TRAJ_GEAR_MDIST_MDIST]; omega)) only
    [Dev.axOperands, Dev.gets64, Dev.get64, Dev.gets, Dev.get, same]

/-- A command that was waiting ends with RESULT 1. -/
def Dev.axReplaced (n : Nat) (d : Dev) : Dev := if (d.ax n).pend.isSome then d.axResult n 1 else d

/-- The command c waits: CMD shows IMM and RAMP, and STS PENDING. -/
def Dev.axWaits (n : Nat) (c : AxCmd) (d : Dev) : Dev :=
  ((((d.up (F.TRAJ_AX_CMD_IMM n) c.imm).up (F.TRAJ_AX_CMD_RAMP n) c.ramp).modAx n (fun a => { a with pend := some c })).up
    (F.TRAJ_AX_STS_PENDING n) true).showStill n

theorem Dev.axCmd_eq (d : Dev) (n op : Nat) (imm ramp : Bool) :
    d.axCmd n op imm ramp = (d.axReplaced n).axWaits n ((d.axReplaced n).axOperands n op imm ramp) := (rfl)

theorem Dev.axReplaced_idle {d : Dev} {n : Nat} (h : (d.ax n).pend = none) : d.axReplaced n = d := if_neg (by simp [h])

theorem Dev.axReplaced_waiting {d : Dev} {n : Nat} (h : (d.ax n).pend.isSome) : d.axReplaced n = d.axResult n 1 := if_pos h

section Replaced
variable (d : Dev) (n : Nat)

/-- Either way the axis is as it was, and only STS, EVT and the report are written. -/
theorem Dev.axReplaced_keeps : (∀ k, (d.axReplaced n).ax k = d.ax k) ∧ (d.axReplaced n).axState n = d.axState n ∧
    d.sameRegs (d.axReplaced n) (axCmdRegs n) := by
  unfold Dev.axReplaced
  split
  · exact ⟨d.axResult_ax n 1, d.axResult_axState n 1, (d.axResult_sameRegs n 1).mono (List.subset_cons_self _ _)⟩
  · exact ⟨fun _ => rfl, rfl, Dev.sameRegs.refl _ _⟩

variable (c : AxCmd)

theorem Dev.axWaits_ax : (d.axWaits n c).ax n = { d.ax n with pend := some c } := by
  rw [Dev.axWaits, Dev.showStill_ax, Dev.up_ax, Dev.modAx_ax, Dev.up_ax, Dev.up_ax]

theorem Dev.axWaits_ax_ne {k : Nat} (h : k ≠ n) : (d.axWaits n c).ax k = d.ax k := by
  rw [Dev.axWaits, Dev.showStill_ax, Dev.up_ax, Dev.modAx_ax_ne _ _ h, Dev.up_ax, Dev.up_ax]

theorem Dev.axWaits_host : (d.axWaits n c).host = d.host := by
  rw [Dev.axWaits, Dev.showStill_eq, Dev.up_host, Dev.up_host, Dev.modAx_host, Dev.up_host, Dev.up_host]

theorem Dev.axWaits_faults : (d.axWaits n c).faults = d.faults := by
  rw [Dev.axWaits, Dev.showStill_eq, Dev.up_faults, Dev.up_faults, Dev.modAx_faults, Dev.up_faults, Dev.up_faults]

theorem Dev.axWaits_sameRegs : d.sameRegs (d.axWaits n c) [R.TRAJ_AX_CMD n, R.TRAJ_AX_STS n] :=
  (((((Dev.sameRegs.refl d _).up (f := F.TRAJ_AX_CMD_IMM n) c.imm (.head _)).up (f := F.TRAJ_AX_CMD_RAMP n) c.ramp (.head _)).modAx n _).up
    (f := F.TRAJ_AX_STS_PENDING n) true (.tail _ (.head _))).showStill (.tail _ (.head _))

/-- STS of an axis whose command waits: PENDING, not STILL, and the STATE it had. -/
theorem Dev.axWaits_sts : (d.axWaits n c).flag (F.TRAJ_AX_STS_PENDING n) = true ∧ (d.axWaits n c).flag (F.TRAJ_AX_STS_STILL n) = false ∧
    (d.axWaits n c).axState n = d.axState n := by
  have cmd : (F.TRAJ_AX_STS_STATE n).reg ≠ R.TRAJ_AX_CMD n := by simp only [F.TRAJ_AX_STS_STATE, R.TRAJ_AX_CMD]; omega
  refine ⟨?_, ?_, ?_⟩
  · rw [Dev.axWaits, Dev.showStill_flag _ fun _ => Or.inr (show 8 < 9 by decide)]
    exact Dev.flag_up_same _ _ _ rfl (show 8 < 32 by decide)
  · rw [Dev.axWaits, Dev.showStill_still, Dev.still, Dev.up_ax, Dev.modAx_ax, Option.isNone_some, Bool.and_false]
  · rw [Dev.axWaits, Dev.showStill_axState, Dev.axState, Dev.get_up_of_apart _ ⟨le_refl 8, show 8 < 32 by decide⟩
      fun _ => Or.inr (show 2 < 8 by decide), Dev.modAx_get]
    exact (Dev.get_put_ne _ _ cmd).trans (Dev.get_put_ne _ _ cmd)

end Replaced

/-! The twelve commands. -/

/-- The commands of an axis by OP (Table 9.3). -/
def axisCommands (n : Fin 128) (imm ramp : Bool) : List (Nat × Instr) :=
  [(0, .trajNop n imm ramp), (1, .moveAbs n imm ramp), (2, .moveRel n imm ramp), (3, .jogPos n imm ramp), (4, .jogNeg n imm ramp),
    (5, .axisStop n imm ramp), (6, .axisResume n imm ramp), (7, .axisLimits n imm ramp), (8, .gearEngage n imm ramp),
    (9, .gearChange n imm ramp), (10, .gearOff n imm ramp), (11, .setPos n imm ramp)]

/-- Each is an accepted write of CMD with its OP. -/
theorem axisCommands_made (s : State) (n : Fin 128) (imm ramp : Bool) : ∀ p ∈ axisCommands n imm ramp,
    answers p.2 s (s.upd (Dev.guarded (R.TRAJ_AX_CMD n) (Dev.axCmd n p.1 imm ramp))) := by
  simp only [axisCommands, List.forall_mem_cons]
  exact ⟨rfl, rfl, rfl, rfl, rfl, rfl, rfl, rfl, rfl, rfl, rfl, rfl, List.forall_mem_nil _⟩

theorem Dev.axCmd_sameRegs (d : Dev) (n op : Nat) (imm ramp : Bool) : d.sameRegs (d.axCmd n op imm ramp) (axCmdRegs n) := by
  obtain ⟨-, -, regs⟩ := d.axReplaced_keeps n
  rw [Dev.axCmd_eq]
  exact regs.trans ((Dev.axWaits_sameRegs _ n _).mono (by simp))

/-- A CMD write of an axis is taken, and its register is written. -/
theorem Dev.guarded_axCmd (d : Dev) {n : Nat} (lt : n < 128) (op : Nat) (imm ramp : Bool) : d.guarded (R.TRAJ_AX_CMD n) (Dev.axCmd n op imm ramp) =
    ((d.axReplaced n).axWaits n (d.axOperands n op imm ramp)).parityWritten (R.TRAJ_AX_CMD n) := by
  obtain ⟨-, -, regs⟩ := d.axReplaced_keeps n
  have log : R.SYS_GUARD_LOG ∉ axCmdRegs n := by
    simp only [axCmdRegs, R.TRAJ_AX_CMD, R.TRAJ_AX_STS, R.TRAJ_AX_EVT, R.SYS_FAULT_EVT, R.SYS_GUARD_LOG, List.mem_cons, List.not_mem_nil,
      or_false]
    omega
  rw [Dev.guarded_parity (ownParity_low (by simp only [R.TRAJ_AX_CMD]; omega)) (d.axCmd_sameRegs n op imm ramp _ log), Dev.axCmd_eq,
    Dev.axOperands_of_sameRegs regs lt]

theorem axisCommands_wait (s : State) (n : Fin 128) (imm ramp : Bool) : ∀ p ∈ axisCommands n imm ramp, leads p.2 s fun x =>
    (x.dev.ax n).pend = some (s.dev.axOperands n p.1 imm ramp) ∧
    x.dev.flag (F.TRAJ_AX_STS_PENDING n) = true ∧ x.dev.flag (F.TRAJ_AX_STS_STILL n) = false ∧ x.dev.axState n = s.dev.axState n ∧
    ((s.dev.ax n).pend.isSome = true → x.dev.get (F.TRAJ_AX_EVT_RESULT n) = 1 ∧ x.dev.flag (F.TRAJ_AX_EVT_CMD_EVT n) = true) ∧
    ((s.dev.ax n).pend = none → x.dev.rd (R.TRAJ_AX_EVT n) = s.dev.rd (R.TRAJ_AX_EVT n) ∧
      x.dev.faults = (s.dev.parityWritten (R.TRAJ_AX_CMD n)).faults) ∧
    (x.dev.ax n).np = (s.dev.ax n).np ∧ (x.dev.ax n).prof = (s.dev.ax n).prof ∧ (∀ k, k ≠ n.val → x.dev.ax k = s.dev.ax k) ∧
    s.dev.sameRegs x.dev (axCmdRegs n) ∧ s.sameMem x := by
  intro p hp
  refine ⟨_, axisCommands_made s n imm ramp p hp, ?_⟩
  rw [State.upd, s.dev.guarded_axCmd n.isLt]
  obtain ⟨axes, state, regs⟩ := s.dev.axReplaced_keeps n
  set r := s.dev.axReplaced n with hr
  set c := s.dev.axOperands n p.1 imm ramp
  obtain ⟨pending, still, state'⟩ := r.axWaits_sts n c
  have evt : (r.axWaits n c).rd (R.TRAJ_AX_EVT n) = r.rd (R.TRAJ_AX_EVT n) := r.axWaits_sameRegs n c _ (by
    simp only [R.TRAJ_AX_CMD, R.TRAJ_AX_STS, R.TRAJ_AX_EVT, List.mem_cons, List.not_mem_nil, or_false]
    omega)
  have ax : ∀ k, ((r.axWaits n c).parityWritten (R.TRAJ_AX_CMD n)).ax k = (r.axWaits n c).ax k :=
    Dev.ax_of_traj (Dev.parityWritten_traj _ _)
  have own : ((r.axWaits n c).parityWritten (R.TRAJ_AX_CMD n)).ax n = { s.dev.ax n with pend := some c } := by
    rw [ax, Dev.axWaits_ax, axes]
  rw [own]
  refine ⟨rfl, (Dev.parityWritten_flag _ _ _).trans pending, (Dev.parityWritten_flag _ _ _).trans still, ?_,
    fun waiting => ?_, fun idle => ?_, rfl, rfl, fun k ne => ?_, ?_, rfl, rfl, rfl, rfl⟩
  · exact (Dev.parityWritten_get _ _ _).trans (state'.trans state)
  · rw [Dev.parityWritten_get, Dev.parityWritten_flag, Dev.get_of_rd (f := F.TRAJ_AX_EVT_RESULT n) evt,
      Dev.flag_of_rd (f := F.TRAJ_AX_EVT_CMD_EVT n) evt, hr, Dev.axReplaced_waiting waiting]
    exact s.dev.axResult_shows n (by decide)
  · rw [Dev.axReplaced_idle idle] at hr
    rw [Dev.parityWritten_rd, evt, hr]
    exact ⟨rfl, Dev.parityWritten_faults_congr (s.dev.axWaits_host n c) (s.dev.axWaits_faults n c) _⟩
  · rw [ax, Dev.axWaits_ax_ne _ _ _ ne, axes]
  · exact (regs.trans ((r.axWaits_sameRegs n c).mono (by simp))).parityWritten _

/-! The result of a command (Table 9.4). -/

section Check
variable {d : Dev} {n : Nat} {c : AxCmd} {x : Int × Int × Int}

theorem Dev.axCheck_nop (nop : c.op = 0) : d.axCheck n c x = 0 := by
  simp only [Dev.axCheck, nop, if_true]

section Command
variable (cmd : c.op ≠ 0)
include cmd

theorem Dev.axCheck_off (off : d.axState n = axOff) : d.axCheck n c x = 2 := by
  simp only [Dev.axCheck, cmd, off, if_true, if_false]

variable (on : d.axState n ≠ axOff)
include on

theorem Dev.axCheck_fault (fault : d.axState n = axFaultStop ∨ d.uncleared n = true) : d.axCheck n c x = 3 := by
  simp only [Dev.axCheck, cmd, on, fault, if_true, if_false]

variable (clear : ¬ (d.axState n = axFaultStop ∨ d.uncleared n = true))
include clear

theorem Dev.axCheck_mode (mode : opAllowed c.op (d.axState n) = false) : d.axCheck n c x = 4 := by
  simp only [Dev.axCheck, cmd, on, clear, mode, true_or, if_true, if_false]

/-- From MODE on, each row of Table 9.4 has a code of its own from 4 to 9. -/
theorem Dev.axCheck_clear : d.axCheck n c x = 0 ∨ 4 ≤ d.axCheck n c x ∧ d.axCheck n c x < 10 := by
  unfold Dev.axCheck
  dsimp only
  rw [if_neg cmd, if_neg on, if_neg clear]
  iterate 8 refine iteInduction (motive := fun k => k = 0 ∨ 4 ≤ k ∧ k < 10) (fun _ => by decide) fun _ => ?_
  exact Or.inl rfl

end Command

theorem Dev.axCheck_lt : d.axCheck n c x < 10 := by
  by_cases nop : c.op = 0
  · rw [Dev.axCheck_nop nop]
    decide
  by_cases off : d.axState n = axOff
  · rw [Dev.axCheck_off nop off]
    decide
  by_cases fault : d.axState n = axFaultStop ∨ d.uncleared n = true
  · rw [Dev.axCheck_fault nop off fault]
    decide
  · have clear := Dev.axCheck_clear (x := x) nop off fault
    omega

end Check

theorem axisCommands_refused (d : Dev) (n : Fin 128) (c : AxCmd) (x : Int × Int × Int) (cmd : c.op ≠ 0) :
    (d.axCheck n c x = 2 ↔ d.axState n = axOff) ∧
    (d.axState n ≠ axOff → (d.axCheck n c x = 3 ↔ d.axState n = axFaultStop ∨ d.uncleared n = true)) ∧
    (d.axState n ≠ axOff → d.axState n ≠ axFaultStop → d.uncleared n = false → opAllowed c.op (d.axState n) = false →
      d.axCheck n c x = 4) := by
  have fault : d.axState n ≠ axOff → (d.axCheck n c x = 3 ↔ d.axState n = axFaultStop ∨ d.uncleared n = true) := fun on =>
    ⟨fun three => by_contra fun clear => by have := Dev.axCheck_clear (x := x) cmd on clear; omega, Dev.axCheck_fault cmd on⟩
  refine ⟨⟨fun two => by_contra fun on => ?_, Dev.axCheck_off cmd⟩, fault, fun on stop clear => Dev.axCheck_mode cmd on (by simp [stop, clear])⟩
  by_cases fs : d.axState n = axFaultStop ∨ d.uncleared n = true
  · exact absurd (two.symm.trans (Dev.axCheck_fault cmd on fs)) (by decide)
  · have clear := Dev.axCheck_clear (x := x) cmd on fs
    omega

/-! A refused command (R216). -/

theorem Dev.axDecide_refused {d : Dev} {n : Nat} {c : AxCmd} {x : Int × Int × Int} (wait : (d.ax n).pend = some c) (no : d.axCheck n c x ≠ 0) :
    d.axDecide n x = (d.dropPend n).axResult n (d.axCheck n c x) := by
  simp only [Dev.axDecide, wait, no, false_and, if_false]

theorem Dev.axDecide_refused_outcome (d : Dev) (n : Fin 128) (c : AxCmd) (x : Int × Int × Int) (wait : (d.ax n).pend = some c)
    (no : d.axCheck n c x ≠ 0) : let e := d.axDecide n x
    e.get (F.TRAJ_AX_EVT_RESULT n) = d.axCheck n c x ∧ e.flag (F.TRAJ_AX_EVT_CMD_EVT n) = true ∧
    e.flag (F.TRAJ_AX_STS_PENDING n) = false ∧ (e.ax n).pend = none ∧ (e.ax n).prof = (d.ax n).prof ∧ (e.ax n).np = (d.ax n).np ∧
    e.axState n = d.axState n ∧ d.sameRegs e [R.TRAJ_AX_STS n, R.TRAJ_AX_EVT n, R.SYS_FAULT_EVT] := by
  intro e
  have eq : e = (d.dropPend n).axResult n (d.axCheck n c x) := Dev.axDecide_refused wait no
  have own : e.ax n = { d.ax n with pend := none } := by rw [eq, Dev.axResult_ax, Dev.dropPend, Dev.up_ax, Dev.modAx_ax]
  obtain ⟨result, event⟩ := (d.dropPend n).axResult_shows n (code := d.axCheck n c x) (Dev.axCheck_lt.trans (by decide))
  rw [own, eq]
  refine ⟨result, event, ?_, rfl, rfl, rfl, ?_, ?_⟩
  · rw [Dev.axResult_pending]
    exact Dev.flag_up_same _ _ _ rfl (show 8 < 32 by decide)
  · rw [Dev.axResult_axState]
    exact Dev.get_up_of_apart _ ⟨le_refl 8, show 8 < 32 by decide⟩ (fun _ => Or.inr (show 2 < 8 by decide)) _
  · exact (((Dev.sameRegs.refl d _).modAx n _).up (f := F.TRAJ_AX_STS_PENDING n) false (.head _)).trans (Dev.axResult_sameRegs _ n _)

/-- Settles O29: a CMD write stores its operands and shows PENDING, after the RESULT of the command it replaces; a command is decided in the
order of Table 9.4, and one that is refused drops out and shows its RESULT. -/
theorem axisCommandsAndResults : Obligations.AxisCommandsAndResults := by
  unfold Obligations.AxisCommandsAndResults
  exact ⟨axisCommands_wait, axisCommands_refused, Dev.axDecide_refused_outcome⟩

end Sys2Proof.Machine
end

section
/-! Groups: commands that wait, their decision and what an accepted one does, an exhausted plan, lateness and the speed scale (09 R226, R230
to R232; 01 R35). -/
namespace Sys2Proof.Machine
open Sys2Proof.Config

/-! RESULT of a group (R232). -/

theorem trajGEvt_report (g : Nat) : R.TRAJ_G_EVT g ≠ R.SYS_FAULT_EVT := by simp only [R.TRAJ_G_EVT, R.SYS_FAULT_EVT]; omega

section Result
variable (d : Dev) (g : Nat)

@[simp] theorem Dev.grResult_gr (code k : Nat) : (d.grResult g code).gr k = d.gr k := by rw [Dev.grResult, Dev.event0_gr, Dev.put_gr]

theorem Dev.grResult_sameRegs (code : Nat) : d.sameRegs (d.grResult g code) [R.TRAJ_G_EVT g, R.SYS_FAULT_EVT] :=
  ((Dev.sameRegs.refl d _).put (f := F.TRAJ_G_EVT_RESULT g) code (.head _)).event0 (f := F.TRAJ_G_EVT_CMD_EVT g) (.head _) (.tail _ (.head _))

theorem Dev.grResult_shows {code : Nat} (h : code < 256) : (d.grResult g code).get (F.TRAJ_G_EVT_RESULT g) = code ∧
    (d.grResult g code).flag (F.TRAJ_G_EVT_CMD_EVT g) = true :=
  d.result_event ⟨show 16 ≤ 23 by decide, show 23 < 32 by decide⟩ (show 23 < 24 by decide) rfl ⟨rfl, show 0 < 24 by decide⟩
    (show 0 < 16 by decide) (trajGEvt_report g) h

end Result

/-! A group command waits (R232). -/

/-- A group command that was waiting ends with RESULT 1. -/
def Dev.grReplaced (g : Nat) (d : Dev) : Dev := if (d.gr g).pend.isSome then d.grResult g 1 else d

theorem Dev.grCmd_eq (d : Dev) (g op : Nat) : d.grCmd g op = (d.grReplaced g).modGr g (fun x => { x with pend := some op }) := (rfl)

theorem Dev.grReplaced_idle {d : Dev} {g : Nat} (h : (d.gr g).pend = none) : d.grReplaced g = d := if_neg (by simp [h])

theorem Dev.grReplaced_waiting {d : Dev} {g : Nat} (h : (d.gr g).pend.isSome) : d.grReplaced g = d.grResult g 1 := if_pos h

theorem Dev.grReplaced_sameRegs (d : Dev) (g : Nat) : d.sameRegs (d.grReplaced g) [R.TRAJ_G_EVT g, R.SYS_FAULT_EVT] := by
  unfold Dev.grReplaced
  split
  · exact d.grResult_sameRegs g 1
  · exact Dev.sameRegs.refl _ _

/-- A CMD write of a group is taken, and its register is written. -/
theorem Dev.guarded_grCmd (d : Dev) {g : Nat} (lt : g < 16) (op : Nat) :
    d.guarded (R.TRAJ_G_CMD g) (Dev.grCmd g op) = (d.grCmd g op).parityWritten (R.TRAJ_G_CMD g) := by
  refine Dev.guarded_parity (ownParity_low (by simp only [R.TRAJ_G_CMD]; omega)) (d.grReplaced_sameRegs g _ ?_)
  simp only [R.TRAJ_G_EVT, R.SYS_FAULT_EVT, R.SYS_GUARD_LOG, List.mem_cons, List.not_mem_nil, or_false]
  omega

/-- The commands of a group by OP (Table 9.11). -/
def groupCommands (g : Fin 16) : List (Nat × Instr) := [(1, .pathOn g), (2, .pathOff g), (3, .groupStop g), (4, .groupResume g)]

/-- Each is an accepted write of CMD with its OP. -/
theorem groupCommands_made (s : State) (g : Fin 16) : ∀ p ∈ groupCommands g,
    answers p.2 s (s.upd (Dev.guarded (R.TRAJ_G_CMD g) (Dev.grCmd g p.1))) := by
  simp only [groupCommands, List.forall_mem_cons]
  exact ⟨rfl, rfl, rfl, rfl, List.forall_mem_nil _⟩

theorem groupCommands_wait (s : State) (g : Fin 16) : ∀ p ∈ groupCommands g, leads p.2 s fun x =>
    (x.dev.gr g).pend = some p.1 ∧ x.dev.grMode g = s.dev.grMode g ∧
      ((s.dev.gr g).pend.isSome = true → x.dev.get (F.TRAJ_G_EVT_RESULT g) = 1 ∧ x.dev.flag (F.TRAJ_G_EVT_CMD_EVT g) = true) ∧
      ((s.dev.gr g).pend = none → x.dev.regs = s.dev.regs) ∧
      s.dev.sameRegs x.dev [R.TRAJ_G_EVT g, R.SYS_FAULT_EVT] ∧ s.sameMem x := by
  intro p hp
  refine ⟨_, groupCommands_made s g p hp, ?_⟩
  rw [State.upd, s.dev.guarded_grCmd g.isLt, Dev.grCmd_eq]
  have regs : s.dev.sameRegs (((s.dev.grReplaced g).modGr g fun x => { x with pend := some p.1 }).parityWritten (R.TRAJ_G_CMD g))
      [R.TRAJ_G_EVT g, R.SYS_FAULT_EVT] := ((s.dev.grReplaced_sameRegs g).modGr g _).parityWritten _
  refine ⟨?_, regs.get ?_, fun waiting => ?_, fun idle => ?_, regs, rfl, rfl, rfl, rfl⟩
  · rw [Dev.gr_of_traj (Dev.parityWritten_traj _ _), Dev.modGr_gr]
  · simp only [F.TRAJ_G_STS_MODE, R.TRAJ_G_EVT, R.SYS_FAULT_EVT, List.mem_cons, List.not_mem_nil, or_false]
    omega
  · rw [Dev.parityWritten_get, Dev.parityWritten_flag, Dev.modGr_get, Dev.modGr_flag, Dev.grReplaced_waiting waiting]
    exact s.dev.grResult_shows g (by decide)
  · rw [Dev.parityWritten_regs, Dev.modGr_regs, Dev.grReplaced_idle idle]

/-! The result of a group command (R232). -/

section Check
variable (d : Dev) (g : Nat)

theorem Dev.grCheck_pathOn_eq : d.grCheck g 1 =
    if d.groupAxes g = [] ∨ d.grMode g ≠ 0 ∨ ∃ n ∈ d.groupAxes g, d.axState n ≠ axHold then 4
    else if ∃ n ∈ d.groupAxes g, d.flag (F.TRAJ_AX_STS_STILL n) = false then 9 else 0 := by
  simp only [Dev.grCheck, if_true, List.isEmpty_iff, List.any_eq_true, bne_iff_ne, Bool.not_eq_true']

theorem Dev.grCheck_pathOn : (d.grCheck g 1 = 0 ↔ d.grMode g = 0 ∧ d.groupAxes g ≠ [] ∧
      ∀ n ∈ d.groupAxes g, d.axState n = axHold ∧ d.flag (F.TRAJ_AX_STS_STILL n) = true) ∧
    (d.grCheck g 1 = 9 → ∀ n ∈ d.groupAxes g, d.axState n = axHold) := by
  rw [Dev.grCheck_pathOn_eq]
  split_ifs with mode moving
  · refine ⟨⟨fun h => absurd h (by decide), fun ⟨indep, axes, all⟩ => ?_⟩, fun h => absurd h (by decide)⟩
    obtain e | m | ⟨n, hn, h⟩ := mode
    exacts [absurd e axes, absurd indep m, absurd (all n hn).1 h]
  · push Not at mode
    obtain ⟨n, hn, h⟩ := moving
    exact ⟨⟨fun h => absurd h (by decide), fun ⟨_, _, all⟩ => absurd (all n hn).2 (by simp [h])⟩, fun _ => mode.2.2⟩
  · push Not at mode moving
    obtain ⟨axes, indep, hold⟩ := mode
    exact ⟨⟨fun _ => ⟨indep, axes, fun n hn => ⟨hold n hn, by simpa using moving n hn⟩⟩, fun _ => rfl⟩, fun h => absurd h (by decide)⟩

theorem Dev.grCheck_stop {op : Nat} (h : op = 2 ∨ op = 3) : d.grCheck g op = 0 ↔ d.grMode g = 1 := by
  have one : op ≠ 1 := by omega
  have resume : ¬ (op = 4 ∧ (d.groupAxes g).any d.uncleared = true) := by omega
  simp only [Dev.grCheck, if_neg one, if_neg resume]
  split_ifs with path
  · exact ⟨fun h => absurd h (by decide), fun h => absurd h path⟩
  · exact ⟨fun _ => not_not.mp path, fun _ => rfl⟩

theorem Dev.grCheck_resume : (d.grCheck g 4 = 3 ↔ ∃ n ∈ d.groupAxes g, d.uncleared n = true) ∧
    (d.grCheck g 4 = 0 ↔ d.grMode g = 1 ∧ ∀ n ∈ d.groupAxes g, d.uncleared n = false) := by
  have shape : d.grCheck g 4 = if ∃ n ∈ d.groupAxes g, d.uncleared n = true then 3 else if d.grMode g ≠ 1 then 4 else 0 := by
    simp only [Dev.grCheck, OfNat.ofNat_ne_one, if_false, true_and, List.any_eq_true]
  rw [shape]
  split_ifs with fault path
  · obtain ⟨n, hn, h⟩ := fault
    exact ⟨⟨fun _ => ⟨n, hn, h⟩, fun _ => rfl⟩, fun h => absurd h (by decide), fun ⟨_, all⟩ => absurd (all n hn) (by simp [h])⟩
  · exact ⟨⟨fun h => absurd h (by decide), fun h => absurd h fault⟩, fun h => absurd h (by decide), fun ⟨h, _⟩ => absurd h path⟩
  · push Not at fault
    exact ⟨⟨fun h => absurd h (by decide), fun ⟨n, hn, h⟩ => absurd h (fault n hn)⟩,
      fun _ => ⟨not_not.mp path, fun n hn => by simpa using fault n hn⟩, fun _ => rfl⟩

theorem Dev.grCheck_lt (op : Nat) : d.grCheck g op < 256 := by
  unfold Dev.grCheck
  dsimp only
  split_ifs <;> decide

end Check

/-! What the axes of a group show. -/

/-- Of d and e: axis n shows φ of the STATE it showed, no register but its STS is written, and no group changes. -/
structure Dev.ShowsState (φ : Nat → Nat) (n : Nat) (d e : Dev) : Prop where
  state : e.axState n = φ (d.axState n)
  regs : d.sameRegs e [R.TRAJ_AX_STS n]
  gr : e.traj.gr = d.traj.gr

section Shows
variable {φ : Nat → Nat} {f : Nat → Dev → Dev} (h : ∀ n d, Dev.ShowsState φ n d (f n d))
include h

/-- Made for each axis of a list, it makes φ of the STATE of each. -/
theorem Dev.each_axState (twice : ∀ x, φ (φ x) = φ x) (l : List Nat) (d : Dev) : ∀ n ∈ l, (Dev.each l f d).axState n = φ (d.axState n) := by
  intro n hn
  have other : ∀ n k d, k ≠ n → (f n d).axState k = d.axState k := fun n k d ne => (h n d).regs.get (by
    simp only [F.TRAJ_AX_STS_STATE, R.TRAJ_AX_STS, List.mem_cons, List.not_mem_nil, or_false]
    omega)
  rw [Dev.each_keyed Dev.axState f φ (fun n d => (h n d).state) other twice, if_pos hn]

theorem Dev.each_axGr (l : List Nat) (d : Dev) (g : Nat) : (Dev.each l f d).gr g = d.gr g := by
  have kept : (Dev.each l f d).traj.gr = d.traj.gr := foldl_keep (fun d => d.traj.gr) _ (fun d n => (h n d).gr) l d
  rw [Dev.gr, Dev.gr, kept]

/-- It leaves the registers above the axes' commands and status, where the axes exist. -/
theorem Dev.each_axGet {l : List Nat} (lt : ∀ n ∈ l, n < 128) (d : Dev) {x : Fld} (high : R.TRAJ_ST_POS_LO 0 ≤ x.reg) :
    (Dev.each l f d).get x = d.get x :=
  foldl_keep_mem (fun d => d.get x) _ l (fun n hn d => (h n d).regs.get (by
    have := lt n hn
    simp only [R.TRAJ_ST_POS_LO, R.TRAJ_AX_STS, List.mem_cons, List.not_mem_nil, or_false] at high ⊢
    omega)) d

end Shows

/-- STATE shown with STILL after it. -/
theorem Dev.toState_shown (d : Dev) (n : Nat) {st : Nat} (h : st < 8) : ((d.toState n st).showStill n).axState n = st ∧
    d.sameRegs ((d.toState n st).showStill n) [R.TRAJ_AX_STS n] := by
  refine ⟨?_, ((Dev.sameRegs.refl d _).put (f := F.TRAJ_AX_STS_STATE n) st (.head _)).showStill (.head _)⟩
  rw [Dev.showStill_axState, Dev.axState, Dev.toState, Dev.get_put_same _ _ _ ⟨show 0 ≤ 2 by decide, show 2 < 32 by decide⟩]
  exact Nat.mod_eq_of_lt h

/-- One axis of grShow. -/
def Dev.showFrom (from_ : List Nat) (st n : Nat) (d : Dev) : Dev := if from_.contains (d.axState n) then (d.toState n st).showStill n else d

theorem Dev.showFrom_shows (from_ : List Nat) {st : Nat} (h : st < 8) (n : Nat) (d : Dev) :
    Dev.ShowsState (fun x => if x ∈ from_ then st else x) n d (Dev.showFrom from_ st n d) := by
  obtain ⟨state, regs⟩ := d.toState_shown n h
  by_cases mem : d.axState n ∈ from_
  · rw [Dev.showFrom, if_pos (by simpa using mem)]
    exact ⟨state.trans (if_pos mem).symm, regs, rfl⟩
  · rw [Dev.showFrom, if_neg (by simpa using mem)]
    exact ⟨(if_neg mem).symm, Dev.sameRegs.refl _ _, rfl⟩

/-- The axes of a group in one of some states take another, and nothing of the group changes. -/
theorem Dev.grShow_outcome (d : Dev) (g : Nat) (from_ : List Nat) {st : Nat} (h : st < 8) (out : st ∉ from_)
    (lt : ∀ n ∈ d.groupAxes g, n < 128) : (∀ x : Fld, R.TRAJ_ST_POS_LO 0 ≤ x.reg → (d.grShow g from_ st).get x = d.get x) ∧
    (d.grShow g from_ st).gr g = d.gr g ∧
    ∀ n ∈ d.groupAxes g, (d.grShow g from_ st).axState n = if d.axState n ∈ from_ then st else d.axState n := by
  have shows := Dev.showFrom_shows from_ h
  have twice : ∀ x, (if (if x ∈ from_ then st else x) ∈ from_ then st else (if x ∈ from_ then st else x)) = if x ∈ from_ then st else x := by
    intro x
    by_cases mem : x ∈ from_
    · rw [if_pos mem, if_neg out]
    · rw [if_neg mem, if_neg mem]
  exact ⟨fun x high => Dev.each_axGet shows lt d high, Dev.each_axGr shows _ d g, Dev.each_axState shows twice _ d⟩

/-- One axis of an accepted PATH_ON. -/
def Dev.intoPath (n : Nat) (d : Dev) : Dev :=
  (((d.toState n axPath).modAx n (fun a => { a with kept := none })).up (F.TRAJ_AX_STS_REMAIN_VALID n) false).showStill n

theorem Dev.intoPath_shows (n : Nat) (d : Dev) : Dev.ShowsState (fun _ => axPath) n d (d.intoPath n) := by
  refine ⟨?_, ((((Dev.sameRegs.refl d _).put (f := F.TRAJ_AX_STS_STATE n) axPath (.head _)).modAx n _).up
    (f := F.TRAJ_AX_STS_REMAIN_VALID n) false (.head _)).showStill (.head _), rfl⟩
  rw [Dev.intoPath, Dev.showStill_axState, Dev.axState, Dev.get_up_of_apart _ ⟨le_refl 15, show 15 < 32 by decide⟩
    fun _ => Or.inr (show 2 < 15 by decide), Dev.modAx_get, Dev.toState, Dev.get_put_same _ _ _ ⟨show 0 ≤ 2 by decide, show 2 < 32 by decide⟩]
  rfl

/-! What an accepted group command does (R231, R232). -/

/-- A group whose path stop starts, unless one is in progress. -/
def Dev.pathStopped (g : Nat) (d : Dev) : Dev := d.modGr g (fun x => { x with pathStop := max 1 x.pathStop })

/-- A group whose path stop and HELD end. -/
def Dev.pathFreed (g : Nat) (d : Dev) : Dev := (d.modGr g (fun x => { x with pathStop := 0 })).up (F.TRAJ_G_STS_HELD g) false

section Apply
variable (d : Dev) (g : Nat) (lt : ∀ n ∈ d.groupAxes g, n < 128)

theorem trajG_high (g : Nat) : R.TRAJ_ST_POS_LO 0 ≤ R.TRAJ_G_STS g ∧ R.TRAJ_ST_POS_LO 0 ≤ R.TRAJ_G_SCALE g := by
  simp only [R.TRAJ_ST_POS_LO, R.TRAJ_G_STS, R.TRAJ_G_SCALE]
  omega

theorem grMode_ok (g : Nat) : (F.TRAJ_G_STS_MODE g).ok := ⟨show 0 ≤ 1 by decide, show 1 < 32 by decide⟩

include lt

/-- PATH_ON: the group and its axes are in PATH, with s 0 and no plan. -/
theorem Dev.grApply_pathOn : let e := d.grApply g 1
    e.grMode g = 1 ∧ e.get (F.TRAJ_G_SCALE_SCALE g) = 0 ∧
    e.gr g = { d.gr g with pathStop := 0, hasPlan := false, bound := 1, ds := 0, delta := [], exhausted := false, next := none } ∧
    ∀ n ∈ d.groupAxes g, e.axState n = axPath := by
  intro e
  obtain ⟨mode, scale⟩ := trajG_high g
  have apart : (F.TRAJ_G_STS_MODE g).reg ≠ (F.TRAJ_G_SCALE_SCALE g).reg := by simp only [F.TRAJ_G_STS_MODE, F.TRAJ_G_SCALE_SCALE]; omega
  have shows := Dev.intoPath_shows
  have eq : e = Dev.each (d.groupAxes g) Dev.intoPath (((d.put (F.TRAJ_G_STS_MODE g) 1).put (F.TRAJ_G_SCALE_SCALE g) 0).modGr g fun x =>
    { x with pathStop := 0, hasPlan := false, bound := 1, ds := 0, delta := [], exhausted := false, next := none }) := rfl
  rw [eq]
  refine ⟨?_, ?_, ?_, Dev.each_axState shows (fun _ => rfl) _ _⟩
  · rw [Dev.grMode, Dev.each_axGet shows lt _ mode, Dev.modGr_get, Dev.get_put_ne _ _ apart, Dev.get_put_same _ _ _ (grMode_ok g)]
    rfl
  · rw [Dev.each_axGet shows lt _ scale, Dev.modGr_get, Dev.get_put_same _ _ _ ⟨show 0 ≤ 15 by decide, show 15 < 32 by decide⟩]
    rfl
  · rw [Dev.each_axGr shows, Dev.modGr_gr, Dev.put_gr, Dev.put_gr]

/-- A group's own registers are none of its axes'. -/
theorem Dev.axState_put_group {x : Fld} (high : R.TRAJ_ST_POS_LO 0 ≤ x.reg) (v : Nat) {n : Nat} (hn : n ∈ d.groupAxes g) :
    (d.put x v).axState n = d.axState n := by
  have := lt n hn
  exact Dev.get_put_ne _ _ (by simp only [F.TRAJ_AX_STS_STATE, R.TRAJ_ST_POS_LO] at high ⊢; omega)

/-- A path stop that starts shows axes in PATH as STOPPING. -/
theorem Dev.pathStopped_shows : let e := (d.pathStopped g).grShow g [axPath] axStopping
    (∀ x : Fld, R.TRAJ_ST_POS_LO 0 ≤ x.reg → e.get x = d.get x) ∧ e.gr g = { d.gr g with pathStop := max 1 (d.gr g).pathStop } ∧
    ∀ n ∈ d.groupAxes g, e.axState n = if d.axState n = axPath then axStopping else d.axState n := by
  obtain ⟨regs, gr, states⟩ := (d.pathStopped g).grShow_outcome g [axPath] (st := axStopping) (by decide) (by decide) lt
  simp only [List.mem_singleton] at states
  exact ⟨regs, gr.trans (d.modGr_gr g _), states⟩

/-- PATH_OFF and STOP: a path stop starts unless one is in progress, and axes in PATH are STOPPING. -/
theorem Dev.grApply_stop {op : Nat} (h : op = 2 ∨ op = 3) (path : d.grMode g = 1) : let e := d.grApply g op
    e.grMode g = (if op = 2 then 2 else 1) ∧ e.gr g = { d.gr g with pathStop := max 1 (d.gr g).pathStop } ∧
    ∀ n ∈ d.groupAxes g, e.axState n = if d.axState n = axPath then axStopping else d.axState n := by
  obtain ⟨mode, -⟩ := trajG_high g
  obtain rfl | rfl := h
  · obtain ⟨regs, gr, states⟩ := (d.put (F.TRAJ_G_STS_MODE g) 2).pathStopped_shows g lt
    refine ⟨(regs _ mode).trans ((Dev.get_put_same _ _ _ (grMode_ok g)).trans rfl), gr.trans (by rw [Dev.put_gr]), fun n hn => ?_⟩
    exact (states n hn).trans (by rw [d.axState_put_group g lt mode 2 hn])
  · obtain ⟨regs, gr, states⟩ := d.pathStopped_shows g lt
    exact ⟨(regs _ mode).trans path, gr, states⟩

/-- RESUME: the path stop and HELD end, and axes that stopped are in PATH. -/
theorem Dev.grApply_resume (path : d.grMode g = 1) : let e := d.grApply g 4
    e.grMode g = 1 ∧ e.flag (F.TRAJ_G_STS_HELD g) = false ∧ e.gr g = { d.gr g with pathStop := 0 } ∧
    ∀ n ∈ d.groupAxes g, e.axState n = if d.axState n = axStopping ∨ d.axState n = axFaultStop then axPath else d.axState n := by
  obtain ⟨mode, -⟩ := trajG_high g
  have held : ∀ n ∈ d.groupAxes g, (d.pathFreed g).axState n = d.axState n := fun n hn =>
    d.axState_put_group g lt (x := F.TRAJ_G_STS_HELD g) mode _ hn
  obtain ⟨regs, gr, states⟩ := (d.pathFreed g).grShow_outcome g [axStopping, axFaultStop] (st := axPath) (by decide) (by decide) lt
  simp only [List.mem_cons, List.not_mem_nil, or_false] at states
  refine ⟨(regs _ mode).trans ?_, (Dev.flag_of_get (regs _ mode)).trans (Dev.flag_up_same _ _ _ rfl (show 2 < 32 by decide)),
    gr.trans (by rw [Dev.pathFreed, Dev.up_gr, Dev.modGr_gr]), fun n hn => (states n hn).trans (by rw [held n hn])⟩
  rw [Dev.pathFreed, Dev.get_up_of_apart _ ⟨le_refl 2, show 2 < 32 by decide⟩ fun _ => Or.inr (show 1 < 2 by decide), Dev.modGr_get]
  exact path

end Apply

/-! The decision. -/

/-- A group command no longer waits. -/
def Dev.grTaken (g : Nat) (d : Dev) : Dev := d.modGr g (fun x => { x with pend := none })

section Decide
variable {d : Dev} {g op : Nat} (wait : (d.gr g).pend = some op)
include wait

theorem Dev.grDecide_accepted (yes : d.grCheck g op = 0) : d.grDecide g = ((d.grTaken g).grApply g op).grResult g 0 := by
  simp only [Dev.grDecide, wait, yes, if_true]
  rfl

theorem Dev.grDecide_refused (no : d.grCheck g op ≠ 0) : d.grDecide g = (d.grTaken g).grResult g (d.grCheck g op) := by
  simp only [Dev.grDecide, wait, no, if_false]
  rfl

theorem Dev.grDecide_shows : (d.grDecide g).get (F.TRAJ_G_EVT_RESULT g) = d.grCheck g op ∧
    (d.grDecide g).flag (F.TRAJ_G_EVT_CMD_EVT g) = true := by
  by_cases yes : d.grCheck g op = 0
  · rw [Dev.grDecide_accepted wait yes, yes]
    exact Dev.grResult_shows _ g (by decide)
  · rw [Dev.grDecide_refused wait yes]
    exact Dev.grResult_shows _ g (d.grCheck_lt g op)

end Decide

/-- RESULT leaves what a decision does to the group and its axes. -/
theorem Dev.grResult_keeps (d : Dev) (g code : Nat) : (d.grResult g code).grMode g = d.grMode g ∧
    (d.grResult g code).get (F.TRAJ_G_SCALE_SCALE g) = d.get (F.TRAJ_G_SCALE_SCALE g) ∧
    (d.grResult g code).flag (F.TRAJ_G_STS_HELD g) = d.flag (F.TRAJ_G_STS_HELD g) ∧
    ∀ n < 128, (d.grResult g code).axState n = d.axState n := by
  have regs := d.grResult_sameRegs g code
  refine ⟨regs.get ?_, regs.get ?_, regs.flag ?_, fun n lt => regs.get ?_⟩ <;>
    simp only [F.TRAJ_G_STS_MODE, F.TRAJ_G_SCALE_SCALE, F.TRAJ_G_STS_HELD, F.TRAJ_AX_STS_STATE, R.TRAJ_G_EVT, R.SYS_FAULT_EVT, List.mem_cons,
      List.not_mem_nil, or_false] <;> omega

/-- The group and its axes after an accepted command. -/
theorem Dev.grDecide_outcome {d : Dev} {g op : Nat} (wait : (d.gr g).pend = some op) (yes : d.grCheck g op = 0) (lo : 1 ≤ op) (hi : op ≤ 4)
    (lt : ∀ n ∈ d.groupAxes g, n < 128) : let e := d.grDecide g
    (e.gr g).pend = none ∧
    (op = 1 → e.grMode g = 1 ∧ e.get (F.TRAJ_G_SCALE_SCALE g) = 0 ∧ (e.gr g).hasPlan = false ∧ (e.gr g).pathStop = 0 ∧
      ∀ n ∈ d.groupAxes g, e.axState n = axPath) ∧
    (op = 2 ∨ op = 3 → e.grMode g = (if op = 2 then 2 else 1) ∧ (e.gr g).pathStop = max 1 (d.gr g).pathStop ∧
      ∀ n ∈ d.groupAxes g, e.axState n = (if d.axState n = axPath then axStopping else d.axState n)) ∧
    (op = 4 → e.grMode g = 1 ∧ (e.gr g).pathStop = 0 ∧ e.flag (F.TRAJ_G_STS_HELD g) = false ∧
      ∀ n ∈ d.groupAxes g, e.axState n = (if d.axState n = axStopping ∨ d.axState n = axFaultStop then axPath else d.axState n)) := by
  intro e
  have eq : e = ((d.grTaken g).grApply g op).grResult g 0 := Dev.grDecide_accepted wait yes
  obtain ⟨mode, scale, held, states⟩ := ((d.grTaken g).grApply g op).grResult_keeps g 0
  have taken : (d.grTaken g).gr g = { d.gr g with pend := none } := d.modGr_gr g _
  rw [eq, mode, scale, held, Dev.grResult_gr]
  obtain rfl | stop | rfl : op = 1 ∨ (op = 2 ∨ op = 3) ∨ op = 4 := by omega
  · obtain ⟨m, s, gr, shown⟩ := (d.grTaken g).grApply_pathOn g lt
    rw [gr, taken]
    exact ⟨rfl, fun _ => ⟨m, s, rfl, rfl, fun n hn => (states n (lt n hn)).trans (shown n hn)⟩, fun h => absurd h (by decide),
      fun h => absurd h (by decide)⟩
  · obtain ⟨m, gr, shown⟩ := (d.grTaken g).grApply_stop g lt stop ((d.grCheck_stop g stop).mp yes)
    rw [gr, taken]
    exact ⟨rfl, fun h => by omega, fun _ => ⟨m, rfl, fun n hn => (states n (lt n hn)).trans (shown n hn)⟩, fun h => by omega⟩
  · obtain ⟨m, h, gr, shown⟩ := (d.grTaken g).grApply_resume g lt ((d.grCheck_resume g).2.mp yes).1
    rw [gr, taken]
    exact ⟨rfl, fun h => absurd h (by decide), fun h => absurd h (by decide),
      fun _ => ⟨m, rfl, h, fun n hn => (states n (lt n hn)).trans (shown n hn)⟩⟩

theorem groupCommands_decided (d : Dev) (g : Fin 16) (op : Nat) (wait : (d.gr g).pend = some op) (lo : 1 ≤ op) (hi : op ≤ 4)
    (lt : ∀ n ∈ d.groupAxes g, n < 128) :
    let r := d.grCheck g op
    let e := d.grDecide g
    (op = 1 → (r = 0 ↔ d.grMode g = 0 ∧ d.groupAxes g ≠ [] ∧
      ∀ n ∈ d.groupAxes g, d.axState n = axHold ∧ d.flag (F.TRAJ_AX_STS_STILL n) = true) ∧
      (r = 9 → ∀ n ∈ d.groupAxes g, d.axState n = axHold)) ∧
    (op = 2 ∨ op = 3 → (r = 0 ↔ d.grMode g = 1)) ∧
    (op = 4 → (r = 3 ↔ ∃ n ∈ d.groupAxes g, d.uncleared n = true) ∧
      (r = 0 ↔ d.grMode g = 1 ∧ ∀ n ∈ d.groupAxes g, d.uncleared n = false)) ∧
    e.get (F.TRAJ_G_EVT_RESULT g) = r ∧ e.flag (F.TRAJ_G_EVT_CMD_EVT g) = true ∧ (e.gr g).pend = none ∧
    (r ≠ 0 → (e.gr g) = { d.gr g with pend := none } ∧ d.sameRegs e [R.TRAJ_G_EVT g, R.SYS_FAULT_EVT]) ∧
    (r = 0 →
      (op = 1 → e.grMode g = 1 ∧ e.get (F.TRAJ_G_SCALE_SCALE g) = 0 ∧ (e.gr g).hasPlan = false ∧ (e.gr g).pathStop = 0 ∧
        ∀ n ∈ d.groupAxes g, e.axState n = axPath) ∧
      (op = 2 ∨ op = 3 → e.grMode g = (if op = 2 then 2 else 1) ∧ (e.gr g).pathStop = max 1 (d.gr g).pathStop ∧
        ∀ n ∈ d.groupAxes g, e.axState n = (if d.axState n = axPath then axStopping else d.axState n)) ∧
      (op = 4 → e.grMode g = 1 ∧ (e.gr g).pathStop = 0 ∧ e.flag (F.TRAJ_G_STS_HELD g) = false ∧
        ∀ n ∈ d.groupAxes g, e.axState n =
          (if d.axState n = axStopping ∨ d.axState n = axFaultStop then axPath else d.axState n))) := by
  intro r e
  obtain ⟨result, event⟩ := Dev.grDecide_shows wait
  refine ⟨?_, d.grCheck_stop g, ?_, result, event, ?_⟩
  · rintro rfl
    exact d.grCheck_pathOn g
  · rintro rfl
    exact d.grCheck_resume g
  by_cases yes : d.grCheck g op = 0
  · obtain ⟨pend, acts⟩ := Dev.grDecide_outcome wait yes lo hi lt
    exact ⟨pend, fun no => absurd yes no, fun _ => acts⟩
  · have eq : e = (d.grTaken g).grResult g (d.grCheck g op) := Dev.grDecide_refused wait yes
    have gr : e.gr g = { d.gr g with pend := none } := by rw [eq, Dev.grResult_gr, Dev.grTaken, Dev.modGr_gr]
    refine ⟨by rw [gr], fun _ => ⟨gr, ?_⟩, fun h => absurd h yes⟩
    rw [eq]
    exact ((Dev.sameRegs.refl d _).modGr g _).trans (Dev.grResult_sameRegs _ g _)

/-! The end of a plan (R230, 12 R306). -/

/-- A group whose plan is exhausted: a path stop starts unless one is in progress, and EXHAUSTED_EVT is set. -/
def Dev.planEnded (g : Nat) (d : Dev) : Dev :=
  (d.modGr g (fun x => { x with pathStop := if x.pathStop = 0 then 3 else x.pathStop, bound := 0, exhausted := true })).raise
    (F.TRAJ_G_EVT_EXHAUSTED_EVT g)

theorem Dev.planExhausted_due {d : Dev} {g : Nat} (due : d.exhaustDue g = true) : d.planExhausted g =
    (d.planEnded g).fault .planExhausted g 1 (maskOf ((d.planEnded g).groupAxes g)) false (some (F.TRAJ_G_EVT_EXHAUSTED_EVT g)) := by
  simp only [Dev.planExhausted, due, if_true, Dev.planEnded]

/-- The axes of a group that are configured at all react to a fault of the group below F3. -/
theorem Dev.fault_reacts (d : Dev) (k : FaultKind) (i : Nat) {c : Nat} (l : List Nat) (b : Bool) (w : Option Fld) (low : c < 3) (pos : c ≠ 0)
    {n : Nat} (hn : n ∈ l) (lt : n < 128) : c ≤ ((d.fault k i c (maskOf l) b w).ax n).react := by
  rw [d.fault_ax k i (maskOf l) b w low pos, if_pos (mem_onesBelow_maskOf hn lt)]
  exact le_max_right _ _

theorem planExhausted_stops (s : State) (g : Fin 16) (on : s.dev.grMode g ≠ 0) (plan : (s.dev.gr g).hasPlan = true)
    (next : (s.dev.gr g).next = none) (once : (s.dev.gr g).exhausted = false)
    (last : s.dev.lastSigma g ≤ s.dev.get (F.TRAJ_G_SIGMA_SIGMA g)) : leads (.planExhausted g) s fun x =>
      (x.dev.gr g).pathStop = (if (s.dev.gr g).pathStop = 0 then 3 else (s.dev.gr g).pathStop) ∧ (x.dev.gr g).exhausted = true ∧
      x.dev.flag (F.TRAJ_G_EVT_EXHAUSTED_EVT g) = true ∧
      (∃ r ∈ x.dev.faults, r.kind = FaultKind.planExhausted ∧ r.idx = g.val ∧ r.cls = 1 ∧ r.axes = maskOf (s.dev.groupAxes g)) ∧
      (∀ n ∈ s.dev.groupAxes g, n < 128 → 1 ≤ (x.dev.ax n).react) ∧ s.sameMem x := by
  have due : s.dev.exhaustDue g = true := by simp [Dev.exhaustDue, on, plan, next, once, last]
  have axes : (s.dev.planEnded g).groupAxes g = s.dev.groupAxes g := by simp only [Dev.planEnded, Dev.groupAxes, Dev.raise_traj]; rfl
  have eq : s.dev.planExhausted g = _ := Dev.planExhausted_due due
  rw [axes] at eq
  have ended : (s.dev.planEnded g).gr g = _ := (Dev.gr_of_traj (Dev.raise_traj _ _) g).trans (s.dev.modGr_gr g _)
  have gr := ended
  rw [← Dev.fault_gr (s.dev.planEnded g) .planExhausted g _ false _ (c := 1) (by decide) (by decide), ← eq] at gr
  refine ⟨s.upd (Dev.planExhausted g), rfl, congrArg GroupSt.pathStop gr, congrArg GroupSt.exhausted gr, ?_⟩
  rw [State.upd, eq]
  refine ⟨?_, ⟨_, Dev.mem_fault_self _ _ _ _ _ _ (by decide), rfl, rfl, rfl, rfl⟩,
    fun n hn lt => Dev.fault_reacts _ _ _ _ _ _ (by decide) (by decide) hn lt, rfl, rfl, rfl, rfl⟩
  rw [(Dev.fault_sameRegs_low _ _ _ _ _ _ (by decide)).flag fun h => trajGEvt_report g (List.mem_singleton.mp h)]
  exact Dev.raise_flag _ _ ⟨rfl, show 2 < 24 by decide⟩

/-! Lateness (01 R35). -/

/-- A late axis's setpoint is extrapolated, and its profile does not end with it (log entry 21). -/
def Dev.lateAxis (n : Nat) (d : Dev) : Dev :=
  let a := d.ax n
  let (k, d) := d.fresh
  let w : Int := (Config.freeNat k % 2 : Nat)
  d.modAx n (fun x => { x with
    np := wrap64 (a.p + shrI a.v 16 + w * shrI a.a 17), nv := a.v + w * a.a, na := w * a.a, doneNext := false })

theorem Dev.trajLate_eq (d : Dev) (g : Nat) : d.trajLate g =
    let e := d.fault .trajLate g 2 (maskOf (d.groupAxes g)) true none
    Dev.each (e.groupAxes g) Dev.lateAxis e := (rfl)

section Late
variable (d : Dev) (l : List Nat)

theorem Dev.lateAxis_react (n k : Nat) : ((d.lateAxis n).ax k).react = (d.ax k).react := by
  by_cases e : k = n
  · rw [e, Dev.lateAxis, Dev.modAx_ax]
    rfl
  · rw [Dev.lateAxis, Dev.modAx_ax_ne _ _ e]
    rfl

/-- Extrapolation changes setpoints alone. -/
theorem Dev.lateAxes_keep : (Dev.each l Dev.lateAxis d).regs = d.regs ∧ (Dev.each l Dev.lateAxis d).faults = d.faults ∧
    ∀ k, ((Dev.each l Dev.lateAxis d).ax k).react = (d.ax k).react :=
  ⟨foldl_keep Dev.regs (fun d n => d.lateAxis n) (fun _ _ => rfl) l d, foldl_keep Dev.faults (fun d n => d.lateAxis n) (fun _ _ => rfl) l d,
    fun k => foldl_keep (fun d => (d.ax k).react) _ (fun d n => d.lateAxis_react n k) l d⟩

theorem Dev.lateAxes_done {n : Nat} (h : n ∈ l) : ((Dev.each l Dev.lateAxis d).ax n).doneNext = false := by
  have other : ∀ n k (d : Dev), k ≠ n → ((d.lateAxis n).ax k).doneNext = (d.ax k).doneNext := fun n k d ne => by
    rw [Dev.lateAxis, Dev.modAx_ax_ne _ _ ne]
    rfl
  rw [Dev.each_keyed (fun d n => (d.ax n).doneNext) Dev.lateAxis (fun _ => false) (fun n d => by rw [Dev.lateAxis, Dev.modAx_ax]) other
    (fun _ => rfl), if_pos h]

end Late

theorem trajLate_faults (s : State) (g : Fin 16) : leads (.trajLate g) s fun x =>
    (∃ r ∈ x.dev.faults, r.kind = FaultKind.trajLate ∧ r.idx = g.val ∧ r.cls = 2 ∧ r.axes = maskOf (s.dev.groupAxes g) ∧ r.cause = true) ∧
    (∀ n ∈ s.dev.groupAxes g, n < 128 → 2 ≤ (x.dev.ax n).react ∧ (x.dev.ax n).doneNext = false) ∧
    s.dev.sameRegs x.dev [R.SYS_FAULT_EVT] ∧ s.sameMem x := by
  refine ⟨s.upd (Dev.trajLate g), rfl, ?_⟩
  rw [State.upd, Dev.trajLate_eq]
  have axes := s.dev.fault_groupAxes .trajLate g (maskOf (s.dev.groupAxes g)) true none (c := 2) (by decide) (by decide) g
  set e := s.dev.fault .trajLate g 2 (maskOf (s.dev.groupAxes g)) true none
  obtain ⟨regs, faults, react⟩ := e.lateAxes_keep (e.groupAxes g)
  refine ⟨⟨_, faults ▸ Dev.mem_fault_self _ _ _ _ _ _ (by decide), rfl, rfl, rfl, rfl, rfl⟩, fun n hn lt => ⟨?_, ?_⟩,
    (s.dev.fault_sameRegs_low _ _ _ _ _ (by decide)).of_regs regs, rfl, rfl, rfl, rfl⟩
  · rw [react]
    exact Dev.fault_reacts _ _ _ _ _ _ (by decide) (by decide) hn lt
  · exact Dev.lateAxes_done e _ (axes ▸ hn)

/-! The speed scale (R226). -/

/-- The speed scale of the next cycle: a fall or a rise towards its goal. -/
def Dev.nextScale (d : Dev) (g : Nat) : Nat :=
  let s := d.get (F.TRAJ_G_SCALE_SCALE g)
  let fall := if decide ((d.gr g).pathStop ≠ 0) then d.get (F.TRAJ_G_STOPR_STOP_SDEC g) else d.get (F.TRAJ_G_RATE_SCALE_DEC g)
  if d.grGoal g < s then max (d.grGoal g) (s - fall) else min (d.grGoal g) (s + d.get (F.TRAJ_G_RATE_SCALE_INC g))

theorem Dev.grScale_eq (d : Dev) (g : Nat) : d.grScale g = (d.put (F.TRAJ_G_SCALE_SCALE g) (d.nextScale g)).modGr g
    (fun x => { x with ds := (d.nextScale g : Int) - d.get (F.TRAJ_G_SCALE_SCALE g) }) := (rfl)

theorem Dev.nextScale_between (d : Dev) (g : Nat) : min (d.get (F.TRAJ_G_SCALE_SCALE g)) (d.grGoal g) ≤ d.nextScale g ∧
    d.nextScale g ≤ max (d.get (F.TRAJ_G_SCALE_SCALE g)) (d.grGoal g) := by
  unfold Dev.nextScale
  dsimp only
  generalize (if decide ((d.gr g).pathStop ≠ 0) = true then _ else _) = fall
  split <;> omega

theorem Dev.grGoal_le (d : Dev) (g : Nat) : d.grGoal g ≤ 0x8000 := by
  unfold Dev.grGoal
  split
  · exact Nat.zero_le _
  · exact min_le_left _ _

theorem grScale_moves (d : Dev) (g : Fin 16) (h : d.get (F.TRAJ_G_SCALE_SCALE g) ≤ 0x8000) :
    let s := d.get (F.TRAJ_G_SCALE_SCALE g)
    let goal := d.grGoal g
    ((d.gr g).pathStop ≠ 0 → goal = 0) ∧ (d.grMode g ≠ 0 → (d.gr g).hasPlan = false → goal = 0) ∧
    ((d.gr g).pathStop = 0 → (d.grMode g = 0 ∨ (d.gr g).hasPlan = true) → goal = min 0x8000 (d.get (F.TRAJ_G_SCALE_SCALE_LIM g))) ∧
    min s goal ≤ (d.grScale g).get (F.TRAJ_G_SCALE_SCALE g) ∧ (d.grScale g).get (F.TRAJ_G_SCALE_SCALE g) ≤ max s goal ∧
    d.sameRegs (d.grScale g) [R.TRAJ_G_SCALE g] := by
  intro s goal
  obtain ⟨lo, hi⟩ := d.nextScale_between g
  have le := d.grGoal_le g
  have shown : (d.grScale g).get (F.TRAJ_G_SCALE_SCALE g) = d.nextScale g := by
    rw [Dev.grScale_eq, Dev.modGr_get, Dev.get_put_same _ _ _ ⟨show 0 ≤ 15 by decide, show 15 < 32 by decide⟩]
    exact Nat.mod_eq_of_lt (show d.nextScale g < 65536 by omega)
  rw [shown]
  refine ⟨fun stop => if_pos (Or.inl stop), fun path plan => if_pos (Or.inr ⟨path, plan⟩), fun free run => if_neg ?_, lo, hi, ?_⟩
  · rintro (stop | ⟨path, plan⟩)
    · exact stop free
    · exact run.elim path (by simp [plan])
  · exact ((Dev.sameRegs.refl d _).put (f := F.TRAJ_G_SCALE_SCALE g) _ (.head _)).modGr g _

end Sys2Proof.Machine
end

section
/-! Step generation: the row of the speed, the next step and the lag (09 R239 to R242). -/
namespace Sys2Proof.Machine
open Sys2Proof.Config

/-- What a change of the row and the lag leave of an axis: its line, the position emitted, the last step pulse and DIR. -/
def AxisSt.emission (a : AxisSt) : Int × Int × Int × Option Nat × Bool := (a.stepFrom, a.stepTo, a.stepPos, a.stepClk, a.dirHigh)

theorem AxisSt.emission_iff {a b : AxisSt} : a.emission = b.emission ↔ a.stepFrom = b.stepFrom ∧ a.stepTo = b.stepTo ∧
    a.stepPos = b.stepPos ∧ a.stepClk = b.stepClk ∧ a.dirHigh = b.dirHigh := by
  simp only [AxisSt.emission, Prod.mk.injEq]

theorem Dev.stepLine_congr {d e : Dev} {n : Nat} (time : e.time = d.time) (ax : (e.ax n).emission = (d.ax n).emission) :
    e.stepLine n = d.stepLine n := by
  obtain ⟨from_, to_, -⟩ := AxisSt.emission_iff.mp ax
  simp only [Dev.stepLine, Dev.nowNs, time, from_, to_]

/-! The row (R241). -/

/-- The row that the speed asks for takes force: the resolution pins take MS_CODE, and the step size follows RES_LOG. -/
def Dev.rowTaken (n want res code : Nat) (d : Dev) : Dev :=
  (((d.put (F.TRAJ_STEP_STS_ROW n) want).up (F.TRAJ_STEP_STS_ROW_PEND n) false).put (F.TRAJ_STEP_STS_MS_CODE n) code).modAx n
    (fun a => { a with resLog := res, resClk := if d.get (F.TRAJ_STEP_STS_MS_CODE n) = code then a.resClk else d.sysClk })

section Row
variable (d : Dev) (n : Nat)

/-- Either ROW_PEND is shown, or on a full step another row takes force. -/
theorem Dev.stepRes_cases : (∃ b, d.stepRes n = d.up (F.TRAJ_STEP_STS_ROW_PEND n) b) ∨
    (d.ax n).stepPos % 256 = 0 ∧ ∃ want res code, d.stepRes n = d.rowTaken n want res code := by
  unfold Dev.stepRes
  dsimp only
  split
  · exact Or.inl ⟨_, rfl⟩
  · split
    · exact Or.inr ⟨‹_›, _, _, _, rfl⟩
    · exact Or.inl ⟨_, rfl⟩

theorem Dev.stepRes_sameRegs : d.sameRegs (d.stepRes n) [R.TRAJ_STEP_STS n] := by
  obtain ⟨b, e⟩ | ⟨-, want, res, code, e⟩ := d.stepRes_cases n <;> rw [e]
  · exact (Dev.sameRegs.refl d _).up (f := F.TRAJ_STEP_STS_ROW_PEND n) b (.head _)
  · exact ((((Dev.sameRegs.refl d _).put (f := F.TRAJ_STEP_STS_ROW n) want (.head _)).up (f := F.TRAJ_STEP_STS_ROW_PEND n) false (.head _)).put
      (f := F.TRAJ_STEP_STS_MS_CODE n) code (.head _)).modAx n _

@[simp] theorem Dev.stepRes_time : (d.stepRes n).time = d.time := by
  obtain ⟨b, e⟩ | ⟨-, want, res, code, e⟩ := d.stepRes_cases n <;> rw [e] <;> rfl

theorem Dev.stepRes_ax_ne {k : Nat} (h : k ≠ n) : (d.stepRes n).ax k = d.ax k := by
  obtain ⟨b, e⟩ | ⟨-, want, res, code, e⟩ := d.stepRes_cases n <;> rw [e]
  · exact d.up_ax _ b k
  · exact Dev.modAx_ax_ne _ _ h

theorem Dev.stepRes_emission : ((d.stepRes n).ax n).emission = (d.ax n).emission := by
  obtain ⟨b, e⟩ | ⟨-, want, res, code, e⟩ := d.stepRes_cases n <;> rw [e]
  · rw [Dev.up_ax]
  · rw [Dev.rowTaken, Dev.modAx_ax]
    rfl

/-- The step size changes on a full step alone. -/
theorem Dev.stepRes_resLog (h : (d.ax n).stepPos % 256 ≠ 0) : ((d.stepRes n).ax n).resLog = (d.ax n).resLog := by
  obtain ⟨b, e⟩ | ⟨full, -⟩ := d.stepRes_cases n
  · rw [e, Dev.up_ax]
  · exact absurd full h

end Row

/-! The lag (R242). -/

section Lag
variable (d : Dev) (n : Nat)

/-- Does the emitted position lag the line by more than 512 fine units? -/
def Dev.lags (d : Dev) (n : Nat) : Bool := decide (512 * 2 ^ 32 < (wrap64 (d.stepLine n - (d.ax n).stepPos * 2 ^ 32)).natAbs)

/-- Either the flag is right, or STEP_LAG and its class F2 fault come, or they go. -/
theorem Dev.stepLag_cases : (d.lags n = d.flag (F.TRAJ_AX_STS_STEP_LAG n) ∧ d.stepLag n = d) ∨
    (d.lags n = true ∧ d.stepLag n = ((d.up (F.TRAJ_AX_STS_STEP_LAG n) true).raise (F.TRAJ_AX_EVT_STEP_LAG_EVT n)).fault .stepLag n 2 (2 ^ n) true
      (some (F.TRAJ_AX_EVT_STEP_LAG_EVT n))) ∨
    (d.lags n = false ∧ d.stepLag n = (d.up (F.TRAJ_AX_STS_STEP_LAG n) false).causeOff .stepLag n) := by
  by_cases same : d.lags n = d.flag (F.TRAJ_AX_STS_STEP_LAG n)
  · exact Or.inl ⟨same, if_pos (beq_iff_eq.mpr same)⟩
  have turn : d.stepLag n = _ := if_neg (beq_iff_eq.not.mpr same)
  by_cases behind : d.lags n = true
  · exact Or.inr (Or.inl ⟨behind, turn.trans (if_pos behind)⟩)
  · exact Or.inr (Or.inr ⟨by simpa using behind, turn.trans (if_neg behind)⟩)

theorem Dev.stepLag_frame : (d.stepLag n).time = d.time ∧ d.sameRegs (d.stepLag n) [R.TRAJ_AX_STS n, R.TRAJ_AX_EVT n, R.SYS_FAULT_EVT] ∧
    ((d.stepLag n).ax n).emission = (d.ax n).emission ∧ ∀ k, k ≠ n → (d.stepLag n).ax k = d.ax k := by
  obtain ⟨-, e⟩ | ⟨-, e⟩ | ⟨-, e⟩ := d.stepLag_cases n <;> rw [e]
  · exact ⟨rfl, Dev.sameRegs.refl _ _, rfl, fun _ _ => rfl⟩
  · set r := (d.up (F.TRAJ_AX_STS_STEP_LAG n) true).raise (F.TRAJ_AX_EVT_STEP_LAG_EVT n) with hr
    have raised : ∀ k, r.ax k = d.ax k := fun k => (Dev.ax_of_traj (Dev.raise_traj _ _) k).trans (d.up_ax _ _ k)
    have fault := r.fault_ax .stepLag n (2 ^ n) true (some (F.TRAJ_AX_EVT_STEP_LAG_EVT n)) (c := 2) (by decide) (by decide)
    refine ⟨(r.fault_time _ _ _ _ _ _).trans ((Dev.raise_time _ _).trans (d.up_time _ _)), fun o ho => ?_, ?_, fun k ne => ?_⟩
    · simp only [List.mem_cons, List.not_mem_nil, or_false, not_or] at ho
      obtain ⟨sts, evt, report⟩ := ho
      rw [Dev.fault_sameRegs_low _ _ _ _ _ _ (by decide) o (by simpa using report), hr, Dev.raise_rd_ne _ evt]
      exact Dev.rd_put_ne _ _ sts
    · rw [r.fault_ax_keep .stepLag n (2 ^ n) true _ (by decide) (by decide) AxisSt.emission (fun _ => rfl), raised]
    · rw [fault, if_neg fun mem => ne (mem_onesBelow_two_pow mem), raised]
  · simp only [Dev.causeOff_time, Dev.causeOff_ax, Dev.up_time, Dev.up_ax, implies_true, true_and, and_true]
    exact ((Dev.sameRegs.refl d _).up (f := F.TRAJ_AX_STS_STEP_LAG n) false (.head _)).of_regs (Dev.causeOff_regs _ _ _)

theorem Dev.stepLag_flag : (d.stepLag n).flag (F.TRAJ_AX_STS_STEP_LAG n) = d.lags n := by
  obtain ⟨evt, report, -⟩ := trajAx_apart n
  have shown : ∀ b, (d.up (F.TRAJ_AX_STS_STEP_LAG n) b).flag (F.TRAJ_AX_STS_STEP_LAG n) = b := fun b =>
    d.flag_up_same _ b rfl (show 10 < 32 by decide)
  obtain ⟨same, e⟩ | ⟨behind, e⟩ | ⟨near, e⟩ := d.stepLag_cases n <;> rw [e]
  · exact same.symm
  · rw [behind, (Dev.fault_sameRegs_low _ _ _ _ _ _ (by decide)).flag fun h => report (List.mem_singleton.mp h), Dev.flag_raise_ne _ evt, shown]
  · rw [near]
    exact (Dev.flag_of_regs (Dev.causeOff_regs _ _ _) _).trans (shown false)

/-- STEP_LAG is right of the position and the line it leaves. -/
theorem Dev.stepLag_lags : (d.stepLag n).flag (F.TRAJ_AX_STS_STEP_LAG n) = (d.stepLag n).lags n := by
  obtain ⟨time, -, kept, -⟩ := d.stepLag_frame n
  obtain ⟨-, -, pos, -⟩ := AxisSt.emission_iff.mp kept
  rw [d.stepLag_flag, Dev.lags, Dev.lags, Dev.stepLine_congr time kept, pos]

end Lag

/-! The next step (R239, R240). -/

section Once
variable (d : Dev) (n : Nat) (up : Bool)

/-- DIR turns where it must. -/
def Dev.stepTurned (n : Nat) (up : Bool) (d : Dev) : Dev :=
  if (d.ax n).dirHigh == up then d else d.modAx n (fun a => { a with dirHigh := up, dirClk := d.sysClk })

/-- May the pulse begin once DIR has turned? -/
def Dev.stepFree (d : Dev) (n : Nat) (up : Bool) : Bool := (d.stepTurned n up).stepReady n d.sysClk

/-- The position after the next step. -/
def Dev.stepNext (d : Dev) (n : Nat) (up : Bool) : Int := (d.ax n).stepPos + (if up then (d.ax n).stepSize else -(d.ax n).stepSize)

/-- The device with DIR as it must be and the pulse begun: the position moves, and STEP_POS shows it. -/
def Dev.stepPulsed (n : Nat) (up : Bool) (d : Dev) : Dev :=
  ((d.stepTurned n up).modAx n (fun a => { a with stepPos := d.stepNext n up, stepClk := some d.sysClk })).puts
    (F.TRAJ_STEP_POS_STEP_POS n) (d.stepNext n up)

theorem Dev.stepOnce_eq : d.stepOnce n up = if d.stepFree n up then (d.stepPulsed n up).stepRes n else d.stepTurned n up := (rfl)

theorem Dev.stepPulsed_ax : (d.stepPulsed n up).ax n =
    { (d.stepTurned n up).ax n with stepPos := d.stepNext n up, stepClk := some d.sysClk } := by
  rw [Dev.stepPulsed, Dev.puts_ax, Dev.modAx_ax]

/-- Turning DIR is all that it does. -/
theorem Dev.stepTurned_outcome : (d.stepTurned n up).time = d.time ∧ (d.stepTurned n up).regs = d.regs ∧
    (∀ k, k ≠ n → (d.stepTurned n up).ax k = d.ax k) ∧
    ∃ clk, (d.stepTurned n up).ax n = { d.ax n with dirHigh := up, dirClk := clk } := by
  by_cases dir : (d.ax n).dirHigh = up
  · rw [Dev.stepTurned, if_pos (beq_iff_eq.mpr dir)]
    exact ⟨rfl, rfl, fun _ _ => rfl, (d.ax n).dirClk, by rw [← dir]⟩
  · rw [Dev.stepTurned, if_neg (beq_iff_eq.not.mpr dir)]
    exact ⟨rfl, rfl, fun k ne => d.modAx_ax_ne _ ne, d.sysClk, d.modAx_ax n _⟩

theorem Dev.stepOnce_frame : (d.stepOnce n up).time = d.time ∧ d.sameRegs (d.stepOnce n up) [R.TRAJ_STEP_POS n, R.TRAJ_STEP_STS n] ∧
    (∀ k, k ≠ n → (d.stepOnce n up).ax k = d.ax k) ∧ ((d.stepOnce n up).ax n).dirHigh = up := by
  obtain ⟨time, regs, others, clk, own⟩ := d.stepTurned_outcome n up
  have turned : d.sameRegs (d.stepTurned n up) [R.TRAJ_STEP_POS n, R.TRAJ_STEP_STS n] := (Dev.sameRegs.refl d _).of_regs regs
  rw [Dev.stepOnce_eq]
  split
  · refine ⟨?_, ?_, fun k ne => ?_, ?_⟩
    · rw [Dev.stepRes_time, Dev.stepPulsed, Dev.puts_time, Dev.modAx_time, time]
    · exact ((turned.modAx n _).puts (f := F.TRAJ_STEP_POS_STEP_POS n) _ (.head _)).trans
        ((Dev.stepRes_sameRegs _ n).mono (List.subset_cons_self _ _))
    · rw [Dev.stepRes_ax_ne _ _ ne, Dev.stepPulsed, Dev.puts_ax, Dev.modAx_ax_ne _ _ ne, others k ne]
    · obtain ⟨-, -, -, -, dir⟩ := AxisSt.emission_iff.mp (Dev.stepRes_emission (d.stepPulsed n up) n)
      rw [dir, d.stepPulsed_ax, own]
  · exact ⟨time, turned, others, by rw [own]⟩

theorem Dev.stepOnce_steps (free : d.stepFree n up = true) : ((d.stepOnce n up).ax n).stepPos = d.stepNext n up ∧
    ((d.stepOnce n up).ax n).stepClk = some d.sysClk ∧ (d.stepOnce n up).get (F.TRAJ_STEP_POS_STEP_POS n) = uNat 32 (d.stepNext n up) := by
  obtain ⟨-, -, pos, clk, -⟩ := AxisSt.emission_iff.mp ((d.stepPulsed n up).stepRes_emission n)
  have sts : (F.TRAJ_STEP_POS_STEP_POS n).reg ∉ [R.TRAJ_STEP_STS n] := by
    simp only [F.TRAJ_STEP_POS_STEP_POS, R.TRAJ_STEP_STS, List.mem_singleton]
    omega
  rw [Dev.stepOnce_eq, if_pos free, pos, clk, d.stepPulsed_ax, (Dev.stepRes_sameRegs _ n).get sts]
  exact ⟨rfl, rfl, Dev.get_puts_same _ _ _ ⟨show 0 ≤ 31 by decide, show 31 < 32 by decide⟩⟩

theorem Dev.stepOnce_waits (wait : d.stepFree n up = false) : ((d.stepOnce n up).ax n).stepPos = (d.ax n).stepPos ∧
    ((d.stepOnce n up).ax n).stepClk = (d.ax n).stepClk ∧ (d.stepOnce n up).regs = d.regs := by
  obtain ⟨-, regs, -, clk, own⟩ := d.stepTurned_outcome n up
  rw [Dev.stepOnce_eq, if_neg (by simp [wait]), own]
  exact ⟨rfl, rfl, regs⟩

end Once

/-! The line and the next multiple of the step size (R239). -/

/-- How far the line is ahead of the position emitted. -/
def Dev.stepGap (d : Dev) (n : Nat) : Int := wrap64 (d.stepLine n - (d.ax n).stepPos * 2 ^ 32)

/-- Has the line crossed the next multiple upwards? -/
def Dev.stepUp (d : Dev) (n : Nat) : Bool := decide ((d.ax n).stepSize * 2 ^ 32 ≤ d.stepGap n)

/-- Has the line crossed the next multiple either way? -/
def Dev.stepGo (d : Dev) (n : Nat) : Bool := d.stepUp n || decide (d.stepGap n ≤ -((d.ax n).stepSize * 2 ^ 32))

/-- The step that the line asks for, where it asks for one. -/
def Dev.stepTried (n : Nat) (d : Dev) : Dev := if d.stepGo n then d.stepOnce n (d.stepUp n) else d

theorem Dev.stepEmit_off {d : Dev} {n : Nat} (off : d.flag (F.TRAJ_STEP_CFG_EN n) = false) (t : Nat) : d.stepEmit n t = d.runTo t :=
  if_pos ((d.runTo_flag t _).trans off)

theorem Dev.stepEmit_on {d : Dev} {n : Nat} (on : d.flag (F.TRAJ_STEP_CFG_EN n) = true) (t : Nat) :
    d.stepEmit n t = (((d.runTo t).stepRes n).stepTried n).stepLag n := by
  have acts : d.stepEmit n t = _ := if_neg (by rw [d.runTo_flag t, on]; decide)
  rw [acts]
  generalize (d.runTo t).stepRes n = e
  congr 1
  by_cases up : (e.ax n).stepSize * 2 ^ 32 ≤ e.stepGap n
  · have go : e.stepUp n = true := decide_eq_true up
    rw [Dev.stepTried, Dev.stepGo, go, Bool.true_or, if_pos rfl]
    exact if_pos up
  · have stay : e.stepUp n = false := decide_eq_false up
    rw [Dev.stepTried, Dev.stepGo, stay, Bool.false_or]
    simp only [decide_eq_true_eq]
    exact if_neg up

theorem Dev.stepTried_frame (d : Dev) (n : Nat) : (d.stepTried n).time = d.time ∧
    d.sameRegs (d.stepTried n) [R.TRAJ_STEP_POS n, R.TRAJ_STEP_STS n] ∧ (∀ k, k ≠ n → (d.stepTried n).ax k = d.ax k) ∧
    ((d.stepTried n).ax n).dirHigh = if d.stepGo n then d.stepUp n else (d.ax n).dirHigh := by
  unfold Dev.stepTried
  split
  · exact d.stepOnce_frame n _
  · exact ⟨rfl, Dev.sameRegs.refl _ _, fun _ _ => rfl, rfl⟩

theorem Dev.stepTried_steps {d : Dev} {n : Nat} (go : d.stepGo n = true) (free : d.stepFree n (d.stepUp n) = true) :
    ((d.stepTried n).ax n).stepPos = d.stepNext n (d.stepUp n) ∧ ((d.stepTried n).ax n).stepClk = some d.sysClk ∧
    (d.stepTried n).get (F.TRAJ_STEP_POS_STEP_POS n) = uNat 32 (d.stepNext n (d.stepUp n)) := by
  rw [Dev.stepTried, if_pos go]
  exact d.stepOnce_steps n _ free

theorem Dev.stepTried_waits {d : Dev} {n : Nat} (h : d.stepGo n = false ∨ d.stepFree n (d.stepUp n) = false) :
    ((d.stepTried n).ax n).stepPos = (d.ax n).stepPos ∧ ((d.stepTried n).ax n).stepClk = (d.ax n).stepClk ∧
    (d.stepTried n).regs = d.regs := by
  unfold Dev.stepTried
  split
  · exact d.stepOnce_waits n _ (h.resolve_left (by simp [*]))
  · exact ⟨rfl, rfl, rfl⟩

/-! STEP_EMIT. -/

/-- The times of R240, with DIR turned now where it must. -/
theorem Dev.stepFree_eq (d : Dev) (n : Nat) (up : Bool) : d.stepFree n up =
    ((match (d.ax n).stepClk with | some c => decide (c + 2 * d.get (F.TRAJ_STEP_CFG_STEP_W n) ≤ d.sysClk) | none => true) &&
      decide ((if (d.ax n).dirHigh = up then (d.ax n).dirClk else d.sysClk) + d.get (F.TRAJ_STEP_CFG_DIR_SU n) ≤ d.sysClk) &&
      decide ((d.ax n).resClk + d.get (F.TRAJ_STEP_CFG_RES_SU n) ≤ d.sysClk)) := by
  by_cases dir : (d.ax n).dirHigh = up
  · rw [Dev.stepFree, Dev.stepTurned, if_pos (beq_iff_eq.mpr dir), if_pos dir]
    rfl
  · rw [Dev.stepFree, Dev.stepTurned, if_neg (beq_iff_eq.not.mpr dir), if_neg dir, Dev.stepReady, Dev.modAx_ax]
    rfl

theorem stepEmit_off (s : State) (n : Fin 32) (t : Nat) (off : s.dev.flag (F.TRAJ_STEP_CFG_EN n) = false) :
    answers (.stepEmit n t) s (s.upd (Dev.runTo t)) :=
  answers_congr (f := Dev.stepEmit n t) rfl (Dev.stepEmit_off off t)

theorem stepEmit_steps (s : State) (n : Fin 32) (t : Nat) (on : s.dev.flag (F.TRAJ_STEP_CFG_EN n) = true) :
    let d := (s.dev.runTo t).stepRes n
    let go := d.stepGo n
    let up := d.stepUp n
    let ready := d.stepFree n up
    leads (.stepEmit n t) s fun x =>
      let b := x.dev.ax n
      x.dev.time = (s.dev.runTo t).time ∧
      b.dirHigh = (if go then up else (s.dev.ax n).dirHigh) ∧
      (go = true → ready = true → b.stepPos = (s.dev.ax n).stepPos + (if up then (d.ax n).stepSize else -(d.ax n).stepSize) ∧
        b.stepClk = some d.sysClk ∧ x.dev.gets (F.TRAJ_STEP_POS_STEP_POS n) = sInt 32 (uNat 32 b.stepPos)) ∧
      (go = false ∨ ready = false → b.stepPos = (s.dev.ax n).stepPos ∧ b.stepClk = (s.dev.ax n).stepClk ∧
        x.dev.rd (R.TRAJ_STEP_POS n) = s.dev.rd (R.TRAJ_STEP_POS n)) ∧
      x.dev.flag (F.TRAJ_AX_STS_STEP_LAG n) = x.dev.lags n ∧ (∀ k, k ≠ n.val → x.dev.ax k = s.dev.ax k) ∧ s.sameMem x := by
  intro d go up ready
  refine ⟨s.upd (Dev.stepEmit n t), rfl, ?_⟩
  rw [State.upd, Dev.stepEmit_on on]
  have ran := s.dev.runTo_ax t
  have row : (d.ax n).emission = (s.dev.ax n).emission := by rw [Dev.stepRes_emission, ran]
  obtain ⟨time, regs, others, dir⟩ := d.stepTried_frame n
  obtain ⟨time', regs', kept, others'⟩ := (d.stepTried n).stepLag_frame n
  have apart : R.TRAJ_STEP_POS n ∉ [R.TRAJ_AX_STS n, R.TRAJ_AX_EVT n, R.SYS_FAULT_EVT] ∧ R.TRAJ_STEP_POS n ∉ [R.TRAJ_STEP_STS n] := by
    simp only [R.TRAJ_STEP_POS, R.TRAJ_AX_STS, R.TRAJ_AX_EVT, R.SYS_FAULT_EVT, R.TRAJ_STEP_STS, List.mem_cons, List.not_mem_nil, or_false]
    omega
  obtain ⟨lag, sts⟩ := apart
  obtain ⟨-, -, pos, clk, high⟩ := AxisSt.emission_iff.mp row
  obtain ⟨-, -, pos', clk', high'⟩ := AxisSt.emission_iff.mp kept
  refine ⟨?_, ?_, fun moves free => ?_, fun stays => ?_, Dev.stepLag_lags _ n, fun k ne => ?_, rfl, rfl, rfl, rfl⟩
  · rw [time', time, Dev.stepRes_time]
  · rw [high', dir, high]
  · obtain ⟨next, pulse, shown⟩ := Dev.stepTried_steps moves free
    rw [pos', clk', next, pulse, Dev.gets, regs'.get (f := F.TRAJ_STEP_POS_STEP_POS n) lag, shown, Dev.stepNext, pos]
    exact ⟨rfl, rfl, rfl⟩
  · obtain ⟨same, pulse, kept⟩ := Dev.stepTried_waits stays
    rw [pos', clk', same, pulse, pos, clk, regs' _ lag, Dev.rd_of_regs kept, Dev.stepRes_sameRegs _ n _ sts, Dev.rd_of_regs (s.dev.runTo_regs t)]
    exact ⟨rfl, rfl, rfl⟩
  · rw [others' k ne, others k ne, Dev.stepRes_ax_ne _ _ ne, ran]

/-- Settles O30: a group command is stored until its decision, whose rows are those of R232; a fault below F3 is noted on each of the group's
axes; and STEP_EMIT is the row, one step that the line has crossed and R240's times allow, and the lag. -/
theorem groupsAndSteps : Obligations.GroupsAndSteps := by
  unfold Obligations.GroupsAndSteps
  refine ⟨⟨groupCommands_wait, groupCommands_decided, planExhausted_stops, trajLate_faults, grScale_moves⟩, stepEmit_off, fun s n t on => ?_⟩
  intro d a size gap up go dirClk ready
  have full : (s.dev.ax n).stepPos % 256 ≠ 0 → a.resLog = (s.dev.ax n).resLog := fun part => by
    have ran := s.dev.runTo_ax t n
    rw [← ran] at part ⊢
    exact Dev.stepRes_resLog _ _ part
  have free : d.stepFree n up = ready := d.stepFree_eq n up
  refine ⟨full, ?_⟩
  rw [← free]
  exact stepEmit_steps s n t on

end Sys2Proof.Machine
end

section
/-! Energising, with a position source whose stream index is beyond the table of streams (06 Table 6.16; 10 R263, R264). -/
namespace Sys2Proof.Machine
open Sys2Proof.Config

/-- A stream index no image can hold: LINK_STRM at it is LOOP_STS of axis 0, so VALID reads PEND and STALE reads ENERGISED. -/
def strayStream : Nat := 0x7F402

/-- A node in SCHEDULED whose axis 0 is direct, permitted, positioned by that stream, and waits for its EN = 1 to be decided. -/
def strayAxis : Dev :=
  let d := ((Dev.reset.put F.LINK_SCHED_STS_SSTATE 4).put (F.LOOP_CFG_TOPO 0) 1).energWrite 0 true
  { d with traj := { d.traj with axes := [⟨0, 0, 0, .linked strayStream 0⟩] }, safe := { d.safe with permit := 1 } }

/-- Until PEND clears the source reads VALID and Table 10.7 gives 0; the decision clears PEND first and gives 6. -/
theorem strayAxis_decided : (strayAxis.lax 0).pendEn = some true ∧ strayAxis.energCheck 0 = 0 ∧ strayAxis.topo 0 = 1 ∧
    (strayAxis.energDecide 0).get (F.LOOP_EVT_RESULT 0) = 6 := by decide +kernel

/-- Refutes O31: the statement bounds no position source's stream index. At `strayStream` the stream's VALID and STALE are the axis's own PEND and
ENERGISED, so Table 10.7 read while EN waits gives 0, and read at the decision, which has cleared PEND, gives NO_SOURCE. -/
theorem not_energising : ¬ Obligations.Energising := by
  unfold Obligations.Energising
  rintro ⟨-, decided, -⟩
  obtain ⟨waits, accepted, direct, refused⟩ := strayAxis_decided
  obtain ⟨-, -, -, -, -, -, energised⟩ := decided strayAxis 0 waits
  obtain ⟨-, shown, -⟩ := energised accepted direct
  exact absurd (refused.symm.trans shown) (by decide)

end Sys2Proof.Machine
end

section
/-! LOOP: its hidden state, what faults and de-energising leave of it, and changes made for each axis of a list (10 R258, R264; 01 R36). -/
namespace Sys2Proof.Machine
open Sys2Proof.Config

/-! Hidden state. -/

@[simp] theorem Dev.modLoop_regs (d : Dev) (n : Nat) (f : LoopAx → LoopAx) : (d.modLoop n f).regs = d.regs := (rfl)
@[simp] theorem Dev.modLoop_gets (d : Dev) (n : Nat) (f : LoopAx → LoopAx) (g : Fld) : (d.modLoop n f).gets g = d.gets g := (rfl)
@[simp] theorem Dev.modLoop_flag (d : Dev) (n : Nat) (f : LoopAx → LoopAx) (g : Fld) : (d.modLoop n f).flag g = d.flag g := (rfl)
@[simp] theorem Dev.modLoop_lax (d : Dev) (n : Nat) (f : LoopAx → LoopAx) : (d.modLoop n f).lax n = f (d.lax n) := tget_tmod_same _ _ _

theorem Dev.modLoop_lax_ne (d : Dev) {n k : Nat} (f : LoopAx → LoopAx) (h : k ≠ n) : (d.modLoop n f).lax k = d.lax k := tblGet_mod_ne _ _ f h

theorem Dev.lax_of_loop {d e : Dev} (h : e.loop = d.loop) (n : Nat) : e.lax n = d.lax n := by rw [Dev.lax, Dev.lax, h]

theorem Dev.sameRegs.modLoop {d e : Dev} {l : List Nat} (h : d.sameRegs e l) (n : Nat) (f : LoopAx → LoopAx) : d.sameRegs (e.modLoop n f) l := h

@[simp] theorem Dev.get_withLoop (d : Dev) (l : LoopSt) (f : Fld) : ({ d with loop := l } : Dev).get f = d.get f := (rfl)

/-- The part of LOOP's hidden state that is no axis's. -/
def Dev.loopRest (d : Dev) : LoopSt := { d.loop with ax := [] }

theorem Dev.loopRest_of_loop {d e : Dev} (h : e.loop = d.loop) : e.loopRest = d.loopRest := by rw [Dev.loopRest, Dev.loopRest, h]

/-! De-energising (R264) and faults (01 R36). -/

/-- An axis that LOOP no longer powers: a direct one takes the off pattern, and the companion of a linked one is told. -/
def LoopAx.unpowered (n : Nat) (a : LoopAx) : LoopAx :=
  if n < 32 then { a with off := true, energise := false } else { a with energise := false }

theorem LoopAx.unpowered_twice (n : Nat) (a : LoopAx) : (a.unpowered n).unpowered n = a.unpowered n := by
  unfold LoopAx.unpowered
  split <;> rfl

/-- What losing power leaves of an axis: all but the off pattern and the command to its companion. -/
theorem LoopAx.unpowered_keep {β : Type} (g : LoopAx → β) (kept : ∀ (a : LoopAx) (off : Bool), g { a with off := off, energise := false } = g a)
    (n : Nat) (a : LoopAx) : g (a.unpowered n) = g a := by
  unfold LoopAx.unpowered
  split
  · exact kept a true
  · exact kept a a.off

theorem Dev.enOff_eq (d : Dev) (n : Nat) : d.enOff n = (d.up (F.LOOP_CTL_EN n) false).modLoop n (LoopAx.unpowered n) := (rfl)

theorem Dev.energOff_loop (d : Dev) (n : Nat) : (d.energOff n).loop = d.loop := by
  unfold Dev.energOff
  split
  · rw [Dev.event0_loop, Dev.up_loop, Dev.up_loop]
  · rfl

/-- De-energising touches LOOP's hidden state for the axis's power alone. -/
theorem Dev.deenergise_loop (d : Dev) (n : Nat) : (d.deenergise n).loop = (d.modLoop n (LoopAx.unpowered n)).loop := by
  rw [Dev.deenergise_eq]
  split
  · rw [Dev.energOff_loop, Dev.enOff_eq]
    rfl
  · rfl

theorem Dev.fault_loopRest (d : Dev) (k : FaultKind) (i c a : Nat) (b : Bool) (o : Option Fld) :
    (d.fault k i c a b o).loopRest = d.loopRest := by
  have off : ∀ n (d : Dev), (d.deenergise n).loopRest = d.loopRest := fun n d => by
    rw [Dev.loopRest, Dev.deenergise_loop]
    rfl
  rw [Dev.fault, Dev.react_keep Dev.loopRest c a _ (fun _ _ => rfl) (fun n _ d => off n d)]
  exact Dev.loopRest_of_loop (d.record_loop ..)

/-- A fault takes the power of its axes where its class is F3, and leaves every other axis. -/
theorem Dev.fault_lax (d : Dev) (k : FaultKind) (i c a : Nat) (b : Bool) (o : Option Fld) (m : Nat) :
    (d.fault k i c a b o).lax m = if 3 ≤ c ∧ m ∈ onesBelow 128 a then (d.lax m).unpowered m else d.lax m := by
  have same : (d.record k i c a b o).lax m = d.lax m := Dev.lax_of_loop (d.record_loop ..) m
  rw [Dev.fault, Dev.react_eq]
  by_cases f3 : 3 ≤ c
  · have own : ∀ n (d : Dev), (d.reactAxis c n).lax n = (d.lax n).unpowered n := fun n d => by
      rw [Dev.reactAxis, if_pos f3, Dev.lax_of_loop (Dev.deenergise_loop _ n), Dev.modLoop_lax]
      rfl
    have other : ∀ n k (d : Dev), k ≠ n → (d.reactAxis c n).lax k = d.lax k := fun n k d ne => by
      rw [Dev.reactAxis, if_pos f3, Dev.lax_of_loop (Dev.deenergise_loop _ n), Dev.modLoop_lax_ne _ _ ne]
      rfl
    have each := Dev.each_keyed (fun d n => (n, d.lax n)) (fun n d => d.reactAxis c n) (fun p => (p.1, p.2.unpowered p.1))
      (fun n d => by rw [own]) (fun n k d ne => by rw [other n k d ne]) (fun p => by simp only [LoopAx.unpowered_twice])
      (onesBelow 128 a) m (d.record k i c a b o)
    rw [if_neg (show c ≠ 0 by omega)]
    refine (congrArg Prod.snd each).trans ?_
    rw [same, apply_ite Prod.snd]
    simp only [f3, true_and]
  · rw [if_neg (show ¬ (3 ≤ c ∧ m ∈ onesBelow 128 a) from fun h => f3 h.1), ← same]
    split
    · rfl
    · refine foldl_keep (fun d => d.lax m) _ (fun d n => ?_) _ _
      rw [Dev.reactAxis, if_neg f3]
      rfl

/-! What happens to the axes where all that may happen is that they lose their power. -/

/-- Of d and e: every axis is as before, but for the power that it may have lost. -/
def Dev.SameButPower (d e : Dev) : Prop := ∀ m, e.lax m = d.lax m ∨ e.lax m = (d.lax m).unpowered m

namespace Dev.SameButPower
variable {d e : Dev}

theorem of_axes (h : ∀ m, e.lax m = d.lax m) : d.SameButPower e := fun m => Or.inl (h m)

theorem of_loop (h : e.loop = d.loop) : d.SameButPower e := of_axes (Dev.lax_of_loop h)

theorem trans {f : Dev} (h : d.SameButPower e) (k : e.SameButPower f) : d.SameButPower f := fun m => by
  rcases h m with a | a <;> rcases k m with b | b <;> rw [b, a]
  · exact Or.inl rfl
  · exact Or.inr rfl
  · exact Or.inr rfl
  · exact Or.inr (LoopAx.unpowered_twice m _)

theorem fault (d : Dev) (k : FaultKind) (i c a : Nat) (b : Bool) (o : Option Fld) : d.SameButPower (d.fault k i c a b o) := fun m => by
  rw [Dev.fault_lax]
  split
  · exact Or.inr rfl
  · exact Or.inl rfl

theorem follow (d : Dev) (c : Bool) (k : FaultKind) (i cls axes : Nat) (own : Fld) : d.SameButPower (d.follow c k i cls axes own) := by
  unfold Dev.follow
  split
  · split
    · exact of_loop rfl
    · exact (of_loop (d.raise_loop own)).trans (fault _ k i cls axes true (some own))
  · exact of_loop rfl

theorem relinquish (d : Dev) (send : Bool) : d.SameButPower (d.relinquish send) := by
  rcases d.relinquish_cases send with ⟨-, e⟩ | ⟨x, -, ⟨r, hx⟩, e⟩
  · exact of_loop (congrArg Dev.loop e)
  · obtain ⟨r', e'⟩ := x.redTo_relinquished
    rw [e]
    refine (of_loop ?_).trans (fault _ _ _ _ _ _ _)
    rw [e', hx]
    rfl

/-- What losing power leaves of an axis is as before. -/
theorem keep (h : d.SameButPower e) {β : Type} (g : LoopAx → β)
    (kept : ∀ (a : LoopAx) (off : Bool), g { a with off := off, energise := false } = g a) (m : Nat) : g (e.lax m) = g (d.lax m) := by
  rcases h m with a | a
  · rw [a]
  · rw [a, LoopAx.unpowered_keep g kept]

/-- An axis in the off pattern stays in it. -/
theorem off (h : d.SameButPower e) {m : Nat} (o : (d.lax m).off = true) : (e.lax m).off = true := by
  rcases h m with a | a
  · rw [a, o]
  · rw [a, LoopAx.unpowered]
    split
    · rfl
    · exact o

end Dev.SameButPower

/-- A direct axis that a fault of class F3 affects takes the off pattern (R258). -/
theorem Dev.fault_off (d : Dev) (k : FaultKind) (i c a : Nat) (b : Bool) (o : Option Fld) (f3 : 3 ≤ c) {m : Nat} (direct : m < 32)
    (hm : m ∈ onesBelow 128 a) : ((d.fault k i c a b o).lax m).off = true := by
  rw [Dev.fault_lax, if_pos ⟨f3, hm⟩, LoopAx.unpowered, if_pos direct]

theorem Dev.mem_fault_of_idx (d : Dev) {k : FaultKind} {i : Nat} (c a : Nat) (b : Bool) (o : Option Fld) {r : FaultRec}
    (h : r ∈ d.faults) (kind : r.kind ≠ .report) (idx : r.idx ≠ i) : r ∈ (d.fault k i c a b o).faults :=
  (Dev.reported_react _ c a).1 _ (d.mem_record_of_idx c a b o h idx) kind

/-! Fields of an axis that no reaction to a fault touches. -/

/-- Apart from EN, ENERGISED and BOOTING, from DEENERG_EVT and SEQ, and from the report. -/
def Fld.apartFromPower (g : Fld) : Prop := g.reg ≠ R.SYS_FAULT_EVT ∧ ∀ n, (F.LOOP_CTL_EN n).apart g ∧ (F.LOOP_STS_ENERGISED n).apart g ∧
  (F.LOOP_STS_BOOTING n).apart g ∧ (F.LOOP_EVT_DEENERG_EVT n).apart g ∧ (g.reg = R.LOOP_EVT n → g.hi < 24)

theorem Dev.event0_get_of_apart (d : Dev) {f g : Fld} (h : f.evt) (report : g.reg ≠ R.SYS_FAULT_EVT) (a : f.apart g)
    (b : g.reg = f.reg → g.hi < 24) : (d.event0 f).get g = d.get g := by
  by_cases r : g.reg = f.reg
  · exact d.event0_get_apart h r report (a r) (b r)
  · exact d.event0_get_ne r report

section Power
variable (d : Dev) {g : Fld} (h : g.apartFromPower)
include h

theorem Dev.deenergise_get (n : Nat) : (d.deenergise n).get g = d.get g := by
  obtain ⟨report, apart⟩ := h
  obtain ⟨ctl, energised, booting, evt, low⟩ := apart n
  have en : (d.enOff n).get g = d.get g := d.get_up_of_apart ⟨le_refl 0, show 0 < 32 by decide⟩ ctl false
  rw [Dev.deenergise_eq]
  split
  · rw [← en, Dev.energOff]
    split
    · rw [Dev.event0_get_of_apart _ ⟨rfl, show 5 < 24 by decide⟩ report evt low,
        Dev.get_up_of_apart _ ⟨le_refl 3, show 3 < 32 by decide⟩ booting, Dev.get_up_of_apart _ ⟨le_refl 0, show 0 < 32 by decide⟩ energised]
    · rfl
  · exact en

theorem Dev.fault_get (k : FaultKind) (i c a : Nat) (b : Bool) (o : Option Fld) : (d.fault k i c a b o).get g = d.get g := by
  rw [Dev.fault, Dev.react_keep (fun d => d.get g) c a _ (fun _ _ => rfl) (fun n _ d => d.deenergise_get h n)]
  exact Dev.get_of_rd (d.record_rd_ne _ _ _ _ _ _ h.1)

theorem Dev.fault_flag (k : FaultKind) (i c a : Nat) (b : Bool) (o : Option Fld) : (d.fault k i c a b o).flag g = d.flag g :=
  Dev.flag_of_get (d.fault_get h k i c a b o)

end Power

/-! Changes made for each of a list. -/

/-- What each change brings about at its own key, and every change keeps. -/
theorem Dev.each_establishes {α : Type} {P : α → Dev → Prop} {f : α → Dev → Dev} {l : List α} (own : ∀ n ∈ l, ∀ d, P n (f n d))
    (keep : ∀ m n d, P m d → P m (f n d)) {n : α} (hn : n ∈ l) (d : Dev) : P n (Dev.each l f d) := by
  obtain ⟨before, after, split⟩ := List.append_of_mem hn
  rw [split, Dev.each, List.foldl_append, List.foldl_cons]
  exact foldl_rel_mem (fun d e => P n d → P n e) (fun _ h => h) (fun f g h => g (f h)) (fun d x => f x d) after
    (fun x _ d h => keep n x d h) _ (own n hn _)

end Sys2Proof.Machine
end

section
/-! TRIP inputs: their filters, a trip, and CLR (10 R258). -/
namespace Sys2Proof.Machine
open Sys2Proof.Config

/-! The filter. -/

theorem LineF.sample_waiting_run {need clk : Nat} {x : Bool} {l : LineF} (ne : x ≠ l.lvl) (few : l.run + 1 < need) :
    (l.sample need clk x).1.run = l.run + 1 := by
  rw [LineF.sample, if_neg ne, if_neg (not_le.mpr few)]

section Sample
variable (d : Dev) (j : Nat) (x : Bool)

/-- What the filter of a TRIP input makes of the sample of a SYS clock, and the change that it passes on. -/
def Dev.tripFilter : LineF × Option Nat := (tget d.loop.tripF j).sample (min 16 (max 1 (tget d.loop.tripN j))) (tget d.loop.tripClk j) x

/-- The device once the filter has taken it. -/
def Dev.tripFiltered : Dev :=
  { d with loop := { d.loop with
    tripF := tput d.loop.tripF j (d.tripFilter j x).1, tripClk := tput d.loop.tripClk j (tget d.loop.tripClk j + 1) } }

theorem Dev.tripSample_eq :
    d.tripSample j x = if (d.tripFilter j x).2.isSome then (d.tripFiltered j x).tripInput j (d.tripFilter j x).1.lvl else d.tripFiltered j x :=
  rfl

/-- The device when a sample comes that is the next: nothing is left to catch up. -/
def Dev.tripSampling : Dev := { d with loop := { d.loop with tripClk := tput d.loop.tripClk j (tget d.loop.tripClk j) } }

theorem Dev.tripSamples_one : d.tripSamples j [x] (tget d.loop.tripClk j) = (d.tripSampling j).tripSample j x := by
  simp only [Dev.tripSamples, Nat.sub_self, Nat.min_zero, List.replicate_zero, max_self]
  rfl

theorem Dev.tripSampling_filter : (d.tripSampling j).tripFilter j x = d.tripFilter j x := by
  simp only [Dev.tripFilter, Dev.tripSampling, tget_tput_same]

theorem Dev.tripFiltered_line : tget (d.tripFiltered j x).loop.tripF j = (d.tripFilter j x).1 := tget_tput_same _ _ _

end Sample

/-! A trip. -/

/-- TRIP of an axis and its event are set. -/
def Dev.tripMarked (n : Nat) (d : Dev) : Dev := (d.up (F.LOOP_STS_TRIP n) true).raise (F.LOOP_EVT_TRIP_EVT n)

/-- A direct axis is tripped: it is marked, and a fault of class F3 comes on it. -/
def Dev.tripAxis (j n : Nat) (d : Dev) : Dev :=
  (d.tripMarked n).fault .trip (j * 128 + n) 3 (2 ^ n) true (some (F.LOOP_EVT_TRIP_EVT n))

/-- What a trip of input j shows of axis n. -/
structure Dev.TripShown (j n : Nat) (d : Dev) : Prop where
  trip : d.flag (F.LOOP_STS_TRIP n) = true
  event : d.flag (F.LOOP_EVT_TRIP_EVT n) = true
  cut : d.cut n
  off : (d.lax n).off = true
  fault : (⟨.trip, j * 128 + n, 3, 2 ^ n, true, some (F.LOOP_EVT_TRIP_EVT n)⟩ : FaultRec) ∈ d.faults

theorem tripFlags_apart (n : Nat) : (F.LOOP_STS_TRIP n).apartFromPower ∧ (F.LOOP_EVT_TRIP_EVT n).apartFromPower := by
  simp only [Fld.apartFromPower, Fld.apart, F.LOOP_STS_TRIP, F.LOOP_EVT_TRIP_EVT, F.LOOP_CTL_EN, F.LOOP_STS_ENERGISED, F.LOOP_STS_BOOTING,
    F.LOOP_EVT_DEENERG_EVT, R.LOOP_EVT, R.SYS_FAULT_EVT]
  refine ⟨⟨?_, fun m => ?_⟩, ⟨?_, fun m => ?_⟩⟩ <;> omega

section Marked
variable (d : Dev) (n : Nat)

theorem Dev.tripMarked_rd {o : Nat} (sts : o ≠ R.LOOP_STS n) (evt : o ≠ R.LOOP_EVT n) : (d.tripMarked n).rd o = d.rd o :=
  (Dev.raise_rd_ne _ evt).trans (Dev.rd_put_ne d _ sts)

theorem Dev.tripMarked_flags : (d.tripMarked n).flag (F.LOOP_STS_TRIP n) = true ∧ (d.tripMarked n).flag (F.LOOP_EVT_TRIP_EVT n) = true := by
  have apart : (F.LOOP_STS_TRIP n).reg ≠ (F.LOOP_EVT_TRIP_EVT n).reg := by simp only [F.LOOP_STS_TRIP, F.LOOP_EVT_TRIP_EVT]; omega
  exact ⟨(Dev.flag_raise_ne _ apart).trans (Dev.flag_up_same _ _ _ rfl (show 4 < 32 by decide)),
    Dev.raise_flag _ _ ⟨rfl, show 3 < 24 by decide⟩⟩

theorem Dev.tripMarked_loop : (d.tripMarked n).loop = d.loop := (Dev.raise_loop _ _).trans (Dev.up_loop _ _ _)

theorem Dev.tripMarked_faults : (d.tripMarked n).faults = d.faults := (Dev.raise_faults _ _).trans (Dev.up_faults _ _ _)

end Marked

theorem mem_onesBelow_self {n : Nat} (h : n < 128) : n ∈ onesBelow 128 (2 ^ n) := by
  refine List.mem_filter.mpr ⟨List.mem_range.mpr h, ?_⟩
  rw [bitOf_eq_testBit, Nat.testBit_two_pow_self]

theorem Dev.tripAxis_shows (d : Dev) (j : Nat) {n : Nat} (direct : n < 32) : Dev.TripShown j n (d.tripAxis j n) := by
  obtain ⟨sts, evt⟩ := tripFlags_apart n
  obtain ⟨trip, event⟩ := d.tripMarked_flags n
  have one := mem_onesBelow_self (show n < 128 by omega)
  exact ⟨(Dev.fault_flag _ sts ..).trans trip, (Dev.fault_flag _ evt ..).trans event, Dev.fault_cut _ _ _ _ _ _ _ (le_refl 3) one,
    Dev.fault_off _ _ _ _ _ _ _ (le_refl 3) direct one, Dev.mem_fault_self _ _ _ _ _ _ (by decide)⟩

/-- A trip of one axis leaves what has been shown of another. -/
theorem Dev.tripAxis_keeps (j m n : Nat) (d : Dev) (h : Dev.TripShown j m d) (ne : m ≠ n) : Dev.TripShown j m (d.tripAxis j n) := by
  obtain ⟨sts, evt⟩ := tripFlags_apart m
  have other : R.LOOP_STS m ≠ R.LOOP_STS n ∧ R.LOOP_STS m ≠ R.LOOP_EVT n ∧ R.LOOP_EVT m ≠ R.LOOP_STS n ∧ R.LOOP_EVT m ≠ R.LOOP_EVT n ∧
      R.LOOP_CTL m ≠ R.LOOP_STS n ∧ R.LOOP_CTL m ≠ R.LOOP_EVT n := by
    simp only [R.LOOP_STS, R.LOOP_EVT, R.LOOP_CTL]
    omega
  obtain ⟨stsSts, stsEvt, evtSts, evtEvt, ctlSts, ctlEvt⟩ := other
  have stsRd := d.tripMarked_rd n stsSts stsEvt
  have stands : (⟨.trip, j * 128 + m, 3, 2 ^ m, true, some (F.LOOP_EVT_TRIP_EVT m)⟩ : FaultRec) ∈ (d.tripMarked n).faults := by
    rw [Dev.tripMarked_faults]
    exact h.fault
  have off : ((d.tripMarked n).lax m).off = true := by
    rw [Dev.lax_of_loop (d.tripMarked_loop n)]
    exact h.off
  exact {
    trip := (Dev.fault_flag _ sts ..).trans ((Dev.flag_of_rd (f := F.LOOP_STS_TRIP m) stsRd).trans h.trip)
    event := (Dev.fault_flag _ evt ..).trans ((Dev.flag_of_rd (f := F.LOOP_EVT_TRIP_EVT m) (d.tripMarked_rd n evtSts evtEvt)).trans h.event)
    cut := Dev.fault_keeps_cut _ _ _ _ _ _ _ (Dev.cut_of_rd (d.tripMarked_rd n ctlSts ctlEvt) stsRd h.cut)
    off := (Dev.SameButPower.fault _ _ _ _ _ _ _).off off
    fault := Dev.mem_fault_of_idx _ _ _ _ _ stands nofun fun e => ne (Nat.add_left_cancel e) }

/-- Every direct axis of a list is shown tripped. -/
theorem Dev.tripAxes_show (d : Dev) (j : Nat) {l : List Nat} (direct : ∀ n ∈ l, n < 32) {n : Nat} (hn : n ∈ l) :
    Dev.TripShown j n (Dev.each l (Dev.tripAxis j) d) := by
  have keep : ∀ m n d, (m < 32 ∧ Dev.TripShown j m d) → (m < 32 ∧ Dev.TripShown j m (d.tripAxis j n)) := fun m n d h => by
    refine ⟨h.1, ?_⟩
    by_cases e : m = n
    · exact e ▸ d.tripAxis_shows j h.1
    · exact d.tripAxis_keeps j m n h.2 e
  exact (Dev.each_establishes (P := fun n d => n < 32 ∧ Dev.TripShown j n d) (fun n hn d => ⟨direct n hn, d.tripAxis_shows j (direct n hn)⟩)
    keep hn d).2

/-- The trips of a list of axes leave TRIP_STS and the inputs. -/
theorem Dev.tripAxes_keep (d : Dev) (j : Nat) (l : List Nat) : (Dev.each l (Dev.tripAxis j) d).rd R.LOOP_TRIP_STS = d.rd R.LOOP_TRIP_STS ∧
    (Dev.each l (Dev.tripAxis j) d).loopRest = d.loopRest := by
  have quiet : ¬ settles R.LOOP_TRIP_STS := not_settles_of_apart (by decide) (by decide) (by decide)
  refine ⟨foldl_keep (fun d => d.rd R.LOOP_TRIP_STS) _ (fun d n => ?_) l d, foldl_keep Dev.loopRest _ (fun d n => ?_) l d⟩
  · exact (Dev.fault_rd _ _ _ _ _ _ _ quiet).trans (d.tripMarked_rd n (by simp only [R.LOOP_TRIP_STS, R.LOOP_STS]; omega)
      (by simp only [R.LOOP_TRIP_STS, R.LOOP_EVT]; omega))
  · rw [Dev.tripAxis, Dev.fault_loopRest]
    exact Dev.loopRest_of_loop (d.tripMarked_loop n)

/-- An input is active, and its bit of TRIP_STS latches. -/
def Dev.tripLatched (j : Nat) (d : Dev) : Dev :=
  { d with loop := { d.loop with tripIn := setBit d.loop.tripIn j true } }.put F.LOOP_TRIP_STS_TRIP
    (setBit (d.get F.LOOP_TRIP_STS_TRIP) j true)

theorem Dev.tripLatched_axes (d : Dev) {j : Nat} (h : j < 16) :
    (d.tripLatched j).get (F.LOOP_TAXES_AXES j) = d.get (F.LOOP_TAXES_AXES j) := by
  have apart : (F.LOOP_TAXES_AXES j).reg ≠ F.LOOP_TRIP_STS_TRIP.reg := by simp only [F.LOOP_TAXES_AXES, F.LOOP_TRIP_STS_TRIP]; omega
  exact Dev.get_put_ne _ _ apart

/-- An enabled input that becomes active latches and trips its axes. -/
theorem Dev.tripInput_trips {d : Dev} {j : Nat} (lt : j < 16) {high : Bool} (en : d.flag (F.LOOP_TCFG_EN j) = true)
    (act : (high == d.flag (F.LOOP_TCFG_TPOL j)) = true) (fresh : bitOf (d.get F.LOOP_TRIP_STS_TRIP) j = false) :
    d.tripInput j high = Dev.each (onesBelow 32 (d.get (F.LOOP_TAXES_AXES j))) (Dev.tripAxis j) (d.tripLatched j) := by
  rw [← d.tripLatched_axes lt]
  simp only [Dev.tripInput, en, act, Dev.get_withLoop, fresh, Bool.true_eq_false, Bool.false_eq_true, or_self, if_false]
  rfl

theorem tripSts_ok : F.LOOP_TRIP_STS_TRIP.ok := ⟨by decide, by decide⟩

theorem Dev.tripLatched_outcome (d : Dev) {j : Nat} (h : j < 16) : bitOf ((d.tripLatched j).get F.LOOP_TRIP_STS_TRIP) j = true ∧
    bitOf (d.tripLatched j).loop.tripIn j = true := by
  refine ⟨?_, bitOf_setBit_same _ _ _⟩
  rw [Dev.tripLatched, Dev.get_put_same _ _ _ tripSts_ok]
  exact (bitOf_mod (w := 16) h _).trans (bitOf_setBit_same _ _ _)

/-- The sample that completes TFILT at the active level trips the axes of the input. -/
theorem tripInput_trips (s : State) (j : Fin 16) (high : Bool) (en : s.dev.flag (F.LOOP_TCFG_EN j) = true)
    (act : (high == s.dev.flag (F.LOOP_TCFG_TPOL j)) = true) (ne : high ≠ (tget s.dev.loop.tripF j).lvl)
    (full : min 16 (max 1 (tget s.dev.loop.tripN j)) ≤ (tget s.dev.loop.tripF j).run + 1)
    (fresh : bitOf (s.dev.get F.LOOP_TRIP_STS_TRIP) j = false) : leads (.tripInput j ⟨[high], tget s.dev.loop.tripClk j⟩) s fun x =>
      (tget x.dev.loop.tripF j).lvl = high ∧
      bitOf (x.dev.get F.LOOP_TRIP_STS_TRIP) j = true ∧ bitOf x.dev.loop.tripIn j = true ∧
      (∀ n : Fin 32, bitOf (s.dev.get (F.LOOP_TAXES_AXES j)) n = true →
        x.dev.flag (F.LOOP_STS_TRIP n) = true ∧ x.dev.flag (F.LOOP_EVT_TRIP_EVT n) = true ∧ x.dev.flag (F.LOOP_CTL_EN n) = false ∧
        x.dev.energised n = false ∧ (x.dev.lax n).off = true ∧
        ∃ r ∈ x.dev.faults, r.kind = FaultKind.trip ∧ r.cls = 3 ∧ r.axes = 2 ^ n.val ∧ r.cause = true) ∧
      s.sameMem x := by
  obtain ⟨lvl, edge⟩ := LineF.sample_taken (l := tget s.dev.loop.tripF j) (clk := tget s.dev.loop.tripClk j) (x := high) fun _ => full
  rw [if_neg ne] at edge
  set d := (s.dev.tripSampling j).tripFiltered j high with hd
  have trips : s.dev.tripSamples j [high] (tget s.dev.loop.tripClk j) =
      Dev.each (onesBelow 32 (s.dev.get (F.LOOP_TAXES_AXES j))) (Dev.tripAxis j) (d.tripLatched j) := by
    rw [Dev.tripSamples_one, Dev.tripSample_eq, Dev.tripSampling_filter, Dev.tripFilter, edge, lvl]
    exact Dev.tripInput_trips j.isLt en act fresh
  obtain ⟨sts, rest⟩ := (d.tripLatched j).tripAxes_keep j (onesBelow 32 (s.dev.get (F.LOOP_TAXES_AXES j)))
  obtain ⟨latched, active⟩ := d.tripLatched_outcome j.isLt
  refine ⟨s.upd (Dev.tripSamples j [high] (tget s.dev.loop.tripClk j)), rfl, ?_⟩
  rw [State.upd, trips]
  refine ⟨?_, ?_, ?_, fun n hn => ?_, rfl, rfl, rfl, rfl⟩
  · have line := congrArg (fun l => (tget l.tripF j).lvl) rest
    refine line.trans ?_
    show (tget d.loop.tripF j).lvl = high
    rw [hd, Dev.tripFiltered_line, Dev.tripSampling_filter]
    exact lvl
  · rw [← latched]
    exact congrArg (bitOf · j) (Dev.get_of_rd sts)
  · rw [← active]
    exact congrArg (fun l => bitOf l.tripIn j) rest
  · have mem : n.val ∈ onesBelow 32 (s.dev.get (F.LOOP_TAXES_AXES j)) := List.mem_filter.mpr ⟨List.mem_range.mpr n.isLt, hn⟩
    obtain ⟨trip, event, cut, off, fault⟩ := (d.tripLatched j).tripAxes_show j (fun _ h => onesBelow_lt h) mem
    exact ⟨trip, event, cut.1, cut.2 n.isLt, off, _, fault, rfl, rfl, rfl, rfl⟩

/-- A sample before that leaves the filtered level, and no register changes. -/
theorem tripInput_waits (s : State) (j : Fin 16) (high : Bool) (ne : high ≠ (tget s.dev.loop.tripF j).lvl)
    (few : (tget s.dev.loop.tripF j).run + 1 < min 16 (max 1 (tget s.dev.loop.tripN j))) :
    leads (.tripInput j ⟨[high], tget s.dev.loop.tripClk j⟩) s fun x =>
      (tget x.dev.loop.tripF j).lvl = (tget s.dev.loop.tripF j).lvl ∧ (tget x.dev.loop.tripF j).run = (tget s.dev.loop.tripF j).run + 1 ∧
      s.dev.sameRegs x.dev [] ∧ s.sameMem x := by
  obtain ⟨lvl, edge⟩ := LineF.sample_waiting (l := tget s.dev.loop.tripF j) (clk := tget s.dev.loop.tripClk j) (x := high) fun _ => few
  have waits : s.dev.tripSamples j [high] (tget s.dev.loop.tripClk j) = (s.dev.tripSampling j).tripFiltered j high := by
    rw [Dev.tripSamples_one, Dev.tripSample_eq, Dev.tripSampling_filter, Dev.tripFilter, edge]
    rfl
  refine ⟨s.upd (Dev.tripSamples j [high] (tget s.dev.loop.tripClk j)), rfl, ?_⟩
  have line : tget ((s.dev.tripSampling j).tripFiltered j high).loop.tripF j = (s.dev.tripFilter j high).1 := by
    rw [Dev.tripFiltered_line, Dev.tripSampling_filter]
  rw [State.upd, waits]
  exact ⟨(congrArg LineF.lvl line).trans lvl, (congrArg LineF.run line).trans (LineF.sample_waiting_run ne few), Dev.sameRegs.refl _ _,
    rfl, rfl, rfl, rfl⟩

/-! CLR. -/

theorem setBit_clear_le (v i : Nat) : setBit v i false ≤ v := by
  unfold setBit
  split
  · exact Nat.sub_le _ _
  · exact le_refl _

theorem setBit_clear_set {v i : Nat} (h : bitOf v i = true) : setBit (setBit v i false) i true = v := by
  have le : 2 ^ i ≤ v := by
    by_contra low
    simp [bitOf, Nat.div_eq_of_lt (not_le.mp low)] at h
  have gone := bitOf_setBit_clear v i
  unfold setBit at gone ⊢
  simp only [h, if_true, Bool.false_eq_true, if_false] at gone ⊢
  rw [if_neg (by simp [gone])]
  omega

/-- Clearing a bit leaves the others. -/
theorem bitOf_setBit_clear_ne {i j : Nat} (v : Nat) (ne : j ≠ i) : bitOf (setBit v i false) j = bitOf v j := by
  by_cases set : bitOf v i = true
  · conv_rhs => rw [← setBit_clear_set set]
    exact (bitOf_setBit_ne _ ne).symm
  · rw [setBit, if_neg set, if_neg (by decide)]

/-- A latched bit clears, and the cause of the faults that it stood for goes away. -/
def Dev.tripGone (j : Nat) (d : Dev) : Dev :=
  let d := d.put F.LOOP_TRIP_STS_TRIP (setBit (d.get F.LOOP_TRIP_STS_TRIP) j false)
  Dev.each (onesBelow 32 (d.get (F.LOOP_TAXES_AXES j))) (fun n => Dev.causeOff .trip (j * 128 + n)) d

/-- TRIP of an axis shows whether a latched input covers it. -/
def Dev.tripShow (n : Nat) (d : Dev) : Dev := d.up (F.LOOP_STS_TRIP n)
  ((onesBelow 16 (d.get F.LOOP_TRIP_STS_TRIP)).any (fun j => bitOf (d.get (F.LOOP_TAXES_AXES j)) n))

/-- The inputs that a write of CLR clears. -/
def Dev.tripCleared (d : Dev) (m : Nat) : List Nat :=
  (onesBelow 16 m).filter (fun j => bitOf (d.get F.LOOP_TRIP_STS_TRIP) j && !bitOf d.loop.tripIn j)

theorem Dev.tripClr_eq (d : Dev) (m : Nat) :
    d.tripClr m = Dev.each (List.range 32) Dev.tripShow (Dev.each (d.tripCleared m) Dev.tripGone d) := (rfl)

theorem Dev.tripGone_regs (j : Nat) (d : Dev) :
    (d.tripGone j).regs = (d.put F.LOOP_TRIP_STS_TRIP (setBit (d.get F.LOOP_TRIP_STS_TRIP) j false)).regs :=
  foldl_keep Dev.regs (fun d n => d.causeOff .trip (j * 128 + n)) (fun _ _ => rfl) _ _

theorem Dev.tripGone_sts (j : Nat) (d : Dev) :
    (d.tripGone j).get F.LOOP_TRIP_STS_TRIP = setBit (d.get F.LOOP_TRIP_STS_TRIP) j false := by
  have low : d.get F.LOOP_TRIP_STS_TRIP < 2 ^ 16 := bitsOf_lt _ 15 0
  rw [Dev.get_of_regs (d.tripGone_regs j), Dev.get_put_same _ _ _ tripSts_ok]
  exact Nat.mod_eq_of_lt ((setBit_clear_le _ _).trans_lt low)

theorem Dev.tripsGone_sts (l : List Nat) (d : Dev) (j : Nat) : bitOf ((Dev.each l Dev.tripGone d).get F.LOOP_TRIP_STS_TRIP) j =
    if j ∈ l then false else bitOf (d.get F.LOOP_TRIP_STS_TRIP) j :=
  Dev.each_keyed (fun d j => bitOf (d.get F.LOOP_TRIP_STS_TRIP) j) Dev.tripGone (fun _ => false)
    (fun n d => by rw [Dev.tripGone_sts, bitOf_setBit_clear]) (fun n k d ne => by rw [Dev.tripGone_sts, bitOf_setBit_clear_ne _ ne])
    (fun _ => rfl) l j d

theorem Dev.tripsGone_sameRegs (l : List Nat) (d : Dev) : d.sameRegs (Dev.each l Dev.tripGone d) [R.LOOP_TRIP_STS] := fun o ho =>
  foldl_keep (fun d => d.rd o) _ (fun d n => (Dev.rd_of_regs (d.tripGone_regs n) o).trans
    (Dev.rd_put_ne d (f := F.LOOP_TRIP_STS_TRIP) _ (List.ne_of_not_mem_cons ho))) l d

/-- Showing TRIP of the axes touches their status alone, and there TRIP alone. -/
theorem Dev.tripShows_rd (l : List Nat) (d : Dev) {o : Nat} (h : ∀ n ∈ l, o ≠ R.LOOP_STS n) : (Dev.each l Dev.tripShow d).rd o = d.rd o :=
  foldl_keep_mem (fun d => d.rd o) _ l (fun n hn d => Dev.rd_put_ne d (f := F.LOOP_STS_TRIP n) _ (h n hn)) d

theorem Dev.tripShows_energised (l : List Nat) (d : Dev) (m : Nat) : (Dev.each l Dev.tripShow d).energised m = d.energised m := by
  refine foldl_keep (fun d => d.energised m) _ (fun d n => Dev.flag_of_get (d.get_up_of_apart (f := F.LOOP_STS_TRIP n)
    ⟨le_refl 4, show 4 < 32 by decide⟩ (fun _ => Or.inr (show 0 < 4 by decide)) _)) l d

theorem tripClr_clears (s : State) (m : BitVec 16) : leads (.tripClr m) s fun x =>
    (∀ j : Fin 16, bitOf (x.dev.get F.LOOP_TRIP_STS_TRIP) j =
      (bitOf (s.dev.get F.LOOP_TRIP_STS_TRIP) j && !(bitOf m.toNat j && !bitOf s.dev.loop.tripIn j))) ∧
    (∀ o, o ≠ R.LOOP_TRIP_STS → (∀ n < 32, o ≠ R.LOOP_STS n) → x.dev.rd o = s.dev.rd o) ∧
    (∀ n : Fin 32, x.dev.energised n = s.dev.energised n) ∧ s.sameMem x := by
  refine ⟨s.upd (Dev.tripClr m.toNat), rfl, ?_⟩
  rw [State.upd, Dev.tripClr_eq]
  set d := Dev.each (s.dev.tripCleared m.toNat) Dev.tripGone s.dev with hd
  have gone : s.dev.sameRegs d [R.LOOP_TRIP_STS] := Dev.tripsGone_sameRegs _ _
  refine ⟨fun j => ?_, fun o sts axes => ?_, fun n => ?_, rfl, rfl, rfl, rfl⟩
  · have shown : (Dev.each (List.range 32) Dev.tripShow d).get F.LOOP_TRIP_STS_TRIP = d.get F.LOOP_TRIP_STS_TRIP :=
      Dev.get_of_rd (Dev.tripShows_rd _ _ fun n _ => by simp only [F.LOOP_TRIP_STS_TRIP, R.LOOP_STS]; omega)
    have mem : j.val ∈ s.dev.tripCleared m.toNat ↔
        (bitOf (s.dev.get F.LOOP_TRIP_STS_TRIP) j && (bitOf m.toNat j && !bitOf s.dev.loop.tripIn j)) = true := by
      simp only [Dev.tripCleared, onesBelow, List.mem_filter, List.mem_range, j.isLt, true_and, Bool.and_eq_true]
      tauto
    show bitOf ((Dev.each (List.range 32) Dev.tripShow d).get F.LOOP_TRIP_STS_TRIP) j = _
    rw [shown, hd, Dev.tripsGone_sts]
    simp only [mem]
    cases bitOf (s.dev.get F.LOOP_TRIP_STS_TRIP) j <;> simp
  · exact (Dev.tripShows_rd _ _ fun n hn => axes n (List.mem_range.mp hn)).trans (gone o (by simpa using sts))
  · refine (Dev.tripShows_energised _ _ n).trans (gone.flag ?_)
    simp only [F.LOOP_STS_ENERGISED, R.LOOP_TRIP_STS, List.mem_singleton]
    omega

end Sys2Proof.Machine
end

section
/-! PWM: a valley loads the duties, the ramps of a half cycle, and the pulse rule (10 R255 to R257). -/
namespace Sys2Proof.Machine
open Sys2Proof.Config

/-! The ramps (R255). -/

/-- The first m ramps hold what the h % k longer ones at the end give them. -/
theorem rampLens_take_sum (h k m : Nat) :
    ((List.range m).map (fun i => h / k + (if k - h % k ≤ i then 1 else 0))).sum = m * (h / k) + (m - (k - h % k)) := by
  induction m with
  | zero => simp
  | succ m ih =>
    rw [List.range_succ, List.map_append, List.sum_append, ih, Nat.succ_mul]
    simp only [List.map_cons, List.map_nil, List.sum_cons, List.sum_nil]
    split <;> omega

theorem rampLens_outcome (h k : Nat) (pos : 0 < k) :
    (rampLens h k).sum = h ∧ (rampLens h k).length = k ∧ ∀ x ∈ rampLens h k, x = h / k ∨ x = h / k + 1 := by
  refine ⟨?_, by simp [rampLens], fun x hx => ?_⟩
  · have rest := Nat.mod_lt h pos
    have whole := Nat.div_add_mod h k
    rw [rampLens, rampLens_take_sum]
    omega
  · obtain ⟨i, -, rfl⟩ := List.mem_map.mp hx
    split
    · exact Or.inr rfl
    · exact Or.inl rfl

/-! The pulse rule (R257). -/

theorem cmpOf_cases (duty len minp : Nat) : cmpOf duty len minp = 0 ∨ cmpOf duty len minp = len ∨
    ((minp + 1) / 2 ≤ cmpOf duty len minp ∧ cmpOf duty len minp + (minp + 1) / 2 ≤ len) := by
  unfold cmpOf
  generalize (duty * len + 0x4000) / 0x8000 = c
  dsimp only
  split
  · exact Or.inl rfl
  · split
    · exact Or.inr (Or.inl rfl)
    · exact Or.inr (Or.inr ⟨by omega, by omega⟩)

/-! A valley (R256). -/

/-- A field reads what was put where it fits. -/
theorem Dev.get_put_fits (d : Dev) {f : Fld} {v : Nat} (ok : f.ok) (h : v < 2 ^ (f.hi + 1 - f.lo)) : (d.put f v).get f = v :=
  (d.get_put_same f v ok).trans (Nat.mod_eq_of_lt h)

/-- The two halves of a word. -/
def Dev.pairPut (f g : Fld) (v w : Nat) (d : Dev) : Dev := (d.put f v).put g w

theorem Dev.pairPut_ne (d : Dev) {f g h : Fld} (v w : Nat) (ne : h.reg ≠ f.reg) (ne' : h.reg ≠ g.reg) :
    (d.pairPut f g v w).get h = d.get h := (Dev.get_put_ne _ w ne').trans (Dev.get_put_ne d v ne)

theorem Dev.pairPut_outcome (d : Dev) {f g : Fld} {v w : Nat} (okf : f.ok) (okg : g.ok) (apart : g.apart f)
    (fitv : v < 2 ^ (f.hi + 1 - f.lo)) (fitw : w < 2 ^ (g.hi + 1 - g.lo)) :
    (d.pairPut f g v w).get f = v ∧ (d.pairPut f g v w).get g = w :=
  ⟨(Dev.get_put_of_apart _ okg apart w).trans (d.get_put_fits okf fitv), Dev.get_put_fits _ okg fitw⟩

section Duties
variable (n : Nat) (l : List Nat) (d : Dev)

/-- The first two half-bridges' duties of a list are shown; one that the list has not shows 0. -/
def Dev.duties01 : Dev := d.pairPut (F.LOOP_DUTY01_DUTY0 n) (F.LOOP_DUTY01_DUTY1 n) (l.getD 0 0) (l.getD 1 0)

/-- The duties of a list are shown. -/
def Dev.dutiesShown : Dev := (d.duties01 n l).pairPut (F.LOOP_DUTY23_DUTY2 n) (F.LOOP_DUTY23_DUTY3 n) (l.getD 2 0) (l.getD 3 0)

theorem Dev.dutiesShown_time : (d.dutiesShown n l).time = d.time := by
  simp only [Dev.dutiesShown, Dev.duties01, Dev.pairPut, Dev.put_time]

theorem Dev.dutiesShown_sameRegs : d.sameRegs (d.dutiesShown n l) [R.LOOP_DUTY01 n, R.LOOP_DUTY23 n] :=
  ((((Dev.sameRegs.refl d _).put (f := F.LOOP_DUTY01_DUTY0 n) _ (.head _)).put (f := F.LOOP_DUTY01_DUTY1 n) _ (.head _)).put
    (f := F.LOOP_DUTY23_DUTY2 n) _ (.tail _ (.head _))).put (f := F.LOOP_DUTY23_DUTY3 n) _ (.tail _ (.head _))

variable {l} (small : ∀ v ∈ l, v ≤ 0x8000)
include small

theorem duty_fits (i : Nat) : l.getD i 0 < 2 ^ 16 := by
  rw [List.getD_eq_getElem?_getD]
  cases e : l[i]? with
  | none => exact Nat.two_pow_pos 16
  | some v => exact (small v (List.mem_of_getElem? e)).trans_lt (by decide)

theorem Dev.dutiesShown_duties : (d.dutiesShown n l).get (F.LOOP_DUTY01_DUTY0 n) = l.getD 0 0 ∧
    (d.dutiesShown n l).get (F.LOOP_DUTY01_DUTY1 n) = l.getD 1 0 ∧ (d.dutiesShown n l).get (F.LOOP_DUTY23_DUTY2 n) = l.getD 2 0 ∧
    (d.dutiesShown n l).get (F.LOOP_DUTY23_DUTY3 n) = l.getD 3 0 := by
  have words : R.LOOP_DUTY01 n ≠ R.LOOP_DUTY23 n := by simp [R.LOOP_DUTY01, R.LOOP_DUTY23]
  have lower : ∀ e f : Fld, e.lo = 0 → e.hi = 15 → f.lo = 16 → f.hi = 31 → e.ok ∧ f.ok ∧ f.apart e := fun e f h0 h1 h2 h3 => by
    refine ⟨⟨?_, ?_⟩, ⟨?_, ?_⟩, fun _ => Or.inr ?_⟩ <;> omega
  obtain ⟨ok0, ok1, apart01⟩ := lower (F.LOOP_DUTY01_DUTY0 n) (F.LOOP_DUTY01_DUTY1 n) rfl rfl rfl rfl
  obtain ⟨ok2, ok3, apart23⟩ := lower (F.LOOP_DUTY23_DUTY2 n) (F.LOOP_DUTY23_DUTY3 n) rfl rfl rfl rfl
  obtain ⟨d0, d1⟩ := d.pairPut_outcome ok0 ok1 apart01 (duty_fits small 0) (duty_fits small 1)
  obtain ⟨d2, d3⟩ := (d.duties01 n l).pairPut_outcome ok2 ok3 apart23 (duty_fits small 2) (duty_fits small 3)
  exact ⟨(Dev.pairPut_ne _ _ _ words words).trans d0, (Dev.pairPut_ne _ _ _ words words).trans d1, d2, d3⟩

end Duties

/-- The compare values of a list of duties, for the ramps of a half cycle (R255, R257). -/
def Dev.cmpsOf (d : Dev) (n : Nat) (l : List Nat) : List Nat :=
  l.flatMap (fun v => (d.pwmLens n).map (fun len => cmpOf v len (d.get (F.LOOP_PCFG_DT n) + d.get (F.LOOP_PCFG_MINP n))))

/-- The compare values rest on the half cycle and PCFG alone. -/
theorem Dev.cmpsOf_congr {d e : Dev} {n : Nat} (tb : e.time.tb = d.time.tb) (cfg : e.rd (R.LOOP_PCFG n) = d.rd (R.LOOP_PCFG n)) (l : List Nat) :
    e.cmpsOf n l = d.cmpsOf n l := by
  have k : e.get (F.LOOP_PCFG_K n) = d.get (F.LOOP_PCFG_K n) := Dev.get_of_rd cfg
  have dt : e.get (F.LOOP_PCFG_DT n) = d.get (F.LOOP_PCFG_DT n) := Dev.get_of_rd cfg
  have minp : e.get (F.LOOP_PCFG_MINP n) = d.get (F.LOOP_PCFG_MINP n) := Dev.get_of_rd cfg
  simp only [Dev.cmpsOf, Dev.pwmLens, Dev.pwmK, tb, k, dt, minp]

/-- What an axis takes at a valley. -/
def LoopAx.valley (clk : Nat) (cmp : List Nat) (live : Bool) (a : LoopAx) : LoopAx :=
  { a with shadow := none, loadClk := clk, cmpOld := a.cmp, cmp := cmp, off := !live }

/-- The device at a valley, with the duties shown. -/
def Dev.atValley (n : Nat) (l : List Nat) (d : Dev) : Dev := (d.tick ((d.nextValley n + 1) / 2 - d.time.ticks)).dutiesShown n l

theorem Dev.pwmValley_loads {d : Dev} {n : Nat} {l : List Nat} (waits : (d.lax n).shadow = some l) : d.pwmValley n =
    (d.atValley n l).modLoop n (LoopAx.valley (d.nextValley n) ((d.atValley n l).cmpsOf n l) ((d.atValley n l).energised n)) := by
  rw [Dev.pwmValley, waits]
  rfl

theorem Dev.atValley_sameRegs (d : Dev) (n : Nat) (l : List Nat) : d.sameRegs (d.atValley n l) [R.LOOP_DUTY01 n, R.LOOP_DUTY23 n] :=
  ((Dev.sameRegs.refl d _).of_regs (Dev.ran_regs (d.ran_tick _))).trans (Dev.dutiesShown_sameRegs n l _)

/-- In the off pattern neither side of a half-bridge is on (R258). -/
theorem Dev.pwmOn_off {d : Dev} {n : Nat} (off : (d.lax n).off = true) (b clk : Nat) : d.pwmOn n b clk = (false, false) := if_pos off

theorem pwmValley_loads (s : State) (n : Fin 32) (l : List Nat) (waits : (s.dev.lax n).shadow = some l) (small : ∀ v ∈ l, v ≤ 0x8000) :
    leads (.pwmValley n) s fun x =>
    x.dev.get (F.LOOP_DUTY01_DUTY0 n) = l.getD 0 0 ∧ x.dev.get (F.LOOP_DUTY01_DUTY1 n) = l.getD 1 0 ∧
    x.dev.get (F.LOOP_DUTY23_DUTY2 n) = l.getD 2 0 ∧ x.dev.get (F.LOOP_DUTY23_DUTY3 n) = l.getD 3 0 ∧
    (x.dev.lax n).shadow = none ∧ (x.dev.lax n).off = !s.dev.energised n ∧ (x.dev.lax n).loadClk = s.dev.nextValley n ∧
    (x.dev.lax n).cmp = l.flatMap (fun v => (s.dev.pwmLens n).map (fun len =>
      cmpOf v len (s.dev.get (F.LOOP_PCFG_DT n) + s.dev.get (F.LOOP_PCFG_MINP n)))) ∧
    (∀ b clk : Nat, (x.dev.lax n).off = true → x.dev.pwmOn n b clk = (false, false)) ∧
    s.dev.sameRegs x.dev [R.LOOP_DUTY01 n, R.LOOP_DUTY23 n] ∧ s.sameMem x := by
  have regs := s.dev.atValley_sameRegs n l
  have live : (s.dev.atValley n l).energised n = s.dev.energised n := regs.flag (by
    simp only [F.LOOP_STS_ENERGISED, R.LOOP_DUTY01, R.LOOP_DUTY23, List.mem_cons, List.not_mem_nil, or_false]
    omega)
  have cmps : (s.dev.atValley n l).cmpsOf n l = s.dev.cmpsOf n l := by
    have time : (s.dev.atValley n l).time.tb = s.dev.time.tb := (congrArg TimeSt.tb (Dev.dutiesShown_time ..)).trans (Dev.ran_tb (s.dev.ran_tick _))
    refine Dev.cmpsOf_congr time (regs _ ?_) l
    simp only [R.LOOP_PCFG, R.LOOP_DUTY01, R.LOOP_DUTY23, List.mem_cons, List.not_mem_nil, or_false]
    omega
  have loads := Dev.pwmValley_loads waits
  rw [live, cmps] at loads
  have ax : (s.dev.pwmValley n).lax n =
      ((s.dev.atValley n l).lax n).valley (s.dev.nextValley n) (s.dev.cmpsOf n l) (s.dev.energised n) := by
    rw [loads, Dev.modLoop_lax]
  have shown : (s.dev.pwmValley n).regs = (s.dev.atValley n l).regs := by rw [loads, Dev.modLoop_regs]
  obtain ⟨d0, d1, d2, d3⟩ := Dev.dutiesShown_duties n (s.dev.tick ((s.dev.nextValley n + 1) / 2 - s.dev.time.ticks)) small
  refine ⟨s.upd (Dev.pwmValley n), rfl, ?_⟩
  rw [State.upd]
  exact ⟨(Dev.get_of_regs shown _).trans d0, (Dev.get_of_regs shown _).trans d1, (Dev.get_of_regs shown _).trans d2,
    (Dev.get_of_regs shown _).trans d3, congrArg LoopAx.shadow ax, congrArg LoopAx.off ax, congrArg LoopAx.loadClk ax,
    congrArg LoopAx.cmp ax, fun b clk off => Dev.pwmOn_off off b clk, regs.of_regs shown, rfl, rfl, rfl, rfl⟩

end Sys2Proof.Machine
end

section
/-! The stages of the loops: the limit of the velocity stage, the current stage and its duties, VBUS and the overrun (10 R244, R250 to R254,
R266; 01 R35). -/
namespace Sys2Proof.Machine
open Sys2Proof.Config

/-! The velocity stage (R250). -/

theorem clampI_edge {lo hi i : Int} (h : clampI lo hi i ≠ i) : clampI lo hi i = lo ∨ clampI lo hi i = hi := by
  unfold clampI at h ⊢
  split
  · exact Or.inl rfl
  · split
    · exact Or.inr rfl
    · simp_all

/-- SAT as the stage shows it, with SAT_EVT where it rises. -/
def Dev.satShown (n : Nat) (sat : Bool) (d : Dev) : Dev :=
  (if sat ∧ d.flag (F.LOOP_STS_SAT n) = false then d.event0 (F.LOOP_EVT_SAT_EVT n) else d).up (F.LOOP_STS_SAT n) sat

/-- What the stage shows for an unlimited reference u: SAT where the limit holds u back, the velocity reference, and the current reference. -/
def Dev.velShown (n : Nat) (vref u iq : Int) (d : Dev) : Dev :=
  ((d.satShown n (decide (iq ≠ u))).puts (F.LOOP_VREF_VREF n) vref).puts (F.LOOP_IQREF_IQREF n) iq

/-- The limited current reference. -/
def Dev.iqLimited (d : Dev) (n : Nat) (u : Int) : Int := clampI (-d.gets (F.LOOP_ILIM_ILIM n)) (d.gets (F.LOOP_ILIM_ILIM n)) u

theorem Dev.velStage_eq (d : Dev) (n : Nat) : ∃ (vref u : Int) (f : LoopAx → LoopAx),
    d.velStage n = (d.velShown n vref u (d.iqLimited n u)).modLoop n f ∧ ∀ a, (f a).iqRef = d.iqLimited n u := by
  unfold Dev.velStage
  exact ⟨_, _, _, rfl, fun _ => rfl⟩

/-- A reference that is held back stands at the limit. -/
theorem Dev.iqLimited_edge {d : Dev} {n : Nat} {u : Int} (held : d.iqLimited n u ≠ u) :
    (d.iqLimited n u).natAbs = (d.gets (F.LOOP_ILIM_ILIM n)).natAbs := by
  rcases clampI_edge held with e | e
  · rw [Dev.iqLimited, e, Int.natAbs_neg]
  · rw [Dev.iqLimited, e]

section Limit
variable {d : Dev} {n : Nat} (pos : 0 ≤ d.gets (F.LOOP_ILIM_ILIM n)) (u : Int)
include pos

theorem Dev.iqLimited_le : (d.iqLimited n u).natAbs ≤ (d.gets (F.LOOP_ILIM_ILIM n)).natAbs := by
  obtain ⟨lo, hi⟩ := clampI_range (show -d.gets (F.LOOP_ILIM_ILIM n) ≤ d.gets (F.LOOP_ILIM_ILIM n) by omega) u
  rw [Dev.iqLimited]
  omega

theorem Dev.velShown_iqRef (vref : Int) :
    (d.velShown n vref u (d.iqLimited n u)).gets (F.LOOP_IQREF_IQREF n) = d.iqLimited n u := by
  obtain ⟨-, top⟩ := sInt_range (w := 32) (by decide) (d.get (F.LOOP_ILIM_ILIM n))
  have top' : d.gets (F.LOOP_ILIM_ILIM n) < 2 ^ 31 := top
  have le := d.iqLimited_le pos u
  refine Dev.gets_puts_same _ _ ⟨Nat.zero_le 31, show 31 < 32 by decide⟩ ?_ ?_
  · show -(2 ^ 31 : Int) ≤ _
    omega
  · show _ < (2 ^ 31 : Int)
    omega

end Limit

section Shown
variable (d : Dev) (n : Nat) (vref u iq : Int)

theorem Dev.velShown_flag {g : Fld} (vr : g.reg ≠ R.LOOP_VREF n) (iqr : g.reg ≠ R.LOOP_IQREF n) :
    (d.velShown n vref u iq).flag g = (d.satShown n (decide (iq ≠ u))).flag g :=
  Dev.flag_of_rd ((Dev.rd_put_ne _ _ iqr).trans (Dev.rd_put_ne _ _ vr))

theorem Dev.velShown_sat : (d.velShown n vref u iq).flag (F.LOOP_STS_SAT n) = decide (iq ≠ u) := by
  rw [Dev.velShown_flag _ _ _ _ _ (by simp [F.LOOP_STS_SAT, R.LOOP_VREF]) (by simp [F.LOOP_STS_SAT, R.LOOP_IQREF])]
  exact Dev.flag_up_same _ _ _ rfl (show 2 < 32 by decide)

/-- SAT_EVT is set where SAT rises. -/
theorem Dev.velShown_satEvt (held : iq ≠ u) (rise : d.flag (F.LOOP_STS_SAT n) = false) :
    (d.velShown n vref u iq).flag (F.LOOP_EVT_SAT_EVT n) = true := by
  have sts : (F.LOOP_EVT_SAT_EVT n).reg ≠ (F.LOOP_STS_SAT n).reg := by simp [F.LOOP_EVT_SAT_EVT, F.LOOP_STS_SAT]
  have report : (F.LOOP_EVT_SAT_EVT n).reg ≠ R.SYS_FAULT_EVT := by simp only [F.LOOP_EVT_SAT_EVT, R.SYS_FAULT_EVT]; omega
  rw [Dev.velShown_flag _ _ _ _ _ (by simp [F.LOOP_EVT_SAT_EVT, R.LOOP_VREF]) (by simp [F.LOOP_EVT_SAT_EVT, R.LOOP_IQREF]), Dev.satShown,
    Dev.flag_up_ne _ _ sts, if_pos ⟨decide_eq_true held, rise⟩]
  exact Dev.event0_flag _ ⟨rfl, show 0 < 24 by decide⟩ report

end Shown

theorem velStage_limits (d : Dev) (n : Fin 128) (pos : 0 ≤ d.gets (F.LOOP_ILIM_ILIM n)) :
    ((d.velStage n).gets (F.LOOP_IQREF_IQREF n)).natAbs ≤ (d.gets (F.LOOP_ILIM_ILIM n)).natAbs ∧
    ((d.velStage n).lax n).iqRef = (d.velStage n).gets (F.LOOP_IQREF_IQREF n) ∧
    ((d.velStage n).flag (F.LOOP_STS_SAT n) = true → ((d.velStage n).gets (F.LOOP_IQREF_IQREF n)).natAbs = (d.gets (F.LOOP_ILIM_ILIM n)).natAbs) ∧
    ((d.velStage n).flag (F.LOOP_STS_SAT n) = true → d.flag (F.LOOP_STS_SAT n) = false → (d.velStage n).flag (F.LOOP_EVT_SAT_EVT n) = true) := by
  obtain ⟨vref, u, f, stage, iqRef⟩ := d.velStage_eq n
  rw [stage, Dev.modLoop_gets, Dev.modLoop_flag, Dev.modLoop_flag, Dev.modLoop_lax, iqRef, Dev.velShown_iqRef pos, Dev.velShown_sat,
    decide_eq_true_iff]
  exact ⟨Dev.iqLimited_le pos u, rfl, Dev.iqLimited_edge, d.velShown_satEvt n vref u _⟩

/-! The current stage (R244, R251 to R254). -/

/-- A duty lies in 0 to 0x8000 (R254). -/
theorem dutyOf_range (num den : Int) : 0 ≤ dutyOf num den ∧ dutyOf num den ≤ 0x8000 := clampI_range (by decide) _

/-- What the stages and the valleys look at to tell whose turn it is. -/
def LoopAx.turn (a : LoopAx) : Bool × Nat × Option (List Nat) := (a.stageReady, a.bootLeft, a.shadow)

/-- What the current stage makes of its axis: integrators and the duties that wait for the valley. -/
def LoopAx.controlled (nd nq : Int) (l : List Nat) (a : LoopAx) : LoopAx := { a with intD := nd, intQ := nq, shadow := some l }

/-- The duties of the phases for a rotated voltage (va, vbeta) or, for a motor of one bridge, vq; free ones where VBUS is not above 0 (R254). -/
def Dev.stageDuties (motor : Nat) (vb va vbeta vq : Int) (d : Dev) : List Int × Dev :=
  let bridge := fun (v : Int) => [dutyOf v (2 * vb), dutyOf (-v) (2 * vb)]
  if vb ≤ 0 then (List.replicate 4 ((freeNat d.fresh.1 % 0x8001 : Nat) : Int), d.fresh.2)
  else match motor with
  | 0 =>
    let (a1, b1, c1) := (va, (-va + timesSqrt3 vbeta + 1).fdiv 2, (-va + timesSqrt3 (-vbeta) + 1).fdiv 2)
    let mid := max a1 (max b1 c1) + min a1 (min b1 c1)
    ([a1, b1, c1].map (fun v => dutyOf (2 * v - mid) (2 * vb)), d)
  | 1 => (bridge va ++ bridge vbeta, d)
  | _ => (bridge vq, d)

theorem Dev.stageDuties_outcome (motor : Nat) (vb va vbeta vq : Int) (d : Dev) :
    (∀ v ∈ (d.stageDuties motor vb va vbeta vq).1.map Int.toNat, v ≤ 0x8000) ∧ (d.stageDuties motor vb va vbeta vq).2.loop = d.loop := by
  have range : ∀ num den : Int, (dutyOf num den).toNat ≤ 0x8000 := fun num den => by
    have := dutyOf_range num den
    omega
  unfold Dev.stageDuties
  split
  · refine ⟨fun v hv => ?_, rfl⟩
    obtain ⟨x, hx, rfl⟩ := List.mem_map.mp hv
    rw [List.eq_of_mem_replicate hx]
    have := Nat.mod_lt (freeNat d.fresh.1) (show 0 < 0x8001 by decide)
    omega
  · split <;> simp [range]

/-- Of d and x: the current stage of an axis has run. The over-current run may have cost the axis its power; duties that fit wait for the
valley. -/
def Dev.stageRan (n : Nat) (d x : Dev) : Prop := ∃ (e : Dev) (run : Nat) (nd nq : Int) (l : List Nat),
  (d.modLoop n (fun a => { a with ocRun := run })).SameButPower e ∧ (∀ v ∈ l, v ≤ 0x8000) ∧ x = e.modLoop n (LoopAx.controlled nd nq l)

theorem Dev.currentStage_ran (d : Dev) (n : Nat) : d.stageRan n (d.currentStage n) := by
  unfold Dev.currentStage
  extract_lets a m motor
  split
  next is ovr _ =>
  extract_lets run d1 d2 ia ib th idr t ffq vb lim r bridge
  split
  next al be _ =>
  split
  next idm iq _ =>
  split
  next nd ud _ =>
  split
  next nq uq _ =>
  extract_lets vd rq vq nd' nq' d3 d4 th2 c s va vbeta
  split
  next duty d5 h =>
  have duties : d4.stageDuties motor vb va vbeta vq = (duty, d5) := h
  obtain ⟨fit, loop⟩ := Dev.stageDuties_outcome motor vb va vbeta vq d4
  rw [duties] at fit loop
  have shown : d4.loop = d2.loop := by simp only [d4, d3, Dev.put_loop, Dev.puts_loop]
  exact ⟨d5, run, nd', nq', _, (Dev.SameButPower.follow d1 _ _ _ _ _ _).trans (.of_loop (loop.trans shown)), fit, rfl⟩

/-! CURRENT_STAGE over the axes whose results are ready (R244, R254), and VBUS (R266). -/

/-- The axis's results are taken. -/
def Dev.stageTaken (n : Nat) (d : Dev) : Dev := d.modLoop n (fun a => { a with stageReady := false })

/-- What CURRENT_STAGE does for one of the axes whose results are ready: a charging stage less, or the current stage. -/
def Dev.stageStep (n : Nat) (d : Dev) : Dev :=
  if ((d.stageTaken n).lax n).bootLeft ≠ 0 then (d.stageTaken n).modLoop n (fun a => { a with bootLeft := a.bootLeft - 1 })
  else (d.stageTaken n).currentStage n

/-- The energised direct servo axes. -/
def Dev.liveAxes (d : Dev) : List Nat := d.servoAxes.filter d.energised

/-- VBUS lies below its minimum. -/
def Dev.vbusBelow (d : Dev) : Bool := decide (d.get F.ADC_VBUS_VOLT < d.get F.LOOP_GCFG_VBUS_MIN)

/-- VBUS below its minimum with an energised axis is counted; the low state ends where VBUS is not below it. -/
def Dev.vbusCounted (d : Dev) : Dev :=
  let e : Dev := { d with loop := { d.loop with vbusLowRun := if d.vbusBelow ∧ d.liveAxes ≠ [] then min 16 (d.loop.vbusLowRun + 1) else 0 } }
  if d.vbusBelow then e else e.causeOff .vbusLow 0

/-- VBUS above its maximum with an energised axis is a fault; the high state ends where VBUS is not above it. -/
def Dev.vbusLimited (v : Nat) (live : List Nat) (d : Dev) : Dev :=
  if v ≤ d.get F.LOOP_GCFG_VBUS_MAX then d.causeOff .vbusHigh 0
  else if d.causeOn .vbusHigh 0 ∧ live = [] then d
  else (d.raise F.LOOP_GEVT_VBUS_HIGH_EVT).fault .vbusHigh 0 3 (maskOf live ||| d.faultAxes .vbusHigh 0) true (some F.LOOP_GEVT_VBUS_HIGH_EVT)

/-- What CURRENT_STAGE makes of the VBUS sample after the stages. -/
def Dev.vbusWatched (d : Dev) : Dev := d.vbusCounted.vbusLimited (d.get F.ADC_VBUS_VOLT) d.liveAxes

/-- The direct servo axes whose results are ready. -/
def Dev.stageAxes (d : Dev) : List Nat := d.servoAxes.filter (fun n => (d.lax n).stageReady)

theorem Dev.currentStages_eq {d : Dev} (some : d.stageAxes ≠ []) (awake : d.inPark = false) :
    d.currentStages = (Dev.each d.stageAxes Dev.stageStep d).vbusWatched :=
  if_neg fun h => h.elim some (by simp [awake])

theorem Dev.nodup_stageAxes (d : Dev) : d.stageAxes.Nodup := (List.nodup_range.filter _).filter _

theorem Dev.mem_stageAxes {d : Dev} {n : Nat} (lt : n < 32) (direct : d.topo n = 1) (ready : (d.lax n).stageReady = true) : n ∈ d.stageAxes := by
  simp [Dev.stageAxes, Dev.servoAxes, lt, direct, ready]

theorem Dev.vbusCounted_lax (d : Dev) (m : Nat) : d.vbusCounted.lax m = d.lax m := by
  unfold Dev.vbusCounted
  dsimp only
  split <;> rfl

theorem Dev.vbusLimited_sameButPower (v : Nat) (live : List Nat) (d : Dev) : d.SameButPower (d.vbusLimited v live) := by
  unfold Dev.vbusLimited
  split
  · exact .of_axes fun _ => rfl
  · split
    · exact .of_axes fun _ => rfl
    · exact (Dev.SameButPower.of_loop (d.raise_loop _)).trans (.fault _ _ _ _ _ _ _)

theorem Dev.vbusWatched_sameButPower (d : Dev) : d.SameButPower d.vbusWatched :=
  (Dev.SameButPower.of_axes d.vbusCounted_lax).trans (Dev.vbusLimited_sameButPower _ _ _)

/-- From what an axis had to what it has: its results are taken, and duties wait or a charging stage is over. -/
def LoopAx.staged (a b : Bool × Nat × Option (List Nat)) : Prop :=
  b.1 = false ∧ (a.2.1 = 0 → ∃ l, b.2.2 = some l ∧ ∀ v ∈ l, v ≤ 0x8000) ∧ (a.2.1 ≠ 0 → b.2.1 + 1 = a.2.1)

section Ran
variable {n : Nat} {d x : Dev} (h : d.stageRan n x)
include h

theorem Dev.stageRan.own : ∃ l, ((x.lax n).turn = ((d.lax n).stageReady, (d.lax n).bootLeft, some l)) ∧ ∀ v ∈ l, v ≤ 0x8000 := by
  obtain ⟨e, run, nd, nq, l, power, fit, rfl⟩ := h
  have kept : (e.lax n).turn = (d.lax n).turn := by rw [power.keep LoopAx.turn (fun _ _ => rfl), Dev.modLoop_lax]; rfl
  obtain ⟨ready, boot, -⟩ : (e.lax n).stageReady = (d.lax n).stageReady ∧ (e.lax n).bootLeft = (d.lax n).bootLeft ∧ _ := by
    simpa only [LoopAx.turn, Prod.mk.injEq] using kept
  exact ⟨l, by rw [Dev.modLoop_lax, ← ready, ← boot]; rfl, fit⟩

theorem Dev.stageRan.other {k : Nat} (ne : k ≠ n) : (x.lax k).turn = (d.lax k).turn := by
  obtain ⟨e, run, nd, nq, l, power, -, rfl⟩ := h
  rw [Dev.modLoop_lax_ne _ _ ne, power.keep LoopAx.turn (fun _ _ => rfl), Dev.modLoop_lax_ne _ _ ne]

end Ran

theorem Dev.stageStep_own (n : Nat) (d : Dev) : LoopAx.staged (d.lax n).turn ((d.stageStep n).lax n).turn := by
  have taken : (d.stageTaken n).lax n = { d.lax n with stageReady := false } := Dev.modLoop_lax _ _ _
  unfold Dev.stageStep
  split
  next boot =>
    rw [Dev.modLoop_lax, taken]
    rw [taken] at boot
    exact ⟨rfl, fun zero => absurd zero boot, fun _ => Nat.sub_add_cancel (Nat.pos_of_ne_zero boot)⟩
  next ran =>
    obtain ⟨l, turn, fit⟩ := (Dev.currentStage_ran (d.stageTaken n) n).own
    rw [turn, taken]
    rw [taken] at ran
    exact ⟨rfl, fun _ => ⟨l, rfl, fit⟩, fun boot => absurd boot ran⟩

theorem Dev.stageStep_other {n k : Nat} (ne : k ≠ n) (d : Dev) : ((d.stageStep n).lax k).turn = (d.lax k).turn := by
  have taken : (d.stageTaken n).lax k = d.lax k := Dev.modLoop_lax_ne _ _ ne
  unfold Dev.stageStep
  split
  · rw [Dev.modLoop_lax_ne _ _ ne, taken]
  · rw [(Dev.currentStage_ran _ n).other ne, taken]

/-- Each of the axes has its stage once. -/
theorem Dev.each_staged {l : List Nat} (nodup : l.Nodup) {n : Nat} (hn : n ∈ l) (d : Dev) :
    LoopAx.staged (d.lax n).turn ((Dev.each l Dev.stageStep d).lax n).turn := by
  obtain ⟨before, after, rfl⟩ := List.append_of_mem hn
  obtain ⟨fresh, -⟩ := List.nodup_cons.mp (List.nodup_middle.mp nodup)
  have kept : ∀ part : List Nat, n ∉ part → ∀ d : Dev, ((Dev.each part Dev.stageStep d).lax n).turn = (d.lax n).turn := fun part out =>
    foldl_keep_mem (fun d => (d.lax n).turn) _ part (fun k hk d => d.stageStep_other (ne_of_mem_of_not_mem hk out).symm)
  rw [Dev.each, List.foldl_append, List.foldl_cons, ← Dev.each, ← Dev.each, kept after fun h => fresh (List.mem_append_right _ h),
    ← kept before fun h => fresh (List.mem_append_left _ h)]
  exact Dev.stageStep_own n _

theorem Dev.currentStages_staged {d : Dev} (awake : d.inPark = false) {n : Nat} (lt : n < 32) (direct : d.topo n = 1)
    (ready : (d.lax n).stageReady = true) : LoopAx.staged (d.lax n).turn (d.currentStages.lax n).turn := by
  have mem := Dev.mem_stageAxes lt direct ready
  rw [Dev.currentStages_eq (List.ne_nil_of_mem mem) awake, (Dev.vbusWatched_sameButPower _).keep LoopAx.turn (fun _ _ => rfl)]
  exact Dev.each_staged d.nodup_stageAxes mem d

theorem currentStage_runs (s : State) (awake : s.dev.inPark = false) : leads .currentStage s fun x =>
    (∀ n : Fin 32, s.dev.topo n = 1 → (s.dev.lax n).stageReady = true → (x.dev.lax n).stageReady = false ∧
      ((s.dev.lax n).bootLeft = 0 → ∃ l, (x.dev.lax n).shadow = some l ∧ ∀ v ∈ l, v ≤ 0x8000) ∧
      ((s.dev.lax n).bootLeft ≠ 0 → (x.dev.lax n).bootLeft + 1 = (s.dev.lax n).bootLeft)) ∧ s.sameMem x :=
  ⟨s.upd Dev.currentStages, rfl, fun n direct ready => Dev.currentStages_staged awake n.isLt direct ready, rfl, rfl, rfl, rfl⟩

theorem vbusLow_faults (s : State) (sixteen : s.dev.loop.vbusLowRun = 16) (fresh : s.dev.causeOn .vbusLow 0 = false) :
    leads .vbusLow s fun x => x.dev.flag F.LOOP_GEVT_VBUS_LOW_EVT = true ∧
      (∃ r ∈ x.dev.faults, r.kind = FaultKind.vbusLow ∧ r.cls = 2 ∧ r.axes = maskOf s.dev.servoAxes ∧ r.cause = true) ∧ s.sameMem x := by
  have e : s.dev.vbusLow = (s.dev.raise F.LOOP_GEVT_VBUS_LOW_EVT).fault .vbusLow 0 2 (maskOf s.dev.servoAxes) true
      (some F.LOOP_GEVT_VBUS_LOW_EVT) := by
    rw [Dev.vbusLow, if_pos sixteen, Dev.follow, if_pos rfl, fresh]
    rfl
  refine ⟨s.upd Dev.vbusLow, rfl, ?_⟩
  rw [State.upd, e]
  refine ⟨?_, ⟨_, Dev.mem_fault_self _ 0 2 _ true _ (by decide), rfl, rfl, rfl, rfl⟩, rfl, rfl, rfl, rfl⟩
  exact ((Dev.fault_sameRegs_low _ _ _ _ _ _ (by decide)).flag (by decide)).trans (s.dev.raise_flag _ ⟨rfl, by decide⟩)

/-! LOOP_OVERRUN (01 R35, Table 1.9). -/

/-- What LOOP_OVERRUN discards: the duties of the late stage, or the outputs of the late cycle. -/
def Dev.lateDiscarded (cur : Bool) (d : Dev) : Dev :=
  if cur then Dev.each d.servoAxes (fun n d => d.modLoop n (fun a => { a with shadow := none })) d
    else Dev.each d.axisList (fun n d => d.modLoop n (fun a => { a with iqRef := a.prevIq, ffD := a.prevFfD, ffQ := a.prevFfQ })) d

theorem Dev.overrun_eq (cur : Bool) (d : Dev) : d.overrun cur = (((d.lateDiscarded cur).raise F.LOOP_GEVT_OVERRUN_EVT).fault .loopOverrun 0 3
    allAxes false (some F.LOOP_GEVT_OVERRUN_EVT)).relinquish true := (rfl)

/-- The previous current reference holds. -/
theorem Dev.lateDiscarded_iqRef (d : Dev) {n : Nat} (hn : n ∈ d.axisList) : ((d.lateDiscarded false).lax n).iqRef = (d.lax n).prevIq := by
  have each := Dev.each_keyed (fun d n => ((d.lax n).iqRef, (d.lax n).prevIq))
    (fun n d => d.modLoop n (fun a => { a with iqRef := a.prevIq, ffD := a.prevFfD, ffQ := a.prevFfQ })) (fun p => (p.2, p.2))
    (fun n d => by rw [Dev.modLoop_lax]) (fun n k d ne => by rw [Dev.modLoop_lax_ne _ _ ne]) (fun _ => rfl) d.axisList n d
  rw [if_pos hn] at each
  exact congrArg Prod.fst each

theorem Dev.overrun_sameButPower (cur : Bool) (d : Dev) : (d.lateDiscarded cur).SameButPower (d.overrun cur) := by
  rw [Dev.overrun_eq]
  exact (((Dev.SameButPower.of_loop (Dev.raise_loop _ _)).trans (.fault _ _ _ _ _ _ _)).trans (.relinquish _ _))

theorem Dev.overrun_cut (cur : Bool) (d : Dev) {n : Nat} (hn : n < 128) : (d.overrun cur).cut n := by
  rw [Dev.overrun_eq]
  exact Dev.relinquish_keeps_cut _ _ hn (Dev.fault_cut _ _ _ _ _ _ _ (by decide) (mem_allAxes hn))

theorem Dev.overrun_off (cur : Bool) (d : Dev) {n : Nat} (hn : n < 32) : ((d.overrun cur).lax n).off = true := by
  rw [Dev.overrun_eq]
  exact (Dev.SameButPower.relinquish _ _).off (Dev.fault_off _ _ _ _ _ _ _ (by decide) hn (mem_allAxes (by omega)))

theorem Dev.overrun_flag (cur : Bool) (d : Dev) : (d.overrun cur).flag F.LOOP_GEVT_OVERRUN_EVT = true := by
  have apart : ¬ settles F.LOOP_GEVT_OVERRUN_EVT.reg := not_settles_of_apart (by decide) (by decide) (by decide)
  rw [Dev.overrun_eq]
  refine (Dev.flag_of_rd ((Dev.relinquish_rd _ _ apart (by decide)).trans (Dev.fault_rd _ _ _ _ _ _ _ apart))).trans ?_
  exact Dev.raise_flag _ _ ⟨rfl, by decide⟩

theorem Dev.overrun_faults (cur : Bool) (d : Dev) :
    ∃ r ∈ (d.overrun cur).faults, r.kind = FaultKind.loopOverrun ∧ r.cls = 3 ∧ r.axes = allAxes := by
  rw [Dev.overrun_eq]
  exact ⟨_, Dev.mem_relinquish _ _ (Dev.mem_fault_self _ 0 3 allAxes false _ (by decide)) (by decide) (by decide) (by decide), rfl, rfl, rfl⟩

theorem loopOverrun_stops (s : State) (cur : Bool) : leads (.loopOverrun cur) s fun x =>
    x.dev.flag F.LOOP_GEVT_OVERRUN_EVT = true ∧ (∀ n : Fin 128, x.dev.flag (F.LOOP_CTL_EN n) = false) ∧
    (∀ n : Fin 32, x.dev.energised n = false ∧ (x.dev.lax n).off = true) ∧
    (∃ r ∈ x.dev.faults, r.kind = FaultKind.loopOverrun ∧ r.cls = 3 ∧ r.axes = allAxes) ∧
    (cur = false → ∀ n ∈ s.dev.axisList, (x.dev.lax n).iqRef = (s.dev.lax n).prevIq) ∧
    s.sameMem x := by
  refine ⟨s.upd (Dev.overrun cur), rfl, Dev.overrun_flag _ _, fun n => (Dev.overrun_cut _ _ n.isLt).1, fun n =>
    ⟨(Dev.overrun_cut _ _ (n.isLt.trans (by decide))).2 n.isLt, Dev.overrun_off _ _ n.isLt⟩, Dev.overrun_faults _ _, fun late n hn => ?_,
    rfl, rfl, rfl, rfl⟩
  rw [State.upd, (Dev.overrun_sameButPower _ _).keep LoopAx.iqRef (fun _ _ => rfl), late]
  exact s.dev.lateDiscarded_iqRef hn

/-- Settles O32, clause by clause: trips, valleys, ramps, then the stages, VBUS and the overrun. -/
theorem loopProtection : Obligations.LoopProtection := by
  unfold Obligations.LoopProtection
  exact ⟨⟨tripInput_trips, tripInput_waits, tripClr_clears, pwmValley_loads, rampLens_outcome, cmpOf_cases⟩,
    velStage_limits, currentStage_runs, vbusLow_faults, loopOverrun_stops⟩

end Sys2Proof.Machine
end

section
/-! SOLV: a context's hidden state, the solver's instant, and what drawing free values leaves (12 R303; log entry 16). -/
namespace Sys2Proof.Machine
open Sys2Proof.Config

/-! A context. -/

@[simp] theorem Dev.modCtx_regs (d : Dev) (c : Nat) (f : SolvCtx → SolvCtx) : (d.modCtx c f).regs = d.regs := (rfl)
@[simp] theorem Dev.modCtx_rd (d : Dev) (c o : Nat) (f : SolvCtx → SolvCtx) : (d.modCtx c f).rd o = d.rd o := (rfl)
@[simp] theorem Dev.modCtx_get (d : Dev) (c : Nat) (f : SolvCtx → SolvCtx) (g : Fld) : (d.modCtx c f).get g = d.get g := (rfl)
@[simp] theorem Dev.modCtx_flag (d : Dev) (c : Nat) (f : SolvCtx → SolvCtx) (g : Fld) : (d.modCtx c f).flag g = d.flag g := (rfl)
@[simp] theorem Dev.modCtx_now (d : Dev) (c : Nat) (f : SolvCtx → SolvCtx) : (d.modCtx c f).solv.now = d.solv.now := (rfl)
@[simp] theorem Dev.modCtx_scheds (d : Dev) (c : Nat) (f : SolvCtx → SolvCtx) : (d.modCtx c f).solv.scheds = d.solv.scheds := (rfl)
@[simp] theorem Dev.modCtx_sctx (d : Dev) (c : Nat) (f : SolvCtx → SolvCtx) : (d.modCtx c f).sctx c = f (d.sctx c) := tget_tmod_same _ _ _

theorem Dev.modCtx_sctx_ne (d : Dev) {c k : Nat} (f : SolvCtx → SolvCtx) (h : k ≠ c) : (d.modCtx c f).sctx k = d.sctx k :=
  tblGet_mod_ne _ _ f h

theorem Dev.sctx_of_solv {d e : Dev} (h : e.solv = d.solv) (c : Nat) : e.sctx c = d.sctx c := by rw [Dev.sctx, Dev.sctx, h]

theorem Dev.solvTick_of_regs {d e : Dev} (h : e.regs = d.regs) : e.solvTick = d.solvTick := by
  simp only [Dev.solvTick, Dev.flag_of_regs h]

/-! The solver's instant. -/

theorem Dev.ran_solv {d e : Dev} (h : d.ran e) : e.solv = d.solv := by
  obtain ⟨_, _, _, _, _, rfl, -⟩ := h
  rfl

theorem Dev.runTo_solv (d : Dev) (ns : Nat) : (d.runTo ns).solv = d.solv := Dev.ran_solv (d.ran_runTo ns)

@[simp] theorem Dev.solvTime_regs (d : Dev) (t : Nat) : (d.solvTime t).regs = d.regs := d.runTo_regs _
@[simp] theorem Dev.solvTime_flag (d : Dev) (t : Nat) (f : Fld) : (d.solvTime t).flag f = d.flag f := Dev.flag_of_regs (d.solvTime_regs t) f
@[simp] theorem Dev.solvTime_now (d : Dev) (t : Nat) : (d.solvTime t).solv.now = t := (rfl)

theorem Dev.solvTime_solv (d : Dev) (t : Nat) : (d.solvTime t).solv = { d.solv with now := t } :=
  congrArg (fun q : SolvSt => { q with now := t }) (d.runTo_solv _)

@[simp] theorem Dev.solvTime_sctx (d : Dev) (t c : Nat) : (d.solvTime t).sctx c = d.sctx c := by
  rw [Dev.sctx, Dev.sctx, d.solvTime_solv]

/-! Free values. -/

/-- Of d and e: nothing but free values have been drawn. -/
def Dev.drew (d e : Dev) : Prop := ∃ n, e = { d with free := n }

theorem Dev.drew_refl (d : Dev) : d.drew d := ⟨d.free, rfl⟩

theorem Dev.drew_trans {d e f : Dev} (h : d.drew e) (k : e.drew f) : d.drew f := by
  obtain ⟨_, rfl⟩ := h
  obtain ⟨n, rfl⟩ := k
  exact ⟨n, rfl⟩

theorem Dev.drew_draw (d : Dev) (n : Nat) : d.drew (d.draw n).2 := ⟨_, rfl⟩

theorem Dev.drew_regs {d e : Dev} (h : d.drew e) : e.regs = d.regs := by
  obtain ⟨_, rfl⟩ := h
  rfl

theorem Dev.drew_solv {d e : Dev} (h : d.drew e) : e.solv = d.solv := by
  obtain ⟨_, rfl⟩ := h
  rfl

theorem Dev.drew_quant (d : Dev) (sh : Nat) (x : Int) : d.drew (d.quant sh x).2 := by
  simp only [Dev.quant]
  split
  · exact d.drew_refl
  · split
    · exact d.drew_refl
    · exact ⟨_, rfl⟩

end Sys2Proof.Machine
end

section
/-! The start of a solve: what the assembly and the first factorisation leave of the device (11 R280; 12 R292, R293, R297 to R300). -/
namespace Sys2Proof.Machine
open Sys2Proof.Config

/-! Words of a region put under a range guard, and the fill slots. -/

theorem SolvRun.guard_dev (q : SolvSched) (b : Nat) (v : Int) (r : SolvRun) : (r.guard q b v).2.dev = r.dev := by
  simp only [SolvRun.guard]
  split
  · rfl
  · split <;> rfl

theorem SolvRun.putG_dev (q : SolvSched) (base a : Nat) (v : Int) (r : SolvRun) : (r.putG q base a v).dev = r.dev := r.guard_dev q _ v

theorem SolvRun.putRho_dev (c base : Nat) (r : SolvRun) : (r.putRho c base).dev = r.dev :=
  (SolvRun.putG_dev _ _ _ _ _).trans (SolvRun.putG_dev _ _ _ _ _)

/-- Only a STATE source (kind 1) draws, where it rounds. -/
theorem Dev.drew_fillSrc (d : Dev) (m : Memory) (c kind a b : Nat) : d.drew (d.fillSrc m c kind a b).2 := by
  unfold Dev.fillSrc
  dsimp only
  split
  case h_2 =>
    split
    · exact d.drew_quant _ _
    · exact d.drew_quant _ _
    · exact d.drew_quant _ _
  case h_8 => split <;> exact d.drew_refl
  all_goals exact d.drew_refl

theorem SolvRun.drew_fill (c base i : Nat) (w : SolvRun × List (Nat × Int)) : w.1.dev.drew (SolvRun.fill c base i w).1.dev := by
  unfold SolvRun.fill
  refine List.foldlRecOn (motive := fun y : SolvRun × List (Nat × Int) => w.1.dev.drew y.1.dev) _ _ (w.1.dev.drew_fillSrc _ _ _ _ _)
    fun y h sec _ => ?_
  dsimp only
  split
  · exact h
  · exact (SolvRun.putG_dev _ _ _ _ _).symm ▸ h

theorem SolvRun.warmStart_dev (c base : Nat) (r : SolvRun) : (r.warmStart c base).dev = r.dev := by
  unfold SolvRun.warmStart
  refine List.foldlRecOn (motive := fun y : SolvRun => y.dev = r.dev) _ _ rfl fun y hy i _ => ?_
  refine List.foldlRecOn (motive := fun y : SolvRun => y.dev = r.dev) _ _ hy fun z hz a _ => ?_
  refine (SolvRun.putG_dev _ _ _ _ _).trans ?_
  exact List.foldlRecOn (motive := fun y : SolvRun => y.dev = r.dev) _ _ hz fun _ h _ _ => h

/-! What a start leaves. -/

/-- What a context has sampled and counted when its solve begins, which its assembly leaves. -/
def SolvCtx.begun (x : SolvCtx) : Word × Word × Nat × Nat × Nat × Bool × Nat := (x.run, x.pol, x.start, x.iters, x.nfact, x.resValid, x.code)

/-- Of d and e: context c has worked on its start. Only its own registers and its own hidden state differ, and what it began with stands. -/
structure Dev.Starts (c : Nat) (d e : Dev) : Prop where
  regs : d.sameRegs e [R.SOLV_CTX_RHO c, R.SOLV_CTX_CMD c]
  now : e.solv.now = d.solv.now
  others : ∀ k, k ≠ c → e.sctx k = d.sctx k
  begun : (e.sctx c).begun = (d.sctx c).begun

namespace Dev.Starts
variable {c : Nat} {d e f : Dev}

theorem of_same (regs : e.regs = d.regs) (solv : e.solv = d.solv) : Starts c d e :=
  ⟨fun o _ => Dev.rd_of_regs regs o, congrArg SolvSt.now solv, fun k _ => Dev.sctx_of_solv solv k,
    congrArg SolvCtx.begun (Dev.sctx_of_solv solv c)⟩

theorem trans (h : Starts c d e) (k : Starts c e f) : Starts c d f :=
  ⟨h.regs.trans k.regs, k.now.trans h.now, fun n ne => (k.others n ne).trans (h.others n ne), k.begun.trans h.begun⟩

theorem of_drew (h : d.drew e) : Starts c d e := of_same (Dev.drew_regs h) (Dev.drew_solv h)

theorem modCtx (d : Dev) (g : SolvCtx → SolvCtx) (keep : ∀ x, (g x).begun = x.begun) : Starts c d (d.modCtx c g) :=
  ⟨fun _ _ => rfl, rfl, fun _ ne => d.modCtx_sctx_ne g ne, by rw [Dev.modCtx_sctx, keep]⟩

theorem put (d : Dev) {g : Fld} (v : Nat) (own : g.reg = R.SOLV_CTX_RHO c ∨ g.reg = R.SOLV_CTX_CMD c) : Starts c d (d.put g v) := by
  refine ⟨(Dev.sameRegs.refl d _).put v ?_, rfl, fun _ _ => rfl, rfl⟩
  rcases own with e | e <;> simp [e]

theorem flag_sts (h : Starts c d e) {g : Fld} (sts : g.reg = R.SOLV_CTX_STS c) : e.flag g = d.flag g :=
  h.regs.flag (by simp [sts, R.SOLV_CTX_STS, R.SOLV_CTX_RHO, R.SOLV_CTX_CMD])

/-- What a run of SOLV had counted and flagged goes back to its context. -/
theorem close (r : SolvRun) (s : State) : Starts c r.dev (r.close c s).dev :=
  (show Starts c r.dev (r.dev.modSolv fun q => { q with acc := r.acc }) from
    ⟨fun _ _ => rfl, rfl, fun _ _ => rfl, rfl⟩).trans (modCtx _ _ fun _ => rfl)

end Dev.Starts

/-! The assembly, in its parts. -/

/-- The value image and the fill slots. -/
def State.filled (c : Nat) (s : State) : SolvRun × List (Nat × Int) :=
  let base := s.dev.get (F.SOLV_C_BASE_BASE c)
  let q := s.dev.ctxSched c
  (List.range q.nfill).foldl (fun y i => SolvRun.fill c base i y) ({ (s.solvRun c) with m := q.restore base s.mem }, [])

/-- INSIDE, from the airspace rows (R275). -/
def SolvRun.rowsInside (c : Nat) (s : State) (r : SolvRun) : SolvRun :=
  { r with dev := r.dev.modCtx c fun x =>
      { x with inside := (List.range (s.dev.ctxSched c).nair).any fun row => (s.dev.airFace s.mem c row).inside } }

/-- The zero start, with RHO0. -/
def SolvRun.zeroed (q : SolvSched) (c base rho : Nat) (r : SolvRun) : SolvRun :=
  { r with m := q.zeroStart base r.m, dev := r.dev.put (F.SOLV_CTX_RHO_RHO_IDX c) rho }

/-- The start: cold, from nothing stored, warm, or from a warm start that is rejected (R299, R300). -/
def SolvRun.startPoint (q : SolvSched) (c base : Nat) (r : SolvRun) : SolvRun :=
  let x := r.dev.sctx c
  let tag := (r.m.word (base + 4 * (q.sec 7 + q.n + 2 * q.m))).toNat + 2 ^ 32 * (r.m.word (base + 4 * (q.sec 7 + q.n + 2 * q.m + 1))).toNat
  let z := r.zeroed q c base (bitsOf x.run.toNat 9 7)
  if r.dev.flag (F.SOLV_CTX_CMD_COLD c) || !bitOf x.run.toNat 6 then { z with dev := z.dev.up (F.SOLV_CTX_CMD_COLD c) false }
  else if tag = 0 then z
  else if tag = q.id then r.warmStart c base
  else { z with dev := z.dev.modCtx c fun x => { x with warmF := true } }

theorem State.assembly_eq (c : Nat) (s : State) : s.assembly c =
    (((s.filled c).1.rowsInside c s).startPoint (s.dev.ctxSched c) c (s.dev.get (F.SOLV_C_BASE_BASE c)), (s.filled c).2) := (rfl)

theorem State.drew_filled (c : Nat) (s : State) : s.dev.drew (s.filled c).1.dev :=
  List.foldlRecOn (motive := fun y : SolvRun × List (Nat × Int) => s.dev.drew y.1.dev) _ _ s.dev.drew_refl
    fun y h i _ => Dev.drew_trans h (SolvRun.drew_fill c _ i y)

theorem SolvRun.starts_rowsInside (c : Nat) (s : State) (r : SolvRun) : r.dev.Starts c (r.rowsInside c s).dev := .modCtx _ _ fun _ => rfl

theorem SolvRun.starts_zeroed (q : SolvSched) (c base rho : Nat) (r : SolvRun) : r.dev.Starts c (r.zeroed q c base rho).dev :=
  .put _ _ (Or.inl rfl)

theorem SolvRun.starts_startPoint (q : SolvSched) (c base : Nat) (r : SolvRun) : r.dev.Starts c (r.startPoint q c base).dev := by
  simp only [SolvRun.startPoint]
  split
  · exact (r.starts_zeroed q c base _).trans (.put _ _ (Or.inr rfl))
  · split
    · exact r.starts_zeroed q c base _
    · split
      · exact .of_same (by rw [r.warmStart_dev]) (by rw [r.warmStart_dev])
      · exact (r.starts_zeroed q c base _).trans (.modCtx _ _ fun _ => rfl)

theorem State.starts_assembly (c : Nat) (s : State) : s.dev.Starts c (s.assembly c).1.dev := by
  rw [State.assembly_eq]
  exact ((Dev.Starts.of_drew (s.drew_filled c)).trans (SolvRun.starts_rowsInside c s _)).trans (SolvRun.starts_startPoint _ c _ _)

/-! The first step of a solve. -/

/-- Flash, OTP and the waiting commands are as before. -/
def State.sameStores (s x : State) : Prop := x.flash = s.flash ∧ x.otp = s.otp ∧ x.pending = s.pending

/-- A factorisation starts on what the run of ρ's words left. -/
theorem State.startFactor_outcome (c : Nat) (s : State) : ∃ e, s.dev.Starts c e ∧
    (s.startFactor c).dev = e.modCtx c (fun x => { x with nfact := x.nfact + 1, stage := .factor }) ∧ s.sameStores (s.startFactor c) := by
  refine ⟨_, ?_, rfl, rfl, rfl, rfl⟩
  have ran : ((s.solvRun c).putRho c (s.dev.get (F.SOLV_C_BASE_BASE c))).dev = s.dev := SolvRun.putRho_dev _ _ _
  exact (Dev.Starts.of_same (by rw [ran]) (by rw [ran])).trans (.close _ s)

/-- An assembly goes on to its first iteration with the factor it has, or to a factorisation (R293, R297). -/
theorem State.solveAssemble_outcome (c : Nat) (s : State) :
    ∃ e, (s.dev.solvTime (s.dev.solv.now + (s.dev.ctxSched c).asm * s.dev.solvTick)).Starts c e ∧ s.sameStores (s.solveAssemble c) ∧
      (s.dev.flag (F.SOLV_CTX_STS_FVALID c) = true ∧ (s.solveAssemble c).dev = e.modCtx c (fun x => { x with stage := .iterate }) ∨
        (s.solveAssemble c).dev = e.modCtx c (fun x => { x with nfact := x.nfact + 1, stage := .factor })) := by
  simp only [State.solveAssemble]
  set y := s.upd (Dev.solvTime (s.dev.solv.now + (s.dev.ctxSched c).asm * s.dev.solvTick)) with hy
  have closed : y.dev.Starts c ((y.assembly c).1.close c y).dev := (y.starts_assembly c).trans (.close _ y)
  split
  next reuse =>
    simp only [Bool.and_eq_true] at reuse
    obtain ⟨⟨fvalid, -⟩, -⟩ := reuse
    refine ⟨_, closed, ⟨rfl, rfl, rfl⟩, Or.inl ⟨?_, rfl⟩⟩
    rw [← s.dev.solvTime_flag, ← fvalid]
    exact (closed.flag_sts rfl).symm
  next =>
    obtain ⟨e, starts, dev, stores⟩ := ((y.assembly c).1.close c y).startFactor_outcome c
    exact ⟨e, closed.trans starts, stores, Or.inr dev⟩

end Sys2Proof.Machine
end

section
/-! The end of a solve: what its registers show (12 R305, Tables 12.5 and 12.6). -/
namespace Sys2Proof.Machine
open Sys2Proof.Config

/-- The flags of STS, with what a context holds of them. -/
def SolvCtx.flags (c : Nat) (x : SolvCtx) : List (Fld × Bool) :=
  [(F.SOLV_CTX_STS_RES_VALID c, x.resValid), (F.SOLV_CTX_STS_PEER_STALE c, x.peer), (F.SOLV_CTX_STS_INSIDE c, x.inside),
    (F.SOLV_CTX_STS_RANGE_SAT_F c, x.rangeF), (F.SOLV_CTX_STS_PIVOT_REG_F c, x.pivotF), (F.SOLV_CTX_STS_WARM_REJECT_F c, x.warmF),
    (F.SOLV_CTX_STS_BUSY c, false)]

/-- CODE, its reason and the flags in STS. -/
def Dev.endStatus (c code reason : Nat) (d : Dev) : Dev :=
  ((d.sctx c).flags c).foldl (fun d p => d.up p.1 p.2) ((d.put (F.SOLV_CTX_STS_CODE c) code).put (F.SOLV_CTX_STS_NR_REASON c) reason)

/-- The residuals, the counts and the times. -/
def Dev.endCounts (c : Nat) (x : SolvCtx) (d : Dev) : Dev :=
  let d := if x.resValid then (d.puts (F.SOLV_CTX_RESP_R_P c) x.rp).puts (F.SOLV_CTX_RESD_R_D c) x.rd else d
  let d := ((d.put (F.SOLV_CTX_CNT_ITERS c) x.iters).put (F.SOLV_CTX_CNT_NFACT c) (min 31 x.nfact)).put
    (F.SOLV_CTX_CNT_PIVOTS c) (min 65535 x.pivots)
  let d := (d.put (F.SOLV_CTX_CLK_CLOCKS c) ((d.solv.now - x.start) / d.solvTick)).put (F.SOLV_CTX_CYC_PLAN_CYC c) d.solv.planCyc
  (d.put (F.SOLV_C_RG_HITS c) (min 65535 x.hits)).put (F.SOLV_C_RG_BLOCK c) (x.blk.getD 0xFF)

theorem Dev.solvEnd_eq (c code reason : Nat) (d : Dev) : d.solvEnd c code reason =
    (((d.endStatus c code reason).endCounts c (d.sctx c)).modCtx c fun x => { x with stage := .idle, fresh := true }).event0
      (F.SOLV_CTX_EVT_DONE_EVT c) := (rfl)

/-- The flags lie between NR_REASON and CODE. -/
theorem SolvCtx.flags_between (c : Nat) (x : SolvCtx) : ∀ p ∈ x.flags c, p.1.ok ∧ 2 ≤ p.1.lo ∧ p.1.hi < 24 := by
  simp [SolvCtx.flags, Fld.ok, F.SOLV_CTX_STS_RES_VALID, F.SOLV_CTX_STS_PEER_STALE, F.SOLV_CTX_STS_INSIDE, F.SOLV_CTX_STS_RANGE_SAT_F,
    F.SOLV_CTX_STS_PIVOT_REG_F, F.SOLV_CTX_STS_WARM_REJECT_F, F.SOLV_CTX_STS_BUSY]

/-- A field outside the flags' place reads what was put before them. -/
theorem Dev.endStatus_get (c code reason : Nat) (d : Dev) {g : Fld} (out : g.hi < 2 ∨ 24 ≤ g.lo) :
    (d.endStatus c code reason).get g = ((d.put (F.SOLV_CTX_STS_CODE c) code).put (F.SOLV_CTX_STS_NR_REASON c) reason).get g :=
  foldl_keep_mem (fun d => d.get g) _ _ (fun p hp e => by
    obtain ⟨ok, lo, hi⟩ := (d.sctx c).flags_between c p hp
    exact e.get_up_of_apart ok (fun _ => by omega) _) _

theorem Dev.endStatus_code (c reason : Nat) {code : Nat} (d : Dev) (h : code < 256) :
    (d.endStatus c code reason).get (F.SOLV_CTX_STS_CODE c) = code := by
  rw [Dev.endStatus_get c _ _ d (Or.inr (le_refl 24)),
    Dev.get_put_of_apart _ (f := F.SOLV_CTX_STS_NR_REASON c) (g := F.SOLV_CTX_STS_CODE c) ⟨Nat.zero_le 1, show 1 < 32 by decide⟩
      fun _ => Or.inl (show 1 < 24 by decide)]
  exact (d.get_put_same _ _ ⟨show 24 ≤ 31 by decide, show 31 < 32 by decide⟩).trans (Nat.mod_eq_of_lt h)

theorem Dev.endStatus_reason (c code : Nat) {reason : Nat} (d : Dev) (h : reason < 4) :
    (d.endStatus c code reason).get (F.SOLV_CTX_STS_NR_REASON c) = reason := by
  rw [Dev.endStatus_get c _ _ d (Or.inl (show 1 < 2 by decide))]
  exact (Dev.get_put_same _ _ _ ⟨Nat.zero_le 1, show 1 < 32 by decide⟩).trans (Nat.mod_eq_of_lt h)

theorem Dev.endStatus_busy (c code reason : Nat) (d : Dev) : (d.endStatus c code reason).flag (F.SOLV_CTX_STS_BUSY c) = false :=
  Dev.flag_up_same _ _ false rfl (show 8 < 32 by decide)

theorem Dev.endStatus_solv (c code reason : Nat) (d : Dev) : (d.endStatus c code reason).solv = d.solv := by
  rw [Dev.endStatus, foldl_keep Dev.solv _ fun e (p : Fld × Bool) => e.up_solv p.1 p.2, Dev.put_solv, Dev.put_solv]

theorem Dev.endCounts_sts (c : Nat) (x : SolvCtx) (d : Dev) : (d.endCounts c x).rd (R.SOLV_CTX_STS c) = d.rd (R.SOLV_CTX_STS c) := by
  have apart : ∀ f ∈ ([F.SOLV_CTX_RESP_R_P c, F.SOLV_CTX_RESD_R_D c, F.SOLV_CTX_CNT_ITERS c, F.SOLV_CTX_CNT_NFACT c,
      F.SOLV_CTX_CNT_PIVOTS c, F.SOLV_CTX_CLK_CLOCKS c, F.SOLV_CTX_CYC_PLAN_CYC c, F.SOLV_C_RG_HITS c, F.SOLV_C_RG_BLOCK c] : List Fld),
      R.SOLV_CTX_STS c ≠ f.reg := by
    simp [R.SOLV_CTX_STS, F.SOLV_CTX_RESP_R_P, F.SOLV_CTX_RESD_R_D, F.SOLV_CTX_CNT_ITERS, F.SOLV_CTX_CNT_NFACT, F.SOLV_CTX_CNT_PIVOTS,
      F.SOLV_CTX_CLK_CLOCKS, F.SOLV_CTX_CYC_PLAN_CYC, F.SOLV_C_RG_HITS, F.SOLV_C_RG_BLOCK]
  simp only [List.forall_mem_cons] at apart
  obtain ⟨rp, rd, iters, nfact, pivots, clk, cyc, hits, blk, -⟩ := apart
  simp only [Dev.endCounts, Dev.rd_put_ne _ _ blk, Dev.rd_put_ne _ _ hits, Dev.rd_put_ne _ _ cyc, Dev.rd_put_ne _ _ clk,
    Dev.rd_put_ne _ _ pivots, Dev.rd_put_ne _ _ nfact, Dev.rd_put_ne _ _ iters]
  split
  · rw [Dev.puts, Dev.puts, Dev.rd_put_ne _ _ rd, Dev.rd_put_ne _ _ rp]
  · rfl

theorem Dev.endCounts_solv (c : Nat) (x : SolvCtx) (d : Dev) : (d.endCounts c x).solv = d.solv := by
  simp only [Dev.endCounts, Dev.put_solv]
  split
  · rw [Dev.puts_solv, Dev.puts_solv]
  · rfl

/-- A solve has ended with a code and a reason. -/
structure Dev.Ended (c code reason : Nat) (e : Dev) : Prop where
  code : e.get (F.SOLV_CTX_STS_CODE c) = code
  reason : e.get (F.SOLV_CTX_STS_NR_REASON c) = reason
  busy : e.flag (F.SOLV_CTX_STS_BUSY c) = false
  done : e.flag (F.SOLV_CTX_EVT_DONE_EVT c) = true
  idle : (e.sctx c).stage = .idle
  fresh : (e.sctx c).fresh = true

theorem Dev.solvEnd_ended (c : Nat) {code reason : Nat} (d : Dev) (hc : code < 256) (hr : reason < 4) :
    (d.solvEnd c code reason).Ended c code reason := by
  rw [Dev.solvEnd_eq]
  set e := ((d.endStatus c code reason).endCounts c (d.sctx c)).modCtx c fun x => { x with stage := .idle, fresh := true } with he
  have sts : (e.event0 (F.SOLV_CTX_EVT_DONE_EVT c)).rd (R.SOLV_CTX_STS c) = (d.endStatus c code reason).rd (R.SOLV_CTX_STS c) := by
    rw [e.event0_rd_ne (by simp [R.SOLV_CTX_STS, F.SOLV_CTX_EVT_DONE_EVT]) (by simp only [R.SOLV_CTX_STS, R.SYS_FAULT_EVT]; omega), he,
      Dev.modCtx_rd, Dev.endCounts_sts]
  have ctx : (e.event0 (F.SOLV_CTX_EVT_DONE_EVT c)).sctx c = { d.sctx c with stage := .idle, fresh := true } := by
    rw [Dev.sctx_of_solv (e.event0_solv _), he, Dev.modCtx_sctx, Dev.sctx_of_solv (Dev.endCounts_solv c _ _),
      Dev.sctx_of_solv (d.endStatus_solv c code reason)]
  refine ⟨?_, ?_, ?_, e.event0_flag ⟨rfl, show 0 < 24 by decide⟩ ?_, by rw [ctx], by rw [ctx]⟩
  · exact (Dev.get_of_rd (f := F.SOLV_CTX_STS_CODE c) sts).trans (d.endStatus_code c reason hc)
  · exact (Dev.get_of_rd (f := F.SOLV_CTX_STS_NR_REASON c) sts).trans (d.endStatus_reason c code hr)
  · exact (Dev.flag_of_rd (f := F.SOLV_CTX_STS_BUSY c) sts).trans (d.endStatus_busy c code reason)
  · simp only [F.SOLV_CTX_EVT_DONE_EVT, R.SYS_FAULT_EVT]
    omega

end Sys2Proof.Machine
end

section
/-! SOLVE_START: which context is taken, and how its solve begins (12 R299, R303, R304; log entries 5 and 34). -/
namespace Sys2Proof.Machine
open Sys2Proof.Config

/-! The order (R303). -/

/-- Does a context wait, with its deadline still to come? -/
def Dev.inTime (d : Dev) (c : Nat) : Prop := (d.sctx c).stage = .waiting ∧ d.solv.now ≤ (d.sctx c).deadline

/-- Does context c come before context e, or is it that one? -/
def Dev.comesFirst (d : Dev) (c e : Nat) : Prop :=
  (d.sctx c).deadline < (d.sctx e).deadline ∨ ((d.sctx c).deadline = (d.sctx e).deadline ∧ c ≤ e)

/-- Of the contexts below n, the one that comes first; none where none waits in time. -/
def Dev.firstBelow (d : Dev) (n : Nat) : Option Nat → Prop
  | none => ∀ e < n, ¬ d.inTime e
  | some c => c < n ∧ d.inTime c ∧ ∀ e < n, d.inTime e → d.comesFirst c e

/-- One context more is looked at. -/
def Dev.nextOf (d : Dev) (b : Option Nat) (c : Nat) : Option Nat :=
  if (d.sctx c).stage = .waiting ∧ d.solv.now ≤ (d.sctx c).deadline then
    (match b with
     | some x => if (d.sctx c).deadline < (d.sctx x).deadline then some c else b
     | none => some c)
  else b

theorem Dev.solvNext_eq (d : Dev) : d.solvNext = (List.range 16).foldl d.nextOf none := (rfl)

theorem Dev.nextOf_out {d : Dev} {n : Nat} (h : ¬ d.inTime n) (b : Option Nat) : d.nextOf b n = b := if_neg h

theorem Dev.nextOf_none {d : Dev} {n : Nat} (h : d.inTime n) : d.nextOf none n = some n := if_pos h

theorem Dev.nextOf_some {d : Dev} {n : Nat} (h : d.inTime n) (x : Nat) :
    d.nextOf (some x) n = if (d.sctx n).deadline < (d.sctx x).deadline then some n else some x := if_pos h

theorem Dev.firstBelow_nextOf {d : Dev} {n : Nat} {b : Option Nat} (h : d.firstBelow n b) : d.firstBelow (n + 1) (d.nextOf b n) := by
  have split : ∀ e < n + 1, e < n ∨ e = n := fun e lt => Nat.lt_succ_iff_lt_or_eq.mp lt
  by_cases now : d.inTime n
  · cases b with
    | none =>
      rw [Dev.nextOf_none now]
      refine ⟨n.lt_succ_self, now, fun e lt wait => ?_⟩
      rcases split e lt with lt | rfl
      · exact absurd wait (h e lt)
      · exact Or.inr ⟨rfl, le_refl e⟩
    | some x =>
      obtain ⟨lt, wait, first⟩ := h
      rw [Dev.nextOf_some now]
      split
      next less =>
        refine ⟨n.lt_succ_self, now, fun e le wait => ?_⟩
        rcases split e le with lt | rfl
        · rcases first e lt wait with h | ⟨h, -⟩
          · exact Or.inl (less.trans h)
          · exact Or.inl (less.trans_eq h)
        · exact Or.inr ⟨rfl, le_refl e⟩
      next least =>
        refine ⟨lt.trans n.lt_succ_self, wait, fun e le wait => ?_⟩
        rcases split e le with lt | rfl
        · exact first e lt wait
        · rcases (not_lt.mp least).lt_or_eq with h | h
          · exact Or.inl h
          · exact Or.inr ⟨h, lt.le⟩
  · rw [Dev.nextOf_out now]
    cases b with
    | none =>
      intro e lt
      rcases split e lt with lt | rfl
      · exact h e lt
      · exact now
    | some x =>
      obtain ⟨lt, wait, first⟩ := h
      refine ⟨lt.trans n.lt_succ_self, wait, fun e le wait => ?_⟩
      rcases split e le with lt | rfl
      · exact first e lt wait
      · exact absurd wait now

theorem Dev.firstBelow_range (d : Dev) (n : Nat) : d.firstBelow n ((List.range n).foldl d.nextOf none) := by
  induction n with
  | zero => exact fun e lt => absurd lt e.not_lt_zero
  | succ n ih =>
    rw [List.range_succ, List.foldl_append]
    exact Dev.firstBelow_nextOf ih

theorem solvNext_first (d : Dev) (c : Nat) (next : d.solvNext = some c) :
    c < 16 ∧ (d.sctx c).stage = .waiting ∧ d.solv.now ≤ (d.sctx c).deadline ∧
      ∀ e < 16, (d.sctx e).stage = .waiting → d.solv.now ≤ (d.sctx e).deadline →
        (d.sctx c).deadline < (d.sctx e).deadline ∨ ((d.sctx c).deadline = (d.sctx e).deadline ∧ c ≤ e) := by
  have first := d.firstBelow_range 16
  rw [← d.solvNext_eq, next] at first
  obtain ⟨lt, ⟨wait, due⟩, least⟩ := first
  exact ⟨lt, wait, due, fun e lt wait due => least e lt ⟨wait, due⟩⟩

/-! The context is taken. -/

/-- A context that samples its settings and counts from 0. -/
def SolvCtx.take (run pol : Word) (org : List Int) (now : Nat) (x : SolvCtx) : SolvCtx :=
  { x with
    run := run, pol := pol, origins := org, iters := 0, nfact := 0, pivots := 0,
    hits := 0, blk := none, rangeF := false, pivotF := false, warmF := false, inside := false, checks := [],
    resValid := false, code := 0, start := now }

/-- SOLVE_START takes the context and shows BUSY. -/
def Dev.takeCtx (c : Nat) (d : Dev) : Dev :=
  let d := d.solvTime d.solv.now
  let org := (d.sctx c).snap.map (fun p => rshrI p.1 96)
  (d.modCtx c (SolvCtx.take (d.rd (R.SOLV_CTX_RUN c)) (d.rd (R.SOLV_CTX_POL c)) org d.solv.now)).up (F.SOLV_CTX_STS_BUSY c) true

/-- Settings that are not usable end the solve during its assembly, at a free instant (R299; log entry 34). -/
def Dev.endUnusable (c asm : Nat) (d : Dev) : Dev :=
  let e := (d.draw (asm + 1)).2
  (e.solvTime (e.solv.now + (d.draw (asm + 1)).1 * e.solvTick)).solvEnd c 4 3

section Take
variable (d : Dev) (c : Nat)

@[simp] theorem Dev.takeCtx_now : (d.takeCtx c).solv.now = d.solv.now := (rfl)

theorem Dev.takeCtx_sameRegs : d.sameRegs (d.takeCtx c) [R.SOLV_CTX_STS c] :=
  ((Dev.sameRegs.refl d _).of_regs (d.solvTime_regs d.solv.now)).up (f := F.SOLV_CTX_STS_BUSY c) true (List.mem_singleton.mpr rfl)

theorem Dev.takeCtx_busy : (d.takeCtx c).flag (F.SOLV_CTX_STS_BUSY c) = true := Dev.flag_up_same _ _ true rfl (show 8 < 32 by decide)

theorem Dev.takeCtx_fvalid : (d.takeCtx c).flag (F.SOLV_CTX_STS_FVALID c) = d.flag (F.SOLV_CTX_STS_FVALID c) :=
  (Dev.flag_up_apart _ (F.SOLV_CTX_STS_BUSY c) (F.SOLV_CTX_STS_FVALID c) true ⟨le_refl 8, show 8 < 32 by decide⟩ rfl
    (Or.inl (show 8 < 9 by decide))).trans (d.solvTime_flag _ _)

@[simp] theorem Dev.takeCtx_solvTick : (d.takeCtx c).solvTick = d.solvTick := by
  have out : F.CLK_STS_SOLV_DIV8.reg ∉ [R.SOLV_CTX_STS c] := by
    simp only [F.CLK_STS_SOLV_DIV8, R.SOLV_CTX_STS, List.mem_singleton]
    omega
  rw [Dev.solvTick, (d.takeCtx_sameRegs c).flag out, Dev.solvTick]

@[simp] theorem Dev.takeCtx_ctxSched : (d.takeCtx c).ctxSched c = d.ctxSched c := by
  have out : (F.SOLV_C_CFG_SCHED c).reg ∉ [R.SOLV_CTX_STS c] := by simp [F.SOLV_C_CFG_SCHED, R.SOLV_CTX_STS]
  rw [Dev.ctxSched, (d.takeCtx_sameRegs c).get out, Dev.takeCtx, Dev.up_solv, Dev.modCtx_scheds, Dev.solvTime_solv, Dev.ctxSched]

theorem Dev.takeCtx_sctx_ne {e : Nat} (ne : e ≠ c) : (d.takeCtx c).sctx e = d.sctx e := by
  rw [Dev.takeCtx, Dev.sctx_of_solv (Dev.up_solv _ _ _), Dev.modCtx_sctx_ne _ _ ne, Dev.solvTime_sctx]

theorem Dev.takeCtx_sctx : ∃ org, (d.takeCtx c).sctx c =
    (d.sctx c).take (d.rd (R.SOLV_CTX_RUN c)) (d.rd (R.SOLV_CTX_POL c)) org d.solv.now := by
  refine ⟨(d.sctx c).snap.map fun p => rshrI p.1 96, ?_⟩
  rw [Dev.takeCtx, Dev.sctx_of_solv (Dev.up_solv _ _ _), Dev.modCtx_sctx, Dev.solvTime_sctx, Dev.solvTime_now,
    Dev.rd_of_regs (d.solvTime_regs _), Dev.rd_of_regs (d.solvTime_regs _)]

theorem Dev.endUnusable_ended (asm : Nat) : (d.endUnusable c asm).Ended c 4 3 := Dev.solvEnd_ended c _ (by decide) (by decide)

end Take

theorem SolvCtx.take_settingsOk (run pol : Word) (org : List Int) (now : Nat) (x : SolvCtx) :
    (x.take run pol org now).settingsOk = x.settingsOk := (rfl)

theorem SolvCtx.take_deadline (run pol : Word) (org : List Int) (now : Nat) (x : SolvCtx) :
    (x.take run pol org now).deadline = x.deadline := (rfl)

theorem SolvCtx.take_begun (run pol : Word) (org : List Int) (now : Nat) (x : SolvCtx) :
    (x.take run pol org now).begun = (run, pol, now, 0, 0, false, 0) := (rfl)

theorem answers_solveStart (s : State) : answers .solveStart s s.solveStart := (rfl)

theorem solveStart_waits (s : State) (h : s.dev.solv.on = false ∨ s.dev.solvBusy ≠ none ∨ s.dev.solvNext = none) : answers .solveStart s s := by
  have same : s.solveStart = s := by
    rcases h with off | busy | none
    · simp [State.solveStart, off]
    · simp [State.solveStart, Option.isSome_iff_ne_none.mpr busy]
    · simp [State.solveStart, none]
  have run := answers_solveStart s
  rwa [same] at run

section Start
variable (s : State) (c : Nat) (on : s.dev.solv.on = true) (idle : s.dev.solvBusy = none) (next : s.dev.solvNext = some c)
include on idle next

/-- What SOLVE_START does with the context that it takes. -/
theorem answers_solveStart_next : answers .solveStart s
    (if !(s.dev.sctx c).settingsOk then { s with dev := (s.dev.takeCtx c).endUnusable c (s.dev.ctxSched c).asm }
      else if (s.dev.sctx c).deadline < s.dev.solv.now + (s.dev.ctxSched c).asm * s.dev.solvTick then
        { s with dev := (s.dev.takeCtx c).modCtx c fun x => { x with stage := .assembly } }
      else State.solveAssemble c { s with dev := s.dev.takeCtx c }) := by
  obtain ⟨org, ctx⟩ := s.dev.takeCtx_sctx c
  have run := answers_solveStart s
  simp only [State.solveStart, on, idle, next] at run
  rw [← SolvCtx.take_settingsOk _ _ _ _ (s.dev.sctx c), ← SolvCtx.take_deadline _ _ _ _ (s.dev.sctx c), ← ctx,
    ← s.dev.takeCtx_solvTick c]
  exact run

theorem solveStart_unusable (bad : (s.dev.sctx c).settingsOk = false) :
    leads .solveStart s fun x => x.dev.get (F.SOLV_CTX_STS_CODE c) = 4 ∧ x.dev.get (F.SOLV_CTX_STS_NR_REASON c) = 3 ∧
      x.dev.flag (F.SOLV_CTX_STS_BUSY c) = false ∧ x.dev.flag (F.SOLV_CTX_EVT_DONE_EVT c) = true ∧ (x.dev.sctx c).stage = .idle ∧
      s.sameMem x := by
  have run := answers_solveStart_next s c on idle next
  rw [bad, if_pos (by decide)] at run
  obtain ⟨code, reason, busy, done, stage, -⟩ := (s.dev.takeCtx c).endUnusable_ended c (s.dev.ctxSched c).asm
  exact ⟨_, run, code, reason, busy, done, stage, rfl, rfl, rfl, rfl⟩

variable (ok : (s.dev.sctx c).settingsOk = true)
include ok

theorem solveStart_late (late : (s.dev.sctx c).deadline < s.dev.solv.now + (s.dev.ctxSched c).asm * s.dev.solvTick) :
    leads .solveStart s fun x =>
      (x.dev.sctx c).stage = .assembly ∧ (x.dev.sctx c).start = s.dev.solv.now ∧ x.dev.flag (F.SOLV_CTX_STS_BUSY c) = true ∧
      s.dev.sameRegs x.dev [R.SOLV_CTX_STS c] ∧ s.sameMem x := by
  obtain ⟨org, ctx⟩ := s.dev.takeCtx_sctx c
  have run := answers_solveStart_next s c on idle next
  rw [ok, if_neg (by decide), if_pos late] at run
  refine ⟨_, run, ?_, ?_, (Dev.modCtx_flag _ _ _ _).trans (s.dev.takeCtx_busy c),
    (s.dev.takeCtx_sameRegs c).of_regs (Dev.modCtx_regs _ _ _), rfl, rfl, rfl, rfl⟩
  · rw [Dev.modCtx_sctx]
  · rw [Dev.modCtx_sctx, ctx]
    rfl

theorem solveStart_timely (timely : s.dev.solv.now + (s.dev.ctxSched c).asm * s.dev.solvTick ≤ (s.dev.sctx c).deadline) :
    leads .solveStart s fun x =>
      ((x.dev.sctx c).stage = .iterate ∧ (x.dev.sctx c).nfact = 0 ∧ s.dev.flag (F.SOLV_CTX_STS_FVALID c) = true ∨
        (x.dev.sctx c).stage = .factor ∧ (x.dev.sctx c).nfact = 1) ∧
      (x.dev.sctx c).iters = 0 ∧ (x.dev.sctx c).resValid = false ∧ (x.dev.sctx c).code = 0 ∧ (x.dev.sctx c).start = s.dev.solv.now ∧
      (x.dev.sctx c).run = s.dev.rd (R.SOLV_CTX_RUN c) ∧ (x.dev.sctx c).pol = s.dev.rd (R.SOLV_CTX_POL c) ∧
      x.dev.solv.now = s.dev.solv.now + (s.dev.ctxSched c).asm * s.dev.solvTick ∧ x.dev.flag (F.SOLV_CTX_STS_BUSY c) = true ∧
      (∀ e, e ≠ c → x.dev.sctx e = s.dev.sctx e) ∧
      s.dev.sameRegs x.dev [R.SOLV_CTX_STS c, R.SOLV_CTX_RHO c, R.SOLV_CTX_CMD c] ∧
      x.flash = s.flash ∧ x.otp = s.otp ∧ x.pending = s.pending := by
  obtain ⟨org, ctx⟩ := s.dev.takeCtx_sctx c
  have run := answers_solveStart_next s c on idle next
  rw [ok, if_neg (by decide), if_neg (not_lt.mpr timely)] at run
  obtain ⟨e, starts, stores, goes⟩ := State.solveAssemble_outcome c { s with dev := s.dev.takeCtx c }
  dsimp only at starts goes
  rw [Dev.takeCtx_now, Dev.takeCtx_solvTick, Dev.takeCtx_ctxSched] at starts
  have begun := starts.begun
  rw [Dev.solvTime_sctx, ctx, SolvCtx.take_begun] at begun
  simp only [SolvCtx.begun, Prod.mk.injEq] at begun
  obtain ⟨runs, pol, start, iters, nfact, valid, code⟩ := begun
  have busy : e.flag (F.SOLV_CTX_STS_BUSY c) = true :=
    (starts.flag_sts rfl).trans ((Dev.solvTime_flag _ _ _).trans (s.dev.takeCtx_busy c))
  have others : ∀ k, k ≠ c → e.sctx k = s.dev.sctx k := fun k ne =>
    (starts.others k ne).trans ((Dev.solvTime_sctx _ _ _).trans (s.dev.takeCtx_sctx_ne c ne))
  have regs : s.dev.sameRegs e [R.SOLV_CTX_STS c, R.SOLV_CTX_RHO c, R.SOLV_CTX_CMD c] :=
    (((s.dev.takeCtx_sameRegs c).mono (by simp)).of_regs (Dev.solvTime_regs _ _)).trans (starts.regs.mono (by simp))
  refine ⟨_, run, ?_⟩
  rcases goes with ⟨fvalid, dev⟩ | dev
  · rw [dev, Dev.modCtx_sctx]
    exact ⟨Or.inl ⟨rfl, nfact, (s.dev.takeCtx_fvalid c).symm.trans fvalid⟩, iters, valid, code, start, runs, pol, starts.now, busy,
      fun k ne => (Dev.modCtx_sctx_ne _ _ ne).trans (others k ne), regs, stores⟩
  · rw [dev, Dev.modCtx_sctx]
    exact ⟨Or.inr ⟨rfl, congrArg (· + 1) nfact⟩, iters, valid, code, start, runs, pol, starts.now, busy,
      fun k ne => (Dev.modCtx_sctx_ne _ _ ne).trans (others k ne), regs, stores⟩

end Start

end Sys2Proof.Machine
end

section
/-! OUTPUT_DONE: the knots and the end of a solve (11 R276; 12 R301, R305). -/
namespace Sys2Proof.Machine
open Sys2Proof.Config

/-- The knots of a result are written in SRAM. -/
theorem State.sameStores_writeKnots (c : Nat) (s : State) : s.sameStores (s.writeKnots c).1 := by
  unfold State.writeKnots
  refine List.foldlRecOn (motive := fun y : State × List (List Int) => s.sameStores y.1) _ _ ⟨rfl, rfl, rfl⟩ fun y hy i _ => ?_
  exact List.foldlRecOn (motive := fun y : State × List Int => s.sameStores y.1) _ _ hy fun z hz a _ => hz

/-- The solve ends with its CODE; where no iteration has completed, nothing is written. -/
theorem State.outputDone_ends {s : State} {c t : Nat} (done : s.dev.stepDone .output (fun q => q.out + 100) = some (c, t)) :
    (∃ d : Dev, s.outputDone.dev = d.solvEnd c (s.dev.sctx c).codeOf 0) ∧ s.sameStores s.outputDone ∧
      ((s.dev.sctx c).iters = 0 → s.outputDone.mem = s.mem) := by
  simp only [State.outputDone, done]
  split
  · exact ⟨⟨_, rfl⟩, ⟨rfl, rfl, rfl⟩, fun _ => rfl⟩
  next some => exact ⟨⟨_, rfl⟩, State.sameStores_writeKnots c (s.upd (Dev.solvTime t)), fun none => absurd none some⟩

theorem answers_outputDone (s : State) : answers .outputDone s s.outputDone := (rfl)

theorem outputDone_ends (s : State) (c t : Nat) (done : s.dev.stepDone .output (fun q => q.out + 100) = some (c, t))
    (small : (s.dev.sctx c).codeOf < 16) :
    leads .outputDone s fun x => x.dev.get (F.SOLV_CTX_STS_CODE c) = (s.dev.sctx c).codeOf ∧
      x.dev.flag (F.SOLV_CTX_STS_BUSY c) = false ∧ x.dev.flag (F.SOLV_CTX_EVT_DONE_EVT c) = true ∧ (x.dev.sctx c).stage = .idle ∧
      (x.dev.sctx c).fresh = true ∧ ((s.dev.sctx c).iters = 0 → x.mem = s.mem) ∧
      x.flash = s.flash ∧ x.otp = s.otp ∧ x.pending = s.pending := by
  obtain ⟨⟨d, dev⟩, stores, mem⟩ := State.outputDone_ends done
  obtain ⟨code, -, busy, done, idle, fresh⟩ := d.solvEnd_ended c (small.trans (by decide)) (reason := 0) (by decide)
  exact ⟨_, answers_outputDone s, by rw [dev, code], by rw [dev, busy], by rw [dev, done], by rw [dev, idle], by rw [dev, fresh], mem, stores⟩

theorem outputDone_idle (s : State) (early : s.dev.stepDone .output (fun q => q.out + 100) = none) : answers .outputDone s s := by
  have run := answers_outputDone s
  rwa [State.outputDone, early] at run

end Sys2Proof.Machine
end

section
/-! SOLV_DEADLINE: what the deadline of a context ends (11 R287; 12 R304, R305; log entry 34). -/
namespace Sys2Proof.Machine
open Sys2Proof.Config

/-! A step that is cut. -/

@[simp] theorem Dev.cutStep_regs (c : Nat) (r : SolvRun) (d : Dev) : (d.cutStep c r).regs = d.regs := (rfl)

/-- What the cut step had hit counts, and sets the flag. -/
theorem Dev.cutStep_hits (c : Nat) (r : SolvRun) (d : Dev) : ∃ h, ((d.cutStep c r).sctx c).hits = (d.sctx c).hits + h ∧
    ((d.cutStep c r).sctx c).rangeF = ((d.sctx c).rangeF || decide (0 < h)) :=
  ⟨_, congrArg SolvCtx.hits (Dev.modCtx_sctx _ c _), congrArg SolvCtx.rangeF (Dev.modCtx_sctx _ c _)⟩

/-- The deadline arrives during a step: TIME and the lanes' instant come to it. -/
def Dev.reachDeadline (c : Nat) (d : Dev) : Dev :=
  (d.runTo (d.solv.planNs + ((d.sctx c).deadline + 11) / 12)).modSolv fun q => { q with now := max q.now (d.sctx c).deadline }

@[simp] theorem Dev.reachDeadline_regs (c : Nat) (d : Dev) : (d.reachDeadline c).regs = d.regs := d.runTo_regs _

@[simp] theorem Dev.reachDeadline_sctx (c k : Nat) (d : Dev) : (d.reachDeadline c).sctx k = d.sctx k :=
  Dev.sctx_of_solv (e := d.runTo _) (d.runTo_solv _) k

/-! The cases of the stage. -/

/-- A context that waited is not run: it ends with nothing counted. -/
theorem State.solvDeadline_waiting {s : State} {c : Nat} (wait : (s.dev.sctx c).stage = .waiting)
    (past : (s.dev.sctx c).deadline < s.dev.solv.now) : ∃ d : Dev, s.solvDeadline c = { s with dev := d.solvEnd c 4 1 } := by
  simp only [State.solvDeadline, wait, decide_eq_false (not_le.mpr past), Bool.and_false, Bool.false_eq_true, if_false]
  exact ⟨_, rfl⟩

theorem State.solvDeadline_timely {s : State} {c : Nat} (run : (s.dev.sctx c).stage ≠ .waiting)
    (timely : s.dev.solv.now + s.dev.stepClocks c * s.dev.solvTick ≤ (s.dev.sctx c).deadline) : s.solvDeadline c = s := by
  simp only [State.solvDeadline, if_pos timely]
  split
  · rfl
  · rfl
  next wait => exact absurd wait run
  · rfl

section Late
variable {s : State} {c : Nat} (late : (s.dev.sctx c).deadline < s.dev.solv.now + s.dev.stepClocks c * s.dev.solvTick)
include late

theorem State.solvDeadline_assembly (stage : (s.dev.sctx c).stage = .assembly) :
    ∃ d : Dev, s.solvDeadline c = { s with dev := d.solvEnd c 4 1 } := by
  simp only [State.solvDeadline, stage, if_neg (not_le.mpr late)]
  exact ⟨_, rfl⟩

theorem State.solvDeadline_iterate (stage : (s.dev.sctx c).stage = .iterate ∨ (s.dev.sctx c).stage = .check) : ∃ r,
    s.solvDeadline c = s.upd fun d => ((d.reachDeadline c).cutStep c r).modCtx c fun x => { x with code := 2, stage := .output } := by
  rcases stage with stage | stage
  · simp only [State.solvDeadline, stage, if_neg (not_le.mpr late)]
    exact ⟨_, rfl⟩
  · simp only [State.solvDeadline, stage, if_neg (not_le.mpr late)]
    exact ⟨_, rfl⟩

end Late

/-! The command. -/

theorem answers_solvDeadline (s : State) (c : Fin 16) : answers (.solvDeadline c) s (s.solvDeadline c) := (rfl)

theorem solvDeadline_idle (s : State) (c : Fin 16) (stage : (s.dev.sctx c).stage = .idle ∨ (s.dev.sctx c).stage = .output) :
    answers (.solvDeadline c) s s := by
  have run := answers_solvDeadline s c
  rcases stage with stage | stage <;> simpa only [State.solvDeadline, stage] using run

theorem solvDeadline_timely (s : State) (c : Fin 16) (stage : (s.dev.sctx c).stage ≠ .waiting)
    (timely : s.dev.solv.now + s.dev.stepClocks c * s.dev.solvTick ≤ (s.dev.sctx c).deadline) : answers (.solvDeadline c) s s := by
  have run := answers_solvDeadline s c
  rwa [State.solvDeadline_timely stage timely] at run

/-- A context that ends with NO_RESULT, reason NOT_RUN. -/
theorem solvDeadline_notRun {s : State} {c : Fin 16} (h : ∃ d : Dev, s.solvDeadline c = { s with dev := d.solvEnd c 4 1 }) :
    leads (.solvDeadline c) s fun x => x.dev.get (F.SOLV_CTX_STS_CODE c) = 4 ∧ x.dev.get (F.SOLV_CTX_STS_NR_REASON c) = 1 ∧
      x.dev.flag (F.SOLV_CTX_EVT_DONE_EVT c) = true ∧ (x.dev.sctx c).stage = .idle ∧ s.sameMem x := by
  obtain ⟨d, ends⟩ := h
  have run := answers_solvDeadline s c
  rw [ends] at run
  obtain ⟨code, reason, -, done, idle, -⟩ := d.solvEnd_ended c (code := 4) (reason := 1) (by decide) (by decide)
  exact ⟨_, run, code, reason, done, idle, rfl, rfl, rfl, rfl⟩

theorem solvDeadline_output (s : State) (c : Fin 16) (stage : (s.dev.sctx c).stage = .iterate ∨ (s.dev.sctx c).stage = .check)
    (late : (s.dev.sctx c).deadline < s.dev.solv.now + s.dev.stepClocks c * s.dev.solvTick) : leads (.solvDeadline c) s fun x =>
      (x.dev.sctx c).stage = .output ∧ (x.dev.sctx c).code = 2 ∧ (s.dev.sctx c).hits ≤ (x.dev.sctx c).hits ∧
      (x.dev.sctx c).rangeF = ((s.dev.sctx c).rangeF || decide ((s.dev.sctx c).hits < (x.dev.sctx c).hits)) ∧
      x.dev.regs = s.dev.regs ∧ s.sameMem x := by
  obtain ⟨r, out⟩ := State.solvDeadline_iterate late stage
  have run := answers_solvDeadline s c
  rw [out] at run
  obtain ⟨h, hits, range⟩ := (s.dev.reachDeadline c).cutStep_hits c r
  rw [Dev.reachDeadline_sctx] at hits range
  refine ⟨_, run, ?_⟩
  simp only [State.upd, Dev.modCtx_sctx, Dev.modCtx_regs, Dev.cutStep_regs, Dev.reachDeadline_regs, hits, range]
  refine ⟨trivial, trivial, Nat.le_add_right _ _, ?_, trivial, rfl, rfl, rfl, rfl⟩
  rw [decide_eq_decide.mpr Nat.lt_add_right_iff_pos]

end Sys2Proof.Machine
end

section
/-! SOLV_FRAME_RECEIVE: a delivered frame's area in shared memory (12 R309, R310). -/
namespace Sys2Proof.Machine
open Sys2Proof.Config

/-- The stream's status goes into word 63 of its area, and nowhere else. -/
theorem State.solvStatus_cases (j : Nat) (s : State) :
    s.solvStatus j = s ∨ ∃ w, s.solvStatus j = s.setMem (s.mem.putWord (solvArea j + 252) w) := by
  unfold State.solvStatus
  split
  · split
    · exact Or.inr ⟨_, rfl⟩
    · exact Or.inl rfl
  · exact Or.inl rfl

theorem State.solvStatus_same (j : Nat) (s : State) : (s.solvStatus j).dev = s.dev ∧ s.sameStores (s.solvStatus j) := by
  rcases s.solvStatus_cases j with e | ⟨w, e⟩ <;> rw [e] <;> exact ⟨rfl, rfl, rfl, rfl⟩

theorem State.solvStatus_word (j : Nat) (s : State) {i : Nat} (lt : i < 63) :
    (s.solvStatus j).mem.word (solvArea j + 4 * i) = s.mem.word (solvArea j + 4 * i) := by
  rcases s.solvStatus_cases j with e | ⟨w, e⟩
  · rw [e]
  · rw [e]
    exact Memory.word_putWord_ne _ _ _ _ (Or.inl (by omega))

theorem State.solvStatus_byte (j : Nat) (s : State) {a : Nat} (out : a < solvArea j ∨ solvArea j + 256 ≤ a) :
    tblGet sramReset (s.solvStatus j).mem a = tblGet sramReset s.mem a := by
  rcases s.solvStatus_cases j with e | ⟨w, e⟩
  · rw [e]
  · rw [e]
    exact Memory.putWord_get _ _ _ _ (by omega)

theorem solvFrameReceive_stores (s : State) (p : Fin 8) (f : Frame) (stamp j : Nat) (here : (s.dev.frameIn p f stamp).2 = true) (typ : f.typ = 7)
    (stream : ((s.dev.frameIn p f stamp).1.link.cfg.rx.findIdx? (fun x => x.typ == 7 && x.stream == f.stream)) = some j) :
    leads (.solvFrameReceive p f stamp) s fun x => x.dev = (s.dev.frameIn p f stamp).1 ∧
      (∀ i, i < min 63 f.body.length → x.mem.word (solvArea j + 4 * i) = f.body.getD i 0) ∧
      (∀ a, a < solvArea j ∨ solvArea j + 256 ≤ a → tblGet sramReset x.mem a = tblGet sramReset s.mem a) ∧
      x.flash = s.flash ∧ x.otp = s.otp ∧ x.pending = s.pending := by
  set y := (s.upd fun _ => (s.dev.frameIn p f stamp).1).setMem (s.mem.putWords (solvArea j) (f.body.take 63)) with hy
  have run : answers (.solvFrameReceive p f stamp) s (y.solvStatus j) := by
    rw [answers, exec_solvFrameReceive, execSolvFrameReceive]
    simp only [stream, here, typ, beq_self_eq_true, Bool.and_self, if_true]
    rfl
  obtain ⟨dev, stores⟩ := y.solvStatus_same j
  refine ⟨_, run, dev, fun i lt => ?_, fun a out => ?_, stores⟩
  · have taken : i < (f.body.take 63).length := by simpa using lt
    rw [y.solvStatus_word j (by omega)]
    refine (Memory.word_putWords _ s.mem _ i taken).trans ?_
    rw [List.getElem_take, List.getD_eq_getElem]
  · rw [y.solvStatus_byte j out]
    refine Memory.putWords_get _ s.mem _ a ?_
    rw [List.length_take]
    omega

end Sys2Proof.Machine
end

section
/-! Problems are taken in order and their deadlines enforced (11 R288; 12 R299, R303 to R305, R309). -/
namespace Sys2Proof.Machine
open Sys2Proof.Config

section Bit
variable {i : Instr} {s : State} {g : Fld} (run : answers i s (s.upd fun d => if d.solv.on then d.up g true else d))
include run

theorem solverBit_off (off : s.dev.solv.on = false) : answers i s s := answers_same run (by rw [off]; rfl)

theorem solverBit_on (on : s.dev.solv.on = true) (bit : g.hi = g.lo) (low : g.lo < 32) : leads i s fun x =>
    x.dev.flag g = true ∧ s.dev.sameRegs x.dev [g.reg] ∧ x.dev.solv = s.dev.solv ∧ s.sameMem x :=
  ⟨s.upd (Dev.up g true), answers_congr run (by rw [on]; rfl), Dev.flag_up_same _ _ true bit low,
    (Dev.sameRegs.refl _ _).up true (List.mem_singleton.mpr rfl), Dev.up_solv _ _ _, s.sameMem_upd _⟩

end Bit

/-- PUBLISH and COLD set their bits in a loaded solver (11 R288; 12 R299). -/
theorem publish_cold (s : State) (c : Fin 16) : (s.dev.solv.on = false → answers (.solvPublish c) s s ∧ answers (.solvCold c) s s) ∧
    (s.dev.solv.on = true →
      (leads (.solvPublish c) s fun x => x.dev.flag (F.SOLV_C_IN_PUBLISH c) = true ∧ s.dev.sameRegs x.dev [R.SOLV_C_IN c] ∧
        x.dev.solv = s.dev.solv ∧ s.sameMem x) ∧
      (leads (.solvCold c) s fun x => x.dev.flag (F.SOLV_CTX_CMD_COLD c) = true ∧ s.dev.sameRegs x.dev [R.SOLV_CTX_CMD c] ∧
        x.dev.solv = s.dev.solv ∧ s.sameMem x)) := by
  have publish : answers (.solvPublish c) s (s.upd fun d => if d.solv.on then d.up (F.SOLV_C_IN_PUBLISH c) true else d) := rfl
  have cold : answers (.solvCold c) s (s.upd fun d => if d.solv.on then d.up (F.SOLV_CTX_CMD_COLD c) true else d) := rfl
  exact ⟨fun off => ⟨solverBit_off publish off, solverBit_off cold off⟩, fun on =>
    ⟨solverBit_on publish on rfl (show 0 < 32 by decide), solverBit_on cold on rfl (show 0 < 32 by decide)⟩⟩

/-- Settles O34: the order of R303 is that of a fold over the contexts; a start, an output and a deadline each end a solve by the one end
of R305 or move its context on. -/
theorem solverOrdering : Obligations.SolverOrdering := by
  unfold Obligations.SolverOrdering
  exact ⟨⟨publish_cold, solveStart_waits, solvNext_first, solveStart_unusable, solveStart_timely, solveStart_late,
      outputDone_ends, outputDone_idle⟩,
    solvDeadline_idle, fun s c wait past => solvDeadline_notRun (State.solvDeadline_waiting wait past), solvDeadline_timely, solvDeadline_output,
    fun s c stage late => solvDeadline_notRun (State.solvDeadline_assembly late stage), solvFrameReceive_stores⟩

end Sys2Proof.Machine
end
